-- ==== Sys2Proof/Word.lean ====
section
/-! DEFINITION. The word types of the part and the fixed-length tables the state is made of. -/

namespace Sys2Proof

/-- A byte of an image, a tag, a frame or a payload. -/
abbrev Byte := BitVec 8

/-- A 16-bit word that software sees: an epoch, a leg mask. -/
abbrev Half := BitVec 16

/-- A 32-bit word that software sees: the health word, a seal, an event's context value. -/
abbrev Word := BitVec 32

/-- A Q16.16 value (R5, Table 4.3) or an accumulator of R236, held as the raw integer: the value times 65,536. -/
abbrev Q := Int

/-- A table of exactly `n` entries. -/
structure Tab (n : Nat) (α : Type) where
  /-- The entries in index order. -/
  xs : List α
  /-- There are exactly `n` of them. -/
  len : xs.length = n
deriving DecidableEq, Repr

/-- The entry at an index. -/
def Tab.get {n : Nat} {α : Type} (t : Tab n α) (i : Fin n) : α :=
  t.xs[i.val]'(by rw [t.len]; exact i.isLt)

/-- The table with one entry replaced. -/
def Tab.set {n : Nat} {α : Type} (t : Tab n α) (i : Fin n) (x : α) : Tab n α :=
  ⟨t.xs.set i.val x, by rw [List.length_set, t.len]⟩

/-- The table whose every entry is `x`. -/
def Tab.fill (n : Nat) {α : Type} (x : α) : Tab n α := ⟨List.replicate n x, List.length_replicate⟩

/-- The table with entry `i` equal to `f i`. -/
def Tab.ofFn {n : Nat} {α : Type} (f : Fin n → α) : Tab n α := ⟨(List.finRange n).map f, by simp⟩

/-- One entry changed by a function of it. -/
def Tab.modify {n : Nat} {α : Type} (t : Tab n α) (i : Fin n) (f : α → α) : Tab n α := t.set i (f (t.get i))

/-- Every entry changed by a function of its index and itself. -/
def Tab.mapFin {n : Nat} {α β : Type} (t : Tab n α) (f : Fin n → α → β) : Tab n β :=
  Tab.ofFn fun i => f i (t.get i)

/-- The entry at a natural number, or a given value outside the table. -/
def Tab.getD {n : Nat} {α : Type} (t : Tab n α) (i : Nat) (d : α) : α := t.xs.getD i d

end Sys2Proof
end

