-- ==== Sys2Proof/Ids.lean ====
section
/-! DEFINITION. The names the manual gives to fixed sets of things: lanes, axes, legs, states, roles, levels, classes. -/

namespace Sys2Proof

/-- A lane of the node (Table 1.1). -/
inductive LaneId where | a | b | c
deriving DecidableEq, Repr

/-- The lane index of object IDs and frames: 0 A, 1 B, 2 C. -/
def LaneId.code : LaneId → Nat | .a => 0 | .b => 1 | .c => 2

/-- The lane of an index, where it names one. -/
def LaneId.ofNat? : Nat → Option LaneId | 0 => some .a | 1 => some .b | 2 => some .c | _ => none

/-- The lane of an index taken modulo 3, as the cyclic orders use it. -/
def LaneId.ofMod (n : Nat) : LaneId := match n % 3 with | 0 => .a | 1 => .b | _ => .c

/-- The next lane in the cyclic order A, B, C. -/
def LaneId.next : LaneId → LaneId | .a => .b | .b => .c | .c => .a

/-- The three lanes in order. -/
def LaneId.all : List LaneId := [.a, .b, .c]

/-- The two other lanes, in lane order. -/
def LaneId.others : LaneId → List LaneId | .a => [.b, .c] | .b => [.a, .c] | .c => [.a, .b]

/-- The index of the link between two different lanes: 0 AB, 1 BC, 2 CA (Table 15.4). -/
def LaneId.link : LaneId → LaneId → Nat
  | .a, .b => 0 | .b, .a => 0 | .b, .c => 1 | .c, .b => 1 | _, _ => 2

/-- One value per lane. -/
structure PerLane (α : Type) where
  /-- Lane A's. -/
  a : α
  /-- Lane B's. -/
  b : α
  /-- Lane C's. -/
  c : α
deriving DecidableEq, Repr

/-- The value of a lane. -/
def PerLane.get {α : Type} (p : PerLane α) : LaneId → α | .a => p.a | .b => p.b | .c => p.c

/-- One lane's value replaced. -/
def PerLane.set {α : Type} (p : PerLane α) (l : LaneId) (x : α) : PerLane α :=
  match l with | .a => { p with a := x } | .b => { p with b := x } | .c => { p with c := x }

/-- The same value for every lane. -/
def PerLane.fill {α : Type} (x : α) : PerLane α := ⟨x, x, x⟩

/-- Every lane's value changed by a function of the lane and the value. -/
def PerLane.mapL {α β : Type} (p : PerLane α) (f : LaneId → α → β) : PerLane β := ⟨f .a p.a, f .b p.b, f .c p.c⟩

/-- An axis of the node, 0 to 11 (R16). -/
abbrev AxisId := Fin 12
/-- A leg of a lane, L00 to L15 (Table 1.2). -/
abbrev LegId := Fin 16
/-- A feedback channel of a lane, 0 to 15. -/
abbrev ChanId := Fin 16
/-- A fabric port of a lane: DP0, DP1. -/
abbrev PortId := Fin 2
/-- A CAN controller of a lane: CAN0, CAN1. -/
abbrev CanId := Fin 2

/-- The axes in ascending order. -/
def allAxes : List AxisId := List.finRange 12
/-- The legs in ascending order. -/
def allLegs : List LegId := List.finRange 16
/-- The feedback channels in ascending order. -/
def allChans : List ChanId := List.finRange 16

/-- The lane states of Table 3.1. -/
inductive LState where
  | off | boot | selftest | gather | align | armed | operate | stopped | safe | sleep | unsealed | listen
deriving DecidableEq, Repr

/-- The state code of Table 3.1. -/
def LState.code : LState → Nat
  | .off => 0 | .boot => 1 | .selftest => 2 | .gather => 3 | .align => 4 | .armed => 5 | .operate => 6
  | .stopped => 7 | .safe => 8 | .sleep => 9 | .unsealed => 10 | .listen => 11

/-- The reset kinds, coded as STATUS.LANE[l].START.CAUSE (Table 3.5). -/
inductive ResetKind where
  | powerOn | brownOut | watchdog | laneRestart | faultRestart | debugReset | resetn | wake
deriving DecidableEq, Repr

/-- The code of a reset kind in START.CAUSE (Table 3.5). -/
def ResetKind.code : ResetKind → Nat
  | .powerOn => 0 | .brownOut => 1 | .watchdog => 2 | .laneRestart => 3 | .faultRestart => 4 | .debugReset => 5
  | .resetn => 6 | .wake => 7

/-- A lane's role for an axis (Table 1.5). -/
inductive Role where | absent | standby | follower | holder
deriving DecidableEq, Repr

/-- The role code of Table 1.5. -/
def Role.code : Role → Nat | .absent => 0 | .standby => 1 | .follower => 2 | .holder => 3

/-- The kinds of axis of Table 6.2. -/
inductive AxisKind where | none | steer | feel | pump | valve | chopper
deriving DecidableEq, Repr

/-- The motor axes are STEER, FEEL and PUMP (R16). -/
def AxisKind.motor : AxisKind → Bool | .steer | .feel | .pump => true | _ => false

/-- The fault levels of Table 15.2. -/
inductive Level where | l0 | l1 | l2 | l3 | l4
deriving DecidableEq, Repr

/-- The level code of an event record (Table 15.2). -/
def Level.code : Level → Nat | .l0 => 0 | .l1 => 1 | .l2 => 2 | .l3 => 3 | .l4 => 4

/-- One level higher, capped at L4 (R405). -/
def Level.up : Level → Level | .l0 => .l1 | .l1 => .l2 | .l2 => .l3 | .l3 => .l4 | .l4 => .l4

/-- The fault classes of Table 15.1. -/
inductive FaultClass where
  | tim | cor | mem | fbk | pwr | thm | lnk | fab | net | cfg | sup | lse | pls | opr | col | job
deriving DecidableEq, Repr

/-- The class code of Table 15.1. -/
def FaultClass.code : FaultClass → Fin 16
  | .tim => 0 | .cor => 1 | .mem => 2 | .fbk => 3 | .pwr => 4 | .thm => 5 | .lnk => 6 | .fab => 7
  | .net => 8 | .cfg => 9 | .sup => 10 | .lse => 11 | .pls => 12 | .opr => 13 | .col => 14 | .job => 15

/-- The classes in code order. -/
def FaultClass.all : List FaultClass :=
  [.tim, .cor, .mem, .fbk, .pwr, .thm, .lnk, .fab, .net, .cfg, .sup, .lse, .pls, .opr, .col, .job]

/-- The subject of an event, from which its instance field is formed (Table 15.4). -/
inductive Subject where
  | none
  | axis (n : Nat)
  | leg (n : Nat)
  | channel (n : Nat)
  | sensor (n : Nat)
  | link (n : Nat)
  | port (n : Nat)
  | can (n : Nat)
  | job (n : Nat)
deriving DecidableEq, Repr

/-- The instance field [11:0] of an event record (R398, Table 15.4). -/
def Subject.inst : Subject → Nat
  | .none => 0
  | .axis n => 0x100 + n % 256
  | .leg n => 0x200 + n % 256
  | .channel n => 0x300 + n % 256
  | .sensor n => 0x400 + n % 256
  | .link n => 0x500 + n % 256
  | .port n => 0x600 + n % 256
  | .can n => 0x700 + n % 256
  | .job n => 0x800 + n % 256

/-- The index that the context value carries in [31:24] (R398); 0xFF where the event names no subject. -/
def Subject.index : Subject → Nat
  | .none => 0xFF
  | .axis n | .leg n | .channel n | .sensor n | .link n | .port n | .can n | .job n => n % 256

end Sys2Proof
end

