-- ==== Sys2Proof/Machine/Objects.lean ====
section
/-! DEFINITION. The gather objects of the parameter tables: object ID, type, range, default, requirement and placement (R97 to R100, Table 4.4). -/

namespace Sys2Proof.Machine

/-- The element encodings of Table 4.3; a character is one ASCII byte. -/
inductive VTy where | bool | u8 | i8 | u16 | i16 | u32 | i32 | q16 | chr
deriving DecidableEq, Repr

/-- The length of one element in bytes (Table 4.3). -/
def VTy.size : VTy → Nat | .bool | .u8 | .i8 | .chr => 1 | .u16 | .i16 => 2 | .u32 | .i32 | .q16 => 4

/-- Elements stored in two's complement (Table 4.3). -/
def VTy.signed : VTy → Bool | .i8 | .i16 | .i32 | .q16 => true | _ => false

/-- When an object with no record rejects the image (R98): the condition its parameter table names. -/
inductive Req where
  | no | always | motor | valve | steer | quad | tone | tagKind | legUsed | wheelCh | curve | sched | partNode | isobus | nodeId
deriving DecidableEq, Repr

/-- One row of a parameter table. -/
structure ObjDef where
  /-- Object ID with instance byte 0 and index 0. -/
  base : Nat
  /-- First instance byte [23:16]. -/
  i0 : Nat := 0
  /-- Number of instances. -/
  n : Nat := 1
  /-- Distance of the fields of consecutive indices; 0 where the field carries no index. -/
  stride : Nat := 0
  /-- Number of indices. -/
  reps : Nat := 1
  /-- Element type. -/
  ty : VTy
  /-- Largest element count. -/
  cnt : Nat
  /-- Exactly `cnt` elements: char[n], and arrays with entries for A, B, C (R97). -/
  fixed : Bool := false
  /-- Least raw value. -/
  lo : Int
  /-- Greatest raw value. -/
  hi : Int
  /-- Raw values allowed besides the range. -/
  also : List Int := []
  /-- Where not empty, the only raw values allowed. -/
  only : List Int := []
  /-- Zero is not allowed. -/
  nonzero : Bool := false
  /-- Elements ascend strictly. -/
  ascending : Bool := false
  /-- The bits of a bit field that are not reserved (R6). -/
  keep : Option Nat := none
  /-- Default elements. -/
  dflt : Option (List Int)
  /-- Requirement of R98. -/
  req : Req := .no
  /-- May stand in a lane-specific section (R100). -/
  sect : Bool := false
  /-- The symbolic name (R7, R99): `#` stands for the instance and `&` for it in two digits, `%` for the index, `@` for it in two digits, `$` for a loop's mnemonic. -/
  name : String
deriving DecidableEq, Repr

/-- The values of a gap pattern (Table 4.7, byte 68): [7:6] none, missing teeth with 1 to 3 of them in [1:0], or an extra tooth. -/
def gapValues : List Int := ((List.range 192).filter fun v => v / 64 != 1 || v % 4 != 0).map fun (v : Nat) => (v : Int)

/-- The objects of block 0x01 (TICK). -/
def objsTick : List ObjDef :=
  [
    -- TICK.BUDGET (Table 2.1)
    { base := 0x01000002, i0 := 0, n := 1, ty := .u8, cnt := 1, lo := 0, hi := 1, dflt := some [0], name := "TICK.BUDGET" },
    -- TICK.SYNC.ORDER (Table 2.1)
    { base := 0x01000010, i0 := 0, n := 1, ty := .u8, cnt := 3, lo := 0, hi := 2, dflt := some [2, 1, 0], name := "TICK.SYNC.ORDER" },
    -- TICK.SYNC.PIN.DIR (Table 2.1)
    { base := 0x01000011, i0 := 0, n := 1, ty := .u8, cnt := 1, lo := 0, hi := 1, dflt := some [0], name := "TICK.SYNC.PIN.DIR" },
    -- TICK.SYNC.PIN.EDGE (Table 2.1)
    { base := 0x01000012, i0 := 0, n := 1, ty := .u8, cnt := 1, lo := 0, hi := 1, dflt := some [0], name := "TICK.SYNC.PIN.EDGE" },
    -- TICK.SYNC.PIN.OFFSET (Table 2.1)
    { base := 0x01000013, i0 := 0, n := 1, ty := .i16, cnt := 1, lo := -4000, hi := 4000, dflt := some [0], sect := true, name := "TICK.SYNC.PIN.OFFSET" },
    -- TICK.SYNC.PIN.PERIOD (Table 2.1)
    { base := 0x01000014, i0 := 0, n := 1, ty := .u16, cnt := 1, lo := 1, hi := 4000, dflt := some [1], name := "TICK.SYNC.PIN.PERIOD" } ]

/-- The objects of block 0x02 (LANE). -/
def objsLane : List ObjDef :=
  [
    -- LANE.LOWPOWER (Table 3.4)
    { base := 0x02000001, i0 := 0, n := 1, ty := .u8, cnt := 1, lo := 0, hi := 1, dflt := some [0], name := "LANE.LOWPOWER" },
    -- LANE.LISTEN.LANE (Table 3.4)
    { base := 0x02000002, i0 := 0, n := 1, ty := .u8, cnt := 1, lo := 0, hi := 2, dflt := some [0], name := "LANE.LISTEN.LANE" },
    -- LANE.LISTEN.MAXTIME (Table 3.4)
    { base := 0x02000003, i0 := 0, n := 1, ty := .u32, cnt := 1, lo := 0, hi := 604800, dflt := some [0], name := "LANE.LISTEN.MAXTIME" },
    -- LANE.WAKE.CAN (Table 3.4)
    { base := 0x02000004, i0 := 0, n := 1, ty := .bool, cnt := 1, lo := 0, hi := 1, dflt := some [1], name := "LANE.WAKE.CAN" },
    -- LANE.WAKE.ID (Table 3.4)
    { base := 0x02000005, i0 := 0, n := 1, ty := .u32, cnt := 1, lo := 0, hi := 536870911, dflt := some [0], name := "LANE.WAKE.ID" },
    -- LANE.WAKE.MASK (Table 3.4)
    { base := 0x02000006, i0 := 0, n := 1, ty := .u32, cnt := 1, lo := 0, hi := 536870911, dflt := some [0], name := "LANE.WAKE.MASK" },
    -- LANE.PRECHARGE.TIME (Table 3.4)
    { base := 0x02000007, i0 := 0, n := 1, ty := .u16, cnt := 1, lo := 40, hi := 1600, dflt := some [800], name := "LANE.PRECHARGE.TIME" },
    -- LANE.PARK_WAIT (Table 3.4)
    { base := 0x02000008, i0 := 0, n := 1, ty := .u32, cnt := 1, lo := 4000, hi := 400000, dflt := some [40000], name := "LANE.PARK_WAIT" },
    -- LANE.IMAGE.ROLE (Table 4.2)
    { base := 0x02000010, i0 := 0, n := 1, ty := .u8, cnt := 1, lo := 0, hi := 1, dflt := none, req := .always, name := "LANE.IMAGE.ROLE" },
    -- LANE.IMAGE.NODEID (Table 4.2)
    { base := 0x02000011, i0 := 0, n := 1, ty := .u8, cnt := 1, lo := 0, hi := 62, dflt := none, req := .always, name := "LANE.IMAGE.NODEID" },
    -- LANE.IMAGE.LANEMASK (Table 4.2)
    { base := 0x02000012, i0 := 0, n := 1, ty := .u8, cnt := 1, lo := 0, hi := 255, dflt := none, req := .always, keep := some 0x07, name := "LANE.IMAGE.LANEMASK" },
    -- LANE.IMAGE.PREDECESSOR (Table 4.2)
    { base := 0x02000013, i0 := 0, n := 1, ty := .u32, cnt := 1, lo := 0, hi := 4294967295, dflt := none, name := "LANE.IMAGE.PREDECESSOR" },
    -- LANE.SECTION (Table 4.2)
    { base := 0x020000F0, i0 := 0, n := 1, ty := .u8, cnt := 1, lo := 0, hi := 2, dflt := none, name := "LANE.SECTION" },
    -- LANE.ID.RATE (Table 4.9)
    { base := 0x02000020, i0 := 0, n := 1, ty := .u8, cnt := 1, lo := 0, hi := 1, dflt := some [1], name := "LANE.ID.RATE" },
    -- LANE.PWM.EV[k].SOURCE (Table 12.5)
    { base := 0x02000100, i0 := 0, n := 1, ty := .u16, cnt := 1, lo := 0, hi := 20479, dflt := some [0], sect := true, stride := 16, reps := 8, keep := some 0xF0FF, name := "LANE.PWM.EV[%].SOURCE" },
    -- LANE.PWM.EV[k].PRESCALE (Table 12.5)
    { base := 0x02000101, i0 := 0, n := 1, ty := .u8, cnt := 1, lo := 1, hi := 16, dflt := some [1], sect := true, stride := 16, reps := 8, name := "LANE.PWM.EV[%].PRESCALE" },
    -- LANE.PWM.EV[k].DEST (Table 12.5)
    { base := 0x02000102, i0 := 0, n := 1, ty := .u8, cnt := 1, lo := 0, hi := 255, dflt := some [0], sect := true, stride := 16, reps := 8, keep := some 0x0F, name := "LANE.PWM.EV[%].DEST" },
    -- LANE.BUS.VCHOP_ON (Table 13.6)
    { base := 0x02000200, i0 := 0, n := 1, ty := .q16, cnt := 1, lo := 524288, hi := 4456448, dflt := some [3538944], name := "LANE.BUS.VCHOP_ON" },
    -- LANE.BUS.VCHOP_FULL (Table 13.6)
    { base := 0x02000201, i0 := 0, n := 1, ty := .q16, cnt := 1, lo := 524288, hi := 4521984, dflt := some [3801088], name := "LANE.BUS.VCHOP_FULL" },
    -- LANE.BUS.HYST (Table 13.6)
    { base := 0x02000202, i0 := 0, n := 1, ty := .q16, cnt := 1, lo := 32768, hi := 655360, dflt := some [131072], name := "LANE.BUS.HYST" },
    -- LANE.BUS.VOV1 (Table 13.6)
    { base := 0x02000203, i0 := 0, n := 1, ty := .q16, cnt := 1, lo := 524288, hi := 4521984, dflt := some [3932160], name := "LANE.BUS.VOV1" },
    -- LANE.BUS.VOV2 (Table 13.6)
    { base := 0x02000204, i0 := 0, n := 1, ty := .q16, cnt := 1, lo := 589824, hi := 4587520, dflt := some [4325376], name := "LANE.BUS.VOV2" },
    -- LANE.BUS.CHOP.IMIN (Table 13.6)
    { base := 0x02000205, i0 := 0, n := 1, ty := .q16, cnt := 1, lo := 6554, hi := 3276800, dflt := some [65536], name := "LANE.BUS.CHOP.IMIN" },
    -- LANE.BUS.REGENPCT (Table 13.6)
    { base := 0x02000206, i0 := 0, n := 1, ty := .u8, cnt := 1, lo := 0, hi := 100, dflt := some [10], name := "LANE.BUS.REGENPCT" },
    -- LANE.VOICE.FIRST (Table 19.9)
    { base := 0x02000300, i0 := 0, n := 1, ty := .u8, cnt := 1, lo := 0, hi := 2, dflt := some [0], name := "LANE.VOICE.FIRST" },
    -- LANE.VOICE.QUIET (Table 19.9)
    { base := 0x02000301, i0 := 0, n := 1, ty := .u16, cnt := 1, lo := 8000, hi := 40000, dflt := some [8000], name := "LANE.VOICE.QUIET" },
    -- LANE.SESSION.IDLE (Table 19.9)
    { base := 0x02000302, i0 := 0, n := 1, ty := .u32, cnt := 1, lo := 400000, hi := 24000000, dflt := some [2400000], name := "LANE.SESSION.IDLE" },
    -- LANE.REC.TRIG.CLASSES (Table 20.9)
    { base := 0x02000400, i0 := 0, n := 1, ty := .u16, cnt := 1, lo := 0, hi := 65535, dflt := some [65535], name := "LANE.REC.TRIG.CLASSES" },
    -- LANE.REC.TRIG.LEVEL (Table 20.9)
    { base := 0x02000401, i0 := 0, n := 1, ty := .u8, cnt := 1, lo := 1, hi := 4, dflt := some [2], name := "LANE.REC.TRIG.LEVEL" },
    -- LANE.REC.PRE (Table 20.9)
    { base := 0x02000402, i0 := 0, n := 1, ty := .u32, cnt := 1, lo := 0, hi := 400000, dflt := some [80000], name := "LANE.REC.PRE" },
    -- LANE.REC.POST (Table 20.9)
    { base := 0x02000403, i0 := 0, n := 1, ty := .u32, cnt := 1, lo := 40, hi := 400000, dflt := some [40000], name := "LANE.REC.POST" } ]

/-- The objects of block 0x03 (LEASE). -/
def objsLease : List ObjDef :=
  [
    -- LEASE.LEN (Table 5.8)
    { base := 0x03000001, i0 := 0, n := 1, ty := .u8, cnt := 1, lo := 2, hi := 16, dflt := some [4], name := "LEASE.LEN" },
    -- LEASE.GUARD (Table 5.8)
    { base := 0x03000002, i0 := 0, n := 1, ty := .u8, cnt := 1, lo := 1, hi := 8, dflt := some [2], name := "LEASE.GUARD" },
    -- LEASE.ROTATE.MODE (Table 5.8)
    { base := 0x03000010, i0 := 0, n := 1, ty := .u8, cnt := 1, lo := 0, hi := 2, dflt := some [1], name := "LEASE.ROTATE.MODE" },
    -- LEASE.ROTATE.PERIOD (Table 5.8)
    { base := 0x03000011, i0 := 0, n := 1, ty := .u32, cnt := 1, lo := 60, hi := 86400, dflt := some [1800], name := "LEASE.ROTATE.PERIOD" },
    -- LEASE.ROTATE.STEERRATE (Table 5.8)
    { base := 0x03000012, i0 := 0, n := 1, ty := .u16, cnt := 1, lo := 10, hi := 2000, dflt := some [200], name := "LEASE.ROTATE.STEERRATE" } ]

/-- The objects of block 0x10 (AXIS). DESIGN CHOICE: the ASCII of TAG[s].MODEL (R109) is 0x20 to 0x7E, here and in the sensor blocks (log 172). -/
def objsAxis : List ObjDef :=
  [
    -- AXIS[n].TAG[s].KIND (Table 4.9)
    { base := 0x10000030, i0 := 0, n := 12, ty := .u8, cnt := 1, lo := 1, hi := 10, dflt := some [0], also := [0], stride := 16, reps := 3, name := "AXIS[#].TAG[%].KIND" },
    -- AXIS[n].TAG[s].MAKER (Table 4.9)
    { base := 0x10000031, i0 := 0, n := 12, ty := .u16, cnt := 1, lo := 1, hi := 65535, dflt := some [0], also := [0], stride := 16, reps := 3, name := "AXIS[#].TAG[%].MAKER" },
    -- AXIS[n].TAG[s].MODEL (Table 4.9)
    { base := 0x10000032, i0 := 0, n := 12, ty := .chr, cnt := 16, lo := 32, hi := 126, dflt := some (List.replicate 16 32), fixed := true, stride := 16, reps := 3, name := "AXIS[#].TAG[%].MODEL" },
    -- AXIS[n].TAG[s].ADDR (Table 4.9)
    { base := 0x10000033, i0 := 0, n := 12, ty := .u8, cnt := 3, lo := 8, hi := 119, dflt := none, fixed := true, stride := 16, reps := 3, req := .tagKind, name := "AXIS[#].TAG[%].ADDR" },
    -- AXIS[n].TAG[s].SOURCE (Table 4.9)
    { base := 0x10000034, i0 := 0, n := 12, ty := .u16, cnt := 1, lo := 0, hi := 65535, dflt := some [0], stride := 16, reps := 3, keep := some 0x0FFF, name := "AXIS[#].TAG[%].SOURCE" },
    -- AXIS[n].TAG[s].CALREQ (Table 4.9)
    { base := 0x10000035, i0 := 0, n := 12, ty := .bool, cnt := 1, lo := 0, hi := 1, dflt := some [0], stride := 16, reps := 3, name := "AXIS[#].TAG[%].CALREQ" },
    -- AXIS[n].SUCCESSION (Table 5.8)
    { base := 0x10000060, i0 := 0, n := 12, ty := .u8, cnt := 1, lo := 0, hi := 2, dflt := some [0], name := "AXIS[#].SUCCESSION" },
    -- AXIS[n].ENDORSE.BAND (Table 5.8)
    { base := 0x10000061, i0 := 0, n := 12, ty := .u16, cnt := 1, lo := 5, hi := 500, dflt := some [50], name := "AXIS[#].ENDORSE.BAND" },
    -- AXIS[n].SHADOW.TRACK (Table 5.8)
    { base := 0x10000062, i0 := 0, n := 12, ty := .q16, cnt := 1, lo := 0, hi := 65536, dflt := some [16384], name := "AXIS[#].SHADOW.TRACK" },
    -- AXIS[n].LASTSCALE (Table 5.8)
    { base := 0x10000063, i0 := 0, n := 12, ty := .q16, cnt := 1, lo := 16384, hi := 65536, dflt := some [32768], name := "AXIS[#].LASTSCALE" },
    -- AXIS[n].ROTATE (Table 5.8)
    { base := 0x10000064, i0 := 0, n := 12, ty := .bool, cnt := 1, lo := 0, hi := 1, dflt := some [1], name := "AXIS[#].ROTATE" },
    -- AXIS[n].KIND (Table 6.3)
    { base := 0x10000001, i0 := 0, n := 12, ty := .u8, cnt := 1, lo := 0, hi := 5, dflt := some [0], name := "AXIS[#].KIND" },
    -- AXIS[n].LEGS (Table 6.3)
    { base := 0x10000002, i0 := 0, n := 12, ty := .u8, cnt := 3, lo := 0, hi := 15, dflt := some [255, 255, 255], fixed := true, also := [255], name := "AXIS[#].LEGS" },
    -- AXIS[n].SHARE (Table 6.3)
    { base := 0x10000004, i0 := 0, n := 12, ty := .u8, cnt := 1, lo := 0, hi := 1, dflt := some [0], name := "AXIS[#].SHARE" },
    -- AXIS[n].OBSERVER.POLICY (Table 1.7)
    { base := 0x10000020, i0 := 0, n := 12, ty := .u8, cnt := 1, lo := 0, hi := 1, dflt := some [0], name := "AXIS[#].OBSERVER.POLICY" },
    -- AXIS[n].IPEAK (Table 6.3)
    { base := 0x10000005, i0 := 0, n := 12, ty := .q16, cnt := 1, lo := 6554, hi := 13107200, dflt := none, req := .motor, name := "AXIS[#].IPEAK" },
    -- AXIS[n].ICONT (Table 6.3)
    { base := 0x10000006, i0 := 0, n := 12, ty := .q16, cnt := 1, lo := 6554, hi := 9830400, dflt := none, req := .motor, name := "AXIS[#].ICONT" },
    -- AXIS[n].COIL.RES (Table 6.3)
    { base := 0x10000007, i0 := 0, n := 12, ty := .u16, cnt := 1, lo := 100, hi := 60000, dflt := none, req := .valve, name := "AXIS[#].COIL.RES" },
    -- AXIS[n].COIL.IND (Table 6.3)
    { base := 0x10000008, i0 := 0, n := 12, ty := .u16, cnt := 1, lo := 1, hi := 10000, dflt := none, req := .valve, name := "AXIS[#].COIL.IND" },
    -- AXIS[n].COIL.IMAX (Table 6.3)
    { base := 0x10000009, i0 := 0, n := 12, ty := .u16, cnt := 1, lo := 50, hi := 10000, dflt := none, req := .valve, name := "AXIS[#].COIL.IMAX" },
    -- AXIS[n].MODE.START (Table 10.4)
    { base := 0x10000070, i0 := 0, n := 12, ty := .u8, cnt := 1, lo := 0, hi := 3, dflt := some [3], only := [0, 3], name := "AXIS[#].MODE.START" },
    -- AXIS[n].MODE.OVERRIDE (Table 10.4)
    { base := 0x10000071, i0 := 0, n := 12, ty := .bool, cnt := 1, lo := 0, hi := 1, dflt := some [1], name := "AXIS[#].MODE.OVERRIDE" },
    -- AXIS[n].HANDOVER.BAND (Table 10.4)
    { base := 0x10000072, i0 := 0, n := 12, ty := .u32, cnt := 1, lo := 0, hi := 10000, dflt := some [200], name := "AXIS[#].HANDOVER.BAND" },
    -- AXIS[n].HANDOVER.RATE (Table 10.4)
    { base := 0x10000073, i0 := 0, n := 12, ty := .u32, cnt := 1, lo := 1000, hi := 400000, dflt := some [20000], name := "AXIS[#].HANDOVER.RATE" },
    -- AXIS[n].HANDOVER.TMAX (Table 10.4)
    { base := 0x10000074, i0 := 0, n := 12, ty := .u16, cnt := 1, lo := 40, hi := 65535, dflt := some [8000], name := "AXIS[#].HANDOVER.TMAX" },
    -- AXIS[n].HANDOVER.OBAND (Table 10.4)
    { base := 0x10000075, i0 := 0, n := 12, ty := .u16, cnt := 1, lo := 0, hi := 500, dflt := some [25], name := "AXIS[#].HANDOVER.OBAND" },
    -- AXIS[n].HANDOVER.ORATE (Table 10.4)
    { base := 0x10000076, i0 := 0, n := 12, ty := .u16, cnt := 1, lo := 1, hi := 1000, dflt := some [10], name := "AXIS[#].HANDOVER.ORATE" },
    -- AXIS[n].PWM.PERIOD (Table 12.5)
    { base := 0x10000010, i0 := 0, n := 12, ty := .u8, cnt := 1, lo := 1, hi := 32, dflt := some [2], only := [1, 2, 4, 8, 16, 32], name := "AXIS[#].PWM.PERIOD" },
    -- AXIS[n].SHORT.POST (Table 13.6)
    { base := 0x10000080, i0 := 0, n := 12, ty := .u8, cnt := 1, lo := 0, hi := 1, dflt := some [0], name := "AXIS[#].SHORT.POST" },
    -- AXIS[n].FOLLOW.LEAD (Table 14.5)
    { base := 0x10000090, i0 := 0, n := 12, ty := .u8, cnt := 1, lo := 0, hi := 11, dflt := some [255], also := [254, 255], name := "AXIS[#].FOLLOW.LEAD" },
    -- AXIS[n].FOLLOW.CURVE (Table 14.5)
    { base := 0x10000091, i0 := 0, n := 12, ty := .u8, cnt := 1, lo := 0, hi := 255, dflt := some [255], name := "AXIS[#].FOLLOW.CURVE" },
    -- AXIS[n].FOLLOW.VCUT (Table 14.5)
    { base := 0x10000092, i0 := 0, n := 12, ty := .q16, cnt := 1, lo := 0, hi := 3932160, dflt := some [655360], name := "AXIS[#].FOLLOW.VCUT" },
    -- AXIS[n].FOLLOW.VZERO (Table 14.5)
    { base := 0x10000093, i0 := 0, n := 12, ty := .q16, cnt := 1, lo := 0, hi := 3932160, dflt := some [983040], name := "AXIS[#].FOLLOW.VZERO" } ]

/-- The objects of block 0x11 (LEG). -/
def objsLeg : List ObjDef :=
  [
    -- LEG[ll].FUNCTION (Table 6.3)
    { base := 0x11000001, i0 := 0, n := 16, ty := .u8, cnt := 1, lo := 0, hi := 5, dflt := some [0], sect := true, name := "LEG[&].FUNCTION" },
    -- LEG[ll].PWM.DUTYMODE (Table 12.5)
    { base := 0x11000002, i0 := 0, n := 16, ty := .u8, cnt := 1, lo := 0, hi := 1, dflt := some [0], sect := true, name := "LEG[&].PWM.DUTYMODE" },
    -- LEG[ll].PWM.DTH (Table 12.5)
    { base := 0x11000003, i0 := 0, n := 16, ty := .u16, cnt := 1, lo := 0, hi := 4095, dflt := some [200], sect := true, name := "LEG[&].PWM.DTH" },
    -- LEG[ll].PWM.DTL (Table 12.5)
    { base := 0x11000004, i0 := 0, n := 16, ty := .u16, cnt := 1, lo := 0, hi := 4095, dflt := some [200], sect := true, name := "LEG[&].PWM.DTL" } ]

/-- The objects of block 0x12 (GATE). -/
def objsGate : List ObjDef :=
  [
    -- LEG[ll].GATE.STRENGTH (Table 13.6)
    { base := 0x12000001, i0 := 0, n := 16, ty := .u8, cnt := 1, lo := 0, hi := 1, dflt := some [0], sect := true, name := "LEG[&].GATE.STRENGTH" },
    -- LEG[ll].GATE.STEP.R (Table 13.6)
    { base := 0x12000002, i0 := 0, n := 16, ty := .u8, cnt := 1, lo := 0, hi := 15, dflt := some [7], sect := true, name := "LEG[&].GATE.STEP.R" },
    -- LEG[ll].GATE.STEP.F (Table 13.6)
    { base := 0x12000003, i0 := 0, n := 16, ty := .u8, cnt := 1, lo := 0, hi := 15, dflt := some [7], sect := true, name := "LEG[&].GATE.STEP.F" },
    -- LEG[ll].GATE.STEPMIN (Table 13.6)
    { base := 0x12000004, i0 := 0, n := 16, ty := .u8, cnt := 1, lo := 0, hi := 15, dflt := some [0], sect := true, name := "LEG[&].GATE.STEPMIN" },
    -- LEG[ll].GATE.STEPMAX (Table 13.6)
    { base := 0x12000005, i0 := 0, n := 16, ty := .u8, cnt := 1, lo := 0, hi := 15, dflt := some [15], sect := true, name := "LEG[&].GATE.STEPMAX" },
    -- LEG[ll].GATE.TSW (Table 13.6)
    { base := 0x12000006, i0 := 0, n := 16, ty := .u16, cnt := 1, lo := 10, hi := 2000, dflt := some [100], sect := true, name := "LEG[&].GATE.TSW" },
    -- LEG[ll].GATE.TSW_TOL (Table 13.6)
    { base := 0x12000007, i0 := 0, n := 16, ty := .u16, cnt := 1, lo := 2, hi := 500, dflt := some [20], sect := true, name := "LEG[&].GATE.TSW_TOL" },
    -- LEG[ll].GATE.TSW_WIN (Table 13.6)
    { base := 0x12000008, i0 := 0, n := 16, ty := .u16, cnt := 1, lo := 100, hi := 4000, dflt := some [1000], sect := true, name := "LEG[&].GATE.TSW_WIN" },
    -- LEG[ll].GATE.HSSUPPLY (Table 13.6)
    { base := 0x12000010, i0 := 0, n := 16, ty := .u8, cnt := 1, lo := 0, hi := 2, dflt := some [0], sect := true, name := "LEG[&].GATE.HSSUPPLY" },
    -- LEG[ll].GATE.BOOT_UV (Table 13.6)
    { base := 0x12000011, i0 := 0, n := 16, ty := .q16, cnt := 1, lo := 458752, hi := 720896, dflt := some [589824], sect := true, name := "LEG[&].GATE.BOOT_UV" },
    -- LEG[ll].GATE.TREF (Table 13.6)
    { base := 0x12000012, i0 := 0, n := 16, ty := .u16, cnt := 1, lo := 160, hi := 8000, dflt := some [800], sect := true, name := "LEG[&].GATE.TREF" },
    -- LEG[ll].GATE.REFRESH_MAX (Table 13.6)
    { base := 0x12000013, i0 := 0, n := 16, ty := .u8, cnt := 1, lo := 1, hi := 64, dflt := some [8], sect := true, name := "LEG[&].GATE.REFRESH_MAX" },
    -- LEG[ll].GATE.SHUNT (Table 13.6)
    { base := 0x12000020, i0 := 0, n := 16, ty := .u32, cnt := 1, lo := 50, hi := 100000, dflt := none, sect := true, req := .legUsed, name := "LEG[&].GATE.SHUNT" },
    -- LEG[ll].GATE.GAIN (Table 13.6)
    { base := 0x12000021, i0 := 0, n := 16, ty := .u8, cnt := 1, lo := 0, hi := 3, dflt := some [2], sect := true, name := "LEG[&].GATE.GAIN" },
    -- LEG[ll].GATE.OCP (Table 13.6)
    { base := 0x12000022, i0 := 0, n := 16, ty := .q16, cnt := 1, lo := 6554, hi := 32768000, dflt := none, sect := true, req := .legUsed, name := "LEG[&].GATE.OCP" },
    -- LEG[ll].GATE.HARD_FACTOR (Table 13.6)
    { base := 0x12000023, i0 := 0, n := 16, ty := .q16, cnt := 1, lo := 81920, hi := 262144, dflt := some [131072], sect := true, name := "LEG[&].GATE.HARD_FACTOR" },
    -- LEG[ll].GATE.TBLANK (Table 13.6)
    { base := 0x12000024, i0 := 0, n := 16, ty := .u16, cnt := 1, lo := 0, hi := 800, dflt := some [400], sect := true, name := "LEG[&].GATE.TBLANK" },
    -- LEG[ll].GATE.DESAT (Table 13.6)
    { base := 0x12000025, i0 := 0, n := 16, ty := .q16, cnt := 1, lo := 65536, hi := 655360, dflt := some [262144], sect := true, name := "LEG[&].GATE.DESAT" } ]

/-- The objects of block 0x13 (FEEDBACK). -/
def objsFeedback : List ObjDef :=
  [
    -- FEEDBACK[c].MODE (Table 7.4)
    { base := 0x13000001, i0 := 0, n := 4, ty := .u8, cnt := 1, lo := 0, hi := 4, dflt := some [0], sect := true, name := "FEEDBACK[#].MODE" },
    { base := 0x13000001, i0 := 4, n := 12, ty := .u8, cnt := 1, lo := 0, hi := 1, dflt := some [0], sect := true, name := "FEEDBACK[#].MODE" },
    -- FEEDBACK[c].TMIN (Table 7.4)
    { base := 0x13000002, i0 := 0, n := 16, ty := .u16, cnt := 1, lo := 1, hi := 4096, dflt := some [40], sect := true, name := "FEEDBACK[#].TMIN" },
    -- FEEDBACK[c].FAST_LIMIT (Table 7.4)
    { base := 0x13000003, i0 := 0, n := 16, ty := .u16, cnt := 1, lo := 0, hi := 65535, dflt := some [100], sect := true, name := "FEEDBACK[#].FAST_LIMIT" },
    -- FEEDBACK[c].DOUBLE_LIMIT (Table 7.4)
    { base := 0x13000004, i0 := 0, n := 16, ty := .u16, cnt := 1, lo := 0, hi := 65535, dflt := some [10], sect := true, name := "FEEDBACK[#].DOUBLE_LIMIT" },
    -- FEEDBACK[c].LINES (Table 7.4)
    { base := 0x13000005, i0 := 0, n := 16, ty := .u16, cnt := 1, lo := 1, hi := 65535, dflt := none, sect := true, req := .quad, name := "FEEDBACK[#].LINES" },
    -- FEEDBACK[c].INDEX.TOL (Table 7.4)
    { base := 0x13000006, i0 := 0, n := 16, ty := .u8, cnt := 1, lo := 0, hi := 8, dflt := some [2], sect := true, name := "FEEDBACK[#].INDEX.TOL" },
    -- FEEDBACK[c].INDEX.SNAP (Table 7.4)
    { base := 0x13000007, i0 := 0, n := 16, ty := .bool, cnt := 1, lo := 0, hi := 1, dflt := some [0], sect := true, name := "FEEDBACK[#].INDEX.SNAP" },
    -- FEEDBACK[c].INDEX.EDGE (Table 7.4)
    { base := 0x13000008, i0 := 0, n := 16, ty := .u8, cnt := 1, lo := 0, hi := 1, dflt := some [0], sect := true, name := "FEEDBACK[#].INDEX.EDGE" },
    -- FEEDBACK[c].INVERT (Table 7.4)
    { base := 0x1300000A, i0 := 0, n := 16, ty := .u8, cnt := 1, lo := 0, hi := 255, dflt := some [0], sect := true, keep := some 0x0F, name := "FEEDBACK[#].INVERT" },
    -- FEEDBACK[c].TONE.POSITIONS (Table 7.4)
    { base := 0x13000010, i0 := 0, n := 16, ty := .u16, cnt := 1, lo := 1, hi := 256, dflt := none, sect := true, req := .tone, name := "FEEDBACK[#].TONE.POSITIONS" },
    -- FEEDBACK[c].TONE.GAP (Table 7.4)
    { base := 0x13000011, i0 := 0, n := 16, ty := .u8, cnt := 1, lo := 0, hi := 255, dflt := none, sect := true, req := .tone, keep := some 0xC3, only := gapValues, name := "FEEDBACK[#].TONE.GAP" },
    -- FEEDBACK[c].TONE.GAP_RATIO (Table 7.4)
    { base := 0x13000012, i0 := 0, n := 16, ty := .q16, cnt := 1, lo := 81920, hi := 262144, dflt := some [98304], sect := true, name := "FEEDBACK[#].TONE.GAP_RATIO" },
    -- FEEDBACK[c].TONE.TOL (Table 7.4)
    { base := 0x13000013, i0 := 0, n := 16, ty := .u8, cnt := 1, lo := 0, hi := 8, dflt := some [0], sect := true, name := "FEEDBACK[#].TONE.TOL" },
    -- FEEDBACK[c].TONE.DIRSRC (Table 7.4)
    { base := 0x13000014, i0 := 0, n := 16, ty := .u8, cnt := 1, lo := 0, hi := 2, dflt := some [0], sect := true, name := "FEEDBACK[#].TONE.DIRSRC" },
    -- FEEDBACK[c].TONE.DIRCH (Table 7.4)
    { base := 0x13000015, i0 := 0, n := 16, ty := .u8, cnt := 1, lo := 0, hi := 3, dflt := some [0], sect := true, name := "FEEDBACK[#].TONE.DIRCH" },
    -- FEEDBACK[c].SPEED.W (Table 7.4)
    { base := 0x13000020, i0 := 0, n := 16, ty := .u8, cnt := 1, lo := 1, hi := 64, dflt := some [8], sect := true, only := [1, 2, 4, 8, 16, 32, 64], name := "FEEDBACK[#].SPEED.W" },
    -- FEEDBACK[c].SPEED.BLEND_N (Table 7.4)
    { base := 0x13000021, i0 := 0, n := 16, ty := .u8, cnt := 1, lo := 1, hi := 64, dflt := some [4], sect := true, name := "FEEDBACK[#].SPEED.BLEND_N" },
    -- FEEDBACK[c].SPEED.STILL (Table 7.4)
    { base := 0x13000022, i0 := 0, n := 16, ty := .u16, cnt := 1, lo := 40, hi := 65535, dflt := some [400], sect := true, name := "FEEDBACK[#].SPEED.STILL" },
    -- FEEDBACK[c].PASS (Table 7.4)
    { base := 0x13000030, i0 := 0, n := 16, ty := .u8, cnt := 1, lo := 0, hi := 2, dflt := some [0], sect := true, name := "FEEDBACK[#].PASS" },
    -- FEEDBACK[c].TAGREF (Table 7.4)
    { base := 0x13000040, i0 := 0, n := 16, ty := .u32, cnt := 1, lo := 0, hi := 4294967295, dflt := some [0], sect := true, name := "FEEDBACK[#].TAGREF" },
    -- FEEDBACK[c].RES.EXC.AMP (Table 7.4)
    { base := 0x13000050, i0 := 0, n := 16, ty := .u8, cnt := 1, lo := 20, hi := 100, dflt := some [70], sect := true, name := "FEEDBACK[#].RES.EXC.AMP" },
    -- FEEDBACK[c].RES.POLERATIO (Table 7.4)
    { base := 0x13000051, i0 := 0, n := 16, ty := .u8, cnt := 1, lo := 1, hi := 16, dflt := some [1], sect := true, name := "FEEDBACK[#].RES.POLERATIO" },
    -- FEEDBACK[c].RES.RATIO (Table 7.4)
    { base := 0x13000052, i0 := 0, n := 16, ty := .q16, cnt := 1, lo := 6554, hi := 65536, dflt := some [32768], sect := true, name := "FEEDBACK[#].RES.RATIO" },
    -- FEEDBACK[c].RES.BANDWIDTH (Table 7.4)
    { base := 0x13000053, i0 := 0, n := 16, ty := .u16, cnt := 1, lo := 100, hi := 2000, dflt := some [800], sect := true, name := "FEEDBACK[#].RES.BANDWIDTH" },
    -- FEEDBACK[c].RES.LOS (Table 7.4)
    { base := 0x13000054, i0 := 0, n := 16, ty := .q16, cnt := 1, lo := 3277, hi := 32768, dflt := some [16384], sect := true, name := "FEEDBACK[#].RES.LOS" },
    -- FEEDBACK[c].RES.DEG.LO (Table 7.4)
    { base := 0x13000055, i0 := 0, n := 16, ty := .q16, cnt := 1, lo := 19661, hi := 65536, dflt := some [41943], sect := true, name := "FEEDBACK[#].RES.DEG.LO" },
    -- FEEDBACK[c].RES.DEG.HI (Table 7.4)
    { base := 0x13000056, i0 := 0, n := 16, ty := .q16, cnt := 1, lo := 65536, hi := 131072, dflt := some [94372], sect := true, name := "FEEDBACK[#].RES.DEG.HI" },
    -- FEEDBACK[c].RES.TRACKERR (Table 7.4)
    { base := 0x13000057, i0 := 0, n := 16, ty := .u16, cnt := 1, lo := 64, hi := 8192, dflt := some [1024], sect := true, name := "FEEDBACK[#].RES.TRACKERR" },
    -- FEEDBACK[c].SSI.CLK (Table 7.4)
    { base := 0x13000060, i0 := 0, n := 16, ty := .u16, cnt := 1, lo := 100, hi := 4000, dflt := some [1000], sect := true, name := "FEEDBACK[#].SSI.CLK" },
    -- FEEDBACK[c].SSI.BITS (Table 7.4)
    { base := 0x13000061, i0 := 0, n := 16, ty := .u8, cnt := 1, lo := 10, hi := 32, dflt := some [25], sect := true, name := "FEEDBACK[#].SSI.BITS" },
    -- FEEDBACK[c].SSI.CODE (Table 7.4)
    { base := 0x13000062, i0 := 0, n := 16, ty := .u8, cnt := 1, lo := 0, hi := 1, dflt := some [1], sect := true, name := "FEEDBACK[#].SSI.CODE" },
    -- FEEDBACK[c].SSI.TMONO (Table 7.4)
    { base := 0x13000063, i0 := 0, n := 16, ty := .u8, cnt := 1, lo := 1, hi := 64, dflt := some [20], sect := true, name := "FEEDBACK[#].SSI.TMONO" },
    -- FEEDBACK[c].SSI.PERIOD (Table 7.4)
    { base := 0x13000064, i0 := 0, n := 16, ty := .u8, cnt := 1, lo := 1, hi := 64, dflt := some [2], sect := true, name := "FEEDBACK[#].SSI.PERIOD" },
    -- FEEDBACK[c].SSI.JUMP (Table 7.4)
    { base := 0x13000065, i0 := 0, n := 16, ty := .u32, cnt := 1, lo := 1, hi := 2147483647, dflt := some [1024], sect := true, name := "FEEDBACK[#].SSI.JUMP" },
    -- FEEDBACK[c].AIN.FILTER (Table 7.4)
    { base := 0x13000070, i0 := 0, n := 16, ty := .u8, cnt := 1, lo := 1, hi := 8, dflt := some [1], sect := true, name := "FEEDBACK[#].AIN.FILTER" },
    -- FEEDBACK[c].AIN.GAIN (Table 7.4)
    { base := 0x13000071, i0 := 0, n := 16, ty := .q16, cnt := 1, lo := -2147483648, hi := 2147483647, dflt := some [65536], sect := true, name := "FEEDBACK[#].AIN.GAIN" },
    -- FEEDBACK[c].AIN.OFFSET (Table 7.4)
    { base := 0x13000072, i0 := 0, n := 16, ty := .q16, cnt := 1, lo := -2147483648, hi := 2147483647, dflt := some [0], sect := true, name := "FEEDBACK[#].AIN.OFFSET" },
    -- FEEDBACK[c].AIN.MIN (Table 7.4)
    { base := 0x13000073, i0 := 0, n := 16, ty := .q16, cnt := 1, lo := 0, hi := 327680, dflt := some [13107], sect := true, name := "FEEDBACK[#].AIN.MIN" },
    -- FEEDBACK[c].AIN.MAX (Table 7.4)
    { base := 0x13000074, i0 := 0, n := 16, ty := .q16, cnt := 1, lo := 0, hi := 327680, dflt := some [314573], sect := true, name := "FEEDBACK[#].AIN.MAX" },
    -- FEEDBACK[c].AIN.FAULTTIME (Table 7.4)
    { base := 0x13000075, i0 := 0, n := 16, ty := .u8, cnt := 1, lo := 1, hi := 255, dflt := some [4], sect := true, name := "FEEDBACK[#].AIN.FAULTTIME" } ]

/-- The objects of block 0x14 (PROFILE). -/
def objsProfile : List ObjDef :=
  [
    -- AXIS[n].PROFILE.VMAX (Table 8.5)
    { base := 0x14000001, i0 := 0, n := 12, ty := .u32, cnt := 1, lo := 1, hi := 1000000, dflt := some [40000], name := "AXIS[#].PROFILE.VMAX" },
    -- AXIS[n].PROFILE.AMAX (Table 8.5)
    { base := 0x14000002, i0 := 0, n := 12, ty := .u32, cnt := 1, lo := 1, hi := 10000000, dflt := some [200000], name := "AXIS[#].PROFILE.AMAX" },
    -- AXIS[n].PROFILE.DMAX (Table 8.5)
    { base := 0x14000003, i0 := 0, n := 12, ty := .u32, cnt := 1, lo := 1, hi := 10000000, dflt := some [200000], name := "AXIS[#].PROFILE.DMAX" },
    -- AXIS[n].PROFILE.JMAX (Table 8.5)
    { base := 0x14000004, i0 := 0, n := 12, ty := .u32, cnt := 1, lo := 1000, hi := 4000000000, dflt := some [0], also := [0], name := "AXIS[#].PROFILE.JMAX" },
    -- AXIS[n].PROFILE.DHARD (Table 8.5)
    { base := 0x14000005, i0 := 0, n := 12, ty := .u32, cnt := 1, lo := 1, hi := 10000000, dflt := some [400000], name := "AXIS[#].PROFILE.DHARD" },
    -- AXIS[n].PROFILE.DSTOP (Table 8.5)
    { base := 0x14000006, i0 := 0, n := 12, ty := .u32, cnt := 1, lo := 1, hi := 10000000, dflt := some [300000], name := "AXIS[#].PROFILE.DSTOP" },
    -- AXIS[n].PROFILE.HOLD.DELAY (Table 8.5)
    { base := 0x14000010, i0 := 0, n := 12, ty := .u16, cnt := 1, lo := 0, hi := 65535, dflt := some [20000], name := "AXIS[#].PROFILE.HOLD.DELAY" },
    -- AXIS[n].PROFILE.HOLD.BAND (Table 8.5)
    { base := 0x14000011, i0 := 0, n := 12, ty := .u32, cnt := 1, lo := 0, hi := 100000, dflt := some [200], name := "AXIS[#].PROFILE.HOLD.BAND" },
    -- AXIS[n].PROFILE.HOLD.PCT (Table 8.5)
    { base := 0x14000012, i0 := 0, n := 12, ty := .u8, cnt := 1, lo := 10, hi := 100, dflt := some [40], name := "AXIS[#].PROFILE.HOLD.PCT" },
    -- AXIS[n].PROFILE.HOLD.RAMP (Table 8.5)
    { base := 0x14000013, i0 := 0, n := 12, ty := .u16, cnt := 1, lo := 1, hi := 65535, dflt := some [4000], name := "AXIS[#].PROFILE.HOLD.RAMP" },
    -- AXIS[n].PROFILE.LIMIT.NEG.CH (Table 8.5)
    { base := 0x14000020, i0 := 0, n := 12, ty := .u8, cnt := 1, lo := 8, hi := 15, dflt := some [255], sect := true, also := [255], name := "AXIS[#].PROFILE.LIMIT.NEG.CH" },
    -- AXIS[n].PROFILE.LIMIT.POS.CH (Table 8.5)
    { base := 0x14000021, i0 := 0, n := 12, ty := .u8, cnt := 1, lo := 8, hi := 15, dflt := some [255], sect := true, also := [255], name := "AXIS[#].PROFILE.LIMIT.POS.CH" },
    -- AXIS[n].PROFILE.LIMIT.VTRIP (Table 8.5)
    { base := 0x14000022, i0 := 0, n := 12, ty := .q16, cnt := 1, lo := 13107, hi := 314573, dflt := some [163840], sect := true, name := "AXIS[#].PROFILE.LIMIT.VTRIP" },
    -- AXIS[n].PROFILE.LIMIT.POLARITY (Table 8.5)
    { base := 0x14000023, i0 := 0, n := 12, ty := .u8, cnt := 1, lo := 0, hi := 1, dflt := some [0], sect := true, name := "AXIS[#].PROFILE.LIMIT.POLARITY" },
    -- AXIS[n].PROFILE.LIMIT.T_DEB (Table 8.5)
    { base := 0x14000024, i0 := 0, n := 12, ty := .u8, cnt := 1, lo := 1, hi := 255, dflt := some [40], name := "AXIS[#].PROFILE.LIMIT.T_DEB" },
    -- AXIS[n].PROFILE.LIMIT.CHATTER_N (Table 8.5)
    { base := 0x14000025, i0 := 0, n := 12, ty := .u8, cnt := 1, lo := 2, hi := 255, dflt := some [8], name := "AXIS[#].PROFILE.LIMIT.CHATTER_N" },
    -- AXIS[n].PROFILE.LIMIT.CHATTER_WIN (Table 8.5)
    { base := 0x14000026, i0 := 0, n := 12, ty := .u16, cnt := 1, lo := 40, hi := 65535, dflt := some [4000], name := "AXIS[#].PROFILE.LIMIT.CHATTER_WIN" },
    -- AXIS[n].PROFILE.CENTRE.FIRST (Table 8.5)
    { base := 0x14000030, i0 := 0, n := 12, ty := .u8, cnt := 1, lo := 0, hi := 1, dflt := some [0], name := "AXIS[#].PROFILE.CENTRE.FIRST" },
    -- AXIS[n].PROFILE.CENTRE.VSEEK (Table 8.5)
    { base := 0x14000031, i0 := 0, n := 12, ty := .u32, cnt := 1, lo := 100, hi := 50000, dflt := some [5000], name := "AXIS[#].PROFILE.CENTRE.VSEEK" },
    -- AXIS[n].PROFILE.CENTRE.TRAVEL (Table 8.5)
    { base := 0x14000032, i0 := 0, n := 12, ty := .u32, cnt := 1, lo := 1000, hi := 1000000, dflt := some [130000], name := "AXIS[#].PROFILE.CENTRE.TRAVEL" },
    -- AXIS[n].PROFILE.CENTRE.SPAN (Table 8.5)
    { base := 0x14000033, i0 := 0, n := 12, ty := .u32, cnt := 1, lo := 1000, hi := 1000000, dflt := some [0], also := [0], name := "AXIS[#].PROFILE.CENTRE.SPAN" },
    -- AXIS[n].PROFILE.CENTRE.SPANTOL (Table 8.5)
    { base := 0x14000034, i0 := 0, n := 12, ty := .u32, cnt := 1, lo := 0, hi := 100000, dflt := some [2000], name := "AXIS[#].PROFILE.CENTRE.SPANTOL" },
    -- AXIS[n].PROFILE.CENTRE.SHIFT (Table 8.5)
    { base := 0x14000035, i0 := 0, n := 12, ty := .i32, cnt := 1, lo := -100000, hi := 100000, dflt := some [0], name := "AXIS[#].PROFILE.CENTRE.SHIFT" },
    -- AXIS[n].PROFILE.CENTRE.AGREE (Table 8.5)
    { base := 0x14000036, i0 := 0, n := 12, ty := .u32, cnt := 1, lo := 1, hi := 10000, dflt := some [50], name := "AXIS[#].PROFILE.CENTRE.AGREE" } ]

/-- The objects of block 0x15 (LOOP). -/
def objsLoop : List ObjDef :=
  [
    -- AXIS[n].LOOP.POS.DIV (Table 9.7)
    { base := 0x15000001, i0 := 0, n := 12, ty := .u8, cnt := 1, lo := 1, hi := 32, dflt := some [4], only := [1, 2, 4, 8, 16, 32], name := "AXIS[#].LOOP.POS.DIV" },
    -- AXIS[n].LOOP.VEL.DIV (Table 9.7)
    { base := 0x15000002, i0 := 0, n := 12, ty := .u8, cnt := 1, lo := 1, hi := 8, dflt := some [2], only := [1, 2, 4, 8], name := "AXIS[#].LOOP.VEL.DIV" },
    -- AXIS[n].LOOP.PRS.DIV (Table 9.7)
    { base := 0x15000003, i0 := 0, n := 12, ty := .u8, cnt := 1, lo := 1, hi := 32, dflt := some [4], only := [1, 2, 4, 8, 16, 32], name := "AXIS[#].LOOP.PRS.DIV" },
    -- AXIS[n].LOOP.SPD.DIV (Table 9.7)
    { base := 0x15000004, i0 := 0, n := 12, ty := .u8, cnt := 1, lo := 1, hi := 32, dflt := some [4], only := [1, 2, 4, 8, 16, 32], name := "AXIS[#].LOOP.SPD.DIV" },
    -- AXIS[n].LOOP.PHASE (Table 9.7)
    { base := 0x15000005, i0 := 0, n := 12, ty := .u8, cnt := 1, lo := 0, hi := 31, dflt := some [0], name := "AXIS[#].LOOP.PHASE" },
    -- AXIS[n].LOOP.POS.CH (Table 9.7)
    { base := 0x15000010, i0 := 0, n := 12, ty := .u8, cnt := 1, lo := 0, hi := 15, dflt := none, sect := true, req := .steer, name := "AXIS[#].LOOP.POS.CH" },
    -- AXIS[n].LOOP.POS.SCALE (Table 9.7)
    { base := 0x15000011, i0 := 0, n := 12, ty := .q16, cnt := 1, lo := -2147483648, hi := 2147483647, dflt := some [65536], nonzero := true, sect := true, name := "AXIS[#].LOOP.POS.SCALE" },
    -- AXIS[n].LOOP.POS.KFF_V (Table 9.7)
    { base := 0x15000012, i0 := 0, n := 12, ty := .q16, cnt := 1, lo := 0, hi := 131072, dflt := some [65536], name := "AXIS[#].LOOP.POS.KFF_V" },
    -- AXIS[n].LOOP.POS.VLIM (Table 9.7)
    { base := 0x15000013, i0 := 0, n := 12, ty := .q16, cnt := 1, lo := 65536, hi := 32768000, dflt := some [3932160], name := "AXIS[#].LOOP.POS.VLIM" },
    -- AXIS[n].LOOP.VEL.CH (Table 9.7)
    { base := 0x15000014, i0 := 0, n := 12, ty := .u8, cnt := 1, lo := 0, hi := 7, dflt := none, sect := true, req := .steer, name := "AXIS[#].LOOP.VEL.CH" },
    -- AXIS[n].LOOP.VEL.SCALE (Table 9.7)
    { base := 0x15000015, i0 := 0, n := 12, ty := .q16, cnt := 1, lo := -2147483648, hi := 2147483647, dflt := some [66], nonzero := true, sect := true, name := "AXIS[#].LOOP.VEL.SCALE" },
    -- AXIS[n].LOOP.VEL.KFF_A (Table 9.7)
    { base := 0x15000016, i0 := 0, n := 12, ty := .q16, cnt := 1, lo := 0, hi := 655360, dflt := some [0], name := "AXIS[#].LOOP.VEL.KFF_A" },
    -- AXIS[n].LOOP.CUR.AUTO (Table 9.7)
    { base := 0x15000020, i0 := 0, n := 12, ty := .bool, cnt := 1, lo := 0, hi := 1, dflt := some [1], name := "AXIS[#].LOOP.CUR.AUTO" },
    -- AXIS[n].LOOP.CUR.BW (Table 9.7)
    { base := 0x15000021, i0 := 0, n := 12, ty := .u16, cnt := 1, lo := 200, hi := 4000, dflt := some [2000], name := "AXIS[#].LOOP.CUR.BW" },
    -- AXIS[n].LOOP.CUR.DECOUPLE (Table 9.7)
    { base := 0x15000022, i0 := 0, n := 12, ty := .bool, cnt := 1, lo := 0, hi := 1, dflt := some [1], name := "AXIS[#].LOOP.CUR.DECOUPLE" },
    -- AXIS[n].LOOP.CUR.VLIM (Table 9.7)
    { base := 0x15000023, i0 := 0, n := 12, ty := .q16, cnt := 1, lo := 32768, hi := 65536, dflt := some [62259], name := "AXIS[#].LOOP.CUR.VLIM" },
    -- AXIS[n].LOOP.PRS.CH (Table 9.7)
    { base := 0x15000030, i0 := 0, n := 12, ty := .u8, cnt := 1, lo := 8, hi := 15, dflt := some [255], sect := true, also := [255], name := "AXIS[#].LOOP.PRS.CH" },
    -- AXIS[n].LOOP.PRS.FFCURVE (Table 9.7)
    { base := 0x15000031, i0 := 0, n := 12, ty := .u8, cnt := 1, lo := 0, hi := 255, dflt := some [255], name := "AXIS[#].LOOP.PRS.FFCURVE" },
    -- AXIS[n].LOOP.VALVE.BW (Table 9.7)
    { base := 0x15000032, i0 := 0, n := 12, ty := .u16, cnt := 1, lo := 20, hi := 2000, dflt := some [200], name := "AXIS[#].LOOP.VALVE.BW" },
    -- AXIS[n].LOOP.RIPPLE.AMP (Table 9.7)
    { base := 0x15000033, i0 := 0, n := 12, ty := .u16, cnt := 1, lo := 0, hi := 1000, dflt := some [0], name := "AXIS[#].LOOP.RIPPLE.AMP" },
    -- AXIS[n].LOOP.RIPPLE.HALF (Table 9.7)
    { base := 0x15000034, i0 := 0, n := 12, ty := .u16, cnt := 1, lo := 2, hi := 4000, dflt := some [40], name := "AXIS[#].LOOP.RIPPLE.HALF" },
    -- AXIS[n].LOOP.THERM.TAU (Table 9.7)
    { base := 0x15000040, i0 := 0, n := 12, ty := .u16, cnt := 1, lo := 10, hi := 3600, dflt := some [300], name := "AXIS[#].LOOP.THERM.TAU" },
    -- AXIS[n].LOOP.THERM.RISE (Table 9.7)
    { base := 0x15000041, i0 := 0, n := 12, ty := .u8, cnt := 1, lo := 10, hi := 200, dflt := some [80], name := "AXIS[#].LOOP.THERM.RISE" },
    -- AXIS[n].LOOP.THERM.TAMB (Table 9.7)
    { base := 0x15000042, i0 := 0, n := 12, ty := .i8, cnt := 1, lo := -40, hi := 125, dflt := some [60], name := "AXIS[#].LOOP.THERM.TAMB" },
    -- AXIS[n].LOOP.THERM.TAMB.CH (Table 9.7)
    { base := 0x15000043, i0 := 0, n := 12, ty := .u8, cnt := 1, lo := 8, hi := 15, dflt := some [255], sect := true, also := [255], name := "AXIS[#].LOOP.THERM.TAMB.CH" },
    -- AXIS[n].LOOP.THERM.TSTART (Table 9.7)
    { base := 0x15000044, i0 := 0, n := 12, ty := .i16, cnt := 1, lo := 0, hi := 200, dflt := some [120], name := "AXIS[#].LOOP.THERM.TSTART" },
    -- AXIS[n].LOOP.THERM.TEND (Table 9.7)
    { base := 0x15000045, i0 := 0, n := 12, ty := .i16, cnt := 1, lo := 0, hi := 220, dflt := some [150], name := "AXIS[#].LOOP.THERM.TEND" },
    -- AXIS[n].LOOP.THERM.TMAX (Table 9.7)
    { base := 0x15000046, i0 := 0, n := 12, ty := .i16, cnt := 1, lo := 0, hi := 250, dflt := some [160], name := "AXIS[#].LOOP.THERM.TMAX" },
    -- AXIS[n].LOOP.MECH.J (Table 10.4)
    { base := 0x15000050, i0 := 0, n := 12, ty := .q16, cnt := 1, lo := 655, hi := 655360000, dflt := none, req := .motor, name := "AXIS[#].LOOP.MECH.J" },
    -- AXIS[n].LOOP.MECH.B (Table 10.4)
    { base := 0x15000051, i0 := 0, n := 12, ty := .q16, cnt := 1, lo := 0, hi := 655360000, dflt := some [0], name := "AXIS[#].LOOP.MECH.B" },
    -- AXIS[n].LOOP.MECH.LOADBW (Table 10.4)
    { base := 0x15000052, i0 := 0, n := 12, ty := .u16, cnt := 1, lo := 1, hi := 200, dflt := some [20], name := "AXIS[#].LOOP.MECH.LOADBW" },
    -- AXIS[n].LOOP.MECH.LOADMAX (Table 10.4)
    { base := 0x15000053, i0 := 0, n := 12, ty := .q16, cnt := 1, lo := 6554, hi := 65536000, dflt := none, req := .motor, name := "AXIS[#].LOOP.MECH.LOADMAX" },
    -- AXIS[n].LOOP.MECH.KRACK (Table 10.4)
    { base := 0x15000054, i0 := 0, n := 12, ty := .q16, cnt := 1, lo := 0, hi := 65536000, dflt := some [0], name := "AXIS[#].LOOP.MECH.KRACK" },
    -- AXIS[n].LOOP.MIR.EBOUND (Table 10.4)
    { base := 0x15000058, i0 := 0, n := 12, ty := .q16, cnt := 1, lo := 6554, hi := 3276800, dflt := some [131072], name := "AXIS[#].LOOP.MIR.EBOUND" },
    -- AXIS[n].LOOP.MIR.MBOUND (Table 10.4)
    { base := 0x15000059, i0 := 0, n := 12, ty := .q16, cnt := 1, lo := 65536, hi := 327680000, dflt := some [3276800], name := "AXIS[#].LOOP.MIR.MBOUND" },
    -- AXIS[n].LOOP.MIR.FILTER (Table 10.4)
    { base := 0x1500005A, i0 := 0, n := 12, ty := .u8, cnt := 1, lo := 1, hi := 64, dflt := some [4], name := "AXIS[#].LOOP.MIR.FILTER" },
    -- AXIS[n].LOOP.MIR.N (Table 10.4)
    { base := 0x1500005B, i0 := 0, n := 12, ty := .u8, cnt := 1, lo := 1, hi := 255, dflt := some [8], name := "AXIS[#].LOOP.MIR.N" },
    -- AXIS[n].LOOP.MIR.ATTRWIN (Table 10.4)
    { base := 0x1500005C, i0 := 0, n := 12, ty := .u8, cnt := 1, lo := 0, hi := 64, dflt := some [8], name := "AXIS[#].LOOP.MIR.ATTRWIN" },
    -- AXIS[n].LOOP.MIR.TLO (Table 10.4)
    { base := 0x1500005D, i0 := 0, n := 12, ty := .i16, cnt := 1, lo := -40, hi := 200, dflt := some [25], name := "AXIS[#].LOOP.MIR.TLO" },
    -- AXIS[n].LOOP.MIR.THI (Table 10.4)
    { base := 0x1500005E, i0 := 0, n := 12, ty := .i16, cnt := 1, lo := -40, hi := 250, dflt := some [150], name := "AXIS[#].LOOP.MIR.THI" },
    -- AXIS[n].LOOP.MIR.HOTSCALE (Table 10.4)
    { base := 0x1500005F, i0 := 0, n := 12, ty := .q16, cnt := 1, lo := 65536, hi := 196608, dflt := some [98304], name := "AXIS[#].LOOP.MIR.HOTSCALE" },
    -- AXIS[n].LOOP.XCHK.CH (Table 14.5)
    { base := 0x15000060, i0 := 0, n := 12, ty := .u8, cnt := 1, lo := 0, hi := 7, dflt := some [255], also := [255], name := "AXIS[#].LOOP.XCHK.CH" },
    -- AXIS[n].LOOP.XCHK.RATIO (Table 14.5)
    { base := 0x15000061, i0 := 0, n := 12, ty := .q16, cnt := 1, lo := -2147483648, hi := 2147483647, dflt := some [65536], nonzero := true, name := "AXIS[#].LOOP.XCHK.RATIO" },
    -- AXIS[n].LOOP.XCHK.BAND (Table 14.5)
    { base := 0x15000062, i0 := 0, n := 12, ty := .u32, cnt := 1, lo := 1, hi := 100000, dflt := some [500], name := "AXIS[#].LOOP.XCHK.BAND" },
    -- AXIS[n].LOOP.XCHK.TIME (Table 14.5)
    { base := 0x15000063, i0 := 0, n := 12, ty := .u16, cnt := 1, lo := 1, hi := 65535, dflt := some [400], name := "AXIS[#].LOOP.XCHK.TIME" } ]

/-- The objects of block 0x16 (SCHED). -/
def objsSched : List ObjDef :=
  [
    -- AXIS[n].SCHED.k.XVAR (Table 9.8)
    { base := 0x16000101, i0 := 0, n := 12, ty := .u8, cnt := 1, lo := 0, hi := 5, dflt := some [0], stride := 256, reps := 5, name := "AXIS[#].SCHED.$.XVAR" },
    -- AXIS[n].SCHED.k.YVAR (Table 9.8)
    { base := 0x16000102, i0 := 0, n := 12, ty := .u8, cnt := 1, lo := 0, hi := 5, dflt := some [0], stride := 256, reps := 5, name := "AXIS[#].SCHED.$.YVAR" },
    -- AXIS[n].SCHED.k.XBP (Table 9.8)
    { base := 0x16000103, i0 := 0, n := 12, ty := .q16, cnt := 8, lo := -2147483648, hi := 2147483647, dflt := some [0], ascending := true, stride := 256, reps := 5, name := "AXIS[#].SCHED.$.XBP" },
    -- AXIS[n].SCHED.k.YBP (Table 9.8)
    { base := 0x16000104, i0 := 0, n := 12, ty := .q16, cnt := 8, lo := -2147483648, hi := 2147483647, dflt := some [0], ascending := true, stride := 256, reps := 5, name := "AXIS[#].SCHED.$.YBP" },
    -- AXIS[n].SCHED.k.KP (Table 9.8)
    { base := 0x16000105, i0 := 0, n := 12, ty := .q16, cnt := 64, lo := 0, hi := 2147418112, dflt := none, stride := 256, reps := 5, req := .sched, name := "AXIS[#].SCHED.$.KP" },
    -- AXIS[n].SCHED.k.KI (Table 9.8)
    { base := 0x16000106, i0 := 0, n := 12, ty := .q16, cnt := 64, lo := 0, hi := 2147418112, dflt := some [0], stride := 256, reps := 5, name := "AXIS[#].SCHED.$.KI" } ]

/-- The objects of block 0x17 (COMM). -/
def objsComm : List ObjDef :=
  [
    -- AXIS[n].COMM.POLEPAIRS (Table 11.7)
    { base := 0x17000001, i0 := 0, n := 12, ty := .u8, cnt := 1, lo := 1, hi := 32, dflt := none, req := .motor, name := "AXIS[#].COMM.POLEPAIRS" },
    -- AXIS[n].COMM.RES (Table 11.7)
    { base := 0x17000002, i0 := 0, n := 12, ty := .q16, cnt := 1, lo := 65536, hi := 655360000, dflt := none, req := .motor, name := "AXIS[#].COMM.RES" },
    -- AXIS[n].COMM.LD (Table 11.7)
    { base := 0x17000003, i0 := 0, n := 12, ty := .q16, cnt := 1, lo := 65536, hi := 6553600000, dflt := none, req := .motor, name := "AXIS[#].COMM.LD" },
    -- AXIS[n].COMM.LQ (Table 11.7)
    { base := 0x17000004, i0 := 0, n := 12, ty := .q16, cnt := 1, lo := 65536, hi := 6553600000, dflt := none, req := .motor, name := "AXIS[#].COMM.LQ" },
    -- AXIS[n].COMM.PSI (Table 11.7)
    { base := 0x17000005, i0 := 0, n := 12, ty := .q16, cnt := 1, lo := 6554, hi := 65536000, dflt := none, req := .motor, name := "AXIS[#].COMM.PSI" },
    -- AXIS[n].COMM.SOURCE (Table 11.7)
    { base := 0x17000010, i0 := 0, n := 12, ty := .u8, cnt := 1, lo := 0, hi := 4, dflt := none, req := .motor, name := "AXIS[#].COMM.SOURCE" },
    -- AXIS[n].COMM.ANGLE.CH (Table 11.7)
    { base := 0x17000011, i0 := 0, n := 12, ty := .u8, cnt := 1, lo := 0, hi := 7, dflt := some [255], sect := true, also := [255], name := "AXIS[#].COMM.ANGLE.CH" },
    -- AXIS[n].COMM.INIT.CH (Table 11.7)
    { base := 0x17000012, i0 := 0, n := 12, ty := .u8, cnt := 1, lo := 0, hi := 3, dflt := some [255], also := [255], name := "AXIS[#].COMM.INIT.CH" },
    -- AXIS[n].COMM.CPT (Table 11.7)
    { base := 0x17000013, i0 := 0, n := 12, ty := .u32, cnt := 1, lo := 0, hi := 4294967295, dflt := some [0], name := "AXIS[#].COMM.CPT" },
    -- AXIS[n].COMM.DIR (Table 11.7)
    { base := 0x17000014, i0 := 0, n := 12, ty := .u8, cnt := 1, lo := 0, hi := 1, dflt := some [0], name := "AXIS[#].COMM.DIR" },
    -- AXIS[n].COMM.OFFSET (Table 11.7)
    { base := 0x17000015, i0 := 0, n := 12, ty := .u16, cnt := 1, lo := 0, hi := 65535, dflt := some [0], sect := true, name := "AXIS[#].COMM.OFFSET" },
    -- AXIS[n].COMM.OFFSET.CAL (Table 11.7)
    { base := 0x17000016, i0 := 0, n := 12, ty := .bool, cnt := 1, lo := 0, hi := 1, dflt := some [1], name := "AXIS[#].COMM.OFFSET.CAL" },
    -- AXIS[n].COMM.HALL.WINTERP (Table 11.7)
    { base := 0x17000017, i0 := 0, n := 12, ty := .u16, cnt := 1, lo := 0, hi := 20000, dflt := some [300], name := "AXIS[#].COMM.HALL.WINTERP" },
    -- AXIS[n].COMM.ISUM.MAX (Table 11.7)
    { base := 0x17000018, i0 := 0, n := 12, ty := .q16, cnt := 1, lo := 32768, hi := 3276800, dflt := some [196608], name := "AXIS[#].COMM.ISUM.MAX" },
    -- AXIS[n].COMM.PA.FE (Table 11.7)
    { base := 0x17000020, i0 := 0, n := 12, ty := .q16, cnt := 16, lo := 0, hi := 327680000, dflt := some [0], ascending := true, name := "AXIS[#].COMM.PA.FE" },
    -- AXIS[n].COMM.PA.ANGLE (Table 11.7)
    { base := 0x17000021, i0 := 0, n := 12, ty := .q16, cnt := 16, lo := 0, hi := 3932160, dflt := some [0], name := "AXIS[#].COMM.PA.ANGLE" },
    -- AXIS[n].COMM.PA.ID (Table 11.7)
    { base := 0x17000022, i0 := 0, n := 12, ty := .q16, cnt := 16, lo := -13107200, hi := 0, dflt := some [0], name := "AXIS[#].COMM.PA.ID" },
    -- AXIS[n].COMM.OBS.BW (Table 11.7)
    { base := 0x17000030, i0 := 0, n := 12, ty := .u16, cnt := 1, lo := 20, hi := 1000, dflt := some [150], name := "AXIS[#].COMM.OBS.BW" },
    -- AXIS[n].COMM.OBS.WMIN (Table 11.7)
    { base := 0x17000031, i0 := 0, n := 12, ty := .u16, cnt := 1, lo := 10, hi := 5000, dflt := some [200], name := "AXIS[#].COMM.OBS.WMIN" },
    -- AXIS[n].COMM.OBS.LOCKERR (Table 11.7)
    { base := 0x17000032, i0 := 0, n := 12, ty := .u16, cnt := 1, lo := 64, hi := 8192, dflt := some [1820], name := "AXIS[#].COMM.OBS.LOCKERR" },
    -- AXIS[n].COMM.OBS.LOCKN (Table 11.7)
    { base := 0x17000033, i0 := 0, n := 12, ty := .u8, cnt := 1, lo := 1, hi := 64, dflt := some [3], name := "AXIS[#].COMM.OBS.LOCKN" },
    -- AXIS[n].COMM.OBS.ERRMAX (Table 11.7)
    { base := 0x17000034, i0 := 0, n := 12, ty := .u16, cnt := 1, lo := 256, hi := 16384, dflt := some [5461], name := "AXIS[#].COMM.OBS.ERRMAX" },
    -- AXIS[n].COMM.OBS.WDEV (Table 11.7)
    { base := 0x17000035, i0 := 0, n := 12, ty := .u16, cnt := 1, lo := 10, hi := 10000, dflt := some [200], name := "AXIS[#].COMM.OBS.WDEV" },
    -- AXIS[n].COMM.OBS.LOSSN (Table 11.7)
    { base := 0x17000036, i0 := 0, n := 12, ty := .u8, cnt := 1, lo := 1, hi := 16, dflt := some [2], name := "AXIS[#].COMM.OBS.LOSSN" },
    -- AXIS[n].COMM.CARRY.WMIN (Table 11.7)
    { base := 0x17000037, i0 := 0, n := 12, ty := .u16, cnt := 1, lo := 20, hi := 10000, dflt := some [400], name := "AXIS[#].COMM.CARRY.WMIN" },
    -- AXIS[n].COMM.RECATCH.KSHORT (Table 11.7)
    { base := 0x17000038, i0 := 0, n := 12, ty := .q16, cnt := 1, lo := 32768, hi := 65536, dflt := some [58982], name := "AXIS[#].COMM.RECATCH.KSHORT" },
    -- AXIS[n].COMM.BORROW.MAX (Table 11.7)
    { base := 0x17000039, i0 := 0, n := 12, ty := .u16, cnt := 1, lo := 1, hi := 4000, dflt := some [400], name := "AXIS[#].COMM.BORROW.MAX" },
    -- AXIS[n].COMM.PUMP.INPUT (Table 11.7)
    { base := 0x17000040, i0 := 0, n := 12, ty := .u8, cnt := 1, lo := 0, hi := 1, dflt := some [0], name := "AXIS[#].COMM.PUMP.INPUT" },
    -- AXIS[n].COMM.PUMP.CH (Table 11.7)
    { base := 0x17000041, i0 := 0, n := 12, ty := .u8, cnt := 1, lo := 8, hi := 15, dflt := some [255], also := [255], name := "AXIS[#].COMM.PUMP.CH" },
    -- AXIS[n].COMM.PUMP.PTARGET (Table 11.7)
    { base := 0x17000042, i0 := 0, n := 12, ty := .q16, cnt := 1, lo := 0, hi := 26214400, dflt := some [11796480], name := "AXIS[#].COMM.PUMP.PTARGET" },
    -- AXIS[n].COMM.PUMP.ON (Table 11.7)
    { base := 0x17000043, i0 := 0, n := 12, ty := .q16, cnt := 1, lo := 0, hi := 26214400, dflt := some [1310720], name := "AXIS[#].COMM.PUMP.ON" },
    -- AXIS[n].COMM.PUMP.OFF (Table 11.7)
    { base := 0x17000044, i0 := 0, n := 12, ty := .q16, cnt := 1, lo := 0, hi := 26214400, dflt := some [327680], name := "AXIS[#].COMM.PUMP.OFF" },
    -- AXIS[n].COMM.PUMP.CX (Table 11.7)
    { base := 0x17000045, i0 := 0, n := 12, ty := .q16, cnt := 8, lo := -2147483648, hi := 2147483647, dflt := some [0], ascending := true, name := "AXIS[#].COMM.PUMP.CX" },
    -- AXIS[n].COMM.PUMP.CY (Table 11.7)
    { base := 0x17000046, i0 := 0, n := 12, ty := .q16, cnt := 8, lo := 0, hi := 1310720000, dflt := some [0], name := "AXIS[#].COMM.PUMP.CY" },
    -- AXIS[n].COMM.PUMP.SLEW (Table 11.7)
    { base := 0x17000047, i0 := 0, n := 12, ty := .u32, cnt := 1, lo := 100, hi := 1000000, dflt := some [20000], name := "AXIS[#].COMM.PUMP.SLEW" },
    -- AXIS[n].COMM.PUMP.RESTART (Table 11.7)
    { base := 0x17000048, i0 := 0, n := 12, ty := .u16, cnt := 1, lo := 0, hi := 5000, dflt := some [150], name := "AXIS[#].COMM.PUMP.RESTART" },
    -- AXIS[n].COMM.START.ANGLE (Table 11.7)
    { base := 0x17000050, i0 := 0, n := 12, ty := .u16, cnt := 1, lo := 0, hi := 65535, dflt := some [0], name := "AXIS[#].COMM.START.ANGLE" },
    -- AXIS[n].COMM.START.IALIGN (Table 11.7)
    { base := 0x17000051, i0 := 0, n := 12, ty := .q16, cnt := 1, lo := 6554, hi := 13107200, dflt := some [655360], name := "AXIS[#].COMM.START.IALIGN" },
    -- AXIS[n].COMM.START.TALIGN (Table 11.7)
    { base := 0x17000052, i0 := 0, n := 12, ty := .u16, cnt := 1, lo := 40, hi := 40000, dflt := some [2000], name := "AXIS[#].COMM.START.TALIGN" },
    -- AXIS[n].COMM.START.IRAMP (Table 11.7)
    { base := 0x17000053, i0 := 0, n := 12, ty := .q16, cnt := 1, lo := 6554, hi := 13107200, dflt := some [786432], name := "AXIS[#].COMM.START.IRAMP" },
    -- AXIS[n].COMM.START.RAMP (Table 11.7)
    { base := 0x17000054, i0 := 0, n := 12, ty := .u32, cnt := 1, lo := 100, hi := 1000000, dflt := some [6000], name := "AXIS[#].COMM.START.RAMP" },
    -- AXIS[n].COMM.START.WHAND (Table 11.7)
    { base := 0x17000055, i0 := 0, n := 12, ty := .u16, cnt := 1, lo := 20, hi := 10000, dflt := some [300], name := "AXIS[#].COMM.START.WHAND" },
    -- AXIS[n].COMM.START.HANDWIN (Table 11.7)
    { base := 0x17000056, i0 := 0, n := 12, ty := .u16, cnt := 1, lo := 4, hi := 40000, dflt := some [2000], name := "AXIS[#].COMM.START.HANDWIN" },
    -- AXIS[n].COMM.START.RETRY (Table 11.7)
    { base := 0x17000057, i0 := 0, n := 12, ty := .u8, cnt := 1, lo := 1, hi := 10, dflt := some [3], name := "AXIS[#].COMM.START.RETRY" },
    -- AXIS[n].COMM.START.COAST (Table 11.7)
    { base := 0x17000058, i0 := 0, n := 12, ty := .u16, cnt := 1, lo := 40, hi := 40000, dflt := some [8000], name := "AXIS[#].COMM.START.COAST" },
    -- AXIS[n].COMM.HALLPASS (Table 11.7)
    { base := 0x17000060, i0 := 0, n := 12, ty := .bool, cnt := 1, lo := 0, hi := 1, dflt := some [0], name := "AXIS[#].COMM.HALLPASS" },
    -- AXIS[n].COMM.HALLPASS.LIMPDUTY (Table 11.7)
    { base := 0x17000061, i0 := 0, n := 12, ty := .q16, cnt := 1, lo := 0, hi := 65536, dflt := some [19661], name := "AXIS[#].COMM.HALLPASS.LIMPDUTY" } ]

/-- The objects of block 0x18 (CURVE). -/
def objsCurve : List ObjDef :=
  [
    -- CURVE[k].X (Table 14.4)
    { base := 0x18000001, i0 := 0, n := 255, ty := .q16, cnt := 16, lo := -2147483648, hi := 2147483647, dflt := none, ascending := true, req := .curve, name := "CURVE[#].X" },
    -- CURVE[k].Y (Table 14.4)
    { base := 0x18000002, i0 := 0, n := 255, ty := .q16, cnt := 16, lo := -2147483648, hi := 2147483647, dflt := none, req := .curve, name := "CURVE[#].Y" } ]

/-- The objects of block 0x20 (STEER). -/
def objsSteer : List ObjDef :=
  [
    -- STEER[1].TAG[s].KIND (Table 4.9)
    { base := 0x20000030, i0 := 1, n := 1, ty := .u8, cnt := 1, lo := 1, hi := 10, dflt := some [0], also := [0], stride := 16, reps := 3, name := "STEER[1].TAG[%].KIND" },
    -- STEER[1].TAG[s].MAKER (Table 4.9)
    { base := 0x20000031, i0 := 1, n := 1, ty := .u16, cnt := 1, lo := 1, hi := 65535, dflt := some [0], also := [0], stride := 16, reps := 3, name := "STEER[1].TAG[%].MAKER" },
    -- STEER[1].TAG[s].MODEL (Table 4.9)
    { base := 0x20000032, i0 := 1, n := 1, ty := .chr, cnt := 16, lo := 32, hi := 126, dflt := some (List.replicate 16 32), fixed := true, stride := 16, reps := 3, name := "STEER[1].TAG[%].MODEL" },
    -- STEER[1].TAG[s].ADDR (Table 4.9)
    { base := 0x20000033, i0 := 1, n := 1, ty := .u8, cnt := 3, lo := 8, hi := 119, dflt := none, fixed := true, stride := 16, reps := 3, req := .tagKind, name := "STEER[1].TAG[%].ADDR" },
    -- STEER[1].TAG[s].SOURCE (Table 4.9)
    { base := 0x20000034, i0 := 1, n := 1, ty := .u16, cnt := 1, lo := 0, hi := 65535, dflt := some [0], stride := 16, reps := 3, keep := some 0x0FFF, name := "STEER[1].TAG[%].SOURCE" },
    -- STEER[1].TAG[s].CALREQ (Table 4.9)
    { base := 0x20000035, i0 := 1, n := 1, ty := .bool, cnt := 1, lo := 0, hi := 1, dflt := some [0], stride := 16, reps := 3, name := "STEER[1].TAG[%].CALREQ" },
    -- STEER.WHEELBASE (Table 10.4)
    { base := 0x20000010, i0 := 0, n := 1, ty := .u16, cnt := 1, lo := 500, hi := 10000, dflt := some [0], also := [0], name := "STEER.WHEELBASE" },
    -- STEER.OVERRIDE.FEEL (Table 10.4)
    { base := 0x20000020, i0 := 0, n := 1, ty := .u8, cnt := 1, lo := 0, hi := 11, dflt := some [255], also := [255], name := "STEER.OVERRIDE.FEEL" },
    -- STEER.OVERRIDE.TORQUE (Table 10.4)
    { base := 0x20000021, i0 := 0, n := 1, ty := .q16, cnt := 1, lo := 32768, hi := 1310720, dflt := some [196608], name := "STEER.OVERRIDE.TORQUE" },
    -- STEER.OVERRIDE.ANGLE (Table 10.4)
    { base := 0x20000022, i0 := 0, n := 1, ty := .q16, cnt := 1, lo := 65536, hi := 11796480, dflt := some [983040], name := "STEER.OVERRIDE.ANGLE" },
    -- STEER.OVERRIDE.TIME (Table 10.4)
    { base := 0x20000023, i0 := 0, n := 1, ty := .u8, cnt := 1, lo := 1, hi := 200, dflt := some [8], name := "STEER.OVERRIDE.TIME" },
    -- STEER.OVERRIDE.RATE (Table 10.4)
    { base := 0x20000024, i0 := 0, n := 1, ty := .u32, cnt := 1, lo := 1000, hi := 400000, dflt := some [40000], name := "STEER.OVERRIDE.RATE" },
    -- STEER[1].CH (Table 14.4)
    { base := 0x20000001, i0 := 1, n := 1, ty := .u8, cnt := 3, lo := 0, hi := 15, dflt := some [255, 255, 255], fixed := true, also := [255], name := "STEER[1].CH" },
    -- STEER[1].BAND (Table 14.4)
    { base := 0x20000002, i0 := 1, n := 1, ty := .q16, cnt := 1, lo := 1, hi := 2147483647, dflt := some [655360], name := "STEER[1].BAND" },
    -- STEER[1].XTIME (Table 14.4)
    { base := 0x20000003, i0 := 1, n := 1, ty := .u16, cnt := 1, lo := 1, hi := 65535, dflt := some [40], name := "STEER[1].XTIME" },
    -- STEER[1].SCALE (Table 14.4)
    { base := 0x20000004, i0 := 1, n := 1, ty := .q16, cnt := 1, lo := -2147483648, hi := 2147483647, dflt := some [65536], nonzero := true, name := "STEER[1].SCALE" },
    -- STEER[1].OFFSET (Table 14.4)
    { base := 0x20000005, i0 := 1, n := 1, ty := .q16, cnt := 1, lo := -2147483648, hi := 2147483647, dflt := some [0], name := "STEER[1].OFFSET" },
    -- STEER.ANGLE.MAX (Table 14.5)
    { base := 0x20000011, i0 := 0, n := 1, ty := .u32, cnt := 1, lo := 1000, hi := 90000, dflt := some [45000], name := "STEER.ANGLE.MAX" },
    -- STEER.FRONT (Table 14.5)
    { base := 0x20000012, i0 := 0, n := 1, ty := .u8, cnt := 1, lo := 0, hi := 11, dflt := some [255], also := [255], name := "STEER.FRONT" },
    -- STEER.RATIO.CURVE (Table 14.5)
    { base := 0x20000013, i0 := 0, n := 1, ty := .u8, cnt := 1, lo := 0, hi := 255, dflt := some [255], name := "STEER.RATIO.CURVE" },
    -- STEER.GUIDE.KMAX.CURVE (Table 14.5)
    { base := 0x20000030, i0 := 0, n := 1, ty := .u8, cnt := 1, lo := 0, hi := 255, dflt := some [255], name := "STEER.GUIDE.KMAX.CURVE" },
    -- STEER.GUIDE.KRATE.CURVE (Table 14.5)
    { base := 0x20000031, i0 := 0, n := 1, ty := .u8, cnt := 1, lo := 0, hi := 255, dflt := some [255], name := "STEER.GUIDE.KRATE.CURVE" },
    -- STEER.GUIDE.TIMEOUT (Table 14.5)
    { base := 0x20000032, i0 := 0, n := 1, ty := .u16, cnt := 1, lo := 400, hi := 40000, dflt := some [12000], name := "STEER.GUIDE.TIMEOUT" },
    -- STEER.GUIDE.SIGN (Table 14.5)
    { base := 0x20000033, i0 := 0, n := 1, ty := .u8, cnt := 1, lo := 0, hi := 1, dflt := some [0], name := "STEER.GUIDE.SIGN" },
    -- STEER.FEEL.KRACK (Table 14.5)
    { base := 0x20000040, i0 := 0, n := 1, ty := .q16, cnt := 1, lo := 0, hi := 655360, dflt := some [13107], name := "STEER.FEEL.KRACK" },
    -- STEER.FEEL.DAMP (Table 14.5)
    { base := 0x20000041, i0 := 0, n := 1, ty := .q16, cnt := 1, lo := 0, hi := 65536, dflt := some [328], name := "STEER.FEEL.DAMP" },
    -- STEER.FEEL.KEND (Table 14.5)
    { base := 0x20000042, i0 := 0, n := 1, ty := .q16, cnt := 1, lo := 0, hi := 655360, dflt := some [32768], name := "STEER.FEEL.KEND" },
    -- STEER.FEEL.TMAX (Table 14.5)
    { base := 0x20000043, i0 := 0, n := 1, ty := .q16, cnt := 1, lo := 32768, hi := 1966080, dflt := some [524288], name := "STEER.FEEL.TMAX" } ]

/-- The objects of block 0x21 (BRAKE). -/
def objsBrake : List ObjDef :=
  [
    -- BRAKE[i].TAG[s].KIND (Table 4.9)
    { base := 0x21000030, i0 := 1, n := 7, ty := .u8, cnt := 1, lo := 1, hi := 10, dflt := some [0], also := [0], stride := 16, reps := 3, name := "BRAKE[#].TAG[%].KIND" },
    -- BRAKE[i].TAG[s].MAKER (Table 4.9)
    { base := 0x21000031, i0 := 1, n := 7, ty := .u16, cnt := 1, lo := 1, hi := 65535, dflt := some [0], also := [0], stride := 16, reps := 3, name := "BRAKE[#].TAG[%].MAKER" },
    -- BRAKE[i].TAG[s].MODEL (Table 4.9)
    { base := 0x21000032, i0 := 1, n := 7, ty := .chr, cnt := 16, lo := 32, hi := 126, dflt := some (List.replicate 16 32), fixed := true, stride := 16, reps := 3, name := "BRAKE[#].TAG[%].MODEL" },
    -- BRAKE[i].TAG[s].ADDR (Table 4.9)
    { base := 0x21000033, i0 := 1, n := 7, ty := .u8, cnt := 3, lo := 8, hi := 119, dflt := none, fixed := true, stride := 16, reps := 3, req := .tagKind, name := "BRAKE[#].TAG[%].ADDR" },
    -- BRAKE[i].TAG[s].SOURCE (Table 4.9)
    { base := 0x21000034, i0 := 1, n := 7, ty := .u16, cnt := 1, lo := 0, hi := 65535, dflt := some [0], stride := 16, reps := 3, keep := some 0x0FFF, name := "BRAKE[#].TAG[%].SOURCE" },
    -- BRAKE[i].TAG[s].CALREQ (Table 4.9)
    { base := 0x21000035, i0 := 1, n := 7, ty := .bool, cnt := 1, lo := 0, hi := 1, dflt := some [0], stride := 16, reps := 3, name := "BRAKE[#].TAG[%].CALREQ" },
    -- BRAKE[i].CH (Table 14.4)
    { base := 0x21000001, i0 := 1, n := 7, ty := .u8, cnt := 3, lo := 0, hi := 15, dflt := some [255, 255, 255], fixed := true, also := [255], name := "BRAKE[#].CH" },
    -- BRAKE[i].BAND (Table 14.4)
    { base := 0x21000002, i0 := 1, n := 7, ty := .q16, cnt := 1, lo := 1, hi := 2147483647, dflt := some [655360], name := "BRAKE[#].BAND" },
    -- BRAKE[i].XTIME (Table 14.4)
    { base := 0x21000003, i0 := 1, n := 7, ty := .u16, cnt := 1, lo := 1, hi := 65535, dflt := some [40], name := "BRAKE[#].XTIME" },
    -- BRAKE[i].SCALE (Table 14.4)
    { base := 0x21000004, i0 := 1, n := 7, ty := .q16, cnt := 1, lo := -2147483648, hi := 2147483647, dflt := some [65536], nonzero := true, name := "BRAKE[#].SCALE" },
    -- BRAKE[i].OFFSET (Table 14.4)
    { base := 0x21000005, i0 := 1, n := 7, ty := .q16, cnt := 1, lo := -2147483648, hi := 2147483647, dflt := some [0], name := "BRAKE[#].OFFSET" },
    -- BRAKE[i].CIRC (Table 14.4)
    { base := 0x21000010, i0 := 4, n := 4, ty := .u16, cnt := 1, lo := 500, hi := 10000, dflt := none, req := .wheelCh, name := "BRAKE[#].CIRC" },
    -- BRAKE.VALVE.LEFT (Table 14.6)
    { base := 0x21000001, i0 := 0, n := 1, ty := .u8, cnt := 1, lo := 0, hi := 11, dflt := some [255], also := [255], name := "BRAKE.VALVE.LEFT" },
    -- BRAKE.VALVE.RIGHT (Table 14.6)
    { base := 0x21000002, i0 := 0, n := 1, ty := .u8, cnt := 1, lo := 0, hi := 11, dflt := some [255], also := [255], name := "BRAKE.VALVE.RIGHT" },
    -- BRAKE.VALVE.TRAILER (Table 14.6)
    { base := 0x21000003, i0 := 0, n := 1, ty := .u8, cnt := 1, lo := 0, hi := 11, dflt := some [255], also := [255], name := "BRAKE.VALVE.TRAILER" },
    -- BRAKE.PARK (Table 14.6)
    { base := 0x21000004, i0 := 0, n := 1, ty := .u8, cnt := 1, lo := 0, hi := 11, dflt := some [255], also := [255], name := "BRAKE.PARK" },
    -- BRAKE.PUMP (Table 14.6)
    { base := 0x21000005, i0 := 0, n := 1, ty := .u8, cnt := 1, lo := 0, hi := 11, dflt := some [255], also := [255], name := "BRAKE.PUMP" },
    -- BRAKE.PEDAL.CURVE (Table 14.6)
    { base := 0x21000006, i0 := 0, n := 1, ty := .u8, cnt := 1, lo := 0, hi := 255, dflt := some [255], name := "BRAKE.PEDAL.CURVE" },
    -- BRAKE.TRAILER.CURVE (Table 14.6)
    { base := 0x21000007, i0 := 0, n := 1, ty := .u8, cnt := 1, lo := 0, hi := 255, dflt := some [255], name := "BRAKE.TRAILER.CURVE" },
    -- BRAKE.SPLIT.VMAX (Table 14.6)
    { base := 0x21000008, i0 := 0, n := 1, ty := .q16, cnt := 1, lo := 0, hi := 3932160, dflt := some [983040], name := "BRAKE.SPLIT.VMAX" },
    -- BRAKE.KDECEL (Table 14.6)
    { base := 0x21000009, i0 := 0, n := 1, ty := .q16, cnt := 1, lo := 65536, hi := 13107200, dflt := some [1310720], name := "BRAKE.KDECEL" },
    -- BRAKE.PRS.BAND (Table 14.6)
    { base := 0x21000010, i0 := 0, n := 1, ty := .q16, cnt := 1, lo := 65536, hi := 6553600, dflt := some [983040], name := "BRAKE.PRS.BAND" },
    -- BRAKE.PRS.TIME (Table 14.6)
    { base := 0x21000011, i0 := 0, n := 1, ty := .u16, cnt := 1, lo := 40, hi := 65535, dflt := some [8000], name := "BRAKE.PRS.TIME" },
    -- BRAKE.ACC.PLOW (Table 14.6)
    { base := 0x21000012, i0 := 0, n := 1, ty := .q16, cnt := 1, lo := 0, hi := 26214400, dflt := some [6553600], name := "BRAKE.ACC.PLOW" },
    -- BRAKE.PARK.PMIN (Table 14.6)
    { base := 0x21000020, i0 := 0, n := 1, ty := .q16, cnt := 1, lo := 0, hi := 26214400, dflt := some [7864320], name := "BRAKE.PARK.PMIN" },
    -- BRAKE.PARK.IREL (Table 14.6)
    { base := 0x21000021, i0 := 0, n := 1, ty := .u16, cnt := 1, lo := 50, hi := 10000, dflt := some [1200], name := "BRAKE.PARK.IREL" },
    -- BRAKE.PARK.VAPPLY (Table 14.6)
    { base := 0x21000022, i0 := 0, n := 1, ty := .q16, cnt := 1, lo := 32768, hi := 655360, dflt := some [131072], name := "BRAKE.PARK.VAPPLY" },
    -- BRAKE.PARK.DECEL (Table 14.6)
    { base := 0x21000023, i0 := 0, n := 1, ty := .q16, cnt := 1, lo := 32768, hi := 327680, dflt := some [98304], name := "BRAKE.PARK.DECEL" },
    -- BRAKE.SLIP.MAX (Table 14.6)
    { base := 0x21000030, i0 := 0, n := 1, ty := .q16, cnt := 1, lo := 3277, hi := 58982, dflt := some [13107], name := "BRAKE.SLIP.MAX" },
    -- BRAKE.SLIP.HYST (Table 14.6)
    { base := 0x21000031, i0 := 0, n := 1, ty := .q16, cnt := 1, lo := 655, hi := 32768, dflt := some [3277], name := "BRAKE.SLIP.HYST" },
    -- BRAKE.SLIP.VMIN (Table 14.6)
    { base := 0x21000032, i0 := 0, n := 1, ty := .q16, cnt := 1, lo := 32768, hi := 1310720, dflt := some [196608], name := "BRAKE.SLIP.VMIN" },
    -- BRAKE.SLIP.STEP (Table 14.6)
    { base := 0x21000033, i0 := 0, n := 1, ty := .q16, cnt := 1, lo := 32768, hi := 3276800, dflt := some [327680], name := "BRAKE.SLIP.STEP" },
    -- BRAKE.SLIP.RISE (Table 14.6)
    { base := 0x21000034, i0 := 0, n := 1, ty := .q16, cnt := 1, lo := 65536, hi := 327680000, dflt := some [13107200], name := "BRAKE.SLIP.RISE" },
    -- BRAKE.SPEED.CANBAND (Table 14.6)
    { base := 0x21000035, i0 := 0, n := 1, ty := .q16, cnt := 1, lo := 6554, hi := 655360, dflt := some [65536], name := "BRAKE.SPEED.CANBAND" },
    -- BRAKE.SPEED.CANTIME (Table 14.6)
    { base := 0x21000036, i0 := 0, n := 1, ty := .u16, cnt := 1, lo := 40, hi := 65535, dflt := some [4000], name := "BRAKE.SPEED.CANTIME" } ]

/-- The objects of block 0x30 (FAULT). -/
def objsFault : List ObjDef :=
  [
    -- FAULT.ESCALATE (Table 15.10)
    { base := 0x30000001, i0 := 0, n := 1, ty := .bool, cnt := 1, lo := 0, hi := 1, dflt := some [1], name := "FAULT.ESCALATE" },
    -- FAULT.COLLECTOR_DIRECT (Table 15.10)
    { base := 0x30000002, i0 := 0, n := 1, ty := .bool, cnt := 1, lo := 0, hi := 1, dflt := some [0], name := "FAULT.COLLECTOR_DIRECT" },
    -- FAULT.ANNEAL.TIME (Table 15.10)
    { base := 0x30000003, i0 := 0, n := 1, ty := .u32, cnt := 1, lo := 4000, hi := 4000000, dflt := some [80000], name := "FAULT.ANNEAL.TIME" },
    -- FAULT.ANNEAL.CLASSMAX (Table 15.10)
    { base := 0x30000004, i0 := 0, n := 1, ty := .u8, cnt := 1, lo := 0, hi := 15, dflt := some [3], name := "FAULT.ANNEAL.CLASSMAX" },
    -- FAULT.ANNEAL.TOTALMAX (Table 15.10)
    { base := 0x30000005, i0 := 0, n := 1, ty := .u8, cnt := 1, lo := 0, hi := 63, dflt := some [8], name := "FAULT.ANNEAL.TOTALMAX" },
    -- FAULT.CLASS[c].ANNEAL (Table 15.10)
    { base := 0x30000010, i0 := 0, n := 16, ty := .bool, cnt := 1, lo := 0, hi := 1, dflt := some [1], name := "FAULT.CLASS[#].ANNEAL" },
    -- FAULT.STOP.DECEL (Table 15.10)
    { base := 0x30000020, i0 := 0, n := 1, ty := .q16, cnt := 1, lo := 32768, hi := 327680, dflt := some [131072], name := "FAULT.STOP.DECEL" },
    -- FAULT.STOP.THOLD (Table 15.10)
    { base := 0x30000021, i0 := 0, n := 1, ty := .u16, cnt := 1, lo := 0, hi := 600, dflt := some [30], name := "FAULT.STOP.THOLD" },
    -- FAULT.STOP.TMAX (Table 15.10)
    { base := 0x30000022, i0 := 0, n := 1, ty := .u16, cnt := 1, lo := 5, hi := 120, dflt := some [20], name := "FAULT.STOP.TMAX" },
    -- FAULT.STOP.DISAGREE (Table 15.10)
    { base := 0x30000023, i0 := 0, n := 1, ty := .u16, cnt := 1, lo := 40, hi := 65535, dflt := some [4000], name := "FAULT.STOP.DISAGREE" } ]

/-- The objects of block 0x31 (SAFETY). -/
def objsSafety : List ObjDef :=
  [
    -- SAFETY[k].AGPL (Table 16.3)
    { base := 0x31000001, i0 := 1, n := 7, ty := .u8, cnt := 1, lo := 0, hi := 5, dflt := some [0], name := "SAFETY[#].AGPL" },
    -- SAFETY[k].TMAX (Table 16.3)
    { base := 0x31000002, i0 := 1, n := 7, ty := .u16, cnt := 1, lo := 1, hi := 65535, dflt := some [0], also := [0], name := "SAFETY[#].TMAX" } ]

/-- The objects of block 0x40 (FABRIC). -/
def objsFabric : List ObjDef :=
  [
    -- FABRIC.TOPO.KIND (Table 17.12)
    { base := 0x40000001, i0 := 0, n := 1, ty := .u8, cnt := 1, lo := 0, hi := 1, dflt := some [0], name := "FABRIC.TOPO.KIND" },
    -- FABRIC.TOPO.ORDER (Table 17.12)
    { base := 0x40000002, i0 := 0, n := 1, ty := .u8, cnt := 62, lo := 0, hi := 255, dflt := none, req := .nodeId, name := "FABRIC.TOPO.ORDER" },
    -- FABRIC.TOPO.SEAL (Table 17.12)
    { base := 0x40000003, i0 := 0, n := 1, ty := .u32, cnt := 62, lo := 0, hi := 4294967295, dflt := some [0], name := "FABRIC.TOPO.SEAL" },
    -- FABRIC.PORT.ROLE (Table 17.12)
    { base := 0x40000004, i0 := 0, n := 1, ty := .u8, cnt := 1, lo := 0, hi := 255, dflt := some [2], sect := true, keep := some 0x03, name := "FABRIC.PORT.ROLE" },
    -- FABRIC.ERR.LIMIT (Table 17.12)
    { base := 0x40000005, i0 := 0, n := 1, ty := .u16, cnt := 1, lo := 0, hi := 65535, dflt := some [100], name := "FABRIC.ERR.LIMIT" },
    -- FABRIC.PUB (Table 18.7)
    { base := 0x40000010, i0 := 0, n := 1, ty := .u32, cnt := 14, lo := 0, hi := 4294967295, dflt := some [1, 2, 3], name := "FABRIC.PUB" },
    -- FABRIC.LEAD.SUB (Table 18.7)
    { base := 0x40000011, i0 := 0, n := 1, ty := .u8, cnt := 1, lo := 0, hi := 15, dflt := some [255], also := [255], name := "FABRIC.LEAD.SUB" },
    -- FABRIC.CAR.RANK (Table 18.7)
    { base := 0x40000012, i0 := 0, n := 1, ty := .u8, cnt := 1, lo := 1, hi := 255, dflt := some [0], also := [0], name := "FABRIC.CAR.RANK" },
    -- FABRIC.CAR.DEMAND.SUB (Table 18.7)
    { base := 0x40000013, i0 := 0, n := 1, ty := .u8, cnt := 1, lo := 0, hi := 15, dflt := some [255], also := [255], name := "FABRIC.CAR.DEMAND.SUB" },
    -- FABRIC.SUB[j].SIG (Table 18.7)
    { base := 0x40000100, i0 := 0, n := 1, ty := .u32, cnt := 1, lo := 0, hi := 4294967295, dflt := some [0], stride := 16, reps := 16, name := "FABRIC.SUB[%].SIG" },
    -- FABRIC.SUB[j].MAXAGE (Table 18.7)
    { base := 0x40000101, i0 := 0, n := 1, ty := .u16, cnt := 1, lo := 1, hi := 4000, dflt := some [8], stride := 16, reps := 16, name := "FABRIC.SUB[%].MAXAGE" },
    -- FABRIC.SUB[j].BAND (Table 18.7)
    { base := 0x40000102, i0 := 0, n := 1, ty := .q16, cnt := 1, lo := 1, hi := 2147483647, dflt := some [65536], stride := 16, reps := 16, name := "FABRIC.SUB[%].BAND" },
    -- FABRIC.SUB[j].RULE (Table 18.7)
    { base := 0x40000103, i0 := 0, n := 1, ty := .u8, cnt := 1, lo := 0, hi := 1, dflt := some [0], stride := 16, reps := 16, name := "FABRIC.SUB[%].RULE" },
    -- FABRIC.COMMIT[k].MODE (Table 18.7)
    { base := 0x40000010, i0 := 1, n := 2, ty := .u8, cnt := 1, lo := 0, hi := 1, dflt := some [0], name := "FABRIC.COMMIT[#].MODE" },
    -- FABRIC.COMMIT[k].RETRY (Table 18.7)
    { base := 0x40000011, i0 := 1, n := 2, ty := .u8, cnt := 1, lo := 1, hi := 16, dflt := some [3], name := "FABRIC.COMMIT[#].RETRY" },
    -- FABRIC.COMMIT[k].STEP (Table 18.7)
    { base := 0x40000012, i0 := 1, n := 2, ty := .q16, cnt := 1, lo := 0, hi := 65536000, dflt := some [32768], name := "FABRIC.COMMIT[#].STEP" },
    -- FABRIC.COMMIT[k].REFRESH (Table 18.7)
    { base := 0x40000013, i0 := 1, n := 2, ty := .u16, cnt := 1, lo := 4, hi := 4000, dflt := some [40], name := "FABRIC.COMMIT[#].REFRESH" },
    -- FABRIC.COMMIT[k].HOLD (Table 18.7)
    { base := 0x40000014, i0 := 1, n := 2, ty := .u16, cnt := 1, lo := 8, hi := 40000, dflt := some [200], name := "FABRIC.COMMIT[#].HOLD" },
    -- FABRIC.COMMIT[k].FALLBACK (Table 18.7)
    { base := 0x40000015, i0 := 1, n := 2, ty := .q16, cnt := 1, lo := 0, hi := 26214400, dflt := some [0], name := "FABRIC.COMMIT[#].FALLBACK" },
    -- FABRIC.COMMIT[k].PART[i].NODE (Table 18.7)
    { base := 0x40000100, i0 := 1, n := 2, ty := .u8, cnt := 1, lo := 1, hi := 62, dflt := some [0], also := [0], stride := 16, reps := 16, name := "FABRIC.COMMIT[#].PART[%].NODE" },
    -- FABRIC.COMMIT[k].PART[i].AXIS (Table 18.7)
    { base := 0x40000101, i0 := 1, n := 2, ty := .u8, cnt := 1, lo := 0, hi := 11, dflt := some [0], stride := 16, reps := 16, name := "FABRIC.COMMIT[#].PART[%].AXIS" },
    -- FABRIC.COMMIT[k].PART[i].GAIN (Table 18.7)
    { base := 0x40000102, i0 := 1, n := 2, ty := .q16, cnt := 1, lo := -262144, hi := 262144, dflt := some [65536], stride := 16, reps := 16, name := "FABRIC.COMMIT[#].PART[%].GAIN" },
    -- FABRIC.COMMIT[k].PART[i].LIMIT (Table 18.7)
    { base := 0x40000103, i0 := 1, n := 2, ty := .q16, cnt := 1, lo := 1, hi := 2147483647, dflt := none, stride := 16, reps := 16, req := .partNode, name := "FABRIC.COMMIT[#].PART[%].LIMIT" },
    -- FABRIC.COMMIT[k].PART[i].WEIGHT (Table 18.7)
    { base := 0x40000104, i0 := 1, n := 2, ty := .q16, cnt := 1, lo := 1, hi := 2147483647, dflt := some [65536], stride := 16, reps := 16, name := "FABRIC.COMMIT[#].PART[%].WEIGHT" } ]

/-- The objects of block 0x41 (CAN). -/
def objsCan : List ObjDef :=
  [
    -- CAN[c].MODE (Table 19.9)
    { base := 0x41000001, i0 := 0, n := 2, ty := .u8, cnt := 1, lo := 0, hi := 2, dflt := some [0], sect := true, name := "CAN[#].MODE" },
    -- CAN[c].NBR (Table 19.9)
    { base := 0x41000002, i0 := 0, n := 2, ty := .u16, cnt := 1, lo := 125, hi := 1000, dflt := some [250], sect := true, only := [125, 250, 500, 1000], name := "CAN[#].NBR" },
    -- CAN[c].DBR (Table 19.9)
    { base := 0x41000003, i0 := 0, n := 2, ty := .u16, cnt := 1, lo := 0, hi := 5000, dflt := some [0], sect := true, only := [0, 1000, 2000, 3000, 4000, 5000], name := "CAN[#].DBR" },
    -- CAN[c].NSP (Table 19.9)
    { base := 0x41000004, i0 := 0, n := 2, ty := .u16, cnt := 1, lo := 600, hi := 900, dflt := some [875], sect := true, name := "CAN[#].NSP" },
    -- CAN[c].DSP (Table 19.9)
    { base := 0x41000005, i0 := 0, n := 2, ty := .u16, cnt := 1, lo := 600, hi := 900, dflt := some [750], sect := true, name := "CAN[#].DSP" },
    -- CAN[c].ADDR (Table 19.9)
    { base := 0x41000006, i0 := 0, n := 2, ty := .u8, cnt := 1, lo := 0, hi := 253, dflt := some [128], sect := true, name := "CAN[#].ADDR" },
    -- CAN[c].NAME.MANUF (Table 19.9)
    { base := 0x41000010, i0 := 0, n := 2, ty := .u16, cnt := 1, lo := 0, hi := 2047, dflt := none, sect := true, req := .isobus, name := "CAN[#].NAME.MANUF" },
    -- CAN[c].NAME.FUNCTION (Table 19.9)
    { base := 0x41000011, i0 := 0, n := 2, ty := .u8, cnt := 1, lo := 0, hi := 255, dflt := some [0], sect := true, name := "CAN[#].NAME.FUNCTION" },
    -- CAN[c].NAME.FUNCINST (Table 19.9)
    { base := 0x41000012, i0 := 0, n := 2, ty := .u8, cnt := 1, lo := 0, hi := 31, dflt := some [0], sect := true, name := "CAN[#].NAME.FUNCINST" },
    -- CAN[c].NAME.ECUINST (Table 19.9)
    { base := 0x41000013, i0 := 0, n := 2, ty := .u8, cnt := 1, lo := 0, hi := 7, dflt := some [0], sect := true, name := "CAN[#].NAME.ECUINST" },
    -- CAN[c].NAME.CLASS (Table 19.9)
    { base := 0x41000014, i0 := 0, n := 2, ty := .u8, cnt := 1, lo := 0, hi := 127, dflt := some [0], sect := true, name := "CAN[#].NAME.CLASS" },
    -- CAN[c].NAME.CLASSINST (Table 19.9)
    { base := 0x41000015, i0 := 0, n := 2, ty := .u8, cnt := 1, lo := 0, hi := 15, dflt := some [0], sect := true, name := "CAN[#].NAME.CLASSINST" } ]

/-- The objects of block 0x42 (STEPIN). -/
def objsStepin : List ObjDef :=
  [
    -- STEPIN.AXIS (Table 8.5)
    { base := 0x42000001, i0 := 0, n := 1, ty := .u8, cnt := 1, lo := 0, hi := 11, dflt := some [255], sect := true, also := [255], name := "STEPIN.AXIS" },
    -- STEPIN.SIZE (Table 8.5)
    { base := 0x42000002, i0 := 0, n := 1, ty := .i32, cnt := 1, lo := -100000, hi := 100000, dflt := some [1], nonzero := true, sect := true, name := "STEPIN.SIZE" },
    -- STEPIN.EDGE (Table 8.5)
    { base := 0x42000003, i0 := 0, n := 1, ty := .u8, cnt := 1, lo := 0, hi := 1, dflt := some [0], sect := true, name := "STEPIN.EDGE" },
    -- STEPIN.DIRPOL (Table 8.5)
    { base := 0x42000004, i0 := 0, n := 1, ty := .u8, cnt := 1, lo := 0, hi := 1, dflt := some [0], sect := true, name := "STEPIN.DIRPOL" },
    -- STEPIN.TFIRST (Table 8.5)
    { base := 0x42000005, i0 := 0, n := 1, ty := .u16, cnt := 1, lo := 1, hi := 4000, dflt := some [8], sect := true, name := "STEPIN.TFIRST" },
    -- STEPIN.FAST_LIMIT (Table 8.5)
    { base := 0x42000006, i0 := 0, n := 1, ty := .u16, cnt := 1, lo := 0, hi := 65535, dflt := some [100], sect := true, name := "STEPIN.FAST_LIMIT" },
    -- STEPIN.LAGMAX (Table 8.5)
    { base := 0x42000007, i0 := 0, n := 1, ty := .u32, cnt := 1, lo := 1, hi := 1000000, dflt := some [1000], sect := true, name := "STEPIN.LAGMAX" } ]

/-- The objects of block 0x50 (RECORD). -/
def objsRecord : List ObjDef :=
  [
    -- RECORD[s].SOURCE (Table 20.9)
    { base := 0x50000001, i0 := 0, n := 256, ty := .u32, cnt := 1, lo := 0, hi := 4294967295, dflt := some [0], name := "RECORD[#].SOURCE" },
    -- RECORD[s].LANE (Table 20.9)
    { base := 0x50000002, i0 := 0, n := 256, ty := .u8, cnt := 1, lo := 0, hi := 2, dflt := some [0], name := "RECORD[#].LANE" },
    -- RECORD[s].DIV (Table 20.9)
    { base := 0x50000003, i0 := 0, n := 256, ty := .u16, cnt := 1, lo := 1, hi := 4096, dflt := some [40], name := "RECORD[#].DIV" } ]

/-- The objects of block 0x60 (JOB). -/
def objsJob : List ObjDef :=
  [
    -- JOB[2].END.IPCT (Table 20.4)
    { base := 0x60000001, i0 := 2, n := 1, ty := .u8, cnt := 1, lo := 5, hi := 50, dflt := some [20], name := "JOB[2].END.IPCT" },
    -- JOB[2].END.VSEEK (Table 20.4)
    { base := 0x60000002, i0 := 2, n := 1, ty := .u32, cnt := 1, lo := 100, hi := 20000, dflt := some [2000], name := "JOB[2].END.VSEEK" },
    -- JOB[3].PEDAL.TIME (Table 20.4)
    { base := 0x60000001, i0 := 3, n := 1, ty := .u32, cnt := 1, lo := 40000, hi := 1200000, dflt := some [400000], name := "JOB[3].PEDAL.TIME" },
    -- JOB[4].VALVE.POINTS (Table 20.4)
    { base := 0x60000001, i0 := 4, n := 1, ty := .u8, cnt := 1, lo := 2, hi := 8, dflt := some [8], name := "JOB[4].VALVE.POINTS" },
    -- JOB[4].VALVE.SETTLE (Table 20.4)
    { base := 0x60000002, i0 := 4, n := 1, ty := .u16, cnt := 1, lo := 400, hi := 40000, dflt := some [8000], name := "JOB[4].VALVE.SETTLE" },
    -- JOB[5].BRIDGE.IALIGN (Table 20.4)
    { base := 0x60000001, i0 := 5, n := 1, ty := .q16, cnt := 1, lo := 32768, hi := 6553600, dflt := some [655360], name := "JOB[5].BRIDGE.IALIGN" },
    -- JOB[7].SOURCE (Table 20.4)
    { base := 0x60000001, i0 := 7, n := 1, ty := .u8, cnt := 1, lo := 1, hi := 62, dflt := some [0], also := [0], name := "JOB[7].SOURCE" },
    -- JOB[7].ORDER (Table 20.4)
    { base := 0x60000002, i0 := 7, n := 1, ty := .u8, cnt := 1, lo := 0, hi := 2, dflt := some [0], name := "JOB[7].ORDER" },
    -- JOB[7].JOINMAX (Table 20.4)
    { base := 0x60000003, i0 := 7, n := 1, ty := .u32, cnt := 1, lo := 40000, hi := 2400000, dflt := some [400000], name := "JOB[7].JOINMAX" },
    -- JOB[8].SEAL (Table 20.4)
    { base := 0x60000001, i0 := 8, n := 1, ty := .u32, cnt := 1, lo := 0, hi := 4294967295, dflt := some [0], name := "JOB[8].SEAL" },
    -- JOB[9].AREA (Table 20.4)
    { base := 0x60000001, i0 := 9, n := 1, ty := .u8, cnt := 1, lo := 0, hi := 1, dflt := some [0], name := "JOB[9].AREA" },
    -- JOB[9].WINDOW (Table 20.4)
    { base := 0x60000002, i0 := 9, n := 1, ty := .u8, cnt := 1, lo := 0, hi := 255, dflt := some [0], name := "JOB[9].WINDOW" },
    -- JOB[9].CURSOR (Table 20.4)
    { base := 0x60000003, i0 := 9, n := 1, ty := .u32, cnt := 1, lo := 0, hi := 4294967295, dflt := some [0], name := "JOB[9].CURSOR" } ]

/-- The objects of a block (Table 4.4); unlisted blocks are reserved. -/
def objsOfBlock : Nat → List ObjDef
  | 0x01 => objsTick
  | 0x02 => objsLane
  | 0x03 => objsLease
  | 0x10 => objsAxis
  | 0x11 => objsLeg
  | 0x12 => objsGate
  | 0x13 => objsFeedback
  | 0x14 => objsProfile
  | 0x15 => objsLoop
  | 0x16 => objsSched
  | 0x17 => objsComm
  | 0x18 => objsCurve
  | 0x20 => objsSteer
  | 0x21 => objsBrake
  | 0x30 => objsFault
  | 0x31 => objsSafety
  | 0x40 => objsFabric
  | 0x41 => objsCan
  | 0x42 => objsStepin
  | 0x50 => objsRecord
  | 0x60 => objsJob
  | _ => []

/-- Whether an object ID is an instance of a row: the instance byte and the field index lie within the row's bounds (R99). -/
def ObjDef.matches (o : ObjDef) (id : Nat) : Bool :=
  let inst := id / 0x10000 % 0x100
  let field := id % 0x10000
  let f0 := o.base % 0x10000
  id / 0x1000000 == o.base / 0x1000000 && o.i0 ≤ inst && inst < o.i0 + o.n && f0 ≤ field &&
    (if o.stride = 0 then field == f0 else (field - f0) % o.stride == 0 && (field - f0) / o.stride < o.reps)

/-- The row of an object ID, where the firmware knows it (R97). -/
def objDef? (id : Nat) : Option ObjDef := (objsOfBlock (id / 0x1000000)).find? (·.matches id)

/-- The default of FAULT.CLASS[c].ANNEAL, class by class (Table 15.1). -/
def annealDefault (c : Nat) : Int := if c = 1 ∨ c = 2 ∨ c = 9 ∨ c = 13 ∨ c = 14 then 0 else 1

/-- The default of the BAND of a sensor instance (Table 14.4): hand-wheel, pedals, park lever, wheels. -/
def bandDefault (block inst : Nat) : Int :=
  if block = 0x20 then 655360 else if inst ≤ 2 then 327680 else if inst = 3 then 32768 else 131072

/-- The default elements of an object (R98), with the defaults that depend on the instance. -/
def objDefault (id : Nat) : Option (List Int) :=
  match objDef? id with
  | none => none
  | some o =>
    let inst := id / 0x10000 % 0x100
    if o.base = 0x30000010 then some [annealDefault inst]
    else if o.base = 0x20000002 ∨ o.base = 0x21000002 then some [bandDefault (id / 0x1000000) inst]
    else if o.base = 0x40000010 ∧ inst = 1 then some [1]
    else o.dflt

end Sys2Proof.Machine
end

