-- ==== Sys2Proof/Machine/Numeric.lean ====
section
/-! DEFINITION. The part's arithmetic: rounding, saturation, Q16.16 and Q32.16 products (R236 to R238), medians, byte order (R5), angles. -/

namespace Sys2Proof.Machine

/-- A value limited to a range. -/
def clampI (lo hi x : Int) : Int := if x < lo then lo else if hi < x then hi else x

/-- A quotient rounded to the nearest whole number, ties away from zero; 0 for a divisor of 0 (R237's rounding). -/
def roundDiv (n d : Int) : Int :=
  if d = 0 then 0
  else
    let q := (2 * n.natAbs + d.natAbs) / (2 * d.natAbs)
    if (n < 0) = (d < 0) then (q : Int) else -(q : Int)

/-- A quotient rounded to the nearest whole number, exact halves towards zero (R36's rounding of d and Ehat). -/
def roundDivTowardsZero (n d : Int) : Int :=
  if d = 0 then 0
  else
    let q := (2 * n.natAbs + d.natAbs - 1) / (2 * d.natAbs)
    if (n < 0) = (d < 0) then (q : Int) else -(q : Int)

/-- Saturation to the 48-bit format of R237, ±(2^47 − 1) LSB. -/
def sat48 (x : Int) : Int := clampI (-(2 ^ 47 - 1)) (2 ^ 47 - 1) x

/-- Saturation to Q16.16: −32,768 to +32,767.99998 (R237). -/
def satQ (x : Int) : Q := clampI (-(2 ^ 31)) (2 ^ 31 - 1) x

/-- Saturation to int32. -/
def satI32 (x : Int) : Int := clampI (-(2 ^ 31)) (2 ^ 31 - 1) x

/-- A gain times a signal, formed exactly and rounded once to Q32.16 (R237). -/
def mulQ (a b : Q) : Q := sat48 (roundDiv (a * b) 65536)

/-- A sum in the 48-bit format (R237). -/
def addQ (a b : Q) : Q := sat48 (a + b)

/-- A Q16.16 quotient, rounded once; 0 for a divisor of 0. -/
def divQ (a b : Q) : Q := sat48 (roundDiv (a * 65536) b)

/-- A whole number as Q16.16. -/
def ofIntQ (n : Int) : Q := n * 65536

/-- Magnitude as an integer. -/
def absI (x : Int) : Int := if x < 0 then -x else x

/-- The larger of two integers. -/
def maxI (a b : Int) : Int := if a < b then b else a

/-- The smaller of two integers. -/
def minI (a b : Int) : Int := if b < a then b else a

/-- The sign: −1, 0 or 1. -/
def signI (x : Int) : Int := if x < 0 then -1 else if x = 0 then 0 else 1

/-- A count that saturates at a bound. -/
def satInc (bound n : Nat) : Nat := if n < bound then n + 1 else bound

/-- Insertion into an ascending list. -/
def insertAsc (x : Int) : List Int → List Int
  | [] => [x]
  | y :: ys => if x ≤ y then x :: y :: ys else y :: insertAsc x ys

/-- A list in ascending order. -/
def sortAsc : List Int → List Int
  | [] => []
  | x :: xs => insertAsc x (sortAsc xs)

/-- Twice the median of a list: the middle value doubled, or the sum of the two middle values; 0 for none. -/
def median2 (xs : List Int) : Int :=
  let s := sortAsc xs
  let n := s.length
  if n = 0 then 0
  else if n % 2 = 1 then 2 * s.getD (n / 2) 0
  else s.getD (n / 2 - 1) 0 + s.getD (n / 2) 0

/-- Sum of a list of integers. -/
def sumI (xs : List Int) : Int := xs.foldl (· + ·) 0

/-- Largest value of a list, at least `d`. -/
def maxOf (d : Int) (xs : List Int) : Int := xs.foldl maxI d

/-- The number of true entries. -/
def countTrue (xs : List Bool) : Nat := (xs.filter id).length

/-- Bit `i` of a natural number. -/
def bitN (n i : Nat) : Bool := n.testBit i

/-- A natural number's bits [hi:lo]. -/
def bitsN (n hi lo : Nat) : Nat := n / 2 ^ lo % 2 ^ (hi + 1 - lo)

/-- 1 for true. -/
def b2n (b : Bool) : Nat := if b then 1 else 0

/-- 1 for true, as an integer. -/
def b2i (b : Bool) : Int := if b then 1 else 0

/-- A two's complement value of a number of bits. -/
def toSigned (bits n : Nat) : Int :=
  let m := n % 2 ^ bits
  if m < 2 ^ (bits - 1) then (m : Int) else (m : Int) - 2 ^ bits

/-- The field of a number of bits that carries an integer modulo its size. -/
def toField (bits : Nat) (x : Int) : Nat := (x % (2 ^ bits : Int)).toNat

/-- A byte of a natural number, modulo 256. -/
def byteOf (n : Nat) : Byte := BitVec.ofNat 8 n

/-- A value in `k` bytes, most significant first (R5). -/
def beBytes : Nat → Nat → List Byte
  | 0, _ => []
  | k + 1, v => byteOf (v / 256 ^ k) :: beBytes k v

/-- A value in `k` bytes, least significant first (R5, CAN). -/
def leBytes : Nat → Nat → List Byte
  | 0, _ => []
  | k + 1, v => byteOf v :: leBytes k (v / 256)

/-- The value of bytes stored most significant first. -/
def beNat (bs : List Byte) : Nat := bs.foldl (fun a b => a * 256 + b.toNat) 0

/-- The value of bytes stored least significant first. -/
def leNat : List Byte → Nat
  | [] => 0
  | b :: bs => b.toNat + 256 * leNat bs

/-- `n` bytes of a list from an offset. -/
def slice (bs : List Byte) (off n : Nat) : List Byte := (bs.drop off).take n

/-- π in units of 2^−40. -/
def piScaled : Int := 3454217652358

/-- The sine of an angle below an eighth turn, both in units of 2^−40 (radians in), by its series to the 13th power. -/
def sinSmall (x : Int) : Int :=
  let sq := roundDiv (x * x) (2 ^ 40)
  let m (a b : Int) : Int := roundDiv (a * b) (2 ^ 40)
  let one : Int := 2 ^ 40
  m x (one - m (roundDiv sq 6) (one - m (roundDiv sq 20) (one - m (roundDiv sq 42) (one - m (roundDiv sq 72)
    (one - m (roundDiv sq 110) (one - roundDiv sq 156))))))

/-- The cosine of an angle below an eighth turn, both in units of 2^−40, by its series to the 12th power. -/
def cosSmall (x : Int) : Int :=
  let sq := roundDiv (x * x) (2 ^ 40)
  let m (a b : Int) : Int := roundDiv (a * b) (2 ^ 40)
  let one : Int := 2 ^ 40
  one - m (roundDiv sq 2) (one - m (roundDiv sq 12) (one - m (roundDiv sq 30) (one - m (roundDiv sq 56)
    (one - m (roundDiv sq 90) (one - roundDiv sq 132)))))

/-- The sine of an angle in 1/65,536 turn, in units of 2^−40. -/
def sinTurn (a : Int) : Int :=
  let k := (a % 65536).toNat
  let rad (n : Nat) : Int := roundDiv ((n : Int) * piScaled) 32768
  if k < 8192 then sinSmall (rad k)
  else if k < 16384 then cosSmall (rad (16384 - k))
  else if k < 24576 then cosSmall (rad (k - 16384))
  else if k < 32768 then sinSmall (rad (32768 - k))
  else if k < 40960 then -(sinSmall (rad (k - 32768)))
  else if k < 49152 then -(cosSmall (rad (49152 - k)))
  else if k < 57344 then -(cosSmall (rad (k - 49152)))
  else -(sinSmall (rad (65536 - k)))

/-- The cosine of an angle in 1/65,536 turn, in units of 2^−40. -/
def cosTurn (a : Int) : Int := sinTurn (a + 16384)

/-- A Q16.16 value times a factor in units of 2^−40, rounded once. -/
def mulTrig (q : Q) (t : Int) : Q := sat48 (roundDiv (q * t) (2 ^ 40))

/-- The integer part of a square root, by halving an interval `k` times. -/
def isqrtIter (n : Nat) : Nat → Nat → Nat → Nat
  | 0, lo, _ => lo
  | k + 1, lo, hi =>
    let mid := (lo + hi + 1) / 2
    if mid * mid ≤ n then isqrtIter n k mid hi else isqrtIter n k lo (mid - 1)

/-- The difference of two angles in 1/65,536 turn, wrapped to −32,768 to 32,767. -/
def wrapTurn (x : Int) : Int := toSigned 16 (toField 16 x)

/-- The arctangent of `y / x` for 0 ≤ y ≤ x, in 1/65,536 turn, by a search over the angle: the largest angle
below an eighth turn whose tangent does not exceed it. -/
def atanSearch (y x : Int) : Nat → Int → Int
  | 0, a => a
  | k + 1, a =>
    let t := a + 2 ^ k
    if t ≤ 8192 ∧ sinTurn t * x ≤ cosTurn t * y then atanSearch y x k t else atanSearch y x k a

/-- The angle of the vector (x, y), in 1/65,536 turn, 0 to 65,535; 0 for the zero vector. -/
def atan2Turn (y x : Int) : Int :=
  let ay := absI y
  let ax := absI x
  let first : Int := if ay ≤ ax then atanSearch ay ax 14 0 else 16384 - atanSearch ax ay 14 0
  if x = 0 ∧ y = 0 then 0
  else if 0 ≤ x ∧ 0 ≤ y then first % 65536
  else if x < 0 ∧ 0 ≤ y then (32768 - first) % 65536
  else if x < 0 then (32768 + first) % 65536
  else (65536 - first) % 65536

/-- Linear interpolation between two points, rounded once. -/
def lerp (x0 y0 x1 y1 x : Int) : Int := if x1 = x0 then y0 else y0 + roundDiv ((y1 - y0) * (x - x0)) (x1 - x0)

/-- Interpolation in a table of ascending X with matching Y, clamped at both ends; 0 for an empty table. -/
def interp : List Int → List Int → Int → Int
  | [], _, _ => 0
  | _, [], _ => 0
  | [_], y :: _, _ => y
  | _ :: _ :: _, [y], _ => y
  | x0 :: x1 :: xs, y0 :: y1 :: ys, x =>
    if x ≤ x0 then y0
    else if x < x1 then lerp x0 y0 x1 y1 x
    else interp (x1 :: xs) (y1 :: ys) x

end Sys2Proof.Machine
end

