-- ==== Sys2Proof/Machine/StatusDefs.lean ====
section
/-! DEFINITION. The status objects of block 0x70: field, repetition, element size and count, as the status tables of the chapters state them (R99). -/

namespace Sys2Proof.Machine

/-- What the instance byte of a status object holds. -/
inductive StKind where | node | lane | axis
deriving DecidableEq, Repr

/-- One row of a status table. -/
structure StDef where
  /-- Instance. -/
  kind : StKind
  /-- First field. -/
  f0 : Nat
  /-- Distance of repeated fields; 0 for none. -/
  stride : Nat := 0
  /-- Number of repetitions. -/
  reps : Nat := 1
  /-- Bytes of an element. -/
  size : Nat
  /-- Elements. -/
  cnt : Nat := 1
  /-- The bits of an element that are not reserved, where some are; 0 where none is (R6). -/
  used : Nat := 0
  /-- The symbolic name (R7), with the marks of ObjDef.name. -/
  name : String
  /-- The first index. -/
  k0 : Nat := 0
deriving DecidableEq, Repr

/-- The status objects of chapter 1. -/
def status01 : List StDef := [
  -- STATUS.SERVICE
  { kind := .node, f0 := 0x0001, size := 1, name := "STATUS.SERVICE" },
  -- STATUS.LANE[l].STATE
  { kind := .lane, f0 := 0x0002, size := 1, name := "STATUS.LANE[#].STATE" },
  -- STATUS.AXIS[n].LEVEL
  { kind := .axis, f0 := 0x0003, size := 1, name := "STATUS.AXIS[#].LEVEL" },
  -- STATUS.AXIS[n].ROLE
  { kind := .axis, f0 := 0x0004, size := 1, used := 0x3f, name := "STATUS.AXIS[#].ROLE" },
  -- STATUS.AXIS[n].EPOCH
  { kind := .axis, f0 := 0x0005, size := 2, name := "STATUS.AXIS[#].EPOCH" } ]

/-- The status objects of chapter 2. -/
def status02 : List StDef := [
  -- STATUS.LANE[l].TICK.COUNT
  { kind := .lane, f0 := 0x0010, size := 8, name := "STATUS.LANE[#].TICK.COUNT" },
  -- STATUS.LANE[l].TICK.FABRIC
  { kind := .lane, f0 := 0x0011, size := 6, name := "STATUS.LANE[#].TICK.FABRIC" },
  -- STATUS.LANE[l].TICK.SOURCE
  { kind := .lane, f0 := 0x0012, size := 1, name := "STATUS.LANE[#].TICK.SOURCE" },
  -- STATUS.LANE[l].TICK.SYNCSTATE
  { kind := .lane, f0 := 0x0013, size := 1, used := 0x1f, name := "STATUS.LANE[#].TICK.SYNCSTATE" },
  -- STATUS.LANE[l].TICK.ERROR
  { kind := .lane, f0 := 0x0014, size := 2, name := "STATUS.LANE[#].TICK.ERROR" },
  -- STATUS.LANE[l].TICK.OFFSET
  { kind := .lane, f0 := 0x0015, size := 2, name := "STATUS.LANE[#].TICK.OFFSET" },
  -- STATUS.LANE[l].TICK.CORR
  { kind := .lane, f0 := 0x0016, size := 1, name := "STATUS.LANE[#].TICK.CORR" },
  -- STATUS.LANE[l].TICK.LOAD
  { kind := .lane, f0 := 0x0017, size := 1, name := "STATUS.LANE[#].TICK.LOAD" },
  -- STATUS.LANE[l].TICK.LOADMAX
  { kind := .lane, f0 := 0x0018, size := 1, name := "STATUS.LANE[#].TICK.LOADMAX" },
  -- STATUS.LANE[l].TICK.LOADCALC
  { kind := .lane, f0 := 0x0019, size := 1, name := "STATUS.LANE[#].TICK.LOADCALC" } ]

/-- The status objects of chapter 3. -/
def status03 : List StDef := [
  -- STATUS.LANE[l].START.CAUSE
  { kind := .lane, f0 := 0x0020, size := 1, name := "STATUS.LANE[#].START.CAUSE" },
  -- STATUS.LANE[l].START.SLOT
  { kind := .lane, f0 := 0x0021, size := 1, name := "STATUS.LANE[#].START.SLOT" },
  -- STATUS.LANE[l].START.TIME
  { kind := .lane, f0 := 0x0022, size := 4, name := "STATUS.LANE[#].START.TIME" },
  -- STATUS.LANE[l].START.ENTRY
  { kind := .lane, f0 := 0x0023, size := 1, name := "STATUS.LANE[#].START.ENTRY" },
  -- STATUS.LANE[l].INPUTS
  { kind := .lane, f0 := 0x0024, size := 1, used := 0x3f, name := "STATUS.LANE[#].INPUTS" },
  -- STATUS.LANE[l].WAIT
  { kind := .lane, f0 := 0x0025, size := 1, name := "STATUS.LANE[#].WAIT" } ]

/-- The status objects of chapter 4. -/
def status04 : List StDef := [
  -- STATUS.LANE[l].SEAL.COMPUTED
  { kind := .lane, f0 := 0x0030, size := 4, name := "STATUS.LANE[#].SEAL.COMPUTED" },
  -- STATUS.LANE[l].SEAL.CONFIRMED
  { kind := .lane, f0 := 0x0031, size := 4, name := "STATUS.LANE[#].SEAL.CONFIRMED" },
  -- STATUS.LANE[l].IMAGE.STATE
  { kind := .lane, f0 := 0x0032, size := 1, used := 0x1f, name := "STATUS.LANE[#].IMAGE.STATE" },
  -- STATUS.LANE[l].IMAGE.CAUSE
  { kind := .lane, f0 := 0x0033, size := 2, name := "STATUS.LANE[#].IMAGE.CAUSE" },
  -- STATUS.LANE[l].IMAGE.FORMAT
  { kind := .lane, f0 := 0x0034, size := 2, name := "STATUS.LANE[#].IMAGE.FORMAT" },
  -- STATUS.LANE[l].STEPPING
  { kind := .lane, f0 := 0x0035, size := 1, name := "STATUS.LANE[#].STEPPING" },
  -- STATUS.LANE[l].FIRMWARE
  { kind := .lane, f0 := 0x0036, size := 4, name := "STATUS.LANE[#].FIRMWARE" },
  -- STATUS.AXIS[n].TAG[l]
  { kind := .axis, f0 := 0x0038, stride := 1, reps := 3, size := 1, name := "STATUS.AXIS[#].TAG[%]" } ]

/-- The status objects of chapter 5. -/
def status05 : List StDef := [
  -- STATUS.AXIS[n].COUNTER[l]
  { kind := .axis, f0 := 0x0040, stride := 1, reps := 3, size := 1, name := "STATUS.AXIS[#].COUNTER[%]" },
  -- STATUS.AXIS[n].SILENCE
  { kind := .axis, f0 := 0x0043, size := 1, name := "STATUS.AXIS[#].SILENCE" },
  -- STATUS.AXIS[n].SHADOW.DIFF
  { kind := .axis, f0 := 0x0044, size := 4, name := "STATUS.AXIS[#].SHADOW.DIFF" },
  -- STATUS.AXIS[n].HANDOVER
  { kind := .axis, f0 := 0x0045, size := 2, used := 0x3ff, name := "STATUS.AXIS[#].HANDOVER" },
  -- STATUS.AXIS[n].ROTATE.DUE
  { kind := .axis, f0 := 0x0046, size := 4, name := "STATUS.AXIS[#].ROTATE.DUE" },
  -- STATUS.LANE[l].HEALTH
  { kind := .lane, f0 := 0x0050, size := 4, name := "STATUS.LANE[#].HEALTH" },
  -- STATUS.LANE[l].MARVER.COUNT
  { kind := .lane, f0 := 0x0051, size := 2, name := "STATUS.LANE[#].MARVER.COUNT" },
  -- STATUS.LANE[l].MARVER.TIME
  { kind := .lane, f0 := 0x0052, size := 2, name := "STATUS.LANE[#].MARVER.TIME" },
  -- STATUS.LANE[l].WITNESS
  { kind := .lane, f0 := 0x0053, size := 1, used := 0x0f, name := "STATUS.LANE[#].WITNESS" } ]

/-- The status objects of chapter 6. -/
def status06 : List StDef := [
  -- STATUS.AXIS[n].SHARE
  { kind := .axis, f0 := 0x0060, size := 1, used := 0xf, name := "STATUS.AXIS[#].SHARE" },
  -- STATUS.AXIS[n].IREF[l]
  { kind := .axis, f0 := 0x0061, stride := 1, reps := 3, size := 4, name := "STATUS.AXIS[#].IREF[%]" },
  -- STATUS.AXIS[n].FOLLOWCHG
  { kind := .axis, f0 := 0x0064, size := 2, name := "STATUS.AXIS[#].FOLLOWCHG" },
  -- STATUS.LANE[l].LEG.ENABLE
  { kind := .lane, f0 := 0x0068, size := 2, name := "STATUS.LANE[#].LEG.ENABLE" } ]

/-- The status objects of chapter 7. -/
def status07 : List StDef := [
  -- STATUS.LANE[l].FBK[c].POS
  { kind := .lane, f0 := 0x0100, stride := 16, reps := 16, size := 4, name := "STATUS.LANE[#].FBK[%].POS" },
  -- STATUS.LANE[l].FBK[c].SPEED
  { kind := .lane, f0 := 0x0101, stride := 16, reps := 16, size := 4, name := "STATUS.LANE[#].FBK[%].SPEED" },
  -- STATUS.LANE[l].FBK[c].SPEED.WINDOW
  { kind := .lane, f0 := 0x0102, stride := 16, reps := 16, size := 4, name := "STATUS.LANE[#].FBK[%].SPEED.WINDOW" },
  -- STATUS.LANE[l].FBK[c].SPEED.INTERVAL
  { kind := .lane, f0 := 0x0103, stride := 16, reps := 16, size := 4, name := "STATUS.LANE[#].FBK[%].SPEED.INTERVAL" },
  -- STATUS.LANE[l].FBK[c].FLAGS
  { kind := .lane, f0 := 0x0104, stride := 16, reps := 16, size := 2, used := 0x1ff, name := "STATUS.LANE[#].FBK[%].FLAGS" },
  -- STATUS.LANE[l].FBK[c].FASTSUM
  { kind := .lane, f0 := 0x0105, stride := 16, reps := 16, size := 2, name := "STATUS.LANE[#].FBK[%].FASTSUM" },
  -- STATUS.LANE[l].FBK[c].DOUBLESUM
  { kind := .lane, f0 := 0x0106, stride := 16, reps := 16, size := 2, name := "STATUS.LANE[#].FBK[%].DOUBLESUM" },
  -- STATUS.LANE[l].FBK[c].UNCERT
  { kind := .lane, f0 := 0x0107, stride := 16, reps := 16, size := 2, name := "STATUS.LANE[#].FBK[%].UNCERT" },
  -- STATUS.LANE[l].FBK[c].REFDIFF
  { kind := .lane, f0 := 0x0108, stride := 16, reps := 16, size := 2, name := "STATUS.LANE[#].FBK[%].REFDIFF" },
  -- STATUS.LANE[l].FBK[c].AMPSQ
  { kind := .lane, f0 := 0x0109, stride := 16, reps := 16, size := 4, name := "STATUS.LANE[#].FBK[%].AMPSQ" } ]

/-- The status objects of chapter 8. -/
def status08 : List StDef := [
  -- STATUS.AXIS[n].PROFILE.POS
  { kind := .axis, f0 := 0x0080, size := 4, name := "STATUS.AXIS[#].PROFILE.POS" },
  -- STATUS.AXIS[n].PROFILE.SPEED
  { kind := .axis, f0 := 0x0081, size := 4, name := "STATUS.AXIS[#].PROFILE.SPEED" },
  -- STATUS.AXIS[n].PROFILE.ACCEL
  { kind := .axis, f0 := 0x0082, size := 4, name := "STATUS.AXIS[#].PROFILE.ACCEL" },
  -- STATUS.AXIS[n].PROFILE.TARGET
  { kind := .axis, f0 := 0x0083, size := 4, name := "STATUS.AXIS[#].PROFILE.TARGET" },
  -- STATUS.AXIS[n].PROFILE.REMAIN
  { kind := .axis, f0 := 0x0084, size := 4, name := "STATUS.AXIS[#].PROFILE.REMAIN" },
  -- STATUS.AXIS[n].PROFILE.STATE
  { kind := .axis, f0 := 0x0085, size := 2, used := 0x3fff, name := "STATUS.AXIS[#].PROFILE.STATE" },
  -- STATUS.AXIS[n].PROFILE.DMAX
  { kind := .axis, f0 := 0x0086, size := 4, name := "STATUS.AXIS[#].PROFILE.DMAX" },
  -- STATUS.AXIS[n].PROFILE.ILIMIT
  { kind := .axis, f0 := 0x0087, size := 4, name := "STATUS.AXIS[#].PROFILE.ILIMIT" },
  -- STATUS.AXIS[n].PROFILE.LASTREQ
  { kind := .axis, f0 := 0x0088, size := 1, used := 0x7f, name := "STATUS.AXIS[#].PROFILE.LASTREQ" },
  -- STATUS.AXIS[n].PROFILE.STEPSUM
  { kind := .axis, f0 := 0x0089, size := 4, name := "STATUS.AXIS[#].PROFILE.STEPSUM" } ]

/-- The status objects of chapter 9. -/
def status09 : List StDef := [
  -- STATUS.AXIS[n].LOOP.SAT
  { kind := .axis, f0 := 0x00A0, size := 2, used := 0x3ff, name := "STATUS.AXIS[#].LOOP.SAT" },
  -- STATUS.AXIS[n].LOOP.ILIM
  { kind := .axis, f0 := 0x00A1, size := 4, name := "STATUS.AXIS[#].LOOP.ILIM" },
  -- STATUS.AXIS[n].LOOP.ILIMSRC
  { kind := .axis, f0 := 0x00A2, size := 1, name := "STATUS.AXIS[#].LOOP.ILIMSRC" },
  -- STATUS.AXIS[n].LOOP.TEMP[l]
  { kind := .axis, f0 := 0x00A3, stride := 1, reps := 3, size := 2, name := "STATUS.AXIS[#].LOOP.TEMP[%]" },
  -- STATUS.AXIS[n].LOOP.SETPOINT
  { kind := .axis, f0 := 0x00A6, size := 4, name := "STATUS.AXIS[#].LOOP.SETPOINT" },
  -- STATUS.AXIS[n].LOOP.VQ
  { kind := .axis, f0 := 0x00A7, size := 4, name := "STATUS.AXIS[#].LOOP.VQ" },
  -- STATUS.AXIS[n].LOOP.VD
  { kind := .axis, f0 := 0x00A8, size := 4, name := "STATUS.AXIS[#].LOOP.VD" },
  -- STATUS.AXIS[n].LOOP.KP
  { kind := .axis, f0 := 0x00A9, size := 4, name := "STATUS.AXIS[#].LOOP.KP" },
  -- STATUS.AXIS[n].LOOP.KI
  { kind := .axis, f0 := 0x00AA, size := 4, name := "STATUS.AXIS[#].LOOP.KI" },
  -- STATUS.LANE[l].ENGINE.TIME
  { kind := .lane, f0 := 0x0070, size := 2, name := "STATUS.LANE[#].ENGINE.TIME" },
  -- STATUS.LANE[l].ENGINE.MAX
  { kind := .lane, f0 := 0x0071, size := 2, name := "STATUS.LANE[#].ENGINE.MAX" },
  -- STATUS.LANE[l].ENGINE.CALC
  { kind := .lane, f0 := 0x0072, size := 2, name := "STATUS.LANE[#].ENGINE.CALC" },
  -- STATUS.LANE[l].ENGINE.PHASE
  { kind := .lane, f0 := 0x0073, size := 1, name := "STATUS.LANE[#].ENGINE.PHASE" } ]

/-- The status objects of chapter 10. -/
def status10 : List StDef := [
  -- STATUS.AXIS[n].MODE
  { kind := .axis, f0 := 0x00B0, size := 2, used := 0x7ff, name := "STATUS.AXIS[#].MODE" },
  -- STATUS.AXIS[n].MIR.E[l]
  { kind := .axis, f0 := 0x00B1, stride := 1, reps := 3, size := 4, name := "STATUS.AXIS[#].MIR.E[%]" },
  -- STATUS.AXIS[n].MIR.M[l]
  { kind := .axis, f0 := 0x00B4, stride := 1, reps := 3, size := 4, name := "STATUS.AXIS[#].MIR.M[%]" },
  -- STATUS.AXIS[n].LOAD
  { kind := .axis, f0 := 0x00B7, size := 4, name := "STATUS.AXIS[#].LOAD" },
  -- STATUS.AXIS[n].RACK
  { kind := .axis, f0 := 0x00B8, size := 4, name := "STATUS.AXIS[#].RACK" },
  -- STATUS.AXIS[n].BLEND
  { kind := .axis, f0 := 0x00B9, size := 4, name := "STATUS.AXIS[#].BLEND" },
  -- STATUS.AXIS[n].OBLEND
  { kind := .axis, f0 := 0x00BA, size := 4, name := "STATUS.AXIS[#].OBLEND" },
  -- STATUS.AXIS[n].MIR.SCALE
  { kind := .axis, f0 := 0x00BB, size := 4, name := "STATUS.AXIS[#].MIR.SCALE" } ]

/-- The status objects of chapter 11. -/
def status11 : List StDef := [
  -- STATUS.AXIS[n].COMM.STATE[l]
  { kind := .axis, f0 := 0x00C0, stride := 1, reps := 3, size := 2, used := 0x1ff, name := "STATUS.AXIS[#].COMM.STATE[%]" },
  -- STATUS.AXIS[n].COMM.ANGLE[l]
  { kind := .axis, f0 := 0x00C3, stride := 1, reps := 3, size := 2, name := "STATUS.AXIS[#].COMM.ANGLE[%]" },
  -- STATUS.AXIS[n].COMM.OBSERR[l]
  { kind := .axis, f0 := 0x00C6, stride := 1, reps := 3, size := 2, name := "STATUS.AXIS[#].COMM.OBSERR[%]" },
  -- STATUS.AXIS[n].COMM.ADVANCE
  { kind := .axis, f0 := 0x00C9, size := 4, name := "STATUS.AXIS[#].COMM.ADVANCE" },
  -- STATUS.AXIS[n].COMM.IDREF
  { kind := .axis, f0 := 0x00CA, size := 4, name := "STATUS.AXIS[#].COMM.IDREF" },
  -- STATUS.AXIS[n].COMM.PUMPSET
  { kind := .axis, f0 := 0x00CB, size := 4, name := "STATUS.AXIS[#].COMM.PUMPSET" },
  -- STATUS.AXIS[n].COMM.STARTS
  { kind := .axis, f0 := 0x00CC, size := 2, name := "STATUS.AXIS[#].COMM.STARTS" } ]

/-- The status objects of chapter 12. -/
def status12 : List StDef := [
  -- STATUS.AXIS[n].PWM.STATE
  { kind := .axis, f0 := 0x00D0, size := 2, used := 0xff, name := "STATUS.AXIS[#].PWM.STATE" },
  -- STATUS.AXIS[n].PWM.LENGTH
  { kind := .axis, f0 := 0x00D1, size := 4, name := "STATUS.AXIS[#].PWM.LENGTH" },
  -- STATUS.LANE[l].LEG[ll].DUTY
  { kind := .lane, f0 := 0x0200, stride := 16, reps := 16, size := 4, used := 0xffffff, name := "STATUS.LANE[#].LEG[@].DUTY" },
  -- STATUS.LANE[l].LEG[ll].LATE
  { kind := .lane, f0 := 0x0201, stride := 16, reps := 16, size := 2, name := "STATUS.LANE[#].LEG[@].LATE" },
  -- STATUS.LANE[l].LEG[ll].MISMATCH
  { kind := .lane, f0 := 0x0202, stride := 16, reps := 16, size := 2, name := "STATUS.LANE[#].LEG[@].MISMATCH" },
  -- STATUS.LANE[l].LEG[ll].SHOOT
  { kind := .lane, f0 := 0x0203, stride := 16, reps := 16, size := 2, name := "STATUS.LANE[#].LEG[@].SHOOT" },
  -- STATUS.LANE[l].LEG[ll].EVSAMPLE
  { kind := .lane, f0 := 0x0204, stride := 16, reps := 16, size := 4, name := "STATUS.LANE[#].LEG[@].EVSAMPLE" },
  -- STATUS.LANE[l].PWM.EVCOUNT[k]
  { kind := .lane, f0 := 0x0300, stride := 1, reps := 8, size := 4, name := "STATUS.LANE[#].PWM.EVCOUNT[%]" },
  -- STATUS.LANE[l].PWM.PASSCAP[k]
  { kind := .lane, f0 := 0x0308, stride := 1, reps := 8, size := 4, cnt := 2, name := "STATUS.LANE[#].PWM.PASSCAP[%]" },
  -- STATUS.LANE[l].PWM.DEBUG
  { kind := .lane, f0 := 0x0074, size := 1, used := 0x3, name := "STATUS.LANE[#].PWM.DEBUG" } ]

/-- The status objects of chapter 13. -/
def status13 : List StDef := [
  -- STATUS.LANE[l].LEG[ll].STEP
  { kind := .lane, f0 := 0x0205, stride := 16, reps := 16, size := 1, name := "STATUS.LANE[#].LEG[@].STEP" },
  -- STATUS.LANE[l].LEG[ll].TSW
  { kind := .lane, f0 := 0x0206, stride := 16, reps := 16, size := 4, name := "STATUS.LANE[#].LEG[@].TSW" },
  -- STATUS.LANE[l].LEG[ll].SUPPLY
  { kind := .lane, f0 := 0x0207, stride := 16, reps := 16, size := 1, used := 0x7, name := "STATUS.LANE[#].LEG[@].SUPPLY" },
  -- STATUS.LANE[l].LEG[ll].VHS
  { kind := .lane, f0 := 0x0208, stride := 16, reps := 16, size := 2, name := "STATUS.LANE[#].LEG[@].VHS" },
  -- STATUS.LANE[l].LEG[ll].TRIP
  { kind := .lane, f0 := 0x0209, stride := 16, reps := 16, size := 1, used := 0x1f, name := "STATUS.LANE[#].LEG[@].TRIP" },
  -- STATUS.AXIS[n].GATE.HOLD
  { kind := .axis, f0 := 0x00E0, size := 1, used := 0x7, name := "STATUS.AXIS[#].GATE.HOLD" },
  -- STATUS.LANE[l].BUS.V
  { kind := .lane, f0 := 0x0075, size := 4, name := "STATUS.LANE[#].BUS.V" },
  -- STATUS.LANE[l].BUS.STATE
  { kind := .lane, f0 := 0x0076, size := 1, used := 0x7f, name := "STATUS.LANE[#].BUS.STATE" },
  -- STATUS.LANE[l].BUS.ICHOP
  { kind := .lane, f0 := 0x0077, size := 4, name := "STATUS.LANE[#].BUS.ICHOP" } ]

/-- The status objects of chapter 14. -/
def status14 : List StDef := [
  -- STATUS.LANE[l].SPEED
  { kind := .lane, f0 := 0x0400, size := 4, name := "STATUS.LANE[#].SPEED" },
  -- STATUS.LANE[l].CHASSIS
  { kind := .lane, f0 := 0x0401, size := 2, used := 0x7fff, name := "STATUS.LANE[#].CHASSIS" },
  -- STATUS.LANE[l].HANDWHEEL
  { kind := .lane, f0 := 0x0402, size := 4, name := "STATUS.LANE[#].HANDWHEEL" },
  -- STATUS.LANE[l].PEDAL
  { kind := .lane, f0 := 0x0403, size := 4, cnt := 2, name := "STATUS.LANE[#].PEDAL" },
  -- STATUS.LANE[l].WHEEL
  { kind := .lane, f0 := 0x0404, size := 4, cnt := 4, name := "STATUS.LANE[#].WHEEL" },
  -- STATUS.AXIS[n].PDEM
  { kind := .axis, f0 := 0x00E1, size := 4, name := "STATUS.AXIS[#].PDEM" },
  -- STATUS.AXIS[n].SLIPCAP
  { kind := .axis, f0 := 0x00E2, size := 4, name := "STATUS.AXIS[#].SLIPCAP" },
  -- STATUS.AXIS[n].KAPPA
  { kind := .axis, f0 := 0x00E3, size := 4, name := "STATUS.AXIS[#].KAPPA" } ]

/-- The status objects of chapter 15. -/
def status15 : List StDef := [
  -- STATUS.LANE[l].FAULT.QUEUE[i]
  { kind := .lane, f0 := 0x0500, stride := 1, reps := 32, size := 4, cnt := 4, name := "STATUS.LANE[#].FAULT.QUEUE[%]" },
  -- STATUS.LANE[l].FAULT.UNACK
  { kind := .lane, f0 := 0x0520, size := 2, name := "STATUS.LANE[#].FAULT.UNACK" },
  -- STATUS.LANE[l].FAULT.WORST
  { kind := .lane, f0 := 0x0521, size := 1, name := "STATUS.LANE[#].FAULT.WORST" },
  -- STATUS.LANE[l].FAULT.LATCHED
  { kind := .lane, f0 := 0x0522, size := 2, name := "STATUS.LANE[#].FAULT.LATCHED" },
  -- STATUS.LANE[l].FAULT.RECOVERIES
  { kind := .lane, f0 := 0x0523, size := 1, cnt := 16, name := "STATUS.LANE[#].FAULT.RECOVERIES" },
  -- STATUS.LANE[l].FAULT.RECTOTAL
  { kind := .lane, f0 := 0x0524, size := 1, name := "STATUS.LANE[#].FAULT.RECTOTAL" },
  -- STATUS.LANE[l].FAULT.JOURNAL
  { kind := .lane, f0 := 0x0525, size := 4, used := 0xfff1fff, name := "STATUS.LANE[#].FAULT.JOURNAL" },
  -- STATUS.LANE[l].ALIVE
  { kind := .lane, f0 := 0x0526, size := 1, used := 0x7, name := "STATUS.LANE[#].ALIVE" },
  -- STATUS.LANE[l].STOP
  { kind := .lane, f0 := 0x0527, size := 2, used := 0x3f, name := "STATUS.LANE[#].STOP" } ]

/-- The status objects of chapter 16. -/
def status16 : List StDef := [
  -- STATUS.LANE[l].SAFETY[k].TREACT
  { kind := .lane, f0 := 0x0601, stride := 1, reps := 7, size := 2, name := "STATUS.LANE[#].SAFETY[%].TREACT", k0 := 1 } ]

/-- The status objects of chapter 17. -/
def status17 : List StDef := [
  -- STATUS.LANE[l].FAB.STATE
  { kind := .lane, f0 := 0x0700, size := 2, used := 0x7fff, name := "STATUS.LANE[#].FAB.STATE" },
  -- STATUS.LANE[l].FAB.MASTER
  { kind := .lane, f0 := 0x0701, size := 2, used := 0xff3f, name := "STATUS.LANE[#].FAB.MASTER" },
  -- STATUS.LANE[l].FAB.EPOCH
  { kind := .lane, f0 := 0x0702, size := 2, name := "STATUS.LANE[#].FAB.EPOCH" },
  -- STATUS.LANE[l].FAB.OFFSET
  { kind := .lane, f0 := 0x0703, size := 4, name := "STATUS.LANE[#].FAB.OFFSET" },
  -- STATUS.LANE[l].FAB.PORT[p].STATE
  { kind := .lane, f0 := 0x0710, stride := 16, reps := 2, size := 1, name := "STATUS.LANE[#].FAB.PORT[%].STATE" },
  -- STATUS.LANE[l].FAB.PORT[p].NEIGHBOUR
  { kind := .lane, f0 := 0x0711, stride := 16, reps := 2, size := 1, name := "STATUS.LANE[#].FAB.PORT[%].NEIGHBOUR" },
  -- STATUS.LANE[l].FAB.PORT[p].SERIAL
  { kind := .lane, f0 := 0x0712, stride := 16, reps := 2, size := 8, name := "STATUS.LANE[#].FAB.PORT[%].SERIAL" },
  -- STATUS.LANE[l].FAB.PORT[p].DELAY
  { kind := .lane, f0 := 0x0713, stride := 16, reps := 2, size := 4, name := "STATUS.LANE[#].FAB.PORT[%].DELAY" },
  -- STATUS.LANE[l].FAB.PORT[p].LOAD
  { kind := .lane, f0 := 0x0714, stride := 16, reps := 2, size := 2, name := "STATUS.LANE[#].FAB.PORT[%].LOAD" },
  -- STATUS.LANE[l].FAB.PORT[p].ERRORS
  { kind := .lane, f0 := 0x0715, stride := 16, reps := 2, size := 4, name := "STATUS.LANE[#].FAB.PORT[%].ERRORS" },
  -- STATUS.LANE[l].FAB.PORT[p].DROPS
  { kind := .lane, f0 := 0x0716, stride := 16, reps := 2, size := 4, name := "STATUS.LANE[#].FAB.PORT[%].DROPS" } ]

/-- The status objects of chapter 18. -/
def status18 : List StDef := [
  -- STATUS.LANE[l].CAR.STATE
  { kind := .lane, f0 := 0x0740, size := 2, used := 0xff, name := "STATUS.LANE[#].CAR.STATE" },
  -- STATUS.LANE[l].CAR[k].LAST
  { kind := .lane, f0 := 0x0750, stride := 16, reps := 2, size := 2, name := "STATUS.LANE[#].CAR[%].LAST", k0 := 1 },
  -- STATUS.LANE[l].CAR[k].MISSING
  { kind := .lane, f0 := 0x0751, stride := 16, reps := 2, size := 8, name := "STATUS.LANE[#].CAR[%].MISSING", k0 := 1 },
  -- STATUS.LANE[l].CAR[k].ANSWER
  { kind := .lane, f0 := 0x0752, stride := 16, reps := 2, size := 2, used := 0xff03, name := "STATUS.LANE[#].CAR[%].ANSWER", k0 := 1 },
  -- STATUS.LANE[l].CAR[k].COUNTS
  { kind := .lane, f0 := 0x0753, stride := 16, reps := 2, size := 4, name := "STATUS.LANE[#].CAR[%].COUNTS", k0 := 1 },
  -- STATUS.LANE[l].SUB[j].VALUE
  { kind := .lane, f0 := 0x0780, stride := 1, reps := 16, size := 4, name := "STATUS.LANE[#].SUB[%].VALUE" },
  -- STATUS.LANE[l].SUB[j].AGE
  { kind := .lane, f0 := 0x0790, stride := 1, reps := 16, size := 2, name := "STATUS.LANE[#].SUB[%].AGE" },
  -- STATUS.AXIS[n].CARSHARE[l]
  { kind := .axis, f0 := 0x00E4, stride := 1, reps := 3, size := 4, name := "STATUS.AXIS[#].CARSHARE[%]" } ]

/-- The status objects of chapter 19. -/
def status19 : List StDef := [
  -- STATUS.LANE[l].CAN[c].STATE
  { kind := .lane, f0 := 0x0800, stride := 16, reps := 2, size := 1, used := 0x3f, name := "STATUS.LANE[#].CAN[%].STATE" },
  -- STATUS.LANE[l].CAN[c].ERRCNT
  { kind := .lane, f0 := 0x0801, stride := 16, reps := 2, size := 2, name := "STATUS.LANE[#].CAN[%].ERRCNT" },
  -- STATUS.LANE[l].CAN[c].ADDR
  { kind := .lane, f0 := 0x0802, stride := 16, reps := 2, size := 1, name := "STATUS.LANE[#].CAN[%].ADDR" },
  -- STATUS.LANE[l].SESSION
  { kind := .lane, f0 := 0x0820, size := 2, used := 0x3ff, name := "STATUS.LANE[#].SESSION" } ]

/-- The status objects of chapter 20. -/
def status20 : List StDef := [
  -- STATUS.LANE[l].JOB[j]
  { kind := .lane, f0 := 0x0901, stride := 1, reps := 9, size := 4, used := 0x7ffff07, name := "STATUS.LANE[#].JOB[%]", k0 := 1 },
  -- STATUS.LANE[l].PROTOCOL
  { kind := .lane, f0 := 0x0037, size := 2, name := "STATUS.LANE[#].PROTOCOL" },
  -- STATUS.LANE[l].FW.STAGED
  { kind := .lane, f0 := 0x0910, size := 4, name := "STATUS.LANE[#].FW.STAGED" },
  -- STATUS.LANE[l].FW.STAGEDPROTO
  { kind := .lane, f0 := 0x0911, size := 2, name := "STATUS.LANE[#].FW.STAGEDPROTO" },
  -- STATUS.REC.STATE
  { kind := .node, f0 := 0x0B00, size := 1, used := 0xf, name := "STATUS.REC.STATE" },
  -- STATUS.REC.RATE
  { kind := .node, f0 := 0x0B01, size := 4, name := "STATUS.REC.RATE" },
  -- STATUS.REC.WEAR
  { kind := .node, f0 := 0x0B02, size := 2, name := "STATUS.REC.WEAR" },
  -- STATUS.REC.WINDOWS
  { kind := .node, f0 := 0x0B03, size := 1, name := "STATUS.REC.WINDOWS" } ]

/-- The status objects of chapter 21. -/
def status21 : List StDef := [
  -- STATUS.LANE[l].IGNCYCLE
  { kind := .lane, f0 := 0x0026, size := 4, name := "STATUS.LANE[#].IGNCYCLE" },
  -- STATUS.LANE[l].RETAIN
  { kind := .lane, f0 := 0x0027, size := 1, used := 0x7, name := "STATUS.LANE[#].RETAIN" } ]

/-- The status objects of chapter 22. -/
def status22 : List StDef := [
  -- STATUS.LANE[l].TJ
  { kind := .lane, f0 := 0x0A00, size := 2, name := "STATUS.LANE[#].TJ" },
  -- STATUS.LANE[l].VSUP
  { kind := .lane, f0 := 0x0A01, size := 4, name := "STATUS.LANE[#].VSUP" },
  -- STATUS.LANE[l].VG
  { kind := .lane, f0 := 0x0A02, size := 4, name := "STATUS.LANE[#].VG" },
  -- STATUS.LANE[l].SUPPLY
  { kind := .lane, f0 := 0x0A03, size := 1, used := 0x1f, name := "STATUS.LANE[#].SUPPLY" } ]

/-- The status objects. -/
def statusDefs : List StDef :=
  status01 ++ status02 ++ status03 ++ status04 ++ status05 ++ status06 ++ status07 ++ status08 ++ status09 ++ status10 ++ status11 ++ status12 ++ status13 ++ status14 ++ status15 ++ status16 ++ status17 ++ status18 ++ status19 ++ status20 ++ status21 ++ status22

/-- Whether an object ID is an instance of a status row. -/
def StDef.matches (o : StDef) (id : Nat) : Bool :=
  let inst := id / 0x10000 % 0x100
  let field := id % 0x10000
  let bound : Nat := match o.kind with | .node => 1 | .lane => 3 | .axis => 12
  id / 0x1000000 == 0x70 && decide (inst < bound) && decide (o.f0 ≤ field) &&
    (if o.stride = 0 then field == o.f0 else (field - o.f0) % o.stride == 0 && decide ((field - o.f0) / o.stride < o.reps))

/-- The row of a status object ID. -/
def statusDef? (id : Nat) : Option StDef := statusDefs.find? (·.matches id)

/-- A value as the part produces it: reserved bits read 0 (R6). -/
def StDef.clean (d : StDef) (v : Int) : Int := if d.used = 0 then v else ((toField (8 * d.size) v &&& d.used : Nat) : Int)

/-- The bytes of a status object; none where it is none. -/
def statusSize (id : Nat) : Option Nat := (statusDef? id).map fun o => o.size * o.cnt

end Sys2Proof.Machine
end

