-- ==== Sys2Proof/Machine/Names.lean ====
section
/-! DEFINITION. Symbolic names of objects: each denotes one object ID, and an object may be named by either (R7, R99). -/

namespace Sys2Proof.Machine

/-- A number in decimal, with at least the digits given. -/
def decDigits (least n : Nat) : List Char :=
  let ds := (Nat.toDigits 10 n)
  List.replicate (least - ds.length) '0' ++ ds

/-- The mnemonics of the loop codes of Table 9.8: 0 CUR, 1 VEL, 2 POS, 3 PRS, 4 SPD. -/
def loopName : Nat → String | 0 => "CUR" | 1 => "VEL" | 2 => "POS" | 3 => "PRS" | _ => "SPD"

/-- A row's name with an instance and an index in their places; leg indices have two digits. -/
def nameAt (pat : String) (inst idx : Nat) : List Char :=
  pat.toList.flatMap fun c =>
    match c with
    | '#' => decDigits 1 inst
    | '&' => decDigits 2 inst
    | '%' => decDigits 1 idx
    | '@' => decDigits 2 idx
    | '$' => (loopName idx).toList
    | c => [c]

/-- The object of a row that a name denotes, by its instances and indices. -/
def findName (pat : String) (insts idxs : List Nat) (s : List Char) : Option (Nat × Nat) :=
  insts.findSome? fun i => (idxs.find? fun k => nameAt pat i k == s).map fun k => (i, k)

/-- The object ID of a gather or job object's name. -/
def ObjDef.idOf (o : ObjDef) (s : List Char) : Option Nat :=
  (findName o.name ((List.range o.n).map (· + o.i0)) (List.range o.reps) s).map fun x => o.base + 0x10000 * x.1 + o.stride * x.2

/-- The object ID of a status object's name. -/
def StDef.idOf (d : StDef) (s : List Char) : Option Nat :=
  let n : Nat := match d.kind with | .node => 1 | .lane => 3 | .axis => 12
  (findName d.name (List.range n) ((List.range d.reps).map (· + d.k0)) s).map fun x =>
    0x70000000 + 0x10000 * x.1 + d.f0 + d.stride * (x.2 - d.k0)

/-- The objects that the tables of chapter 20 and 21 give beside the parameter and status tables. -/
def lonelyNames : List (String × Nat) := [("JOB.RESTART", 0x60000001), ("JOB[7].BLOCK", 0x60070010), ("JOB[9].DATA", 0x60090010)]

/-- The object ID that a symbolic name denotes; none where it names no object (R7). -/
def idOfName (s : String) : Option Nat :=
  let cs := s.toList
  ((lonelyNames.find? fun x => x.1.toList == cs).map (·.2)).orElse fun _ =>
    ((List.range 0x61).findSome? fun b => (objsOfBlock b).findSome? fun o => o.idOf cs).orElse fun _ => statusDefs.findSome? fun d => d.idOf cs

/-- How a service names an object: by its ID or by its symbolic name, which are interchangeable (R7). -/
inductive ObjRef where
  | id (n : Nat)
  | name (s : String)
deriving DecidableEq, Repr

/-- The object ID meant; a name that denotes nothing gives 0, which is the ID of no object. -/
def ObjRef.toId : ObjRef → Nat
  | .id n => n
  | .name s => (idOfName s).getD 0

end Sys2Proof.Machine
end

