-- ==== Sys2Proof/Config.lean ====
section
/-! DEFINITION. What an implementation fixes and the values the manual leaves open: constants without a body, of which no proof can know a value. -/

namespace Sys2Proof.Config

/-- The session key a part is delivered with, supplied by Zilevo with its serial number (R515). -/
opaque initialKey : List Byte

/-- The serial number of a node's part. -/
opaque serial : Nat

/-- What a resolver's tracking observer gives in one tick. -/
structure ResolverOut where
  /-- Angle, 1/65,536 electrical turn. -/
  angle : Nat
  /-- Speed, channel units per second with 16 fraction bits. -/
  speed : Int
  /-- Angle error, 1/65,536 turn. -/
  err : Nat
deriving DecidableEq, Repr, Inhabited

/-- The tracking observer of R189, whose law the manual does not give: of its bandwidth, the tick, the amplitudes and what it gave before. -/
opaque resolverTrack (bandwidth tick : Nat) (s c angle speed : Int) : ResolverOut

/-- The speed a generator takes in phase TRACK while it cannot reach X(n) within its limits, whose law R226 does not give: of its position, its speed, X(n), V(n), VMAX, AMAX and DMAX. -/
opaque trackSpeed (x v target feed vmax amax dmax : Int) : Int

/-- What a curve that a rule uses gives where the image names none and no rule says what follows: of the use (0 GUIDE.KMAX, 1 GUIDE.KRATE, 2 FOLLOW.CURVE) and the abscissa. -/
opaque noCurve (use : Nat) (x : Int) : Int

/-- The minor part of the highest image format version the firmware accepts (R93, STATUS.LANE[l].IMAGE.FORMAT): the manual fixes only the major part, 1. -/
opaque formatMinor : Nat

/-- The random bytes of a session challenge (R513), by the number of draws the lane has made and the place in the challenge. -/
opaque randomByte (draw place : Nat) : Byte

/-- A code that a rule asks for where no table names one: 0 the cause of a job suspended by SUSPEND, 1 by a lapse of R74 or R75, 3 by the loss of its state (R526, R527, R76); 2 the rejecting code of CFG-011 under R543; 4 the refusal of a written value out of its range; 16 to 23 the context value of CFG-021 for STEER[1] and BRAKE[1] to BRAKE[7] (R114); 24 to 35 that of FBK-021 for the position channel of an axis (R176). -/
opaque unnamedCause (which : Nat) : Nat

/-- The progress a job reports, %, for which the manual gives no formula (R550): of the job, its state and the ticks since START. -/
opaque jobProgress (job state ticks : Nat) : Nat

/-- What the lane computes of the core work of an image (R51), whose costs the manual does not give. -/
structure CoreLoad where
  /-- Worst-case load, percent. -/
  load : Nat
  /-- The tick work fits before the fence. -/
  tickFits : Bool
  /-- The boundary work fits after it. -/
  boundaryFits : Bool
deriving DecidableEq, Repr, Inhabited

/-- The worst-case core load of the gathered objects with the axes that add load (R51, R104). -/
opaque coreLoad (objects : List (Nat × List Int)) (axes : List Nat) : CoreLoad

/-- What a lane reads in a status object of another lane that it holds no view of (R26): of the object ID, the element and the reading lane's tick count. -/
opaque foreignStatus (object element count : Nat) : Int

/-- What a recorder read returns beyond the data that the area holds (R548): of the byte position. -/
opaque recorderByte (position : Nat) : Byte

/-- A byte of a shadow entry in the link frame, whose layout R18 leaves open: of the values and the place. -/
opaque shadowByte (values : List Int) (place : Nat) : Byte

/-- A byte of the last section of the link frame, whose layout Table 1.3 leaves open: of the health word, the tick count and the place. -/
opaque tailByte (health count place : Nat) : Byte

/-- The result of an extra conversion that an event line triggered (R332) where no EVENT_LINE_FIRE brings it, by tick count and place: a measured value, so free (log entry 168). -/
opaque lineSample (count place : Nat) : Int

/-- The Zilevo public key in a part's boot code, x and y (R59). -/
opaque bootKey : Nat × Nat

/-- The ordering code of a part (Table 0.1): 0 CUA-T48-A, 1 CUA-T48-H. -/
opaque ordering : Nat

/-- The stepping of a part (STATUS.LANE[l].STEPPING): 0 B0, 1 B1, and so on. -/
opaque stepping : Nat

end Sys2Proof.Config
end

