-- ==== Sys2Proof/Machine/Memory.lean ====
section
/-! DEFINITION. Addressed stores (NOR flash, boot store, recorder store): a canonical sorted list of cells, an unlisted byte reading as erased, 0xFF. -/

namespace Sys2Proof.Machine

/-- A store: (address, byte) pairs, addresses strictly rising, no byte equal to the erased value. -/
abbrev Mem := List Host.Cell

/-- What an unlisted byte reads as: an erased flash byte. -/
def erased : Byte := 0xFF

/-- Every cell of a store lies at or above an address. -/
def Mem.above (lo : Nat) : Mem → Bool
  | [] => true
  | (a, b) :: m => lo ≤ a && b != erased && Mem.above (a + 1) m

/-- The canonical form: addresses strictly rising and no cell equal to the erased value. -/
def Mem.wf (m : Mem) : Bool := Mem.above 0 m

/-- The byte at an address. -/
def Mem.read : Mem → Nat → Byte
  | [], _ => erased
  | (a, b) :: m, k => if k = a then b else Mem.read m k

/-- A cell put in the place of its address. -/
def Mem.put : Mem → Nat → Byte → Mem
  | [], k, v => [(k, v)]
  | (a, b) :: m, k, v => if k < a then (k, v) :: (a, b) :: m else (a, b) :: Mem.put m k v

/-- A store with one byte written; the erased value is not listed. -/
def Mem.write (m : Mem) (k : Nat) (v : Byte) : Mem :=
  let r : Mem := m.filter fun c => c.1 != k
  if v = erased then r else r.put k v

/-- Consecutive bytes written from an address. -/
def Mem.writeList (m : Mem) : Nat → List Byte → Mem
  | _, [] => m
  | k, v :: vs => Mem.writeList (m.write k v) (k + 1) vs

/-- `n` bytes read from an address. -/
def Mem.readList (m : Mem) : Nat → Nat → List Byte
  | _, 0 => []
  | k, n + 1 => m.read k :: Mem.readList m (k + 1) n

/-- A store with the addresses from `lo` below `hi` erased. -/
def Mem.erase (m : Mem) (lo hi : Nat) : Mem := m.filter fun c => c.1 < lo || hi ≤ c.1

/-- A flash page program: bits can only be cleared, so the byte is ANDed with what the cell holds. -/
def Mem.program (m : Mem) : Nat → List Byte → Mem
  | _, [] => m
  | k, v :: vs => Mem.program (m.write k (m.read k &&& v)) (k + 1) vs

end Sys2Proof.Machine
end

