-- ==== Sys2Proof/Machine/Cfg.lean ====
section
/-! DEFINITION. The gathered configuration of a lane and its reading by object name, with the defaults of the parameter tables (R98). -/

namespace Sys2Proof.Machine

/-- The records a lane gathered for itself: object ID and raw elements, in ascending object ID order. -/
abbrev Cfg := List (Nat × List Int)

/-- The record of an object ID, where the image or a tag gave one. -/
def Cfg.rec? (c : Cfg) (id : Nat) : Option (List Int) := (c.find? fun r => r.1 == id).map (·.2)

/-- The first element of an object, or its default. -/
def Cfg.int (c : Cfg) (id : Nat) (d : Int) : Int := match c.rec? id with | some (x :: _) => x | _ => d

/-- An unsigned object, or its default. -/
def Cfg.nat (c : Cfg) (id : Nat) (d : Nat) : Nat := (c.int id d).toNat

/-- A bool object, or its default. -/
def Cfg.bool (c : Cfg) (id : Nat) (d : Bool) : Bool := c.int id (if d then 1 else 0) != 0

/-- The elements of an array object, or its default. -/
def Cfg.arr (c : Cfg) (id : Nat) (d : List Int) : List Int := (c.rec? id).getD d

/-- TICK.BUDGET, 0x01000002 (Table 2.1). -/
def Cfg.tickBudget (c : Cfg) : Nat := c.nat (0x01000002) 0
/-- TICK.SYNC.ORDER, 0x01000010 (Table 2.1). -/
def Cfg.tickSyncOrder (c : Cfg) : List Int := c.arr (0x01000010) [2, 1, 0]
/-- TICK.SYNC.PIN.DIR, 0x01000011 (Table 2.1). -/
def Cfg.tickSyncPinDir (c : Cfg) : Nat := c.nat (0x01000011) 0
/-- TICK.SYNC.PIN.EDGE, 0x01000012 (Table 2.1). -/
def Cfg.tickSyncPinEdge (c : Cfg) : Nat := c.nat (0x01000012) 0
/-- TICK.SYNC.PIN.OFFSET, 0x01000013 (Table 2.1). -/
def Cfg.tickSyncPinOffset (c : Cfg) : Int := c.int (0x01000013) 0
/-- TICK.SYNC.PIN.PERIOD, 0x01000014 (Table 2.1). -/
def Cfg.tickSyncPinPeriod (c : Cfg) : Nat := c.nat (0x01000014) 1
/-- LANE.LOWPOWER, 0x02000001 (Table 3.4). -/
def Cfg.laneLowpower (c : Cfg) : Nat := c.nat (0x02000001) 0
/-- LANE.LISTEN.LANE, 0x02000002 (Table 3.4). -/
def Cfg.laneListenLane (c : Cfg) : Nat := c.nat (0x02000002) 0
/-- LANE.LISTEN.MAXTIME, 0x02000003 (Table 3.4). -/
def Cfg.laneListenMaxtime (c : Cfg) : Nat := c.nat (0x02000003) 0
/-- LANE.WAKE.CAN, 0x02000004 (Table 3.4). -/
def Cfg.laneWakeCan (c : Cfg) : Bool := c.bool (0x02000004) true
/-- LANE.WAKE.ID, 0x02000005 (Table 3.4). -/
def Cfg.laneWakeId (c : Cfg) : Nat := c.nat (0x02000005) 0
/-- LANE.WAKE.MASK, 0x02000006 (Table 3.4). -/
def Cfg.laneWakeMask (c : Cfg) : Nat := c.nat (0x02000006) 0
/-- LANE.PRECHARGE.TIME, 0x02000007 (Table 3.4). -/
def Cfg.lanePrechargeTime (c : Cfg) : Nat := c.nat (0x02000007) 800
/-- LANE.PARK_WAIT, 0x02000008 (Table 3.4). -/
def Cfg.laneParkWait (c : Cfg) : Nat := c.nat (0x02000008) 40000
/-- LANE.IMAGE.ROLE, 0x02000010 (Table 4.2). -/
def Cfg.laneImageRole (c : Cfg) : Nat := c.nat (0x02000010) 0
/-- LANE.IMAGE.NODEID, 0x02000011 (Table 4.2). -/
def Cfg.laneImageNodeid (c : Cfg) : Nat := c.nat (0x02000011) 0
/-- LANE.IMAGE.LANEMASK, 0x02000012 (Table 4.2). -/
def Cfg.laneImageLanemask (c : Cfg) : Nat := c.nat (0x02000012) 0
/-- LANE.IMAGE.PREDECESSOR, 0x02000013 (Table 4.2). -/
def Cfg.laneImagePredecessor (c : Cfg) : Nat := c.nat (0x02000013) 0
/-- AXIS[n].TAG[s].KIND, 0x10000030 (Table 4.9). -/
def Cfg.axisTagKind (c : Cfg) (n k : Nat) : Nat := c.nat (0x10000030 + 0x10000 * n + 0x10 * k) 0
/-- STEER[1].TAG[s].KIND, 0x20000030 (Table 4.9). -/
def Cfg.sensorSteerTagKind (c : Cfg) (k : Nat) : Nat := c.nat (0x20010030 + 0x10 * k) 0
/-- BRAKE[i].TAG[s].KIND, 0x21000030 (Table 4.9). -/
def Cfg.sensorBrakeTagKind (c : Cfg) (n k : Nat) : Nat := c.nat (0x21000030 + 0x10000 * n + 0x10 * k) 0
/-- AXIS[n].TAG[s].MAKER, 0x10000031 (Table 4.9). -/
def Cfg.axisTagMaker (c : Cfg) (n k : Nat) : Nat := c.nat (0x10000031 + 0x10000 * n + 0x10 * k) 0
/-- STEER[1].TAG[s].MAKER, 0x20000031 (Table 4.9). -/
def Cfg.sensorSteerTagMaker (c : Cfg) (k : Nat) : Nat := c.nat (0x20010031 + 0x10 * k) 0
/-- BRAKE[i].TAG[s].MAKER, 0x21000031 (Table 4.9). -/
def Cfg.sensorBrakeTagMaker (c : Cfg) (n k : Nat) : Nat := c.nat (0x21000031 + 0x10000 * n + 0x10 * k) 0
/-- AXIS[n].TAG[s].MODEL, 0x10000032 (Table 4.9). -/
def Cfg.axisTagModel (c : Cfg) (n k : Nat) : List Int := c.arr (0x10000032 + 0x10000 * n + 0x10 * k) (List.replicate 16 32)
/-- STEER[1].TAG[s].MODEL, 0x20000032 (Table 4.9). -/
def Cfg.sensorSteerTagModel (c : Cfg) (k : Nat) : List Int := c.arr (0x20010032 + 0x10 * k) (List.replicate 16 32)
/-- BRAKE[i].TAG[s].MODEL, 0x21000032 (Table 4.9). -/
def Cfg.sensorBrakeTagModel (c : Cfg) (n k : Nat) : List Int := c.arr (0x21000032 + 0x10000 * n + 0x10 * k) (List.replicate 16 32)
/-- AXIS[n].TAG[s].ADDR, 0x10000033 (Table 4.9). -/
def Cfg.axisTagAddr (c : Cfg) (n k : Nat) : List Int := c.arr (0x10000033 + 0x10000 * n + 0x10 * k) []
/-- STEER[1].TAG[s].ADDR, 0x20000033 (Table 4.9). -/
def Cfg.sensorSteerTagAddr (c : Cfg) (k : Nat) : List Int := c.arr (0x20010033 + 0x10 * k) []
/-- BRAKE[i].TAG[s].ADDR, 0x21000033 (Table 4.9). -/
def Cfg.sensorBrakeTagAddr (c : Cfg) (n k : Nat) : List Int := c.arr (0x21000033 + 0x10000 * n + 0x10 * k) []
/-- AXIS[n].TAG[s].SOURCE, 0x10000034 (Table 4.9). -/
def Cfg.axisTagSource (c : Cfg) (n k : Nat) : Nat := c.nat (0x10000034 + 0x10000 * n + 0x10 * k) 0
/-- STEER[1].TAG[s].SOURCE, 0x20000034 (Table 4.9). -/
def Cfg.sensorSteerTagSource (c : Cfg) (k : Nat) : Nat := c.nat (0x20010034 + 0x10 * k) 0
/-- BRAKE[i].TAG[s].SOURCE, 0x21000034 (Table 4.9). -/
def Cfg.sensorBrakeTagSource (c : Cfg) (n k : Nat) : Nat := c.nat (0x21000034 + 0x10000 * n + 0x10 * k) 0
/-- AXIS[n].TAG[s].CALREQ, 0x10000035 (Table 4.9). -/
def Cfg.axisTagCalreq (c : Cfg) (n k : Nat) : Bool := c.bool (0x10000035 + 0x10000 * n + 0x10 * k) false
/-- STEER[1].TAG[s].CALREQ, 0x20000035 (Table 4.9). -/
def Cfg.sensorSteerTagCalreq (c : Cfg) (k : Nat) : Bool := c.bool (0x20010035 + 0x10 * k) false
/-- BRAKE[i].TAG[s].CALREQ, 0x21000035 (Table 4.9). -/
def Cfg.sensorBrakeTagCalreq (c : Cfg) (n k : Nat) : Bool := c.bool (0x21000035 + 0x10000 * n + 0x10 * k) false
/-- LANE.ID.RATE, 0x02000020 (Table 4.9). -/
def Cfg.laneIdRate (c : Cfg) : Nat := c.nat (0x02000020) 1
/-- LEASE.LEN, 0x03000001 (Table 5.8). -/
def Cfg.leaseLen (c : Cfg) : Nat := c.nat (0x03000001) 4
/-- LEASE.GUARD, 0x03000002 (Table 5.8). -/
def Cfg.leaseGuard (c : Cfg) : Nat := c.nat (0x03000002) 2
/-- LEASE.ROTATE.MODE, 0x03000010 (Table 5.8). -/
def Cfg.leaseRotateMode (c : Cfg) : Nat := c.nat (0x03000010) 1
/-- LEASE.ROTATE.PERIOD, 0x03000011 (Table 5.8). -/
def Cfg.leaseRotatePeriod (c : Cfg) : Nat := c.nat (0x03000011) 1800
/-- LEASE.ROTATE.STEERRATE, 0x03000012 (Table 5.8). -/
def Cfg.leaseRotateSteerrate (c : Cfg) : Nat := c.nat (0x03000012) 200
/-- AXIS[n].SUCCESSION, 0x10000060 (Table 5.8). -/
def Cfg.axisSuccession (c : Cfg) (n : Nat) : Nat := c.nat (0x10000060 + 0x10000 * n) 0
/-- AXIS[n].ENDORSE.BAND, 0x10000061 (Table 5.8). -/
def Cfg.axisEndorseBand (c : Cfg) (n : Nat) : Nat := c.nat (0x10000061 + 0x10000 * n) 50
/-- AXIS[n].SHADOW.TRACK, 0x10000062 (Table 5.8). -/
def Cfg.axisShadowTrack (c : Cfg) (n : Nat) : Int := c.int (0x10000062 + 0x10000 * n) 16384
/-- AXIS[n].LASTSCALE, 0x10000063 (Table 5.8). -/
def Cfg.axisLastscale (c : Cfg) (n : Nat) : Int := c.int (0x10000063 + 0x10000 * n) 32768
/-- AXIS[n].ROTATE, 0x10000064 (Table 5.8). -/
def Cfg.axisRotate (c : Cfg) (n : Nat) : Bool := c.bool (0x10000064 + 0x10000 * n) true
/-- AXIS[n].KIND, 0x10000001 (Table 6.3). -/
def Cfg.axisKind (c : Cfg) (n : Nat) : Nat := c.nat (0x10000001 + 0x10000 * n) 0
/-- AXIS[n].LEGS, 0x10000002 (Table 6.3). -/
def Cfg.axisLegs (c : Cfg) (n : Nat) : List Int := c.arr (0x10000002 + 0x10000 * n) [255, 255, 255]
/-- AXIS[n].SHARE, 0x10000004 (Table 6.3). -/
def Cfg.axisShare (c : Cfg) (n : Nat) : Nat := c.nat (0x10000004 + 0x10000 * n) 0
/-- AXIS[n].OBSERVER.POLICY, 0x10000020 (Table 1.7). -/
def Cfg.axisObserverPolicy (c : Cfg) (n : Nat) : Nat := c.nat (0x10000020 + 0x10000 * n) 0
/-- AXIS[n].IPEAK, 0x10000005 (Table 6.3). -/
def Cfg.axisIpeak (c : Cfg) (n : Nat) : Int := c.int (0x10000005 + 0x10000 * n) 0
/-- AXIS[n].ICONT, 0x10000006 (Table 6.3). -/
def Cfg.axisIcont (c : Cfg) (n : Nat) : Int := c.int (0x10000006 + 0x10000 * n) 0
/-- AXIS[n].COIL.RES, 0x10000007 (Table 6.3). -/
def Cfg.axisCoilRes (c : Cfg) (n : Nat) : Nat := c.nat (0x10000007 + 0x10000 * n) 0
/-- AXIS[n].COIL.IND, 0x10000008 (Table 6.3). -/
def Cfg.axisCoilInd (c : Cfg) (n : Nat) : Nat := c.nat (0x10000008 + 0x10000 * n) 0
/-- AXIS[n].COIL.IMAX, 0x10000009 (Table 6.3). -/
def Cfg.axisCoilImax (c : Cfg) (n : Nat) : Nat := c.nat (0x10000009 + 0x10000 * n) 0
/-- LEG[ll].FUNCTION, 0x11000001 (Table 6.3). -/
def Cfg.legFunction (c : Cfg) (n : Nat) : Nat := c.nat (0x11000001 + 0x10000 * n) 0
/-- FEEDBACK[c].MODE, 0x13000001 (Table 7.4). -/
def Cfg.feedbackMode (c : Cfg) (n : Nat) : Nat := c.nat (0x13000001 + 0x10000 * n) 0
/-- FEEDBACK[c].TMIN, 0x13000002 (Table 7.4). -/
def Cfg.feedbackTmin (c : Cfg) (n : Nat) : Nat := c.nat (0x13000002 + 0x10000 * n) 40
/-- FEEDBACK[c].FAST_LIMIT, 0x13000003 (Table 7.4). -/
def Cfg.feedbackFastLimit (c : Cfg) (n : Nat) : Nat := c.nat (0x13000003 + 0x10000 * n) 100
/-- FEEDBACK[c].DOUBLE_LIMIT, 0x13000004 (Table 7.4). -/
def Cfg.feedbackDoubleLimit (c : Cfg) (n : Nat) : Nat := c.nat (0x13000004 + 0x10000 * n) 10
/-- FEEDBACK[c].LINES, 0x13000005 (Table 7.4). -/
def Cfg.feedbackLines (c : Cfg) (n : Nat) : Nat := c.nat (0x13000005 + 0x10000 * n) 0
/-- FEEDBACK[c].INDEX.TOL, 0x13000006 (Table 7.4). -/
def Cfg.feedbackIndexTol (c : Cfg) (n : Nat) : Nat := c.nat (0x13000006 + 0x10000 * n) 2
/-- FEEDBACK[c].INDEX.SNAP, 0x13000007 (Table 7.4). -/
def Cfg.feedbackIndexSnap (c : Cfg) (n : Nat) : Bool := c.bool (0x13000007 + 0x10000 * n) false
/-- FEEDBACK[c].INDEX.EDGE, 0x13000008 (Table 7.4). -/
def Cfg.feedbackIndexEdge (c : Cfg) (n : Nat) : Nat := c.nat (0x13000008 + 0x10000 * n) 0
/-- FEEDBACK[c].INVERT, 0x1300000A (Table 7.4). -/
def Cfg.feedbackInvert (c : Cfg) (n : Nat) : Nat := c.nat (0x1300000A + 0x10000 * n) 0
/-- FEEDBACK[c].TONE.POSITIONS, 0x13000010 (Table 7.4). -/
def Cfg.feedbackTonePositions (c : Cfg) (n : Nat) : Nat := c.nat (0x13000010 + 0x10000 * n) 0
/-- FEEDBACK[c].TONE.GAP, 0x13000011 (Table 7.4). -/
def Cfg.feedbackToneGap (c : Cfg) (n : Nat) : Nat := c.nat (0x13000011 + 0x10000 * n) 0
/-- FEEDBACK[c].TONE.GAP_RATIO, 0x13000012 (Table 7.4). -/
def Cfg.feedbackToneGapRatio (c : Cfg) (n : Nat) : Int := c.int (0x13000012 + 0x10000 * n) 98304
/-- FEEDBACK[c].TONE.TOL, 0x13000013 (Table 7.4). -/
def Cfg.feedbackToneTol (c : Cfg) (n : Nat) : Nat := c.nat (0x13000013 + 0x10000 * n) 0
/-- FEEDBACK[c].TONE.DIRSRC, 0x13000014 (Table 7.4). -/
def Cfg.feedbackToneDirsrc (c : Cfg) (n : Nat) : Nat := c.nat (0x13000014 + 0x10000 * n) 0
/-- FEEDBACK[c].TONE.DIRCH, 0x13000015 (Table 7.4). -/
def Cfg.feedbackToneDirch (c : Cfg) (n : Nat) : Nat := c.nat (0x13000015 + 0x10000 * n) 0
/-- FEEDBACK[c].SPEED.W, 0x13000020 (Table 7.4). -/
def Cfg.feedbackSpeedW (c : Cfg) (n : Nat) : Nat := c.nat (0x13000020 + 0x10000 * n) 8
/-- FEEDBACK[c].SPEED.BLEND_N, 0x13000021 (Table 7.4). -/
def Cfg.feedbackSpeedBlendN (c : Cfg) (n : Nat) : Nat := c.nat (0x13000021 + 0x10000 * n) 4
/-- FEEDBACK[c].SPEED.STILL, 0x13000022 (Table 7.4). -/
def Cfg.feedbackSpeedStill (c : Cfg) (n : Nat) : Nat := c.nat (0x13000022 + 0x10000 * n) 400
/-- FEEDBACK[c].PASS, 0x13000030 (Table 7.4). -/
def Cfg.feedbackPass (c : Cfg) (n : Nat) : Nat := c.nat (0x13000030 + 0x10000 * n) 0
/-- FEEDBACK[c].TAGREF, 0x13000040 (Table 7.4). -/
def Cfg.feedbackTagref (c : Cfg) (n : Nat) : Nat := c.nat (0x13000040 + 0x10000 * n) 0
/-- FEEDBACK[c].RES.EXC.AMP, 0x13000050 (Table 7.4). -/
def Cfg.feedbackResExcAmp (c : Cfg) (n : Nat) : Nat := c.nat (0x13000050 + 0x10000 * n) 70
/-- FEEDBACK[c].RES.POLERATIO, 0x13000051 (Table 7.4). -/
def Cfg.feedbackResPoleratio (c : Cfg) (n : Nat) : Nat := c.nat (0x13000051 + 0x10000 * n) 1
/-- FEEDBACK[c].RES.RATIO, 0x13000052 (Table 7.4). -/
def Cfg.feedbackResRatio (c : Cfg) (n : Nat) : Int := c.int (0x13000052 + 0x10000 * n) 32768
/-- FEEDBACK[c].RES.BANDWIDTH, 0x13000053 (Table 7.4). -/
def Cfg.feedbackResBandwidth (c : Cfg) (n : Nat) : Nat := c.nat (0x13000053 + 0x10000 * n) 800
/-- FEEDBACK[c].RES.LOS, 0x13000054 (Table 7.4). -/
def Cfg.feedbackResLos (c : Cfg) (n : Nat) : Int := c.int (0x13000054 + 0x10000 * n) 16384
/-- FEEDBACK[c].RES.DEG.LO, 0x13000055 (Table 7.4). -/
def Cfg.feedbackResDegLo (c : Cfg) (n : Nat) : Int := c.int (0x13000055 + 0x10000 * n) 41943
/-- FEEDBACK[c].RES.DEG.HI, 0x13000056 (Table 7.4). -/
def Cfg.feedbackResDegHi (c : Cfg) (n : Nat) : Int := c.int (0x13000056 + 0x10000 * n) 94372
/-- FEEDBACK[c].RES.TRACKERR, 0x13000057 (Table 7.4). -/
def Cfg.feedbackResTrackerr (c : Cfg) (n : Nat) : Nat := c.nat (0x13000057 + 0x10000 * n) 1024
/-- FEEDBACK[c].SSI.CLK, 0x13000060 (Table 7.4). -/
def Cfg.feedbackSsiClk (c : Cfg) (n : Nat) : Nat := c.nat (0x13000060 + 0x10000 * n) 1000
/-- FEEDBACK[c].SSI.BITS, 0x13000061 (Table 7.4). -/
def Cfg.feedbackSsiBits (c : Cfg) (n : Nat) : Nat := c.nat (0x13000061 + 0x10000 * n) 25
/-- FEEDBACK[c].SSI.CODE, 0x13000062 (Table 7.4). -/
def Cfg.feedbackSsiCode (c : Cfg) (n : Nat) : Nat := c.nat (0x13000062 + 0x10000 * n) 1
/-- FEEDBACK[c].SSI.TMONO, 0x13000063 (Table 7.4). -/
def Cfg.feedbackSsiTmono (c : Cfg) (n : Nat) : Nat := c.nat (0x13000063 + 0x10000 * n) 20
/-- FEEDBACK[c].SSI.PERIOD, 0x13000064 (Table 7.4). -/
def Cfg.feedbackSsiPeriod (c : Cfg) (n : Nat) : Nat := c.nat (0x13000064 + 0x10000 * n) 2
/-- FEEDBACK[c].SSI.JUMP, 0x13000065 (Table 7.4). -/
def Cfg.feedbackSsiJump (c : Cfg) (n : Nat) : Nat := c.nat (0x13000065 + 0x10000 * n) 1024
/-- FEEDBACK[c].AIN.FILTER, 0x13000070 (Table 7.4). -/
def Cfg.feedbackAinFilter (c : Cfg) (n : Nat) : Nat := c.nat (0x13000070 + 0x10000 * n) 1
/-- FEEDBACK[c].AIN.GAIN, 0x13000071 (Table 7.4). -/
def Cfg.feedbackAinGain (c : Cfg) (n : Nat) : Int := c.int (0x13000071 + 0x10000 * n) 65536
/-- FEEDBACK[c].AIN.OFFSET, 0x13000072 (Table 7.4). -/
def Cfg.feedbackAinOffset (c : Cfg) (n : Nat) : Int := c.int (0x13000072 + 0x10000 * n) 0
/-- FEEDBACK[c].AIN.MIN, 0x13000073 (Table 7.4). -/
def Cfg.feedbackAinMin (c : Cfg) (n : Nat) : Int := c.int (0x13000073 + 0x10000 * n) 13107
/-- FEEDBACK[c].AIN.MAX, 0x13000074 (Table 7.4). -/
def Cfg.feedbackAinMax (c : Cfg) (n : Nat) : Int := c.int (0x13000074 + 0x10000 * n) 314573
/-- FEEDBACK[c].AIN.FAULTTIME, 0x13000075 (Table 7.4). -/
def Cfg.feedbackAinFaulttime (c : Cfg) (n : Nat) : Nat := c.nat (0x13000075 + 0x10000 * n) 4
/-- AXIS[n].PROFILE.VMAX, 0x14000001 (Table 8.5). -/
def Cfg.axisProfileVmax (c : Cfg) (n : Nat) : Nat := c.nat (0x14000001 + 0x10000 * n) 40000
/-- AXIS[n].PROFILE.AMAX, 0x14000002 (Table 8.5). -/
def Cfg.axisProfileAmax (c : Cfg) (n : Nat) : Nat := c.nat (0x14000002 + 0x10000 * n) 200000
/-- AXIS[n].PROFILE.DMAX, 0x14000003 (Table 8.5). -/
def Cfg.axisProfileDmax (c : Cfg) (n : Nat) : Nat := c.nat (0x14000003 + 0x10000 * n) 200000
/-- AXIS[n].PROFILE.JMAX, 0x14000004 (Table 8.5). -/
def Cfg.axisProfileJmax (c : Cfg) (n : Nat) : Nat := c.nat (0x14000004 + 0x10000 * n) 0
/-- AXIS[n].PROFILE.DHARD, 0x14000005 (Table 8.5). -/
def Cfg.axisProfileDhard (c : Cfg) (n : Nat) : Nat := c.nat (0x14000005 + 0x10000 * n) 400000
/-- AXIS[n].PROFILE.DSTOP, 0x14000006 (Table 8.5). -/
def Cfg.axisProfileDstop (c : Cfg) (n : Nat) : Nat := c.nat (0x14000006 + 0x10000 * n) 300000
/-- AXIS[n].PROFILE.HOLD.DELAY, 0x14000010 (Table 8.5). -/
def Cfg.axisProfileHoldDelay (c : Cfg) (n : Nat) : Nat := c.nat (0x14000010 + 0x10000 * n) 20000
/-- AXIS[n].PROFILE.HOLD.BAND, 0x14000011 (Table 8.5). -/
def Cfg.axisProfileHoldBand (c : Cfg) (n : Nat) : Nat := c.nat (0x14000011 + 0x10000 * n) 200
/-- AXIS[n].PROFILE.HOLD.PCT, 0x14000012 (Table 8.5). -/
def Cfg.axisProfileHoldPct (c : Cfg) (n : Nat) : Nat := c.nat (0x14000012 + 0x10000 * n) 40
/-- AXIS[n].PROFILE.HOLD.RAMP, 0x14000013 (Table 8.5). -/
def Cfg.axisProfileHoldRamp (c : Cfg) (n : Nat) : Nat := c.nat (0x14000013 + 0x10000 * n) 4000
/-- AXIS[n].PROFILE.LIMIT.NEG.CH, 0x14000020 (Table 8.5). -/
def Cfg.axisProfileLimitNegCh (c : Cfg) (n : Nat) : Nat := c.nat (0x14000020 + 0x10000 * n) 255
/-- AXIS[n].PROFILE.LIMIT.POS.CH, 0x14000021 (Table 8.5). -/
def Cfg.axisProfileLimitPosCh (c : Cfg) (n : Nat) : Nat := c.nat (0x14000021 + 0x10000 * n) 255
/-- AXIS[n].PROFILE.LIMIT.VTRIP, 0x14000022 (Table 8.5). -/
def Cfg.axisProfileLimitVtrip (c : Cfg) (n : Nat) : Int := c.int (0x14000022 + 0x10000 * n) 163840
/-- AXIS[n].PROFILE.LIMIT.POLARITY, 0x14000023 (Table 8.5). -/
def Cfg.axisProfileLimitPolarity (c : Cfg) (n : Nat) : Nat := c.nat (0x14000023 + 0x10000 * n) 0
/-- AXIS[n].PROFILE.LIMIT.T_DEB, 0x14000024 (Table 8.5). -/
def Cfg.axisProfileLimitTDeb (c : Cfg) (n : Nat) : Nat := c.nat (0x14000024 + 0x10000 * n) 40
/-- AXIS[n].PROFILE.LIMIT.CHATTER_N, 0x14000025 (Table 8.5). -/
def Cfg.axisProfileLimitChatterN (c : Cfg) (n : Nat) : Nat := c.nat (0x14000025 + 0x10000 * n) 8
/-- AXIS[n].PROFILE.LIMIT.CHATTER_WIN, 0x14000026 (Table 8.5). -/
def Cfg.axisProfileLimitChatterWin (c : Cfg) (n : Nat) : Nat := c.nat (0x14000026 + 0x10000 * n) 4000
/-- AXIS[n].PROFILE.CENTRE.FIRST, 0x14000030 (Table 8.5). -/
def Cfg.axisProfileCentreFirst (c : Cfg) (n : Nat) : Nat := c.nat (0x14000030 + 0x10000 * n) 0
/-- AXIS[n].PROFILE.CENTRE.VSEEK, 0x14000031 (Table 8.5). -/
def Cfg.axisProfileCentreVseek (c : Cfg) (n : Nat) : Nat := c.nat (0x14000031 + 0x10000 * n) 5000
/-- AXIS[n].PROFILE.CENTRE.TRAVEL, 0x14000032 (Table 8.5). -/
def Cfg.axisProfileCentreTravel (c : Cfg) (n : Nat) : Nat := c.nat (0x14000032 + 0x10000 * n) 130000
/-- AXIS[n].PROFILE.CENTRE.SPAN, 0x14000033 (Table 8.5). -/
def Cfg.axisProfileCentreSpan (c : Cfg) (n : Nat) : Nat := c.nat (0x14000033 + 0x10000 * n) 0
/-- AXIS[n].PROFILE.CENTRE.SPANTOL, 0x14000034 (Table 8.5). -/
def Cfg.axisProfileCentreSpantol (c : Cfg) (n : Nat) : Nat := c.nat (0x14000034 + 0x10000 * n) 2000
/-- AXIS[n].PROFILE.CENTRE.SHIFT, 0x14000035 (Table 8.5). -/
def Cfg.axisProfileCentreShift (c : Cfg) (n : Nat) : Int := c.int (0x14000035 + 0x10000 * n) 0
/-- AXIS[n].PROFILE.CENTRE.AGREE, 0x14000036 (Table 8.5). -/
def Cfg.axisProfileCentreAgree (c : Cfg) (n : Nat) : Nat := c.nat (0x14000036 + 0x10000 * n) 50
/-- STEPIN.AXIS, 0x42000001 (Table 8.5). -/
def Cfg.stepinAxis (c : Cfg) : Nat := c.nat (0x42000001) 255
/-- STEPIN.SIZE, 0x42000002 (Table 8.5). -/
def Cfg.stepinSize (c : Cfg) : Int := c.int (0x42000002) 1
/-- STEPIN.EDGE, 0x42000003 (Table 8.5). -/
def Cfg.stepinEdge (c : Cfg) : Nat := c.nat (0x42000003) 0
/-- STEPIN.DIRPOL, 0x42000004 (Table 8.5). -/
def Cfg.stepinDirpol (c : Cfg) : Nat := c.nat (0x42000004) 0
/-- STEPIN.TFIRST, 0x42000005 (Table 8.5). -/
def Cfg.stepinTfirst (c : Cfg) : Nat := c.nat (0x42000005) 8
/-- STEPIN.FAST_LIMIT, 0x42000006 (Table 8.5). -/
def Cfg.stepinFastLimit (c : Cfg) : Nat := c.nat (0x42000006) 100
/-- STEPIN.LAGMAX, 0x42000007 (Table 8.5). -/
def Cfg.stepinLagmax (c : Cfg) : Nat := c.nat (0x42000007) 1000
/-- AXIS[n].LOOP.POS.DIV, 0x15000001 (Table 9.7). -/
def Cfg.axisLoopPosDiv (c : Cfg) (n : Nat) : Nat := c.nat (0x15000001 + 0x10000 * n) 4
/-- AXIS[n].LOOP.VEL.DIV, 0x15000002 (Table 9.7). -/
def Cfg.axisLoopVelDiv (c : Cfg) (n : Nat) : Nat := c.nat (0x15000002 + 0x10000 * n) 2
/-- AXIS[n].LOOP.PRS.DIV, 0x15000003 (Table 9.7). -/
def Cfg.axisLoopPrsDiv (c : Cfg) (n : Nat) : Nat := c.nat (0x15000003 + 0x10000 * n) 4
/-- AXIS[n].LOOP.SPD.DIV, 0x15000004 (Table 9.7). -/
def Cfg.axisLoopSpdDiv (c : Cfg) (n : Nat) : Nat := c.nat (0x15000004 + 0x10000 * n) 4
/-- AXIS[n].LOOP.PHASE, 0x15000005 (Table 9.7). -/
def Cfg.axisLoopPhase (c : Cfg) (n : Nat) : Nat := c.nat (0x15000005 + 0x10000 * n) 0
/-- AXIS[n].LOOP.POS.CH, 0x15000010 (Table 9.7). -/
def Cfg.axisLoopPosCh (c : Cfg) (n : Nat) : Nat := c.nat (0x15000010 + 0x10000 * n) 0
/-- AXIS[n].LOOP.POS.SCALE, 0x15000011 (Table 9.7). -/
def Cfg.axisLoopPosScale (c : Cfg) (n : Nat) : Int := c.int (0x15000011 + 0x10000 * n) 65536
/-- AXIS[n].LOOP.POS.KFF_V, 0x15000012 (Table 9.7). -/
def Cfg.axisLoopPosKffV (c : Cfg) (n : Nat) : Int := c.int (0x15000012 + 0x10000 * n) 65536
/-- AXIS[n].LOOP.POS.VLIM, 0x15000013 (Table 9.7). -/
def Cfg.axisLoopPosVlim (c : Cfg) (n : Nat) : Int := c.int (0x15000013 + 0x10000 * n) 3932160
/-- AXIS[n].LOOP.VEL.CH, 0x15000014 (Table 9.7). -/
def Cfg.axisLoopVelCh (c : Cfg) (n : Nat) : Nat := c.nat (0x15000014 + 0x10000 * n) 0
/-- AXIS[n].LOOP.VEL.SCALE, 0x15000015 (Table 9.7). -/
def Cfg.axisLoopVelScale (c : Cfg) (n : Nat) : Int := c.int (0x15000015 + 0x10000 * n) 66
/-- AXIS[n].LOOP.VEL.KFF_A, 0x15000016 (Table 9.7). -/
def Cfg.axisLoopVelKffA (c : Cfg) (n : Nat) : Int := c.int (0x15000016 + 0x10000 * n) 0
/-- AXIS[n].LOOP.CUR.AUTO, 0x15000020 (Table 9.7). -/
def Cfg.axisLoopCurAuto (c : Cfg) (n : Nat) : Bool := c.bool (0x15000020 + 0x10000 * n) true
/-- AXIS[n].LOOP.CUR.BW, 0x15000021 (Table 9.7). -/
def Cfg.axisLoopCurBw (c : Cfg) (n : Nat) : Nat := c.nat (0x15000021 + 0x10000 * n) 2000
/-- AXIS[n].LOOP.CUR.DECOUPLE, 0x15000022 (Table 9.7). -/
def Cfg.axisLoopCurDecouple (c : Cfg) (n : Nat) : Bool := c.bool (0x15000022 + 0x10000 * n) true
/-- AXIS[n].LOOP.CUR.VLIM, 0x15000023 (Table 9.7). -/
def Cfg.axisLoopCurVlim (c : Cfg) (n : Nat) : Int := c.int (0x15000023 + 0x10000 * n) 62259
/-- AXIS[n].LOOP.PRS.CH, 0x15000030 (Table 9.7). -/
def Cfg.axisLoopPrsCh (c : Cfg) (n : Nat) : Nat := c.nat (0x15000030 + 0x10000 * n) 255
/-- AXIS[n].LOOP.PRS.FFCURVE, 0x15000031 (Table 9.7). -/
def Cfg.axisLoopPrsFfcurve (c : Cfg) (n : Nat) : Nat := c.nat (0x15000031 + 0x10000 * n) 255
/-- AXIS[n].LOOP.VALVE.BW, 0x15000032 (Table 9.7). -/
def Cfg.axisLoopValveBw (c : Cfg) (n : Nat) : Nat := c.nat (0x15000032 + 0x10000 * n) 200
/-- AXIS[n].LOOP.RIPPLE.AMP, 0x15000033 (Table 9.7). -/
def Cfg.axisLoopRippleAmp (c : Cfg) (n : Nat) : Nat := c.nat (0x15000033 + 0x10000 * n) 0
/-- AXIS[n].LOOP.RIPPLE.HALF, 0x15000034 (Table 9.7). -/
def Cfg.axisLoopRippleHalf (c : Cfg) (n : Nat) : Nat := c.nat (0x15000034 + 0x10000 * n) 40
/-- AXIS[n].LOOP.THERM.TAU, 0x15000040 (Table 9.7). -/
def Cfg.axisLoopThermTau (c : Cfg) (n : Nat) : Nat := c.nat (0x15000040 + 0x10000 * n) 300
/-- AXIS[n].LOOP.THERM.RISE, 0x15000041 (Table 9.7). -/
def Cfg.axisLoopThermRise (c : Cfg) (n : Nat) : Nat := c.nat (0x15000041 + 0x10000 * n) 80
/-- AXIS[n].LOOP.THERM.TAMB, 0x15000042 (Table 9.7). -/
def Cfg.axisLoopThermTamb (c : Cfg) (n : Nat) : Int := c.int (0x15000042 + 0x10000 * n) 60
/-- AXIS[n].LOOP.THERM.TAMB.CH, 0x15000043 (Table 9.7). -/
def Cfg.axisLoopThermTambCh (c : Cfg) (n : Nat) : Nat := c.nat (0x15000043 + 0x10000 * n) 255
/-- AXIS[n].LOOP.THERM.TSTART, 0x15000044 (Table 9.7). -/
def Cfg.axisLoopThermTstart (c : Cfg) (n : Nat) : Int := c.int (0x15000044 + 0x10000 * n) 120
/-- AXIS[n].LOOP.THERM.TEND, 0x15000045 (Table 9.7). -/
def Cfg.axisLoopThermTend (c : Cfg) (n : Nat) : Int := c.int (0x15000045 + 0x10000 * n) 150
/-- AXIS[n].LOOP.THERM.TMAX, 0x15000046 (Table 9.7). -/
def Cfg.axisLoopThermTmax (c : Cfg) (n : Nat) : Int := c.int (0x15000046 + 0x10000 * n) 160
/-- AXIS[n].SCHED.k.XVAR, 0x16000101 (Table 9.8). -/
def Cfg.axisSchedXvar (c : Cfg) (n k : Nat) : Nat := c.nat (0x16000101 + 0x10000 * n + 0x100 * k) 0
/-- AXIS[n].SCHED.k.YVAR, 0x16000102 (Table 9.8). -/
def Cfg.axisSchedYvar (c : Cfg) (n k : Nat) : Nat := c.nat (0x16000102 + 0x10000 * n + 0x100 * k) 0
/-- AXIS[n].SCHED.k.XBP, 0x16000103 (Table 9.8). -/
def Cfg.axisSchedXbp (c : Cfg) (n k : Nat) : List Int := c.arr (0x16000103 + 0x10000 * n + 0x100 * k) [0]
/-- AXIS[n].SCHED.k.YBP, 0x16000104 (Table 9.8). -/
def Cfg.axisSchedYbp (c : Cfg) (n k : Nat) : List Int := c.arr (0x16000104 + 0x10000 * n + 0x100 * k) [0]
/-- AXIS[n].SCHED.k.KP, 0x16000105 (Table 9.8). -/
def Cfg.axisSchedKp (c : Cfg) (n k : Nat) : List Int := c.arr (0x16000105 + 0x10000 * n + 0x100 * k) []
/-- AXIS[n].SCHED.k.KI, 0x16000106 (Table 9.8). -/
def Cfg.axisSchedKi (c : Cfg) (n k : Nat) : List Int := c.arr (0x16000106 + 0x10000 * n + 0x100 * k) [0]
/-- AXIS[n].LOOP.MECH.J, 0x15000050 (Table 10.4). -/
def Cfg.axisLoopMechJ (c : Cfg) (n : Nat) : Int := c.int (0x15000050 + 0x10000 * n) 0
/-- AXIS[n].LOOP.MECH.B, 0x15000051 (Table 10.4). -/
def Cfg.axisLoopMechB (c : Cfg) (n : Nat) : Int := c.int (0x15000051 + 0x10000 * n) 0
/-- AXIS[n].LOOP.MECH.LOADBW, 0x15000052 (Table 10.4). -/
def Cfg.axisLoopMechLoadbw (c : Cfg) (n : Nat) : Nat := c.nat (0x15000052 + 0x10000 * n) 20
/-- AXIS[n].LOOP.MECH.LOADMAX, 0x15000053 (Table 10.4). -/
def Cfg.axisLoopMechLoadmax (c : Cfg) (n : Nat) : Int := c.int (0x15000053 + 0x10000 * n) 0
/-- AXIS[n].LOOP.MECH.KRACK, 0x15000054 (Table 10.4). -/
def Cfg.axisLoopMechKrack (c : Cfg) (n : Nat) : Int := c.int (0x15000054 + 0x10000 * n) 0
/-- AXIS[n].LOOP.MIR.EBOUND, 0x15000058 (Table 10.4). -/
def Cfg.axisLoopMirEbound (c : Cfg) (n : Nat) : Int := c.int (0x15000058 + 0x10000 * n) 131072
/-- AXIS[n].LOOP.MIR.MBOUND, 0x15000059 (Table 10.4). -/
def Cfg.axisLoopMirMbound (c : Cfg) (n : Nat) : Int := c.int (0x15000059 + 0x10000 * n) 3276800
/-- AXIS[n].LOOP.MIR.FILTER, 0x1500005A (Table 10.4). -/
def Cfg.axisLoopMirFilter (c : Cfg) (n : Nat) : Nat := c.nat (0x1500005A + 0x10000 * n) 4
/-- AXIS[n].LOOP.MIR.N, 0x1500005B (Table 10.4). -/
def Cfg.axisLoopMirN (c : Cfg) (n : Nat) : Nat := c.nat (0x1500005B + 0x10000 * n) 8
/-- AXIS[n].LOOP.MIR.ATTRWIN, 0x1500005C (Table 10.4). -/
def Cfg.axisLoopMirAttrwin (c : Cfg) (n : Nat) : Nat := c.nat (0x1500005C + 0x10000 * n) 8
/-- AXIS[n].LOOP.MIR.TLO, 0x1500005D (Table 10.4). -/
def Cfg.axisLoopMirTlo (c : Cfg) (n : Nat) : Int := c.int (0x1500005D + 0x10000 * n) 25
/-- AXIS[n].LOOP.MIR.THI, 0x1500005E (Table 10.4). -/
def Cfg.axisLoopMirThi (c : Cfg) (n : Nat) : Int := c.int (0x1500005E + 0x10000 * n) 150
/-- AXIS[n].LOOP.MIR.HOTSCALE, 0x1500005F (Table 10.4). -/
def Cfg.axisLoopMirHotscale (c : Cfg) (n : Nat) : Int := c.int (0x1500005F + 0x10000 * n) 98304
/-- AXIS[n].MODE.START, 0x10000070 (Table 10.4). -/
def Cfg.axisModeStart (c : Cfg) (n : Nat) : Nat := c.nat (0x10000070 + 0x10000 * n) 3
/-- AXIS[n].MODE.OVERRIDE, 0x10000071 (Table 10.4). -/
def Cfg.axisModeOverride (c : Cfg) (n : Nat) : Bool := c.bool (0x10000071 + 0x10000 * n) true
/-- AXIS[n].HANDOVER.BAND, 0x10000072 (Table 10.4). -/
def Cfg.axisHandoverBand (c : Cfg) (n : Nat) : Nat := c.nat (0x10000072 + 0x10000 * n) 200
/-- AXIS[n].HANDOVER.RATE, 0x10000073 (Table 10.4). -/
def Cfg.axisHandoverRate (c : Cfg) (n : Nat) : Nat := c.nat (0x10000073 + 0x10000 * n) 20000
/-- AXIS[n].HANDOVER.TMAX, 0x10000074 (Table 10.4). -/
def Cfg.axisHandoverTmax (c : Cfg) (n : Nat) : Nat := c.nat (0x10000074 + 0x10000 * n) 8000
/-- AXIS[n].HANDOVER.OBAND, 0x10000075 (Table 10.4). -/
def Cfg.axisHandoverOband (c : Cfg) (n : Nat) : Nat := c.nat (0x10000075 + 0x10000 * n) 25
/-- AXIS[n].HANDOVER.ORATE, 0x10000076 (Table 10.4). -/
def Cfg.axisHandoverOrate (c : Cfg) (n : Nat) : Nat := c.nat (0x10000076 + 0x10000 * n) 10
/-- STEER.WHEELBASE, 0x20000010 (Table 10.4). -/
def Cfg.steerWheelbase (c : Cfg) : Nat := c.nat (0x20000010) 0
/-- STEER.OVERRIDE.FEEL, 0x20000020 (Table 10.4). -/
def Cfg.steerOverrideFeel (c : Cfg) : Nat := c.nat (0x20000020) 255
/-- STEER.OVERRIDE.TORQUE, 0x20000021 (Table 10.4). -/
def Cfg.steerOverrideTorque (c : Cfg) : Int := c.int (0x20000021) 196608
/-- STEER.OVERRIDE.ANGLE, 0x20000022 (Table 10.4). -/
def Cfg.steerOverrideAngle (c : Cfg) : Int := c.int (0x20000022) 983040
/-- STEER.OVERRIDE.TIME, 0x20000023 (Table 10.4). -/
def Cfg.steerOverrideTime (c : Cfg) : Nat := c.nat (0x20000023) 8
/-- STEER.OVERRIDE.RATE, 0x20000024 (Table 10.4). -/
def Cfg.steerOverrideRate (c : Cfg) : Nat := c.nat (0x20000024) 40000
/-- AXIS[n].COMM.POLEPAIRS, 0x17000001 (Table 11.7). -/
def Cfg.axisCommPolepairs (c : Cfg) (n : Nat) : Nat := c.nat (0x17000001 + 0x10000 * n) 0
/-- AXIS[n].COMM.RES, 0x17000002 (Table 11.7). -/
def Cfg.axisCommRes (c : Cfg) (n : Nat) : Int := c.int (0x17000002 + 0x10000 * n) 0
/-- AXIS[n].COMM.LD, 0x17000003 (Table 11.7). -/
def Cfg.axisCommLd (c : Cfg) (n : Nat) : Int := c.int (0x17000003 + 0x10000 * n) 0
/-- AXIS[n].COMM.LQ, 0x17000004 (Table 11.7). -/
def Cfg.axisCommLq (c : Cfg) (n : Nat) : Int := c.int (0x17000004 + 0x10000 * n) 0
/-- AXIS[n].COMM.PSI, 0x17000005 (Table 11.7). -/
def Cfg.axisCommPsi (c : Cfg) (n : Nat) : Int := c.int (0x17000005 + 0x10000 * n) 0
/-- AXIS[n].COMM.SOURCE, 0x17000010 (Table 11.7). -/
def Cfg.axisCommSource (c : Cfg) (n : Nat) : Nat := c.nat (0x17000010 + 0x10000 * n) 0
/-- AXIS[n].COMM.ANGLE.CH, 0x17000011 (Table 11.7). -/
def Cfg.axisCommAngleCh (c : Cfg) (n : Nat) : Nat := c.nat (0x17000011 + 0x10000 * n) 255
/-- AXIS[n].COMM.INIT.CH, 0x17000012 (Table 11.7). -/
def Cfg.axisCommInitCh (c : Cfg) (n : Nat) : Nat := c.nat (0x17000012 + 0x10000 * n) 255
/-- AXIS[n].COMM.CPT, 0x17000013 (Table 11.7). -/
def Cfg.axisCommCpt (c : Cfg) (n : Nat) : Nat := c.nat (0x17000013 + 0x10000 * n) 0
/-- AXIS[n].COMM.DIR, 0x17000014 (Table 11.7). -/
def Cfg.axisCommDir (c : Cfg) (n : Nat) : Nat := c.nat (0x17000014 + 0x10000 * n) 0
/-- AXIS[n].COMM.OFFSET, 0x17000015 (Table 11.7). -/
def Cfg.axisCommOffset (c : Cfg) (n : Nat) : Nat := c.nat (0x17000015 + 0x10000 * n) 0
/-- AXIS[n].COMM.OFFSET.CAL, 0x17000016 (Table 11.7). -/
def Cfg.axisCommOffsetCal (c : Cfg) (n : Nat) : Bool := c.bool (0x17000016 + 0x10000 * n) true
/-- AXIS[n].COMM.HALL.WINTERP, 0x17000017 (Table 11.7). -/
def Cfg.axisCommHallWinterp (c : Cfg) (n : Nat) : Nat := c.nat (0x17000017 + 0x10000 * n) 300
/-- AXIS[n].COMM.ISUM.MAX, 0x17000018 (Table 11.7). -/
def Cfg.axisCommIsumMax (c : Cfg) (n : Nat) : Int := c.int (0x17000018 + 0x10000 * n) 196608
/-- AXIS[n].COMM.PA.FE, 0x17000020 (Table 11.7). -/
def Cfg.axisCommPaFe (c : Cfg) (n : Nat) : List Int := c.arr (0x17000020 + 0x10000 * n) [0]
/-- AXIS[n].COMM.PA.ANGLE, 0x17000021 (Table 11.7). -/
def Cfg.axisCommPaAngle (c : Cfg) (n : Nat) : List Int := c.arr (0x17000021 + 0x10000 * n) [0]
/-- AXIS[n].COMM.PA.ID, 0x17000022 (Table 11.7). -/
def Cfg.axisCommPaId (c : Cfg) (n : Nat) : List Int := c.arr (0x17000022 + 0x10000 * n) [0]
/-- AXIS[n].COMM.OBS.BW, 0x17000030 (Table 11.7). -/
def Cfg.axisCommObsBw (c : Cfg) (n : Nat) : Nat := c.nat (0x17000030 + 0x10000 * n) 150
/-- AXIS[n].COMM.OBS.WMIN, 0x17000031 (Table 11.7). -/
def Cfg.axisCommObsWmin (c : Cfg) (n : Nat) : Nat := c.nat (0x17000031 + 0x10000 * n) 200
/-- AXIS[n].COMM.OBS.LOCKERR, 0x17000032 (Table 11.7). -/
def Cfg.axisCommObsLockerr (c : Cfg) (n : Nat) : Nat := c.nat (0x17000032 + 0x10000 * n) 1820
/-- AXIS[n].COMM.OBS.LOCKN, 0x17000033 (Table 11.7). -/
def Cfg.axisCommObsLockn (c : Cfg) (n : Nat) : Nat := c.nat (0x17000033 + 0x10000 * n) 3
/-- AXIS[n].COMM.OBS.ERRMAX, 0x17000034 (Table 11.7). -/
def Cfg.axisCommObsErrmax (c : Cfg) (n : Nat) : Nat := c.nat (0x17000034 + 0x10000 * n) 5461
/-- AXIS[n].COMM.OBS.WDEV, 0x17000035 (Table 11.7). -/
def Cfg.axisCommObsWdev (c : Cfg) (n : Nat) : Nat := c.nat (0x17000035 + 0x10000 * n) 200
/-- AXIS[n].COMM.OBS.LOSSN, 0x17000036 (Table 11.7). -/
def Cfg.axisCommObsLossn (c : Cfg) (n : Nat) : Nat := c.nat (0x17000036 + 0x10000 * n) 2
/-- AXIS[n].COMM.CARRY.WMIN, 0x17000037 (Table 11.7). -/
def Cfg.axisCommCarryWmin (c : Cfg) (n : Nat) : Nat := c.nat (0x17000037 + 0x10000 * n) 400
/-- AXIS[n].COMM.RECATCH.KSHORT, 0x17000038 (Table 11.7). -/
def Cfg.axisCommRecatchKshort (c : Cfg) (n : Nat) : Int := c.int (0x17000038 + 0x10000 * n) 58982
/-- AXIS[n].COMM.BORROW.MAX, 0x17000039 (Table 11.7). -/
def Cfg.axisCommBorrowMax (c : Cfg) (n : Nat) : Nat := c.nat (0x17000039 + 0x10000 * n) 400
/-- AXIS[n].COMM.PUMP.INPUT, 0x17000040 (Table 11.7). -/
def Cfg.axisCommPumpInput (c : Cfg) (n : Nat) : Nat := c.nat (0x17000040 + 0x10000 * n) 0
/-- AXIS[n].COMM.PUMP.CH, 0x17000041 (Table 11.7). -/
def Cfg.axisCommPumpCh (c : Cfg) (n : Nat) : Nat := c.nat (0x17000041 + 0x10000 * n) 255
/-- AXIS[n].COMM.PUMP.PTARGET, 0x17000042 (Table 11.7). -/
def Cfg.axisCommPumpPtarget (c : Cfg) (n : Nat) : Int := c.int (0x17000042 + 0x10000 * n) 11796480
/-- AXIS[n].COMM.PUMP.ON, 0x17000043 (Table 11.7). -/
def Cfg.axisCommPumpOn (c : Cfg) (n : Nat) : Int := c.int (0x17000043 + 0x10000 * n) 1310720
/-- AXIS[n].COMM.PUMP.OFF, 0x17000044 (Table 11.7). -/
def Cfg.axisCommPumpOff (c : Cfg) (n : Nat) : Int := c.int (0x17000044 + 0x10000 * n) 327680
/-- AXIS[n].COMM.PUMP.CX, 0x17000045 (Table 11.7). -/
def Cfg.axisCommPumpCx (c : Cfg) (n : Nat) : List Int := c.arr (0x17000045 + 0x10000 * n) [0]
/-- AXIS[n].COMM.PUMP.CY, 0x17000046 (Table 11.7). -/
def Cfg.axisCommPumpCy (c : Cfg) (n : Nat) : List Int := c.arr (0x17000046 + 0x10000 * n) [0]
/-- AXIS[n].COMM.PUMP.SLEW, 0x17000047 (Table 11.7). -/
def Cfg.axisCommPumpSlew (c : Cfg) (n : Nat) : Nat := c.nat (0x17000047 + 0x10000 * n) 20000
/-- AXIS[n].COMM.PUMP.RESTART, 0x17000048 (Table 11.7). -/
def Cfg.axisCommPumpRestart (c : Cfg) (n : Nat) : Nat := c.nat (0x17000048 + 0x10000 * n) 150
/-- AXIS[n].COMM.START.ANGLE, 0x17000050 (Table 11.7). -/
def Cfg.axisCommStartAngle (c : Cfg) (n : Nat) : Nat := c.nat (0x17000050 + 0x10000 * n) 0
/-- AXIS[n].COMM.START.IALIGN, 0x17000051 (Table 11.7). -/
def Cfg.axisCommStartIalign (c : Cfg) (n : Nat) : Int := c.int (0x17000051 + 0x10000 * n) 655360
/-- AXIS[n].COMM.START.TALIGN, 0x17000052 (Table 11.7). -/
def Cfg.axisCommStartTalign (c : Cfg) (n : Nat) : Nat := c.nat (0x17000052 + 0x10000 * n) 2000
/-- AXIS[n].COMM.START.IRAMP, 0x17000053 (Table 11.7). -/
def Cfg.axisCommStartIramp (c : Cfg) (n : Nat) : Int := c.int (0x17000053 + 0x10000 * n) 786432
/-- AXIS[n].COMM.START.RAMP, 0x17000054 (Table 11.7). -/
def Cfg.axisCommStartRamp (c : Cfg) (n : Nat) : Nat := c.nat (0x17000054 + 0x10000 * n) 6000
/-- AXIS[n].COMM.START.WHAND, 0x17000055 (Table 11.7). -/
def Cfg.axisCommStartWhand (c : Cfg) (n : Nat) : Nat := c.nat (0x17000055 + 0x10000 * n) 300
/-- AXIS[n].COMM.START.HANDWIN, 0x17000056 (Table 11.7). -/
def Cfg.axisCommStartHandwin (c : Cfg) (n : Nat) : Nat := c.nat (0x17000056 + 0x10000 * n) 2000
/-- AXIS[n].COMM.START.RETRY, 0x17000057 (Table 11.7). -/
def Cfg.axisCommStartRetry (c : Cfg) (n : Nat) : Nat := c.nat (0x17000057 + 0x10000 * n) 3
/-- AXIS[n].COMM.START.COAST, 0x17000058 (Table 11.7). -/
def Cfg.axisCommStartCoast (c : Cfg) (n : Nat) : Nat := c.nat (0x17000058 + 0x10000 * n) 8000
/-- AXIS[n].COMM.HALLPASS, 0x17000060 (Table 11.7). -/
def Cfg.axisCommHallpass (c : Cfg) (n : Nat) : Bool := c.bool (0x17000060 + 0x10000 * n) false
/-- AXIS[n].COMM.HALLPASS.LIMPDUTY, 0x17000061 (Table 11.7). -/
def Cfg.axisCommHallpassLimpduty (c : Cfg) (n : Nat) : Int := c.int (0x17000061 + 0x10000 * n) 19661
/-- AXIS[n].PWM.PERIOD, 0x10000010 (Table 12.5). -/
def Cfg.axisPwmPeriod (c : Cfg) (n : Nat) : Nat := c.nat (0x10000010 + 0x10000 * n) 2
/-- LEG[ll].PWM.DUTYMODE, 0x11000002 (Table 12.5). -/
def Cfg.legPwmDutymode (c : Cfg) (n : Nat) : Nat := c.nat (0x11000002 + 0x10000 * n) 0
/-- LEG[ll].PWM.DTH, 0x11000003 (Table 12.5). -/
def Cfg.legPwmDth (c : Cfg) (n : Nat) : Nat := c.nat (0x11000003 + 0x10000 * n) 200
/-- LEG[ll].PWM.DTL, 0x11000004 (Table 12.5). -/
def Cfg.legPwmDtl (c : Cfg) (n : Nat) : Nat := c.nat (0x11000004 + 0x10000 * n) 200
/-- LANE.PWM.EV[k].SOURCE, 0x02000100 (Table 12.5). -/
def Cfg.lanePwmEvSource (c : Cfg) (k : Nat) : Nat := c.nat (0x02000100 + 0x10 * k) 0
/-- LANE.PWM.EV[k].PRESCALE, 0x02000101 (Table 12.5). -/
def Cfg.lanePwmEvPrescale (c : Cfg) (k : Nat) : Nat := c.nat (0x02000101 + 0x10 * k) 1
/-- LANE.PWM.EV[k].DEST, 0x02000102 (Table 12.5). -/
def Cfg.lanePwmEvDest (c : Cfg) (k : Nat) : Nat := c.nat (0x02000102 + 0x10 * k) 0
/-- LEG[ll].GATE.STRENGTH, 0x12000001 (Table 13.6). -/
def Cfg.legGateStrength (c : Cfg) (n : Nat) : Nat := c.nat (0x12000001 + 0x10000 * n) 0
/-- LEG[ll].GATE.STEP.R, 0x12000002 (Table 13.6). -/
def Cfg.legGateStepR (c : Cfg) (n : Nat) : Nat := c.nat (0x12000002 + 0x10000 * n) 7
/-- LEG[ll].GATE.STEP.F, 0x12000003 (Table 13.6). -/
def Cfg.legGateStepF (c : Cfg) (n : Nat) : Nat := c.nat (0x12000003 + 0x10000 * n) 7
/-- LEG[ll].GATE.STEPMIN, 0x12000004 (Table 13.6). -/
def Cfg.legGateStepmin (c : Cfg) (n : Nat) : Nat := c.nat (0x12000004 + 0x10000 * n) 0
/-- LEG[ll].GATE.STEPMAX, 0x12000005 (Table 13.6). -/
def Cfg.legGateStepmax (c : Cfg) (n : Nat) : Nat := c.nat (0x12000005 + 0x10000 * n) 15
/-- LEG[ll].GATE.TSW, 0x12000006 (Table 13.6). -/
def Cfg.legGateTsw (c : Cfg) (n : Nat) : Nat := c.nat (0x12000006 + 0x10000 * n) 100
/-- LEG[ll].GATE.TSW_TOL, 0x12000007 (Table 13.6). -/
def Cfg.legGateTswTol (c : Cfg) (n : Nat) : Nat := c.nat (0x12000007 + 0x10000 * n) 20
/-- LEG[ll].GATE.TSW_WIN, 0x12000008 (Table 13.6). -/
def Cfg.legGateTswWin (c : Cfg) (n : Nat) : Nat := c.nat (0x12000008 + 0x10000 * n) 1000
/-- LEG[ll].GATE.HSSUPPLY, 0x12000010 (Table 13.6). -/
def Cfg.legGateHssupply (c : Cfg) (n : Nat) : Nat := c.nat (0x12000010 + 0x10000 * n) 0
/-- LEG[ll].GATE.BOOT_UV, 0x12000011 (Table 13.6). -/
def Cfg.legGateBootUv (c : Cfg) (n : Nat) : Int := c.int (0x12000011 + 0x10000 * n) 589824
/-- LEG[ll].GATE.TREF, 0x12000012 (Table 13.6). -/
def Cfg.legGateTref (c : Cfg) (n : Nat) : Nat := c.nat (0x12000012 + 0x10000 * n) 800
/-- LEG[ll].GATE.REFRESH_MAX, 0x12000013 (Table 13.6). -/
def Cfg.legGateRefreshMax (c : Cfg) (n : Nat) : Nat := c.nat (0x12000013 + 0x10000 * n) 8
/-- LEG[ll].GATE.SHUNT, 0x12000020 (Table 13.6). -/
def Cfg.legGateShunt (c : Cfg) (n : Nat) : Nat := c.nat (0x12000020 + 0x10000 * n) 0
/-- LEG[ll].GATE.GAIN, 0x12000021 (Table 13.6). -/
def Cfg.legGateGain (c : Cfg) (n : Nat) : Nat := c.nat (0x12000021 + 0x10000 * n) 2
/-- LEG[ll].GATE.OCP, 0x12000022 (Table 13.6). -/
def Cfg.legGateOcp (c : Cfg) (n : Nat) : Int := c.int (0x12000022 + 0x10000 * n) 0
/-- LEG[ll].GATE.HARD_FACTOR, 0x12000023 (Table 13.6). -/
def Cfg.legGateHardFactor (c : Cfg) (n : Nat) : Int := c.int (0x12000023 + 0x10000 * n) 131072
/-- LEG[ll].GATE.TBLANK, 0x12000024 (Table 13.6). -/
def Cfg.legGateTblank (c : Cfg) (n : Nat) : Nat := c.nat (0x12000024 + 0x10000 * n) 400
/-- LEG[ll].GATE.DESAT, 0x12000025 (Table 13.6). -/
def Cfg.legGateDesat (c : Cfg) (n : Nat) : Int := c.int (0x12000025 + 0x10000 * n) 262144
/-- AXIS[n].SHORT.POST, 0x10000080 (Table 13.6). -/
def Cfg.axisShortPost (c : Cfg) (n : Nat) : Nat := c.nat (0x10000080 + 0x10000 * n) 0
/-- LANE.BUS.VCHOP_ON, 0x02000200 (Table 13.6). -/
def Cfg.laneBusVchopOn (c : Cfg) : Int := c.int (0x02000200) 3538944
/-- LANE.BUS.VCHOP_FULL, 0x02000201 (Table 13.6). -/
def Cfg.laneBusVchopFull (c : Cfg) : Int := c.int (0x02000201) 3801088
/-- LANE.BUS.HYST, 0x02000202 (Table 13.6). -/
def Cfg.laneBusHyst (c : Cfg) : Int := c.int (0x02000202) 131072
/-- LANE.BUS.VOV1, 0x02000203 (Table 13.6). -/
def Cfg.laneBusVov1 (c : Cfg) : Int := c.int (0x02000203) 3932160
/-- LANE.BUS.VOV2, 0x02000204 (Table 13.6). -/
def Cfg.laneBusVov2 (c : Cfg) : Int := c.int (0x02000204) 4325376
/-- LANE.BUS.CHOP.IMIN, 0x02000205 (Table 13.6). -/
def Cfg.laneBusChopImin (c : Cfg) : Int := c.int (0x02000205) 65536
/-- LANE.BUS.REGENPCT, 0x02000206 (Table 13.6). -/
def Cfg.laneBusRegenpct (c : Cfg) : Nat := c.nat (0x02000206) 10
/-- STEER[1].CH, 0x20000001 (Table 14.4). -/
def Cfg.sensorSteerCh (c : Cfg) : List Int := c.arr (0x20010001) [255, 255, 255]
/-- BRAKE[i].CH, 0x21000001 (Table 14.4). -/
def Cfg.sensorBrakeCh (c : Cfg) (n : Nat) : List Int := c.arr (0x21000001 + 0x10000 * n) [255, 255, 255]
/-- STEER[1].BAND, 0x20000002 (Table 14.4). -/
def Cfg.sensorSteerBand (c : Cfg) : Int := c.int (0x20010002) 655360
/-- BRAKE[i].BAND, 0x21000002 (Table 14.4). -/
def Cfg.sensorBrakeBand (c : Cfg) (n : Nat) : Int := c.int (0x21000002 + 0x10000 * n) (bandDefault 0x21 n)
/-- STEER[1].XTIME, 0x20000003 (Table 14.4). -/
def Cfg.sensorSteerXtime (c : Cfg) : Nat := c.nat (0x20010003) 40
/-- BRAKE[i].XTIME, 0x21000003 (Table 14.4). -/
def Cfg.sensorBrakeXtime (c : Cfg) (n : Nat) : Nat := c.nat (0x21000003 + 0x10000 * n) 40
/-- STEER[1].SCALE, 0x20000004 (Table 14.4). -/
def Cfg.sensorSteerScale (c : Cfg) : Int := c.int (0x20010004) 65536
/-- BRAKE[i].SCALE, 0x21000004 (Table 14.4). -/
def Cfg.sensorBrakeScale (c : Cfg) (n : Nat) : Int := c.int (0x21000004 + 0x10000 * n) 65536
/-- STEER[1].OFFSET, 0x20000005 (Table 14.4). -/
def Cfg.sensorSteerOffset (c : Cfg) : Int := c.int (0x20010005) 0
/-- BRAKE[i].OFFSET, 0x21000005 (Table 14.4). -/
def Cfg.sensorBrakeOffset (c : Cfg) (n : Nat) : Int := c.int (0x21000005 + 0x10000 * n) 0
/-- BRAKE[i].CIRC, 0x21000010 (Table 14.4). -/
def Cfg.sensorBrakeCirc (c : Cfg) (n : Nat) : Nat := c.nat (0x21000010 + 0x10000 * n) 0
/-- CURVE[k].X, 0x18000001 (Table 14.4). -/
def Cfg.curveX (c : Cfg) (n : Nat) : List Int := c.arr (0x18000001 + 0x10000 * n) []
/-- CURVE[k].Y, 0x18000002 (Table 14.4). -/
def Cfg.curveY (c : Cfg) (n : Nat) : List Int := c.arr (0x18000002 + 0x10000 * n) []
/-- STEER.ANGLE.MAX, 0x20000011 (Table 14.5). -/
def Cfg.steerAngleMax (c : Cfg) : Nat := c.nat (0x20000011) 45000
/-- STEER.FRONT, 0x20000012 (Table 14.5). -/
def Cfg.steerFront (c : Cfg) : Nat := c.nat (0x20000012) 255
/-- STEER.RATIO.CURVE, 0x20000013 (Table 14.5). -/
def Cfg.steerRatioCurve (c : Cfg) : Nat := c.nat (0x20000013) 255
/-- STEER.GUIDE.KMAX.CURVE, 0x20000030 (Table 14.5). -/
def Cfg.steerGuideKmaxCurve (c : Cfg) : Nat := c.nat (0x20000030) 255
/-- STEER.GUIDE.KRATE.CURVE, 0x20000031 (Table 14.5). -/
def Cfg.steerGuideKrateCurve (c : Cfg) : Nat := c.nat (0x20000031) 255
/-- STEER.GUIDE.TIMEOUT, 0x20000032 (Table 14.5). -/
def Cfg.steerGuideTimeout (c : Cfg) : Nat := c.nat (0x20000032) 12000
/-- STEER.GUIDE.SIGN, 0x20000033 (Table 14.5). -/
def Cfg.steerGuideSign (c : Cfg) : Nat := c.nat (0x20000033) 0
/-- STEER.FEEL.KRACK, 0x20000040 (Table 14.5). -/
def Cfg.steerFeelKrack (c : Cfg) : Int := c.int (0x20000040) 13107
/-- STEER.FEEL.DAMP, 0x20000041 (Table 14.5). -/
def Cfg.steerFeelDamp (c : Cfg) : Int := c.int (0x20000041) 328
/-- STEER.FEEL.KEND, 0x20000042 (Table 14.5). -/
def Cfg.steerFeelKend (c : Cfg) : Int := c.int (0x20000042) 32768
/-- STEER.FEEL.TMAX, 0x20000043 (Table 14.5). -/
def Cfg.steerFeelTmax (c : Cfg) : Int := c.int (0x20000043) 524288
/-- AXIS[n].FOLLOW.LEAD, 0x10000090 (Table 14.5). -/
def Cfg.axisFollowLead (c : Cfg) (n : Nat) : Nat := c.nat (0x10000090 + 0x10000 * n) 255
/-- AXIS[n].FOLLOW.CURVE, 0x10000091 (Table 14.5). -/
def Cfg.axisFollowCurve (c : Cfg) (n : Nat) : Nat := c.nat (0x10000091 + 0x10000 * n) 255
/-- AXIS[n].FOLLOW.VCUT, 0x10000092 (Table 14.5). -/
def Cfg.axisFollowVcut (c : Cfg) (n : Nat) : Int := c.int (0x10000092 + 0x10000 * n) 655360
/-- AXIS[n].FOLLOW.VZERO, 0x10000093 (Table 14.5). -/
def Cfg.axisFollowVzero (c : Cfg) (n : Nat) : Int := c.int (0x10000093 + 0x10000 * n) 983040
/-- AXIS[n].LOOP.XCHK.CH, 0x15000060 (Table 14.5). -/
def Cfg.axisLoopXchkCh (c : Cfg) (n : Nat) : Nat := c.nat (0x15000060 + 0x10000 * n) 255
/-- AXIS[n].LOOP.XCHK.RATIO, 0x15000061 (Table 14.5). -/
def Cfg.axisLoopXchkRatio (c : Cfg) (n : Nat) : Int := c.int (0x15000061 + 0x10000 * n) 65536
/-- AXIS[n].LOOP.XCHK.BAND, 0x15000062 (Table 14.5). -/
def Cfg.axisLoopXchkBand (c : Cfg) (n : Nat) : Nat := c.nat (0x15000062 + 0x10000 * n) 500
/-- AXIS[n].LOOP.XCHK.TIME, 0x15000063 (Table 14.5). -/
def Cfg.axisLoopXchkTime (c : Cfg) (n : Nat) : Nat := c.nat (0x15000063 + 0x10000 * n) 400
/-- BRAKE.VALVE.LEFT, 0x21000001 (Table 14.6). -/
def Cfg.brakeValveLeft (c : Cfg) : Nat := c.nat (0x21000001) 255
/-- BRAKE.VALVE.RIGHT, 0x21000002 (Table 14.6). -/
def Cfg.brakeValveRight (c : Cfg) : Nat := c.nat (0x21000002) 255
/-- BRAKE.VALVE.TRAILER, 0x21000003 (Table 14.6). -/
def Cfg.brakeValveTrailer (c : Cfg) : Nat := c.nat (0x21000003) 255
/-- BRAKE.PARK, 0x21000004 (Table 14.6). -/
def Cfg.brakePark (c : Cfg) : Nat := c.nat (0x21000004) 255
/-- BRAKE.PUMP, 0x21000005 (Table 14.6). -/
def Cfg.brakePump (c : Cfg) : Nat := c.nat (0x21000005) 255
/-- BRAKE.PEDAL.CURVE, 0x21000006 (Table 14.6). -/
def Cfg.brakePedalCurve (c : Cfg) : Nat := c.nat (0x21000006) 255
/-- BRAKE.TRAILER.CURVE, 0x21000007 (Table 14.6). -/
def Cfg.brakeTrailerCurve (c : Cfg) : Nat := c.nat (0x21000007) 255
/-- BRAKE.SPLIT.VMAX, 0x21000008 (Table 14.6). -/
def Cfg.brakeSplitVmax (c : Cfg) : Int := c.int (0x21000008) 983040
/-- BRAKE.KDECEL, 0x21000009 (Table 14.6). -/
def Cfg.brakeKdecel (c : Cfg) : Int := c.int (0x21000009) 1310720
/-- BRAKE.PRS.BAND, 0x21000010 (Table 14.6). -/
def Cfg.brakePrsBand (c : Cfg) : Int := c.int (0x21000010) 983040
/-- BRAKE.PRS.TIME, 0x21000011 (Table 14.6). -/
def Cfg.brakePrsTime (c : Cfg) : Nat := c.nat (0x21000011) 8000
/-- BRAKE.ACC.PLOW, 0x21000012 (Table 14.6). -/
def Cfg.brakeAccPlow (c : Cfg) : Int := c.int (0x21000012) 6553600
/-- BRAKE.PARK.PMIN, 0x21000020 (Table 14.6). -/
def Cfg.brakeParkPmin (c : Cfg) : Int := c.int (0x21000020) 7864320
/-- BRAKE.PARK.IREL, 0x21000021 (Table 14.6). -/
def Cfg.brakeParkIrel (c : Cfg) : Nat := c.nat (0x21000021) 1200
/-- BRAKE.PARK.VAPPLY, 0x21000022 (Table 14.6). -/
def Cfg.brakeParkVapply (c : Cfg) : Int := c.int (0x21000022) 131072
/-- BRAKE.PARK.DECEL, 0x21000023 (Table 14.6). -/
def Cfg.brakeParkDecel (c : Cfg) : Int := c.int (0x21000023) 98304
/-- BRAKE.SLIP.MAX, 0x21000030 (Table 14.6). -/
def Cfg.brakeSlipMax (c : Cfg) : Int := c.int (0x21000030) 13107
/-- BRAKE.SLIP.HYST, 0x21000031 (Table 14.6). -/
def Cfg.brakeSlipHyst (c : Cfg) : Int := c.int (0x21000031) 3277
/-- BRAKE.SLIP.VMIN, 0x21000032 (Table 14.6). -/
def Cfg.brakeSlipVmin (c : Cfg) : Int := c.int (0x21000032) 196608
/-- BRAKE.SLIP.STEP, 0x21000033 (Table 14.6). -/
def Cfg.brakeSlipStep (c : Cfg) : Int := c.int (0x21000033) 327680
/-- BRAKE.SLIP.RISE, 0x21000034 (Table 14.6). -/
def Cfg.brakeSlipRise (c : Cfg) : Int := c.int (0x21000034) 13107200
/-- BRAKE.SPEED.CANBAND, 0x21000035 (Table 14.6). -/
def Cfg.brakeSpeedCanband (c : Cfg) : Int := c.int (0x21000035) 65536
/-- BRAKE.SPEED.CANTIME, 0x21000036 (Table 14.6). -/
def Cfg.brakeSpeedCantime (c : Cfg) : Nat := c.nat (0x21000036) 4000
/-- FAULT.ESCALATE, 0x30000001 (Table 15.10). -/
def Cfg.faultEscalate (c : Cfg) : Bool := c.bool (0x30000001) true
/-- FAULT.COLLECTOR_DIRECT, 0x30000002 (Table 15.10). -/
def Cfg.faultCollectorDirect (c : Cfg) : Bool := c.bool (0x30000002) false
/-- FAULT.ANNEAL.TIME, 0x30000003 (Table 15.10). -/
def Cfg.faultAnnealTime (c : Cfg) : Nat := c.nat (0x30000003) 80000
/-- FAULT.ANNEAL.CLASSMAX, 0x30000004 (Table 15.10). -/
def Cfg.faultAnnealClassmax (c : Cfg) : Nat := c.nat (0x30000004) 3
/-- FAULT.ANNEAL.TOTALMAX, 0x30000005 (Table 15.10). -/
def Cfg.faultAnnealTotalmax (c : Cfg) : Nat := c.nat (0x30000005) 8
/-- FAULT.CLASS[c].ANNEAL, 0x30000010 (Table 15.10). -/
def Cfg.faultClassAnneal (c : Cfg) (n : Nat) : Bool := c.bool (0x30000010 + 0x10000 * n) (annealDefault n != 0)
/-- FAULT.STOP.DECEL, 0x30000020 (Table 15.10). -/
def Cfg.faultStopDecel (c : Cfg) : Int := c.int (0x30000020) 131072
/-- FAULT.STOP.THOLD, 0x30000021 (Table 15.10). -/
def Cfg.faultStopThold (c : Cfg) : Nat := c.nat (0x30000021) 30
/-- FAULT.STOP.TMAX, 0x30000022 (Table 15.10). -/
def Cfg.faultStopTmax (c : Cfg) : Nat := c.nat (0x30000022) 20
/-- FAULT.STOP.DISAGREE, 0x30000023 (Table 15.10). -/
def Cfg.faultStopDisagree (c : Cfg) : Nat := c.nat (0x30000023) 4000
/-- SAFETY[k].AGPL, 0x31000001 (Table 16.3). -/
def Cfg.safetyAgpl (c : Cfg) (n : Nat) : Nat := c.nat (0x31000001 + 0x10000 * n) 0
/-- SAFETY[k].TMAX, 0x31000002 (Table 16.3). -/
def Cfg.safetyTmax (c : Cfg) (n : Nat) : Nat := c.nat (0x31000002 + 0x10000 * n) 0
/-- FABRIC.TOPO.KIND, 0x40000001 (Table 17.12). -/
def Cfg.fabricTopoKind (c : Cfg) : Nat := c.nat (0x40000001) 0
/-- FABRIC.TOPO.ORDER, 0x40000002 (Table 17.12). -/
def Cfg.fabricTopoOrder (c : Cfg) : List Int := c.arr (0x40000002) []
/-- FABRIC.TOPO.SEAL, 0x40000003 (Table 17.12). -/
def Cfg.fabricTopoSeal (c : Cfg) : List Int := c.arr (0x40000003) [0]
/-- FABRIC.PORT.ROLE, 0x40000004 (Table 17.12). -/
def Cfg.fabricPortRole (c : Cfg) : Nat := c.nat (0x40000004) 2
/-- FABRIC.ERR.LIMIT, 0x40000005 (Table 17.12). -/
def Cfg.fabricErrLimit (c : Cfg) : Nat := c.nat (0x40000005) 100
/-- FABRIC.PUB, 0x40000010 (Table 18.7). -/
def Cfg.fabricPub (c : Cfg) : List Int := c.arr (0x40000010) [1, 2, 3]
/-- FABRIC.LEAD.SUB, 0x40000011 (Table 18.7). -/
def Cfg.fabricLeadSub (c : Cfg) : Nat := c.nat (0x40000011) 255
/-- FABRIC.CAR.RANK, 0x40000012 (Table 18.7). -/
def Cfg.fabricCarRank (c : Cfg) : Nat := c.nat (0x40000012) 0
/-- FABRIC.CAR.DEMAND.SUB, 0x40000013 (Table 18.7). -/
def Cfg.fabricCarDemandSub (c : Cfg) : Nat := c.nat (0x40000013) 255
/-- FABRIC.SUB[j].SIG, 0x40000100 (Table 18.7). -/
def Cfg.fabricSubSig (c : Cfg) (k : Nat) : Nat := c.nat (0x40000100 + 0x10 * k) 0
/-- FABRIC.SUB[j].MAXAGE, 0x40000101 (Table 18.7). -/
def Cfg.fabricSubMaxage (c : Cfg) (k : Nat) : Nat := c.nat (0x40000101 + 0x10 * k) 8
/-- FABRIC.SUB[j].BAND, 0x40000102 (Table 18.7). -/
def Cfg.fabricSubBand (c : Cfg) (k : Nat) : Int := c.int (0x40000102 + 0x10 * k) 65536
/-- FABRIC.SUB[j].RULE, 0x40000103 (Table 18.7). -/
def Cfg.fabricSubRule (c : Cfg) (k : Nat) : Nat := c.nat (0x40000103 + 0x10 * k) 0
/-- FABRIC.COMMIT[k].MODE, 0x40000010 (Table 18.7). -/
def Cfg.fabricCommitMode (c : Cfg) (n : Nat) : Nat := c.nat (0x40000010 + 0x10000 * n) (if n = 1 then 1 else 0)
/-- FABRIC.COMMIT[k].RETRY, 0x40000011 (Table 18.7). -/
def Cfg.fabricCommitRetry (c : Cfg) (n : Nat) : Nat := c.nat (0x40000011 + 0x10000 * n) 3
/-- FABRIC.COMMIT[k].STEP, 0x40000012 (Table 18.7). -/
def Cfg.fabricCommitStep (c : Cfg) (n : Nat) : Int := c.int (0x40000012 + 0x10000 * n) 32768
/-- FABRIC.COMMIT[k].REFRESH, 0x40000013 (Table 18.7). -/
def Cfg.fabricCommitRefresh (c : Cfg) (n : Nat) : Nat := c.nat (0x40000013 + 0x10000 * n) 40
/-- FABRIC.COMMIT[k].HOLD, 0x40000014 (Table 18.7). -/
def Cfg.fabricCommitHold (c : Cfg) (n : Nat) : Nat := c.nat (0x40000014 + 0x10000 * n) 200
/-- FABRIC.COMMIT[k].FALLBACK, 0x40000015 (Table 18.7). -/
def Cfg.fabricCommitFallback (c : Cfg) (n : Nat) : Int := c.int (0x40000015 + 0x10000 * n) 0
/-- FABRIC.COMMIT[k].PART[i].NODE, 0x40000100 (Table 18.7). -/
def Cfg.fabricCommitPartNode (c : Cfg) (n k : Nat) : Nat := c.nat (0x40000100 + 0x10000 * n + 0x10 * k) 0
/-- FABRIC.COMMIT[k].PART[i].AXIS, 0x40000101 (Table 18.7). -/
def Cfg.fabricCommitPartAxis (c : Cfg) (n k : Nat) : Nat := c.nat (0x40000101 + 0x10000 * n + 0x10 * k) 0
/-- FABRIC.COMMIT[k].PART[i].GAIN, 0x40000102 (Table 18.7). -/
def Cfg.fabricCommitPartGain (c : Cfg) (n k : Nat) : Int := c.int (0x40000102 + 0x10000 * n + 0x10 * k) 65536
/-- FABRIC.COMMIT[k].PART[i].LIMIT, 0x40000103 (Table 18.7). -/
def Cfg.fabricCommitPartLimit (c : Cfg) (n k : Nat) : Int := c.int (0x40000103 + 0x10000 * n + 0x10 * k) 0
/-- FABRIC.COMMIT[k].PART[i].WEIGHT, 0x40000104 (Table 18.7). -/
def Cfg.fabricCommitPartWeight (c : Cfg) (n k : Nat) : Int := c.int (0x40000104 + 0x10000 * n + 0x10 * k) 65536
/-- CAN[c].MODE, 0x41000001 (Table 19.9). -/
def Cfg.canMode (c : Cfg) (n : Nat) : Nat := c.nat (0x41000001 + 0x10000 * n) 0
/-- CAN[c].NBR, 0x41000002 (Table 19.9). -/
def Cfg.canNbr (c : Cfg) (n : Nat) : Nat := c.nat (0x41000002 + 0x10000 * n) 250
/-- CAN[c].DBR, 0x41000003 (Table 19.9). -/
def Cfg.canDbr (c : Cfg) (n : Nat) : Nat := c.nat (0x41000003 + 0x10000 * n) 0
/-- CAN[c].NSP, 0x41000004 (Table 19.9). -/
def Cfg.canNsp (c : Cfg) (n : Nat) : Nat := c.nat (0x41000004 + 0x10000 * n) 875
/-- CAN[c].DSP, 0x41000005 (Table 19.9). -/
def Cfg.canDsp (c : Cfg) (n : Nat) : Nat := c.nat (0x41000005 + 0x10000 * n) 750
/-- CAN[c].ADDR, 0x41000006 (Table 19.9). -/
def Cfg.canAddr (c : Cfg) (n : Nat) : Nat := c.nat (0x41000006 + 0x10000 * n) 128
/-- CAN[c].NAME.MANUF, 0x41000010 (Table 19.9). -/
def Cfg.canNameManuf (c : Cfg) (n : Nat) : Nat := c.nat (0x41000010 + 0x10000 * n) 0
/-- CAN[c].NAME.FUNCTION, 0x41000011 (Table 19.9). -/
def Cfg.canNameFunction (c : Cfg) (n : Nat) : Nat := c.nat (0x41000011 + 0x10000 * n) 0
/-- CAN[c].NAME.FUNCINST, 0x41000012 (Table 19.9). -/
def Cfg.canNameFuncinst (c : Cfg) (n : Nat) : Nat := c.nat (0x41000012 + 0x10000 * n) 0
/-- CAN[c].NAME.ECUINST, 0x41000013 (Table 19.9). -/
def Cfg.canNameEcuinst (c : Cfg) (n : Nat) : Nat := c.nat (0x41000013 + 0x10000 * n) 0
/-- CAN[c].NAME.CLASS, 0x41000014 (Table 19.9). -/
def Cfg.canNameClass (c : Cfg) (n : Nat) : Nat := c.nat (0x41000014 + 0x10000 * n) 0
/-- CAN[c].NAME.CLASSINST, 0x41000015 (Table 19.9). -/
def Cfg.canNameClassinst (c : Cfg) (n : Nat) : Nat := c.nat (0x41000015 + 0x10000 * n) 0
/-- LANE.VOICE.FIRST, 0x02000300 (Table 19.9). -/
def Cfg.laneVoiceFirst (c : Cfg) : Nat := c.nat (0x02000300) 0
/-- LANE.VOICE.QUIET, 0x02000301 (Table 19.9). -/
def Cfg.laneVoiceQuiet (c : Cfg) : Nat := c.nat (0x02000301) 8000
/-- LANE.SESSION.IDLE, 0x02000302 (Table 19.9). -/
def Cfg.laneSessionIdle (c : Cfg) : Nat := c.nat (0x02000302) 2400000
/-- JOB[2].END.IPCT, 0x60000001 (Table 20.4). -/
def Cfg.jobEndIpct (c : Cfg) : Nat := c.nat (0x60020001) 20
/-- JOB[2].END.VSEEK, 0x60000002 (Table 20.4). -/
def Cfg.jobEndVseek (c : Cfg) : Nat := c.nat (0x60020002) 2000
/-- JOB[3].PEDAL.TIME, 0x60000001 (Table 20.4). -/
def Cfg.jobPedalTime (c : Cfg) : Nat := c.nat (0x60030001) 400000
/-- JOB[4].VALVE.POINTS, 0x60000001 (Table 20.4). -/
def Cfg.jobValvePoints (c : Cfg) : Nat := c.nat (0x60040001) 8
/-- JOB[4].VALVE.SETTLE, 0x60000002 (Table 20.4). -/
def Cfg.jobValveSettle (c : Cfg) : Nat := c.nat (0x60040002) 8000
/-- JOB[5].BRIDGE.IALIGN, 0x60000001 (Table 20.4). -/
def Cfg.jobBridgeIalign (c : Cfg) : Int := c.int (0x60050001) 655360
/-- JOB[7].SOURCE, 0x60000001 (Table 20.4). -/
def Cfg.jobSource (c : Cfg) : Nat := c.nat (0x60070001) 0
/-- JOB[7].ORDER, 0x60000002 (Table 20.4). -/
def Cfg.jobOrder (c : Cfg) : Nat := c.nat (0x60070002) 0
/-- JOB[7].JOINMAX, 0x60000003 (Table 20.4). -/
def Cfg.jobJoinmax (c : Cfg) : Nat := c.nat (0x60070003) 400000
/-- JOB[8].SEAL, 0x60000001 (Table 20.4). -/
def Cfg.jobSeal (c : Cfg) : Nat := c.nat (0x60080001) 0
/-- JOB[9].AREA, 0x60000001 (Table 20.4). -/
def Cfg.jobArea (c : Cfg) : Nat := c.nat (0x60090001) 0
/-- JOB[9].WINDOW, 0x60000002 (Table 20.4). -/
def Cfg.jobWindow (c : Cfg) : Nat := c.nat (0x60090002) 0
/-- JOB[9].CURSOR, 0x60000003 (Table 20.4). -/
def Cfg.jobCursor (c : Cfg) : Nat := c.nat (0x60090003) 0
/-- RECORD[s].SOURCE, 0x50000001 (Table 20.9). -/
def Cfg.recordSource (c : Cfg) (n : Nat) : Nat := c.nat (0x50000001 + 0x10000 * n) 0
/-- RECORD[s].LANE, 0x50000002 (Table 20.9). -/
def Cfg.recordLane (c : Cfg) (n : Nat) : Nat := c.nat (0x50000002 + 0x10000 * n) 0
/-- RECORD[s].DIV, 0x50000003 (Table 20.9). -/
def Cfg.recordDiv (c : Cfg) (n : Nat) : Nat := c.nat (0x50000003 + 0x10000 * n) 40
/-- LANE.REC.TRIG.CLASSES, 0x02000400 (Table 20.9). -/
def Cfg.laneRecTrigClasses (c : Cfg) : Nat := c.nat (0x02000400) 65535
/-- LANE.REC.TRIG.LEVEL, 0x02000401 (Table 20.9). -/
def Cfg.laneRecTrigLevel (c : Cfg) : Nat := c.nat (0x02000401) 2
/-- LANE.REC.PRE, 0x02000402 (Table 20.9). -/
def Cfg.laneRecPre (c : Cfg) : Nat := c.nat (0x02000402) 80000
/-- LANE.REC.POST, 0x02000403 (Table 20.9). -/
def Cfg.laneRecPost (c : Cfg) : Nat := c.nat (0x02000403) 40000

end Sys2Proof.Machine
end

