-- ==== Sys2Proof/Machine/Crypto.lean ====
section
/-! DEFINITION. The checks and hashes the manual names: CRC-32C and CRC-16/CCITT-FALSE (R101, Table 4.5), SHA-256 (FIPS 180-4), HMAC-SHA-256 (FIPS 198-1) and ECDSA over P-256 (FIPS 186-4); PRESUMED from these standards. -/

namespace Sys2Proof.Machine

/-- One bit of a reflected CRC-32C: the polynomial 0x1EDC6F41 reflected is 0x82F63B78. -/
def crc32cBit (c : Nat) : Nat := if c % 2 = 1 then (c / 2) ^^^ 0x82F63B78 else c / 2

/-- One byte of the CRC-32C. -/
def crc32cByte (c : Nat) (b : Byte) : Nat :=
  crc32cBit (crc32cBit (crc32cBit (crc32cBit (crc32cBit (crc32cBit (crc32cBit (crc32cBit (c ^^^ b.toNat))))))))

/-- CRC-32C of a list of bytes (Table 4.5). -/
def crc32c (bs : List Byte) : Nat := bs.foldl crc32cByte 0xFFFFFFFF ^^^ 0xFFFFFFFF

/-- One bit of the reflected CRC-32 of IEEE 802.3. -/
def crc32Bit (c : Nat) : Nat := if c % 2 = 1 then (c / 2) ^^^ 0xEDB88320 else c / 2

/-- One byte of it. -/
def crc32Byte (c : Nat) (b : Byte) : Nat :=
  crc32Bit (crc32Bit (crc32Bit (crc32Bit (crc32Bit (crc32Bit (crc32Bit (crc32Bit (c ^^^ b.toNat))))))))

/-- The frame check sequence of IEEE 802.3 (Table 17.2); PRESUMED from that standard. -/
def crc32 (bs : List Byte) : Nat := bs.foldl crc32Byte 0xFFFFFFFF ^^^ 0xFFFFFFFF

/-- One bit of CRC-16/CCITT-FALSE. -/
def crc16Bit (c : Nat) : Nat := if c ≥ 0x8000 then ((c * 2) % 0x10000) ^^^ 0x1021 else c * 2

/-- One byte of CRC-16/CCITT-FALSE. -/
def crc16Byte (c : Nat) (b : Byte) : Nat :=
  crc16Bit (crc16Bit (crc16Bit (crc16Bit (crc16Bit (crc16Bit (crc16Bit (crc16Bit (c ^^^ (b.toNat * 256)))))))))

/-- CRC-16/CCITT-FALSE of a list of bytes (Table 4.5). -/
def crc16 (bs : List Byte) : Nat := bs.foldl crc16Byte 0xFFFF

/-! ## SHA-256 (FIPS 180-4), its constants from the primes as that standard defines them -/

/-- The root of a number by its binary digits, from digit `i` - 1 down: the largest r with r ^ k ≤ n that extends the digits found. -/
def rootDigits (k n : Nat) : Nat → Nat → Nat
  | 0, r => r
  | i + 1, r => rootDigits k n i (if (r + 2 ^ i) ^ k ≤ n then r + 2 ^ i else r)

/-- The first 32 fraction bits of the k-th root of a prime. -/
def rootFraction (k p : Nat) : Nat := rootDigits k (p * 2 ^ (32 * k)) 37 0 % 2 ^ 32

/-- The first 64 primes. -/
def primes64 : List Nat := (List.range 312).filter fun n => 2 ≤ n && (List.range n).all fun d => d < 2 || n % d != 0

/-- The constants of the 64 rounds of SHA-256: of the cube roots of the first 64 primes. -/
def shaRoundKeys : List Nat := primes64.map (rootFraction 3)

/-- The initial hash value of SHA-256: of the square roots of the first 8 primes. -/
def shaStart : List Nat := (primes64.take 8).map (rootFraction 2)

/-- A 32-bit value turned right. -/
def turn (x n : Nat) : Nat := (x >>> n ||| x <<< (32 - n)) % 2 ^ 32

/-- Three turns of a value joined: Σ0 and Σ1. -/
def turns (x i j k : Nat) : Nat := turn x i ^^^ turn x j ^^^ turn x k

/-- One round: the eight working values and the sixteen words of the message schedule that the next rounds use. -/
def shaTurn (v w : List Nat) (key : Nat) : List Nat × List Nat :=
  match v with
  | [a, b, c, d, e, f, g, h] =>
    let x := w.headD 0
    let choose := (e &&& f) ^^^ ((2 ^ 32 - 1 - e) &&& g)
    let most := (a &&& (b ^^^ c)) ^^^ (b &&& c)
    let t := h + turns e 6 11 25 + choose + key + x
    let y := w.getD 1 0
    let z := w.getD 14 0
    let next := (x + w.getD 9 0 + (turn y 7 ^^^ turn y 18 ^^^ y >>> 3) + (turn z 17 ^^^ turn z 19 ^^^ z >>> 10)) % 2 ^ 32
    ([(t + turns a 2 13 22 + most) % 2 ^ 32, a, b, c, (d + t) % 2 ^ 32, e, f, g], w.drop 1 ++ [next])
  | _ => (v, w)

/-- A block of 64 bytes taken into the hash value. -/
def shaTake (v : List Nat) (block : List Byte) : List Nat :=
  let w := (List.range 16).map fun i => beNat (slice block (4 * i) 4)
  let r := shaRoundKeys.foldl (fun s key => shaTurn s.1 s.2 key) (v, w)
  List.zipWith (fun x y => (x + y) % 2 ^ 32) v r.1

/-- The message with its closing bits: 0x80, zeros, and its length in bits. -/
def shaPadded (m : List Byte) : List Byte :=
  m ++ byteOf 0x80 :: (List.replicate ((119 - m.length % 64) % 64) 0 ++ beBytes 8 (8 * m.length))

/-- SHA-256 of a list of bytes as a number of 256 bits (FIPS 180-4). -/
def sha256Nat (m : List Byte) : Nat :=
  let p := shaPadded m
  ((List.range (p.length / 64)).foldl (fun v i => shaTake v (slice p (64 * i) 64)) shaStart).foldl (fun s x => s * 2 ^ 32 + x) 0

/-- SHA-256 of a list of bytes, as 32 bytes. -/
def sha256 (m : List Byte) : List Byte := beBytes 32 (sha256Nat m)

/-- HMAC-SHA-256 of a message under a key of at most 64 bytes (FIPS 198-1). -/
def hmacSha256 (key m : List Byte) : List Byte :=
  let k := key ++ List.replicate (64 - key.length) 0
  sha256 (k.map (· ^^^ 0x5C) ++ sha256 (k.map (· ^^^ 0x36) ++ m))

/-! ## ECDSA over P-256 (R59, FIPS 186-4) -/

/-- The prime of the field of P-256. -/
def p256 : Nat := 2 ^ 256 - 2 ^ 224 + 2 ^ 192 + 2 ^ 96 - 1

/-- The order of its base point. -/
def n256 : Nat := 0xFFFFFFFF00000000FFFFFFFFFFFFFFFFBCE6FAADA7179E84F3B9CAC2FC632551

/-- Its coefficient b; a is -3. -/
def b256 : Nat := 0x5AC635D8AA3A93E7B3EBBD55769886BC651D06B0CC53B0F63BCE3C3E27D2604B

/-- A point in Jacobian coordinates, (x / z², y / z³); z = 0 is the point at infinity. -/
structure JPoint where
  /-- x. -/
  x : Nat
  /-- y. -/
  y : Nat
  /-- z. -/
  z : Nat
deriving DecidableEq, Repr

/-- The base point. -/
def base256 : JPoint :=
  { x := 0x6B17D1F2E12C4247F8BCE6E563A440F277037D812DEB33A0F4A13945D898C296
    y := 0x4FE342E2FE1A7F9B8EE7EB4A7C0F9E162BCE33576B315ECECBB6406837BF51F5, z := 1 }

/-- A difference in the field. -/
def fsub (a b : Nat) : Nat := (a + p256 - b) % p256

/-- A point doubled. -/
def JPoint.double (P : JPoint) : JPoint :=
  let d := P.z * P.z % p256
  let g := P.y * P.y % p256
  let b := P.x * g % p256
  let a := 3 * fsub P.x d * (P.x + d) % p256
  let x := fsub (a * a % p256) (8 * b % p256)
  { x := x, y := fsub (a * fsub (4 * b % p256) x % p256) (8 * g * g % p256), z := 2 * P.y * P.z % p256 }

/-- Two points added. -/
def JPoint.add (P Q : JPoint) : JPoint :=
  if P.z = 0 then Q
  else if Q.z = 0 then P
  else
    let zz := P.z * P.z % p256
    let ww := Q.z * Q.z % p256
    let u := P.x * ww % p256
    let s := P.y * (ww * Q.z) % p256
    let h := fsub (Q.x * zz % p256) u
    let r := fsub (Q.y * (zz * P.z) % p256) s
    if h = 0 then (if r = 0 then P.double else { x := 1, y := 1, z := 0 })
    else
      let hh := h * h % p256
      let v := u * hh % p256
      let hhh := hh * h % p256
      let x := fsub (r * r % p256) ((hhh + 2 * v) % p256)
      { x := x, y := fsub (r * fsub v x % p256) (s * hhh % p256), z := P.z * Q.z * h % p256 }

/-- u G + v Q by the binary digits of both, the top `i` of them. -/
def twoTimes (u v : Nat) (Q GQ : JPoint) : Nat → JPoint → JPoint
  | 0, R => R
  | i + 1, R =>
    let D := R.double
    let T := if u.testBit i then (if v.testBit i then D.add GQ else D.add base256) else (if v.testBit i then D.add Q else D)
    twoTimes u v Q GQ i T

/-- A power modulo n. -/
def powMod (b m : Nat) (e : Nat) : Nat → Nat → Nat
  | 0, a => a
  | i + 1, a => powMod b m e i (if e.testBit i then a * a % m * b % m else a * a % m)

/-- The point with these coordinates lies on the curve. -/
def onP256 (q : Nat × Nat) : Bool :=
  q.1 < p256 && q.2 < p256 && q.2 * q.2 % p256 == (q.1 * q.1 * q.1 + (p256 - 3) * q.1 + b256) % p256

/-- The signature r, s of a message checks against a public key (FIPS 186-4). -/
def ecdsaValid (key : Nat × Nat) (m : List Byte) (r s : Nat) : Bool :=
  if !onP256 key || r == 0 || s == 0 || n256 ≤ r || n256 ≤ s then false
  else
    let w := powMod s n256 (n256 - 2) 256 1
    let Q : JPoint := { x := key.1, y := key.2, z := 1 }
    let R := twoTimes (sha256Nat m * w % n256) (r * w % n256) Q (base256.add Q) 256 { x := 1, y := 1, z := 0 }
    let zz := R.z * R.z % p256
    R.z != 0 && (r * zz % p256 == R.x || (r + n256 < p256 && (r + n256) * zz % p256 == R.x))

end Sys2Proof.Machine
end

