-- ==== Sys2Proof/Machine/Events.lean ====
section
/-! DEFINITION. Every event code of the manual's event tables, with its class, number and own level (R396, Table 15.1, Table 15.2). -/

namespace Sys2Proof

/-- The event codes: one constructor per code of the manual's event tables. -/
inductive Ev where
  /-- TIM-001 (Table 2.4): Outlier from a three-lane median (R38). -/
  | tim001
  /-- TIM-002 (Table 2.4): Two-lane split (R39). -/
  | tim002
  /-- TIM-003 (Table 2.4): Tick-work overrun of the fence. -/
  | tim003
  /-- TIM-004 (Table 2.4): Boundary-work overrun. -/
  | tim004
  /-- TIM-005 (Table 2.4): Loop engine published after 12.00 µs. -/
  | tim005
  /-- TIM-006 (Table 2.4): PIN or FABRIC source became LOST on this lane, active or not (R44, R45). -/
  | tim006
  /-- TIM-007 (Table 2.4): Tick loss: the lane clock differs from the lane's internal reference by more than 1 %. -/
  | tim007
  /-- TIM-008 (Table 3.6): ALIGN not left within 4,800 ticks (R68). -/
  | tim008
  /-- TIM-009 (Table 9.10): Loop phase differs from that of another lane in OPERATE (R233). -/
  | tim009
  /-- COR-001 (Table 3.6): Logic self-test failed. -/
  | cor001
  /-- COR-002 (Table 15.14): Tick not closed by the next boundary (R408). -/
  | cor002
  /-- COR-003 (Table 15.14): Lockstep comparator mismatch (Table 15.5). -/
  | cor003
  /-- COR-010 (Table 9.10): Datapath comparison mismatch (R255). -/
  | cor010
  /-- MEM-001 (Table 3.6): Recorded slot failed its signature check; the other slot was started (R60). -/
  | mem001
  /-- MEM-002 (Table 3.6): Both slots failed; lane held in BOOT. -/
  | mem002
  /-- MEM-003 (Table 3.6): Memory self-test failed. -/
  | mem003
  /-- MEM-004 (R563): A journal item has no valid copy (R556). -/
  | mem004
  /-- FBK-001 (Table 7.6): Fast-edge sum above FAST_LIMIT (R171). -/
  | fbk001
  /-- FBK-002 (Table 7.6): Double-step sum above DOUBLE_LIMIT (R175). -/
  | fbk002
  /-- FBK-003 (Table 7.6): Index interval mismatch (R177). -/
  | fbk003
  /-- FBK-004 (Table 7.6): Second index mismatch with no pass between (R178). -/
  | fbk004
  /-- FBK-005 (Table 7.6): Tooth count between references wrong (R182). -/
  | fbk005
  /-- FBK-006 (Table 7.6): Second tooth count mismatch (R182). -/
  | fbk006
  /-- FBK-007 (Table 7.6): Hall invalid state or skip sum above DOUBLE_LIMIT (R184). -/
  | fbk007
  /-- FBK-008 (Table 7.6): Resolver loss of signal (R190). -/
  | fbk008
  /-- FBK-009 (Table 7.6): Resolver amplitude degraded (R190). -/
  | fbk009
  /-- FBK-010 (Table 7.6): Resolver tracking error beyond bound (R190). -/
  | fbk010
  /-- FBK-011 (Table 7.6): SSI frame failed (R193). -/
  | fbk011
  /-- FBK-012 (Table 7.6): Second consecutive SSI frame failure (R193). -/
  | fbk012
  /-- FBK-013 (Table 7.6): Analog input out of range (R194). -/
  | fbk013
  /-- FBK-020 (Table 5.10): Resolver excitation amplitude out of tolerance. -/
  | fbk020
  /-- FBK-021 (Table 5.10): Feedback cross-comparison outlier. -/
  | fbk021
  /-- FBK-030 (Table 8.9): Limit switch in CHATTER (R216). -/
  | fbk030
  /-- FBK-031 (Table 8.9): Standby switch state disagrees with the holder's (R217). -/
  | fbk031
  /-- FBK-032 (Table 8.9): Limit switch tripped during a move (R218). -/
  | fbk032
  /-- FBK-033 (Table 8.9): Step input fast-edge sum above STEPIN.FAST_LIMIT (R223). -/
  | fbk033
  /-- FBK-040 (Table 11.9): Observer and sensor angle disagree (R298). -/
  | fbk040
  /-- FBK-041 (Table 11.9): Re-catch failed on a STEER or FEEL axis (R304). -/
  | fbk041
  /-- FBK-042 (Table 11.9): Pump start failed START.RETRY times (R310). -/
  | fbk042
  /-- FBK-043 (Table 11.9): Observer lost (R299). -/
  | fbk043
  /-- FBK-044 (Table 11.9): Observer carries for a failed sensor (R301). -/
  | fbk044
  /-- FBK-045 (Table 11.9): Pump start attempt failed (R308, R304). -/
  | fbk045
  /-- FBK-050 (Table 14.8): Wheel-speed element failed by cross-check (R374). -/
  | fbk050
  /-- FBK-052 (Table 14.8): Wheel angle disagrees with motor position (R385). -/
  | fbk052
  /-- PWR-001 (Table 3.6): Gate-driver off-state test failed. -/
  | pwr001
  /-- PWR-002 (Table 3.6): Comparator self-trip failed. -/
  | pwr002
  /-- PWR-003 (Table 3.6): Bootstrap not charged after pre-charge (R69). -/
  | pwr003
  /-- PWR-010 (Table 13.9): Soft comparator trip (R355). -/
  | pwr010
  /-- PWR-011 (Table 13.9): Hard comparator trip (R355, R358). -/
  | pwr011
  /-- PWR-012 (Table 13.9): Phase-to-phase short (R359). -/
  | pwr012
  /-- PWR-013 (Table 13.9): Desaturation trip (R355). -/
  | pwr013
  /-- PWR-014 (Table 13.9): Failed transistor held under SHORT_AUTO (R357). -/
  | pwr014
  /-- PWR-015 (Table 13.9): High-side supply undervoltage with no fall-back (R346). -/
  | pwr015
  /-- PWR-016 (Table 13.9): Bootstrap undervoltage; isolated input taken (R346). -/
  | pwr016
  /-- PWR-017 (Table 13.9): Chopper fault (R362). -/
  | pwr017
  /-- PWR-018 (Table 13.9): V_bus above VOV1; regenerating sets shorted (R364). -/
  | pwr018
  /-- PWR-019 (Table 13.9): V_bus above VOV2 (R365). -/
  | pwr019
  /-- PWR-020 (Table 5.10): Gate probe charge out of tolerance. -/
  | pwr020
  /-- PWR-021 (Table 5.10): Bootstrap below threshold after pre-charge. -/
  | pwr021
  /-- PWR-022 (Table 5.10): Shunt offset out of limit. -/
  | pwr022
  /-- PWR-023 (Table 5.10): Comparator self-trip failed. -/
  | pwr023
  /-- PWR-030 (Table 11.9): Phase current sum beyond COMM.ISUM.MAX (R293). -/
  | pwr030
  /-- PWR-040 (Table 12.7): Both switches of a leg commanded on (R333). -/
  | pwr040
  /-- PWR-041 (Table 12.7): Duty written after the write fence (R329, R331). -/
  | pwr041
  /-- PWR-042 (Table 12.7): ABSOLUTE pulse clipped at 100 % (R325, R331). -/
  | pwr042
  /-- PWR-050 (Table 13.9): Adaptive step held at a bound (R345). -/
  | pwr050
  /-- PWR-051 (Table 13.9): Driver interlock: both inputs on (R340). -/
  | pwr051
  /-- PWR-052 (Table 13.9): HIGH hold ended by supply undervoltage (R358). -/
  | pwr052
  /-- THM-001 (Table 9.10): Winding temperature above THERM.TSTART (R248). -/
  | thm001
  /-- THM-002 (Table 9.10): Winding temperature above THERM.TMAX (R248). -/
  | thm002
  /-- THM-003 (Table 9.10): Ambient channel stale; THERM.TAMB used (R247). -/
  | thm003
  /-- THM-010 (Table 22.15): Junction above 145 °C (R578). -/
  | thm010
  /-- THM-011 (Table 22.15): Junction above 160 °C (R578). -/
  | thm011
  /-- LNK-001 (Table 1.12): Link direction declared down (R20, R61). -/
  | lnk001
  /-- LNK-020 (Table 5.10): Link loop-back word wrong or late. -/
  | lnk020
  /-- FAB-001 (Table 17.14): Neighbour not as expected, or topology digest differs (R462). -/
  | fab001
  /-- FAB-002 (Table 17.14): Neighbour claims this node's ID (R462). -/
  | fab002
  /-- FAB-003 (Table 17.14): Neighbour seal differs from FABRIC.TOPO.SEAL (R462). -/
  | fab003
  /-- FAB-010 (Table 17.14): Port down (R463). -/
  | fab010
  /-- FAB-011 (Table 17.14): Port not UP within 2,000 ticks of ALIGN (R463). -/
  | fab011
  /-- FAB-012 (Table 17.14): Frame errors above FABRIC.ERR.LIMIT (R452). -/
  | fab012
  /-- FAB-020 (Table 17.14): Time master changed (R467). -/
  | fab020
  /-- FAB-021 (Table 17.14): Fabric time invalid after 128 ticks in holdover (R469). -/
  | fab021
  /-- FAB-030 (Table 18.9): This lane answered REFUSE (R486). -/
  | fab030
  /-- FAB-031 (Table 18.9): Participant node entered the missing set (R490). -/
  | fab031
  /-- FAB-032 (Table 18.9): ALL commit aborted RETRY times; request dropped (R489). -/
  | fab032
  /-- FAB-033 (Table 18.9): Elected coordinator changed (R483). -/
  | fab033
  /-- FAB-034 (Table 18.9): PREPARE from a node other than the elected one (R483). -/
  | fab034
  /-- FAB-035 (Table 18.9): Share in force set to FALLBACK (R488). -/
  | fab035
  /-- FAB-036 (Table 18.9): Subscribed signal lost on every lane in OPERATE (R479). -/
  | fab036
  /-- NET-001 (Table 19.11): Controller went bus-off. -/
  | net001
  /-- NET-002 (Table 19.11): Controller became error passive. -/
  | net002
  /-- NET-003 (Table 19.11): No address could be claimed (R502). -/
  | net003
  /-- NET-004 (Table 19.11): This lane became the voice (R503). -/
  | net004
  /-- NET-005 (Table 19.11): Session lockout after three wrong responses (R514). -/
  | net005
  /-- NET-006 (Table 19.11): Voice stopped without a witness for its partners (R504). -/
  | net006
  /-- CFG-001 (Table 4.11): NOR flash not identified. -/
  | cfg001
  /-- CFG-002 (Table 4.11): Magic, header check or format version wrong. -/
  | cfg002
  /-- CFG-003 (Table 4.11): Image length out of range. -/
  | cfg003
  /-- CFG-004 (Table 4.11): Computed seal differs from header seal. -/
  | cfg004
  /-- CFG-005 (Table 4.11): Record structure, order or section error. -/
  | cfg005
  /-- CFG-006 (Table 4.11): Unknown object, bad length, value out of range, or required object missing. -/
  | cfg006
  /-- CFG-007 (Table 4.11): Object not permitted in a lane-specific section. -/
  | cfg007
  /-- CFG-008 (Table 4.11): Mirror record disagrees, or lane not in mask. -/
  | cfg008
  /-- CFG-009 (Table 4.11): Cross-object check failed. -/
  | cfg009
  /-- CFG-010 (Table 4.11): Worst-case load above the budget ceiling. -/
  | cfg010
  /-- CFG-011 (Table 4.11): Pending image rejected; active area gathered. -/
  | cfg011
  /-- CFG-012 (Table 4.11): Tag results of R110. -/
  | cfg012
  /-- CFG-013 (Table 4.11): Tag results of R110. -/
  | cfg013
  /-- CFG-014 (Table 4.11): Tag results of R110. -/
  | cfg014
  /-- CFG-015 (Table 4.11): Tag results of R110. -/
  | cfg015
  /-- CFG-016 (Table 4.11): Tag results of R110. -/
  | cfg016
  /-- CFG-017 (Table 4.11): Calibration taken from the journal copy. -/
  | cfg017
  /-- CFG-019 (Table 4.11): Image write refused or failed. -/
  | cfg019
  /-- CFG-020 (Table 3.6): Seal disagrees in ALIGN (R65). -/
  | cfg020
  /-- CFG-021 (Table 3.6): Identity digest disagrees; axis ABSENT (R66). -/
  | cfg021
  /-- CFG-022 (Table 4.11): Seal confirm refused. -/
  | cfg022
  /-- SUP-001 (Table 3.6): ADC reference check failed. -/
  | sup001
  /-- SUP-002 (Table 22.15): Disconnect opened on overvoltage (R569). -/
  | sup002
  /-- SUP-003 (Table 22.15): Sensor supply in current limit. -/
  | sup003
  /-- SUP-004 (Table 22.15): Gate supply below 10.5 V (R570). -/
  | sup004
  /-- SUP-020 (Table 5.10): ADC reference out of limit. -/
  | sup020
  /-- SUP-030 (Table 15.14): Commons lost; lane field 3 (R13, R399). -/
  | sup030
  /-- SUP-031 (Table 20.11): Recorder wear above 90 % of rating (R549). -/
  | sup031
  /-- LSE-001 (Table 5.10): Holder's counter ran out without renewal (R124). -/
  | lse001
  /-- LSE-002 (Table 5.10): RENEW withheld for LEASE.LEN consecutive ticks (R123). -/
  | lse002
  /-- LSE-003 (Table 5.10): Unplanned claim endorsed (R131). -/
  | lse003
  /-- LSE-004 (Table 5.10): Claim withdrawn in a contest (R132). -/
  | lse004
  /-- LSE-005 (Table 5.10): Counter refused a load (R118). -/
  | lse005
  /-- LSE-006 (Table 5.10): Named successor not endorsed in the tick after a yield (R129). -/
  | lse006
  /-- LSE-007 (Table 5.10): Stale holder stood down (R132). -/
  | lse007
  /-- LSE-008 (Table 5.10): Marver cycle not ended within 4.0 s (R144). -/
  | lse008
  /-- LSE-009 (R167): Follower pick of a PAIR axis changed (R162). -/
  | lse009
  /-- LSE-010 (Table 15.14): Axis orphaned (R420). -/
  | lse010
  /-- PLS-001 (Table 10.8): Electrical mirage: current sensing (R267). -/
  | pls001
  /-- PLS-002 (Table 10.8): Mechanical mirage: position or speed sensing (R267). -/
  | pls002
  /-- PLS-003 (Table 10.8): Both models within MIR.ATTRWIN (R268). -/
  | pls003
  /-- PLS-004 (Table 10.8): Load estimate held at MECH.LOADMAX (R264). -/
  | pls004
  /-- PLS-010 (Table 10.8): Set-point blend beyond HANDOVER.TMAX (R276). -/
  | pls010
  /-- PLS-011 (Table 10.8): Output blend beyond HANDOVER.TMAX (R279). -/
  | pls011
  /-- PLS-040 (Table 8.9): Target passed under DHARD (R208). -/
  | pls040
  /-- PLS-041 (Table 8.9): Step interpolation lag above STEPIN.LAGMAX (R226). -/
  | pls041
  /-- PLS-050 (Table 14.8): Brake pressure not following its demand (R388). -/
  | pls050
  /-- PLS-051 (Table 14.8): Accumulator below ACC.PLOW (R388). -/
  | pls051
  /-- PLS-052 (Table 14.8): Slip cap engaged (R390). -/
  | pls052
  /-- OPR-001 (Table 3.6): Wake demand disagrees between lanes in OPERATE (R78). -/
  | opr001
  /-- OPR-010 (Table 10.8): Operator override engaged (R281). -/
  | opr010
  /-- OPR-020 (Table 14.8): Operator element failed by cross-check (R374). -/
  | opr020
  /-- OPR-021 (Table 14.8): Pair disagreement (R374). -/
  | opr021
  /-- OPR-022 (Table 14.8): Instance lost on every lane (R376). -/
  | opr022
  /-- OPR-023 (Table 14.8): Guidance curvature timed out; CURVATURE axes to HOLD (R383). -/
  | opr023
  /-- OPR-024 (Table 14.8): Curvature clipped by the envelope (R382). -/
  | opr024
  /-- OPR-025 (Table 14.8): Park lever set at speed (R389). -/
  | opr025
  /-- COL-001 (Table 15.14): L2, or L3 under COLLECTOR_DIRECT. -/
  | col001
  /-- COL-010 (Table 15.14): Controlled stop begun (R421). -/
  | col010
  /-- COL-011 (Table 15.14): Controlled stop ended; lane to SAFE (R425). -/
  | col011
  /-- COL-012 (Table 15.14): Recovery limit reached; class latched (R413). -/
  | col012
  /-- COL-013 (Table 15.14): Acknowledgement accepted (R410). -/
  | col013
  /-- JOB-001 (Table 20.11): Job failed, CENTRE_FIND excepted. -/
  | job001
  /-- JOB-002 (Table 20.11): Job suspended, CENTRE_FIND excepted. -/
  | job002
  /-- JOB-003 (Table 20.11): Job done. -/
  | job003
  /-- JOB-010 (Table 20.11): Firmware switch rolled back (R539, R541). -/
  | job010
  /-- JOB-011 (Table 20.11): Protocol level differs from the node level (R538). -/
  | job011
  /-- JOB-012 (Table 20.11): REGATHER rolled back (R545). -/
  | job012
  /-- JOB-020 (Table 8.9): CENTRE_FIND failed (R221). -/
  | job020
  /-- JOB-021 (Table 8.9): CENTRE_FIND suspended (R221). -/
  | job021
deriving DecidableEq, Repr

/-- The class of an event (R396, Table 15.1). -/
def Ev.cls : Ev → FaultClass
  | .tim001 => .tim
  | .tim002 => .tim
  | .tim003 => .tim
  | .tim004 => .tim
  | .tim005 => .tim
  | .tim006 => .tim
  | .tim007 => .tim
  | .tim008 => .tim
  | .tim009 => .tim
  | .cor001 => .cor
  | .cor002 => .cor
  | .cor003 => .cor
  | .cor010 => .cor
  | .mem001 => .mem
  | .mem002 => .mem
  | .mem003 => .mem
  | .mem004 => .mem
  | .fbk001 => .fbk
  | .fbk002 => .fbk
  | .fbk003 => .fbk
  | .fbk004 => .fbk
  | .fbk005 => .fbk
  | .fbk006 => .fbk
  | .fbk007 => .fbk
  | .fbk008 => .fbk
  | .fbk009 => .fbk
  | .fbk010 => .fbk
  | .fbk011 => .fbk
  | .fbk012 => .fbk
  | .fbk013 => .fbk
  | .fbk020 => .fbk
  | .fbk021 => .fbk
  | .fbk030 => .fbk
  | .fbk031 => .fbk
  | .fbk032 => .fbk
  | .fbk033 => .fbk
  | .fbk040 => .fbk
  | .fbk041 => .fbk
  | .fbk042 => .fbk
  | .fbk043 => .fbk
  | .fbk044 => .fbk
  | .fbk045 => .fbk
  | .fbk050 => .fbk
  | .fbk052 => .fbk
  | .pwr001 => .pwr
  | .pwr002 => .pwr
  | .pwr003 => .pwr
  | .pwr010 => .pwr
  | .pwr011 => .pwr
  | .pwr012 => .pwr
  | .pwr013 => .pwr
  | .pwr014 => .pwr
  | .pwr015 => .pwr
  | .pwr016 => .pwr
  | .pwr017 => .pwr
  | .pwr018 => .pwr
  | .pwr019 => .pwr
  | .pwr020 => .pwr
  | .pwr021 => .pwr
  | .pwr022 => .pwr
  | .pwr023 => .pwr
  | .pwr030 => .pwr
  | .pwr040 => .pwr
  | .pwr041 => .pwr
  | .pwr042 => .pwr
  | .pwr050 => .pwr
  | .pwr051 => .pwr
  | .pwr052 => .pwr
  | .thm001 => .thm
  | .thm002 => .thm
  | .thm003 => .thm
  | .thm010 => .thm
  | .thm011 => .thm
  | .lnk001 => .lnk
  | .lnk020 => .lnk
  | .fab001 => .fab
  | .fab002 => .fab
  | .fab003 => .fab
  | .fab010 => .fab
  | .fab011 => .fab
  | .fab012 => .fab
  | .fab020 => .fab
  | .fab021 => .fab
  | .fab030 => .fab
  | .fab031 => .fab
  | .fab032 => .fab
  | .fab033 => .fab
  | .fab034 => .fab
  | .fab035 => .fab
  | .fab036 => .fab
  | .net001 => .net
  | .net002 => .net
  | .net003 => .net
  | .net004 => .net
  | .net005 => .net
  | .net006 => .net
  | .cfg001 => .cfg
  | .cfg002 => .cfg
  | .cfg003 => .cfg
  | .cfg004 => .cfg
  | .cfg005 => .cfg
  | .cfg006 => .cfg
  | .cfg007 => .cfg
  | .cfg008 => .cfg
  | .cfg009 => .cfg
  | .cfg010 => .cfg
  | .cfg011 => .cfg
  | .cfg012 => .cfg
  | .cfg013 => .cfg
  | .cfg014 => .cfg
  | .cfg015 => .cfg
  | .cfg016 => .cfg
  | .cfg017 => .cfg
  | .cfg019 => .cfg
  | .cfg020 => .cfg
  | .cfg021 => .cfg
  | .cfg022 => .cfg
  | .sup001 => .sup
  | .sup002 => .sup
  | .sup003 => .sup
  | .sup004 => .sup
  | .sup020 => .sup
  | .sup030 => .sup
  | .sup031 => .sup
  | .lse001 => .lse
  | .lse002 => .lse
  | .lse003 => .lse
  | .lse004 => .lse
  | .lse005 => .lse
  | .lse006 => .lse
  | .lse007 => .lse
  | .lse008 => .lse
  | .lse009 => .lse
  | .lse010 => .lse
  | .pls001 => .pls
  | .pls002 => .pls
  | .pls003 => .pls
  | .pls004 => .pls
  | .pls010 => .pls
  | .pls011 => .pls
  | .pls040 => .pls
  | .pls041 => .pls
  | .pls050 => .pls
  | .pls051 => .pls
  | .pls052 => .pls
  | .opr001 => .opr
  | .opr010 => .opr
  | .opr020 => .opr
  | .opr021 => .opr
  | .opr022 => .opr
  | .opr023 => .opr
  | .opr024 => .opr
  | .opr025 => .opr
  | .col001 => .col
  | .col010 => .col
  | .col011 => .col
  | .col012 => .col
  | .col013 => .col
  | .job001 => .job
  | .job002 => .job
  | .job003 => .job
  | .job010 => .job
  | .job011 => .job
  | .job012 => .job
  | .job020 => .job
  | .job021 => .job

/-- The three-digit number of an event within its class (R396). -/
def Ev.num : Ev → Nat
  | .tim001 => 1
  | .tim002 => 2
  | .tim003 => 3
  | .tim004 => 4
  | .tim005 => 5
  | .tim006 => 6
  | .tim007 => 7
  | .tim008 => 8
  | .tim009 => 9
  | .cor001 => 1
  | .cor002 => 2
  | .cor003 => 3
  | .cor010 => 10
  | .mem001 => 1
  | .mem002 => 2
  | .mem003 => 3
  | .mem004 => 4
  | .fbk001 => 1
  | .fbk002 => 2
  | .fbk003 => 3
  | .fbk004 => 4
  | .fbk005 => 5
  | .fbk006 => 6
  | .fbk007 => 7
  | .fbk008 => 8
  | .fbk009 => 9
  | .fbk010 => 10
  | .fbk011 => 11
  | .fbk012 => 12
  | .fbk013 => 13
  | .fbk020 => 20
  | .fbk021 => 21
  | .fbk030 => 30
  | .fbk031 => 31
  | .fbk032 => 32
  | .fbk033 => 33
  | .fbk040 => 40
  | .fbk041 => 41
  | .fbk042 => 42
  | .fbk043 => 43
  | .fbk044 => 44
  | .fbk045 => 45
  | .fbk050 => 50
  | .fbk052 => 52
  | .pwr001 => 1
  | .pwr002 => 2
  | .pwr003 => 3
  | .pwr010 => 10
  | .pwr011 => 11
  | .pwr012 => 12
  | .pwr013 => 13
  | .pwr014 => 14
  | .pwr015 => 15
  | .pwr016 => 16
  | .pwr017 => 17
  | .pwr018 => 18
  | .pwr019 => 19
  | .pwr020 => 20
  | .pwr021 => 21
  | .pwr022 => 22
  | .pwr023 => 23
  | .pwr030 => 30
  | .pwr040 => 40
  | .pwr041 => 41
  | .pwr042 => 42
  | .pwr050 => 50
  | .pwr051 => 51
  | .pwr052 => 52
  | .thm001 => 1
  | .thm002 => 2
  | .thm003 => 3
  | .thm010 => 10
  | .thm011 => 11
  | .lnk001 => 1
  | .lnk020 => 20
  | .fab001 => 1
  | .fab002 => 2
  | .fab003 => 3
  | .fab010 => 10
  | .fab011 => 11
  | .fab012 => 12
  | .fab020 => 20
  | .fab021 => 21
  | .fab030 => 30
  | .fab031 => 31
  | .fab032 => 32
  | .fab033 => 33
  | .fab034 => 34
  | .fab035 => 35
  | .fab036 => 36
  | .net001 => 1
  | .net002 => 2
  | .net003 => 3
  | .net004 => 4
  | .net005 => 5
  | .net006 => 6
  | .cfg001 => 1
  | .cfg002 => 2
  | .cfg003 => 3
  | .cfg004 => 4
  | .cfg005 => 5
  | .cfg006 => 6
  | .cfg007 => 7
  | .cfg008 => 8
  | .cfg009 => 9
  | .cfg010 => 10
  | .cfg011 => 11
  | .cfg012 => 12
  | .cfg013 => 13
  | .cfg014 => 14
  | .cfg015 => 15
  | .cfg016 => 16
  | .cfg017 => 17
  | .cfg019 => 19
  | .cfg020 => 20
  | .cfg021 => 21
  | .cfg022 => 22
  | .sup001 => 1
  | .sup002 => 2
  | .sup003 => 3
  | .sup004 => 4
  | .sup020 => 20
  | .sup030 => 30
  | .sup031 => 31
  | .lse001 => 1
  | .lse002 => 2
  | .lse003 => 3
  | .lse004 => 4
  | .lse005 => 5
  | .lse006 => 6
  | .lse007 => 7
  | .lse008 => 8
  | .lse009 => 9
  | .lse010 => 10
  | .pls001 => 1
  | .pls002 => 2
  | .pls003 => 3
  | .pls004 => 4
  | .pls010 => 10
  | .pls011 => 11
  | .pls040 => 40
  | .pls041 => 41
  | .pls050 => 50
  | .pls051 => 51
  | .pls052 => 52
  | .opr001 => 1
  | .opr010 => 10
  | .opr020 => 20
  | .opr021 => 21
  | .opr022 => 22
  | .opr023 => 23
  | .opr024 => 24
  | .opr025 => 25
  | .col001 => 1
  | .col010 => 10
  | .col011 => 11
  | .col012 => 12
  | .col013 => 13
  | .job001 => 1
  | .job002 => 2
  | .job003 => 3
  | .job010 => 10
  | .job011 => 11
  | .job012 => 12
  | .job020 => 20
  | .job021 => 21

/-- The level an event is raised at by its own table; COL-001 under COLLECTOR_DIRECT is R406's exception. -/
def Ev.level : Ev → Level
  | .tim001 => .l3
  | .tim002 => .l0
  | .tim003 => .l3
  | .tim004 => .l3
  | .tim005 => .l3
  | .tim006 => .l0
  | .tim007 => .l3
  | .tim008 => .l0
  | .tim009 => .l3
  | .cor001 => .l3
  | .cor002 => .l3
  | .cor003 => .l3
  | .cor010 => .l3
  | .mem001 => .l0
  | .mem002 => .l3
  | .mem003 => .l3
  | .mem004 => .l0
  | .fbk001 => .l2
  | .fbk002 => .l2
  | .fbk003 => .l0
  | .fbk004 => .l2
  | .fbk005 => .l0
  | .fbk006 => .l2
  | .fbk007 => .l2
  | .fbk008 => .l2
  | .fbk009 => .l1
  | .fbk010 => .l2
  | .fbk011 => .l0
  | .fbk012 => .l2
  | .fbk013 => .l2
  | .fbk020 => .l2
  | .fbk021 => .l2
  | .fbk030 => .l0
  | .fbk031 => .l0
  | .fbk032 => .l0
  | .fbk033 => .l0
  | .fbk040 => .l0
  | .fbk041 => .l2
  | .fbk042 => .l2
  | .fbk043 => .l0
  | .fbk044 => .l0
  | .fbk045 => .l0
  | .fbk050 => .l1
  | .fbk052 => .l2
  | .pwr001 => .l3
  | .pwr002 => .l3
  | .pwr003 => .l2
  | .pwr010 => .l2
  | .pwr011 => .l2
  | .pwr012 => .l2
  | .pwr013 => .l2
  | .pwr014 => .l3
  | .pwr015 => .l2
  | .pwr016 => .l0
  | .pwr017 => .l2
  | .pwr018 => .l1
  | .pwr019 => .l3
  | .pwr020 => .l2
  | .pwr021 => .l2
  | .pwr022 => .l2
  | .pwr023 => .l2
  | .pwr030 => .l2
  | .pwr040 => .l2
  | .pwr041 => .l0
  | .pwr042 => .l0
  | .pwr050 => .l0
  | .pwr051 => .l2
  | .pwr052 => .l0
  | .thm001 => .l1
  | .thm002 => .l2
  | .thm003 => .l0
  | .thm010 => .l0
  | .thm011 => .l3
  | .lnk001 => .l1
  | .lnk020 => .l0
  | .fab001 => .l0
  | .fab002 => .l0
  | .fab003 => .l0
  | .fab010 => .l0
  | .fab011 => .l0
  | .fab012 => .l0
  | .fab020 => .l0
  | .fab021 => .l0
  | .fab030 => .l0
  | .fab031 => .l0
  | .fab032 => .l0
  | .fab033 => .l0
  | .fab034 => .l0
  | .fab035 => .l1
  | .fab036 => .l0
  | .net001 => .l0
  | .net002 => .l0
  | .net003 => .l0
  | .net004 => .l0
  | .net005 => .l0
  | .net006 => .l0
  | .cfg001 => .l0
  | .cfg002 => .l0
  | .cfg003 => .l0
  | .cfg004 => .l0
  | .cfg005 => .l0
  | .cfg006 => .l0
  | .cfg007 => .l0
  | .cfg008 => .l0
  | .cfg009 => .l0
  | .cfg010 => .l0
  | .cfg011 => .l0
  | .cfg012 => .l0
  | .cfg013 => .l0
  | .cfg014 => .l0
  | .cfg015 => .l0
  | .cfg016 => .l0
  | .cfg017 => .l0
  | .cfg019 => .l0
  | .cfg020 => .l0
  | .cfg021 => .l0
  | .cfg022 => .l0
  | .sup001 => .l3
  | .sup002 => .l0
  | .sup003 => .l0
  | .sup004 => .l3
  | .sup020 => .l3
  | .sup030 => .l0
  | .sup031 => .l0
  | .lse001 => .l2
  | .lse002 => .l0
  | .lse003 => .l0
  | .lse004 => .l0
  | .lse005 => .l3
  | .lse006 => .l0
  | .lse007 => .l0
  | .lse008 => .l0
  | .lse009 => .l0
  | .lse010 => .l0
  | .pls001 => .l2
  | .pls002 => .l2
  | .pls003 => .l0
  | .pls004 => .l0
  | .pls010 => .l1
  | .pls011 => .l1
  | .pls040 => .l0
  | .pls041 => .l0
  | .pls050 => .l2
  | .pls051 => .l0
  | .pls052 => .l0
  | .opr001 => .l0
  | .opr010 => .l0
  | .opr020 => .l1
  | .opr021 => .l0
  | .opr022 => .l1
  | .opr023 => .l0
  | .opr024 => .l0
  | .opr025 => .l0
  | .col001 => .l2
  | .col010 => .l0
  | .col011 => .l3
  | .col012 => .l0
  | .col013 => .l0
  | .job001 => .l0
  | .job002 => .l0
  | .job003 => .l0
  | .job010 => .l0
  | .job011 => .l0
  | .job012 => .l0
  | .job020 => .l0
  | .job021 => .l0

end Sys2Proof
end

