-- ==== Sys2Proof/Machine/PartsCore.lean ====
section
/-! DEFINITION. Parts of a lane's state: link content, tick, lease, lane state and start-up, identity, fault collector (chapters 1 to 5 and 15). -/

namespace Sys2Proof.Machine

/-- A tick marker (R583, Table 1.11), with the predicted error that R37 says the markers carry. -/
structure Marker where
  /-- Lane state code of the sender. -/
  state : LState := .off
  /-- READY (R69). -/
  ready : Bool := false
  /-- Power-down flag (R80). -/
  powerDown : Bool := false
  /-- Stop flag (R422). -/
  stop : Bool := false
  /-- Node-stop flag (R403). -/
  nodeStop : Bool := false
  /-- Synchronised to fabric time (R46). -/
  synced : Bool := false
  /-- IGN input asserted. -/
  ign : Bool := false
  /-- WAKE input asserted. -/
  wake : Bool := false
  /-- Vehicle standstill seen, as judged at the close of the tick before. -/
  standstill : Bool := false
  /-- Low 16 bits of the fabric tick count. -/
  fabLow : Nat := 0
  /-- Sender's lane tick count. -/
  count : Nat := 0
  /-- The predicted error ê of R37, where valid. -/
  ehat : Option Int := none
  /-- PIN is present on the sender (R44). -/
  pinPresent : Bool := false
  /-- FABRIC is present on the sender (R44). -/
  fabPresent : Bool := false
  /-- Resets of the sender, by which a receiver knows its first marker after one (R34); no bits of the marker carry it. -/
  resets : Nat := 0
deriving DecidableEq, Repr

/-- A published-output entry (R121, Table 5.1). -/
structure PubEntry where
  /-- The sender is not ABSENT for the axis. -/
  valid : Bool := false
  /-- The sender's own checks of the axis passed in this tick. -/
  checks : Bool := false
  /-- The sender's role. -/
  role : Role := .absent
  /-- Claim. -/
  claim : Bool := false
  /-- Yield, with the named successor. -/
  yieldTo : Option LaneId := none
  /-- Follower lane. -/
  follower : Option LaneId := none
  /-- Epoch in force; for a claim, the claimed epoch. -/
  epoch : Half := 0
  /-- Counter value at the start of the tick. -/
  counter : Nat := 0
  /-- Re-catch in progress. -/
  recatch : Bool := false
  /-- Mode hand-over blend in progress. -/
  blend : Bool := false
  /-- LAST bounds in force. -/
  last : Bool := false
  /-- Primary output. -/
  prim : Q := 0
  /-- Secondary output. -/
  sec : Q := 0
deriving DecidableEq, Repr

/-- The published-output section (R121): the service level in its header and one entry per axis. -/
structure PubSection where
  /-- Node service level seen by the sender. -/
  service : Nat := 0
  /-- Entries, axis 0 first. -/
  entries : Tab 12 PubEntry := Tab.fill 12 {}
deriving DecidableEq, Repr

/-- The type of an endorsement entry (Table 5.2). -/
inductive EndType where | renew | claim | follow
deriving DecidableEq, Repr

/-- An endorsement entry that is valid (R122, Table 5.2). -/
structure Endorse where
  /-- Type. -/
  ty : EndType
  /-- Subject lane. -/
  subject : LaneId
  /-- Epoch. -/
  epoch : Half
  /-- Sender's lane tick count of the tick in which the entry is given. -/
  count : Nat
deriving DecidableEq, Repr

/-- The endorsement section: entries per axis; a sender may both renew a holder and grant a follower. -/
abbrev EndSection := Tab 12 (List Endorse)

/-- An owner's identity digest and the connection index of each slot whose tag was accepted (R114). -/
abbrev IdDigest := Word × List (Option Nat)

/-- Another lane as this lane sees it over their link. -/
structure Peer where
  /-- The marker received in the present tick, with the sender's boundary placed in clocks after the own boundary (R582). -/
  marker : Option Marker := none
  /-- The sender's boundary of that marker, clocks after the own boundary. -/
  boundary : Int := 0
  /-- The marker received in the tick before. -/
  markerPrev : Option Marker := none
  /-- The last valid marker since this lane's last reset (R134). -/
  lastMarker : Option Marker := none
  /-- Consecutive ticks without a valid marker, up to 8 (R20). -/
  silent : Nat := 0
  /-- A valid marker has arrived since this lane's last reset (R61). -/
  everUp : Bool := false
  /-- The link direction is declared down (R20). -/
  down : Bool := false
  /-- The sender's lane tick count minus the own (R34). -/
  diff : Option Int := none
  /-- The link delay measured by loop-back in ALIGN, clocks (R64). -/
  delay : Int := 0
  /-- Published outputs received in the present tick. -/
  pub : Option PubSection := none
  /-- Published outputs received in the tick before. -/
  pubPrev : Option PubSection := none
  /-- Last valid published section since this lane's last reset (R134). -/
  pubLast : Option PubSection := none
  /-- Endorsements received in the present tick. -/
  ends : Option EndSection := none
  /-- The health word of the sender, last received. -/
  health : Word := 0
  /-- The seal the sender shows, once exchanged (R64). -/
  sealSeen : Option Word := none
  /-- The identity digests and connection indices the sender shows, once exchanged (R64, R114): axes 0 to 11, then STEER[1] and BRAKE[1] to BRAKE[7]. -/
  digests : Option (List (Option IdDigest)) := none
deriving DecidableEq, Repr

/-- A sync source of a lane: PIN or FABRIC (R44). -/
structure SyncSource where
  /-- 0 UNUSED, 1 SEARCH, 2 LOCKED, 3 LOST. -/
  state : Nat := 0
  /-- The measurement of the present tick, clocks. -/
  meas : Option Int := none
  /-- Whether a measurement is expected in the present tick. -/
  expected : Bool := false
  /-- Consecutive measurements within ±80 clocks. -/
  lockRun : Nat := 0
  /-- Consecutive expected measurements outside the window or absent. -/
  missRun : Nat := 0
  /-- Consecutive measurements inside the window while LOST. -/
  backRun : Nat := 0
  /-- The last expected measurement lay inside the window. -/
  lastInside : Bool := false
  /-- The last expected measurement was made, anywhere within the tick (R40). -/
  seen : Bool := false
  /-- The last measured error, reduced by the corrections applied since (R37). -/
  err : Int := 0
  /-- That measurement lay inside the capture window. -/
  errValid : Bool := false
  /-- The last measured error as measured (R46). -/
  lastMeas : Option Int := none
  /-- A measurement that arrived before the boundary of the tick it belongs to. -/
  early : Option Int := none
deriving DecidableEq, Repr

/-- The tick timer and device time (chapter 2). -/
structure TickPart where
  /-- The 64-bit lane tick count (R33). -/
  count : Nat := 0
  /-- The correction c of the present tick (R37). -/
  corr : Int := 0
  /-- The correction of the next tick. -/
  corrNext : Int := 0
  /-- The step the boundary takes at the end of the present tick in ALIGN (R40). -/
  step : Int := 0
  /-- Offset d of R36, rounded. -/
  offset : Int := 0
  /-- Distance of the boundary from the alignment reference, where one exists (R40). -/
  alignErr : Option Int := none
  /-- The PIN source. -/
  pin : SyncSource := {}
  /-- The FABRIC source. -/
  fabric : SyncSource := {}
  /-- The tick count modulo PERIOD at which PIN edges are expected (R42), once fixed. -/
  pinPhase : Option Nat := none
  /-- The active source: 0 FREE, 1 PIN, 2 FABRIC. -/
  source : Nat := 0
  /-- The predicted error sent in this tick's marker (R37). -/
  ehatSent : Option Int := none
  /-- This lane's node is the time master of its plane, so FABRIC is skipped in the order (R43). -/
  skipFabric : Bool := false
  /-- Fabric tick count minus lane tick count (R35). -/
  fabOffset : Option Int := none
  /-- Consecutive ticks beyond 80 clocks from a three-lane median (R38). -/
  outlierRun : Nat := 0
  /-- Consecutive ticks of a two-lane split (R39). -/
  splitRun : Nat := 0
  /-- Measured load of the tick, percent (R50). -/
  load : Nat := 0
  /-- Highest load since gather. -/
  loadMax : Nat := 0
  /-- Load computed at gather (R51). -/
  loadCalc : Nat := 0
  /-- Clocks the tick work ran past the fence in this tick (R49). -/
  overFence : Nat := 0
  /-- Clocks the boundary work ran past the boundary. -/
  overBoundary : Nat := 0
  /-- Clocks the engine published after 12.00 µs. -/
  overPublish : Nat := 0
  /-- Deviation of the tick timer from the internal reference, 0.01 % units (R120). -/
  deviation : Int := 0
  /-- The sync pin is driven high for 400 clocks from this boundary (R42). -/
  pinPulse : Bool := false
deriving DecidableEq, Repr

/-- An axis's lease on a lane (chapter 5). -/
structure AxisLease where
  /-- The hardware lease counter (R117). -/
  counter : Nat := 0
  /-- Its value at the start of the present tick, as published. -/
  counterStart : Nat := 0
  /-- The epoch register (R117). -/
  epoch : Half := 0
  /-- The register was written and no load has followed (R118). -/
  fresh : Bool := false
  /-- The counter is forced to zero at the next boundary (R119, R128). -/
  forceZero : Bool := false
  /-- The role (R23). -/
  role : Role := .absent
  /-- Absent by hardware or identity (R156, R63, R66): lasts until the next gather. -/
  absentHw : Bool := true
  /-- Absent by an L2 event: lasts until recovery (R401). -/
  absentFault : Bool := false
  /-- The lane returns to the axis after a recovery: it stays once its own checks pass (R415). -/
  returning : Bool := false
  /-- An L2 leave is under way: as holder the lane yields or stops renewing (R401). -/
  leaving : Bool := false
  /-- The claim published in this tick: its epoch. -/
  claim : Option Half := none
  /-- The yield published in this tick. -/
  yieldTo : Option LaneId := none
  /-- The yield was published in the tick before; the successor claims now (R128). -/
  yieldedTo : Option LaneId := none
  /-- The yield's entry showed checks pass 0: it was made under an L2 AXIS fault (R130, R210). -/
  yieldFault : Bool := false
  /-- The lane was named successor by the yield of the tick before and claims until endorsed (R129). -/
  named : Bool := false
  /-- LSE-006 was raised for the present run of unendorsed named claims. -/
  lse006 : Bool := false
  /-- The lane that holds, or last held, the axis under the epoch in force (R127). -/
  heldBy : Option LaneId := none
  /-- k of R131: the last tick in which a RENEW or endorsed CLAIM was sent or received. -/
  lastRenew : Nat := 0
  /-- A FOLLOW naming this lane loaded the counter in this tick. -/
  followLoaded : Bool := false
  /-- The follower picked under R162. -/
  follower : Option LaneId := none
  /-- The follower that the last published entry showed (R162). -/
  follPub : Option LaneId := none
  /-- Follower changes since gather, saturating. -/
  followChg : Nat := 0
  /-- Withheld RENEW run (R123). -/
  withheld : Nat := 0
  /-- Last difference of the comparison, in 0.1 % of the output limit. -/
  diff : Int := 0
  /-- Ticks without drive in the present gap. -/
  gap : Nat := 0
  /-- STATUS.AXIS[n].HANDOVER [9:8]. -/
  handover : Nat := 0
  /-- Ticks without drive at the last handover. -/
  handoverGap : Nat := 0
  /-- Tick of the last change of holder (R145). -/
  heldSince : Nat := 0
  /-- The lane that held the axis before the present holder; none where none did. -/
  former : Option LaneId := none
  /-- Consecutive ticks the axis was seen orphaned (R420). -/
  orphan : Nat := 0
  /-- Other lanes that showed role FOLLOWER and then a counter of 0 under the epoch in force (R162). -/
  ranOut : PerLane Bool := PerLane.fill false
  /-- A FOLLOW was given in the last step 4 (R161). -/
  gaveFollow : Bool := false
  /-- A FOLLOW was given in step 4 of the tick before, so the holder's set carries half (R161). -/
  halved : Bool := false
  /-- Other lanes that showed role FOLLOWER under the epoch in force (R162). -/
  sawFollower : PerLane Bool := PerLane.fill false
  /-- LSE-002 was raised for the present run of withheld ticks (R585). -/
  lse002 : Bool := false
  /-- LSE-010 was raised for the present run of orphaned ticks (R585). -/
  lse010 : Bool := false
  /-- Primary output published in the tick before (R128). -/
  primPrev : Q := 0
  /-- An unplanned claim was endorsed: LSE-003 is raised in the first tick of driving (Table 5.3). -/
  lse003 : Bool := false
deriving DecidableEq, Repr

/-- The marver (R142 to R144). -/
structure Marver where
  /-- Group under test, 1 to 8. -/
  group : Nat := 1
  /-- Item within the group. -/
  item : Nat := 0
  /-- The present item failed once and is repeated. -/
  retry : Bool := false
  /-- An item of the present group has failed twice in this cycle. -/
  bad : Bool := false
  /-- Failing groups, bit g−1 for group g. -/
  failing : Nat := 0
  /-- 16-bit cycle count (R144). -/
  count : Nat := 0
  /-- Last cycle time, ms. -/
  time : Nat := 0
  /-- Ticks since the cycle began. -/
  ticks : Nat := 0
  /-- LSE-008 was raised for this cycle. -/
  late : Bool := false
  /-- Gate-probe charge learnt per leg at the end of ARMED (Table 5.4). -/
  learnt : Tab 16 Int := Tab.fill 16 0
  /-- The leg whose gate is probed in this tick (R140, R142). -/
  probe : Option LegId := none
deriving DecidableEq, Repr

/-- The lease unit of a lane (chapter 5). -/
structure LeasePart where
  /-- Axes 0 to 11. -/
  ax : Tab 12 AxisLease := Tab.fill 12 {}
  /-- The lane entered OPERATE in this tick by node start (R72). -/
  firstTick : Bool := false
  /-- RENEW endorsements withheld since gather. -/
  withheldTotal : Nat := 0
  /-- Planned handovers since gather. -/
  planned : Nat := 0
  /-- Unplanned handovers since gather. -/
  unplanned : Nat := 0
  /-- Endorsements given in this tick (health word [7:4]). -/
  given : Nat := 0
  /-- Renewals stopped for good by the lease stop of R80. -/
  stopped : Bool := false
  /-- E_start of R560 as written at entry. -/
  eStart : Half := 0
  /-- The marver. -/
  marver : Marver := {}
  /-- Axes still to yield in the present sequence, one per tick in ascending order (R130). -/
  yieldPlan : List Nat := []
  /-- The sequence is a rotation (R145); otherwise the lane leaves OPERATE for STOPPED at its end (R130). -/
  rotating : Bool := false
  /-- The lane enters STOPPED once it holds nothing (R130, R554). -/
  stopping : Bool := false
  /-- The STANDSTILL rotation of the present standstill was made. -/
  rotated : Bool := false
  /-- Consecutive ticks of vehicle standstill (R145). -/
  stillRun : Nat := 0
  /-- The published outputs of this tick, once published (step 2 of Table 1.4). -/
  pubOut : Option PubSection := none
  /-- The endorsements of this tick, once formed (step 3). -/
  endsOut : Option EndSection := none
  /-- The lane does not endorse, because its protocol level differs (R538). -/
  nonEndorsing : Bool := false
deriving DecidableEq, Repr

/-- Lane state and start-up (chapter 3). -/
structure StartPart where
  /-- The lane state (R57). -/
  state : LState := .off
  /-- Kind of the last reset. -/
  cause : ResetKind := .powerOn
  /-- Resets since the model began, by which the others know the first marker after one (R34). -/
  resets : Nat := 0
  /-- Firmware slot running. -/
  slot : Nat := 0
  /-- BENCH as sampled at reset release (R59). -/
  bench : Bool := false
  /-- l_RESETN is held low. -/
  resetnLow : Bool := false
  /-- The lane supply lies above its power-on threshold. -/
  supplyUp : Bool := false
  /-- Ticks since reset release. -/
  ticks : Nat := 0
  /-- Ticks in the present state. -/
  inState : Nat := 0
  /-- START.TIME: ticks from reset release to entry into OPERATE. -/
  time : Nat := 0
  /-- START.ENTRY: 0 not entered, 1 node start, 2 late join. -/
  entry : Nat := 0
  /-- READY (R69). -/
  ready : Bool := false
  /-- READY as the marker of the tick before showed it (R70). -/
  readyPrev : Bool := false
  /-- Ticks in which departure markers are sent, the present one included (R133, R408). -/
  departing : Nat := 0
  /-- The independent timer resets the lane once the departure markers are sent (R408). -/
  wdReset : Bool := false
  /-- IGN input asserted. -/
  ign : Bool := false
  /-- WAKE input asserted. -/
  wake : Bool := false
  /-- WORKSHOP input asserted. -/
  workshop : Bool := false
  /-- BENCH input as it stands. -/
  benchPin : Bool := false
  /-- Fabric discovery has completed, or no longer blocks (R67). -/
  discovered : Bool := false
  /-- Digest comparison of R66 is complete. -/
  digestsDone : Bool := false
  /-- CFG-020 was raised for the present disagreement of seals. -/
  cfg020 : Bool := false
  /-- A lane with an equal seal is reached. -/
  equalSeal : Bool := false
  /-- Two lanes share a seal that differs from the own one (R65). -/
  outvoted : Bool := false
  /-- Consecutive ticks the wake demand disagreed with that of each other lane in OPERATE (R78). -/
  wakeRun : PerLane Nat := PerLane.fill 0
  /-- OPR-001 was raised for the present disagreement with each other lane (R585). -/
  opr001 : PerLane Bool := PerLane.fill false
  /-- The marker of this tick shows standstill and no wake demand (R79). -/
  shown : Bool := false
  /-- Consecutive ticks of standstill without wake demand, own view (R79). -/
  quietOwn : Nat := 0
  /-- The same for each other lane, from its markers. -/
  quietPeer : PerLane Nat := PerLane.fill 0
  /-- Consecutive ticks without wake demand while no lane is in OPERATE (R80). -/
  quietAlone : Nat := 0
  /-- Ticks since power-down tick P (R80), where P has been reached. -/
  sinceP : Option Nat := none
  /-- Lanes in OPERATE at tick P (R82). -/
  operateAtP : PerLane Bool := PerLane.fill false
  /-- LISTEN: ticks since entry. -/
  listenTicks : Nat := 0
  /-- The wake pattern is sent on both links (R83). -/
  wakePattern : Bool := false
  /-- Config port floats (R91). -/
  cfgFloat : Bool := false
  /-- A debug halt is in force (R335). -/
  halted : Bool := false
  /-- A debug halt occurred since reset. -/
  haltSeen : Bool := false
  /-- The cores have closed the present tick (R408). -/
  closed : Bool := true
  /-- Consecutive ticks the collector closed none (R408). -/
  notClosed : Nat := 0
  /-- Vehicle standstill under R378, as judged at the last close. -/
  still : Bool := false
  /-- l_DRVINH is driven (R391). -/
  drvinh : Bool := false
  /-- Consecutive ticks with IGN deasserted, up to 40 (R559). -/
  ignOff : Nat := 0
  /-- The lane went to OFF by a brown-out (R552). -/
  brown : Bool := false
  /-- The boot code has sampled BENCH and read the recorded slot (R59). -/
  booted : Bool := false
  /-- The recorded slot failed and the other one is being checked (R60). -/
  triedOther : Bool := false
  /-- Both slots failed: held in BOOT (R60). -/
  bootHeld : Bool := false
  /-- TIM-008 was raised in this ALIGN. -/
  tim008 : Bool := false
  /-- A LANE RESTART is due once the last counter reaches zero in STOPPED (R554). -/
  restart : Bool := false
  /-- A LANE RESTART is due at the close of this tick (R554). -/
  restartNow : Bool := false
  /-- Latches were kept through the last reset (Table 21.4). -/
  latchKept : Bool := false
  /-- Consecutive ticks for which R75 held, up to 9. -/
  aloneRun : Nat := 0
deriving DecidableEq, Repr

/-- One raised event waiting for the collector's order of R404. -/
structure Raise where
  /-- The event. -/
  ev : Ev
  /-- Its subject. -/
  subj : Subject := .none
  /-- Its context value. -/
  ctx : Word := 0
  /-- Clock of its detection within the tick (R404). -/
  clk : Nat := 0
  /-- Lane field 3: an event that concerns the commons (R399). -/
  commons : Bool := false
  /-- Level the raising rule gives where it differs from the event's own. -/
  level : Option Level := none
  /-- Axes the raising rule ties the event to, where its instance names none (R401). -/
  axes : List Nat := []
deriving DecidableEq, Repr

/-- An event record (R397, Table 15.3). -/
structure Rec where
  /-- Low 32 bits of the lane tick count at the close of the tick of the event. -/
  count : Nat
  /-- The event. -/
  ev : Ev
  /-- Level as raised, after escalation. -/
  level : Level
  /-- Lane field: 0 A, 1 B, 2 C, 3 commons. -/
  lane : Nat
  /-- FIRST. -/
  first : Bool
  /-- RECOVERED. -/
  recovered : Bool
  /-- Instance field [11:0]. -/
  inst : Nat
  /-- Context value. -/
  ctx : Word
  /-- Lease epoch of the axis concerned. -/
  epoch : Half
deriving DecidableEq, Repr

/-- An event the collector holds: unacknowledged, or a fault not recovered. -/
structure Held where
  /-- Its record. -/
  r : Rec
  /-- Subject. -/
  subj : Subject
  /-- Axes concerned, for an L2 event. -/
  axes : List Nat
  /-- Acknowledged (R410). -/
  acked : Bool := false
  /-- Recovered (R412). -/
  recovered : Bool := false
  /-- Latched (R414). -/
  latched : Bool := false
deriving DecidableEq, Repr

/-- The fault collector (chapter 15). -/
structure ColPart where
  /-- Events raised in this tick, in the order of their detection. -/
  raised : List Raise := []
  /-- Events held. -/
  held : List Held := []
  /-- Events recorded at the last close, for the rules that act on them (R210, R547). -/
  news : List Held := []
  /-- Slot 0 of the history queue (R417). -/
  slot0 : Option Rec := none
  /-- Slots 1 to 31, oldest first, at most 31. -/
  ring : List Rec := []
  /-- Index of the next ring slot to write, 0 to 30. -/
  ringPos : Nat := 0
  /-- Records waiting to be written to the journal (R418). -/
  toJournal : List Rec := []
  /-- Consecutive quiet ticks per class (R411). -/
  quiet : Tab 16 Nat := Tab.fill 16 0
  /-- l_ALIVE level. -/
  alive : Bool := false
  /-- ALIVE is frozen (R409). -/
  frozen : Bool := false
  /-- The toggle of this tick was left out. -/
  skipped : Bool := false
  /-- The lockstep comparator reported a mismatch in this tick, with its address. -/
  lockstep : Option Nat := none
  /-- The engine's datapaths disagreed in this tick (R255): first differing word. -/
  datapath : Option Nat := none
  /-- A parity or ECC error stands in the collector's registers (R406): register index. -/
  parity : Option Nat := none
  /-- Controlled stop in progress: its tick s (R421). -/
  stopS : Option Nat := none
  /-- Its cause (Table 15.6). -/
  stopCause : Nat := 0
  /-- Standstill reached: its tick (R424). -/
  stopStill : Option Nat := none
  /-- Node-stop flag seen from another lane. -/
  nodeStopSeen : Bool := false
  /-- The node-stop flag of R403 stands in this lane's markers. -/
  nodeStop : Bool := false
  /-- Ticks since entry into OPERATE, for cause 3. -/
  opTicks : Nat := 0
  /-- Consecutive ticks of a pair disagreement on STEER[1], BRAKE[1], BRAKE[2] (Table 15.6 cause 3). -/
  pairRun : Tab 3 Nat := Tab.fill 3 0
  /-- The commons was reachable when last seen. -/
  commonsUp : Bool := true
deriving DecidableEq, Repr

/-- A tag as a lane read it (R107), the first 192 bytes. -/
abbrev TagBytes := List Byte

/-- What a lane's last gather gave (chapter 4). -/
structure GatherPart where
  /-- STATUS.LANE[l].IMAGE.STATE [1:0]: 0 not read, 1 reading, 2 accepted, 3 rejected. -/
  imageState : Nat := 0
  /-- Code number of the rejecting CFG event. -/
  cause : Nat := 0
  /-- The computed seal. -/
  sealVal : Word := 0
  /-- The gathered configuration. -/
  cfg : Cfg := []
  /-- Per axis and slot: the accepted tag. -/
  tags : Tab 12 (List (Option TagBytes)) := Tab.fill 12 []
  /-- Per axis and slot: the calibration area came from the journal. -/
  calJournal : Tab 12 (List Bool) := Tab.fill 12 []
  /-- Sensor instances STEER[1], BRAKE[1] to BRAKE[7] unavailable by their tags. -/
  sensorBad : Tab 8 Bool := Tab.fill 8 false
  /-- Sensor instances' accepted slot-0 tag. -/
  sensorTags : Tab 8 (Option TagBytes) := Tab.fill 8 none
  /-- Digest agreed in ALIGN, per axis. -/
  agreed : Tab 12 Bool := Tab.fill 12 false
  /-- The identity digests this gather gave (R114): axes 0 to 11, then the sensor instances; none where the owner is not available on the lane. -/
  ids : List (Option IdDigest) := []
  /-- STATUS.AXIS[n].TAG[l] [6:0] as this gather left it (Table 4.10). -/
  tagStat : Tab 12 Nat := Tab.fill 12 0
  /-- l_IDPWR is switched on (R106). -/
  idPower : Bool := false
  /-- Loop-engine worst case of R257, clocks. -/
  engineCalc : Nat := 0
  /-- Reaction times of R439, functions 1 to 7. -/
  treact : Tab 7 Nat := Tab.fill 7 0
  /-- Predecessor seal of the image, where its header carries one. -/
  predecessor : Option Word := none
  /-- A journal item fell back since gather (R556). -/
  fellBack : Bool := false
  /-- Per VALVE axis: the calibrated curve of VALVE_CHAR, pressures and coil currents (R535). -/
  valveCurve : Tab 12 (Option (List Int × List Int)) := Tab.fill 12 none
deriving DecidableEq, Repr

/-- What the loop engine gives for an axis in a tick (R21, R121). -/
structure AxisOut where
  /-- Primary output: whole-axis q-current, coil current demand or chopper duty. -/
  prim : Q := 0
  /-- Secondary output: d-current. -/
  sec : Q := 0
  /-- A re-catch is in progress on this lane (R303). -/
  recatch : Bool := false
  /-- A mode hand-over blend is in progress. -/
  blend : Bool := false
  /-- A mirage was raised under the LAST bounds in this tick (R136). -/
  mirage : Bool := false
  /-- A job or an L2 event makes the own checks fail. -/
  checksFail : Bool := false
deriving DecidableEq, Repr

end Sys2Proof.Machine
end

