-- ==== Sys2Proof/Machine/PartsNvm.lean ====
section
/-! DEFINITION. What a lane keeps without supply: its journal (R418, R556, Table 21.3), its boot store and its NOR flash. -/

namespace Sys2Proof.Machine

/-- One copy of a journal item: its sequence number, whether its CRC-32C holds, and its value (R556). -/
structure Copy (α : Type) where
  /-- 32-bit sequence number. -/
  seq : Nat
  /-- Its CRC-32C is correct. -/
  ok : Bool
  /-- The value. -/
  val : α
deriving DecidableEq, Repr

/-- A journal item in two copies (R556). -/
structure NvItem (α : Type) where
  /-- First copy, where one was written. -/
  c0 : Option (Copy α) := none
  /-- Second copy, where one was written. -/
  c1 : Option (Copy α) := none
deriving DecidableEq, Repr

/-- The two image areas (R88): the active one and whether the other is pending. -/
structure Areas where
  /-- Active area, 0 or 1. -/
  active : Nat := 0
  /-- The other area is pending. -/
  pending : Bool := false
deriving DecidableEq, Repr

/-- The recorded firmware slot and the FW_LOAD checkpoint (R59, R528, R539). -/
structure SlotRec where
  /-- Recorded slot, 0 or 1. -/
  slot : Nat := 0
  /-- FW_LOAD checkpoint: the old slot, where a switch is under way. -/
  oldSlot : Option Nat := none
  /-- Staged release that passed its check; 0 none (R537). -/
  staged : Nat := 0
  /-- Its protocol level. -/
  stagedProto : Nat := 0
  /-- JOB[7].ORDER in force at START of the job of the checkpoint. -/
  order : Nat := 0
  /-- JOB[7].JOINMAX in force at START of that job. -/
  joinMax : Nat := 400000
deriving DecidableEq, Repr

/-- Recovery counts (R413). -/
structure Recoveries where
  /-- Per class. -/
  cls : Tab 16 Nat := Tab.fill 16 0
  /-- In total. -/
  total : Nat := 0
deriving DecidableEq, Repr

/-- The ignition flag and the ignition cycle count (R559). -/
structure Ignition where
  /-- The flag. -/
  flag : Bool := false
  /-- STATUS.LANE[l].IGNCYCLE. -/
  cycles : Nat := 0
deriving DecidableEq, Repr

/-- A calibration copy (R112): the tag it belongs to and bytes 96 to 191. -/
structure CalCopy where
  /-- Maker code, model, serial number and connection index: tag bytes 4 to 26. -/
  key : List Byte
  /-- The calibration area, bytes 96 to 191. -/
  data : List Byte
deriving DecidableEq, Repr

/-- A job as the journal keeps it (R528). -/
structure JobCkpt where
  /-- Job number. -/
  job : Nat
  /-- State code of Table 20.2. -/
  state : Nat
  /-- Cause. -/
  cause : Nat
  /-- Subject axis, where the job was the running one; 0xFF none. -/
  axis : Nat := 0xFF
deriving DecidableEq, Repr

/-- A REGATHER checkpoint (R543, R545). -/
structure RegCkpt where
  /-- Old active area. -/
  area : Nat
  /-- Old seal. -/
  oldSeal : Word
  /-- Ticks since START. -/
  ticks : Nat
  /-- The lane restart of the switch has been made and BOOT has not begun. -/
  fresh : Bool
deriving DecidableEq, Repr

/-- A lane's non-volatile content. -/
structure Nvm where
  /-- The ring of event records, oldest first, at most 4,096 (R418). -/
  events : List Rec := []
  /-- Index of the next write in the ring. -/
  eventNext : Nat := 0
  /-- Confirmed seal (item 2). -/
  confirmed : NvItem Word := {}
  /-- Recorded slot and FW_LOAD checkpoint (item 3). -/
  slotRec : NvItem SlotRec := {}
  /-- Active and pending image areas (item 4). -/
  areas : NvItem Areas := {}
  /-- Node session key (item 5). -/
  key : NvItem (List Byte) := {}
  /-- Recovery counts (item 6). -/
  recoveries : NvItem Recoveries := {}
  /-- Latched faults kept through a FAULT RESTART (item 7). -/
  latches : NvItem (List Held) := {}
  /-- Ignition flag and cycle count. -/
  ignition : NvItem Ignition := {}
  /-- Winding temperature θ per axis (item 1, R247). -/
  theta : Tab 12 (NvItem Int) := Tab.fill 12 {}
  /-- Calibration copies (item 1, R112). -/
  cals : List (NvItem CalCopy) := []
  /-- Job state (item 21). -/
  job : NvItem (List JobCkpt) := {}
  /-- REGATHER checkpoint (R543, R545). -/
  regather : NvItem (Option RegCkpt) := {}
  /-- The Zilevo public key in the boot code (R59). -/
  bootKey : Nat × Nat := Config.bootKey
  /-- Firmware slots 0 and 1 of the boot store, each as stored (R536); addresses from 0. -/
  slot0 : Mem := []
  /-- Slot 1. -/
  slot1 : Mem := []
  /-- The NOR flash of the config port (R87, R88); it answers 0x9F when fitted. -/
  flash : Mem := []
  /-- Identification bytes the NOR flash answers to 0x9F. -/
  flashId : Nat := 0xEF4015
deriving DecidableEq, Repr

/-- Writing an item replaces its older copy (R556). -/
def NvItem.write {α : Type} (i : NvItem α) (v : α) : NvItem α :=
  match i.c0, i.c1 with
  | none, none => { i with c0 := some ⟨1, true, v⟩ }
  | some x, none => { i with c1 := some ⟨x.seq + 1, true, v⟩ }
  | none, some y => { i with c0 := some ⟨y.seq + 1, true, v⟩ }
  | some x, some y =>
    if x.seq < y.seq then { i with c0 := some ⟨y.seq + 1, true, v⟩ } else { i with c1 := some ⟨x.seq + 1, true, v⟩ }

/-- The copy of an item that is in use after a reset: the valid one of the higher sequence number (R556). -/
def NvItem.read? {α : Type} (i : NvItem α) : Option α :=
  let v (c : Option (Copy α)) : Option (Copy α) := match c with | some x => if x.ok then some x else none | none => none
  match v i.c0, v i.c1 with
  | some x, some y => some (if x.seq < y.seq then y.val else x.val)
  | some x, none => some x.val
  | none, some y => some y.val
  | none, none => none

/-- An item's value, or that of a journal that holds no record of it (R556). -/
def NvItem.read {α : Type} (i : NvItem α) (d : α) : α := i.read?.getD d

/-- An item was written and has no valid copy (R556). -/
def NvItem.lost {α : Type} (i : NvItem α) : Bool := (i.c0.isSome || i.c1.isSome) && i.read?.isNone

/-- An item with the stated copies found invalid. -/
def NvItem.damage {α : Type} (i : NvItem α) (first second : Bool) : NvItem α :=
  { c0 := i.c0.map fun c => { c with ok := c.ok && !first }
    c1 := i.c1.map fun c => { c with ok := c.ok && !second } }

end Sys2Proof.Machine
end

