-- ==== Sys2Proof/Machine/PartsFbk.lean ====
section
/-! DEFINITION. A feedback channel's state (chapter 7, Tables 7.1 and 7.5). -/

namespace Sys2Proof.Machine

/-- One line of an incremental channel behind its edge filter (R170). -/
structure Line where
  /-- Level of the wire at the last sample. -/
  pin : Bool := false
  /-- Raw level at the last sample: the wire's, with INVERT applied. -/
  raw : Bool := false
  /-- Filtered level. -/
  lvl : Bool := false
  /-- Clock of the last accepted edge. -/
  last : Option Nat := none
deriving DecidableEq, Repr

/-- An accepted edge: its clock, the signed units it moved the position by. -/
structure Moved where
  /-- Timestamp, clock count of the lane (R169). -/
  clk : Nat
  /-- Units moved, signed. -/
  units : Int
deriving DecidableEq, Repr

/-- What is latched at one boundary for the speed windows (R185, R187). -/
structure Latch where
  /-- Latched position. -/
  pos : Int
  /-- Clock of the boundary. -/
  clk : Nat
  /-- Moving edges counted since reset, extra edges left out. -/
  edges : Nat
  /-- Direction changes counted since reset. -/
  turns : Nat
deriving DecidableEq, Repr

/-- What the feedback block latches of a channel at a boundary beside its position and speeds (R169). -/
structure FbkLatch where
  /-- The last two accepted edges, newest first: timestamp and direction. -/
  edges : List Moved := []
  /-- The accepted-edge count. -/
  accepted : Nat := 0
  /-- The flags of Table 7.5. -/
  flags : Nat := 0
deriving DecidableEq, Repr

/-- An accepted SSI position (R191, R193). -/
structure SsiPos where
  /-- Tick count of the boundary that latched it. -/
  tick : Nat
  /-- Clock of that boundary. -/
  clk : Nat
  /-- Position. -/
  pos : Int
deriving DecidableEq, Repr

/-- A feedback channel. -/
structure Chan where
  /-- Lines A, B, Z. -/
  la : Line := {}
  /-- Line B. -/
  lb : Line := {}
  /-- Line Z. -/
  lz : Line := {}
  /-- Running position: 32-bit count, tooth position, Hall sector count, SSI position. -/
  pos : Int := 0
  /-- The last two accepted edges that moved the position, newest first (R186). -/
  moved : List Moved := []
  /-- The last two accepted edges, newest first (R169). -/
  last2 : List Moved := []
  /-- Accepted edges since gather (R169). -/
  accepted : Nat := 0
  /-- An edge was accepted in the present tick (R186). -/
  edgeNow : Bool := false
  /-- Whole ticks without an accepted edge, up to 65,535 (R186). -/
  quietRun : Nat := 0
  /-- Moving edges since reset, extra edges of R180 left out. -/
  edges : Nat := 0
  /-- Sign of the last step, 0 before the first. -/
  dir : Int := 0
  /-- Direction changes since reset. -/
  turns : Nat := 0
  /-- Moving edges since standstill or gather, at most 2 (R186). -/
  since : Nat := 0
  /-- Standstill flag (R186, R558). -/
  still : Bool := true
  /-- Fast edges in the present tick. -/
  fastNow : Nat := 0
  /-- Fast edges of the 999 ticks before, as (tick count, number). -/
  fastHist : List (Nat × Nat) := []
  /-- The sum of R171 at the last close lay above the limit. -/
  fastOver : Bool := false
  /-- Double steps, invalid Hall states and skips in the present tick. -/
  dblNow : Nat := 0
  /-- Those of the 999 ticks before. -/
  dblHist : List (Nat × Nat) := []
  /-- The sum of R175 at the last close lay above the limit. -/
  dblOver : Bool := false
  /-- The sum of R171. -/
  fastSum : Nat := 0
  /-- The sum of R175. -/
  dblSum : Nat := 0
  /-- UNCERT (R174). -/
  uncert : Nat := 0
  /-- Uncertainty flag (R174). -/
  uncertFlag : Bool := false
  /-- UNCERT at the last close (R198). -/
  uncertShown : Nat := 0
  /-- An index event or a reference was found since gather (Table 7.5, flag 2). -/
  found : Bool := false
  /-- Position at the last index event or reference, where one was seen; at a tone wheel since standstill (R177, R182). -/
  refPos : Option Int := none
  /-- Direction changes when that reference was seen. -/
  refTurns : Nat := 0
  /-- A mismatch stands with no pass since (R178, R182). -/
  mismatch : Bool := false
  /-- The last index or tone comparison minus nominal. -/
  refDiff : Int := 0
  /-- REFDIFF: that of the last close (R198). -/
  refShown : Int := 0
  /-- Clock of the last tooth edge (extra edges left out). -/
  toothClk : Option Nat := none
  /-- The last intervals found normal, newest first, at most 4 (R179). -/
  intervals : List Nat := []
  /-- Tooth edges since the last reference. -/
  teeth : Nat := 0
  /-- Latches of the last 65 boundaries, newest first. -/
  hist : List Latch := []
  /-- Latched position. -/
  lpos : Int := 0
  /-- The rest of the latch of the last boundary (R169). -/
  lat : FbkLatch := {}
  /-- Window speed, units per second, 16 fraction bits (R185). -/
  vWin : Int := 0
  /-- Interval speed (R186). -/
  vInt : Int := 0
  /-- Reported speed (R187, R189, R193). -/
  v : Int := 0
  /-- The window speed is reported. -/
  winRep : Bool := false
  /-- Stale flag. -/
  stale : Bool := false
  /-- Loss of signal flag. -/
  los : Bool := false
  /-- Degraded flag. -/
  degraded : Bool := false
  /-- Consecutive demodulations below LOS, up to 2. -/
  losRun : Nat := 0
  /-- Consecutive demodulations outside DEG, up to 8. -/
  degRun : Nat := 0
  /-- Consecutive ticks beyond TRACKERR, up to 4. -/
  trackRun : Nat := 0
  /-- M of R190, Q16.16. -/
  ampSq : Q := 0
  /-- Demodulated sine amplitude S, Q16.16 V. -/
  resS : Q := 0
  /-- Demodulated cosine amplitude C. -/
  resC : Q := 0
  /-- Error of the tracking observer, 1/65,536 turn. -/
  trackErr : Nat := 0
  /-- SSI: the frame under way, by the tick count and the clock of the boundary it started at (R191). -/
  ssiStart : Option (Nat × Nat) := none
  /-- SSI: position of the newest accepted frame, not yet latched. -/
  ssiNew : Option Int := none
  /-- SSI: the last accepted position is meaningful. -/
  ssiHave : Bool := false
  /-- SSI: consecutive failed frames. -/
  ssiFails : Nat := 0
  /-- SSI: accepted positions, newest first. -/
  ssiHist : List SsiPos := []
  /-- Analog: the last conversions, newest first, at most FILTER; an excluded one is none. -/
  conv : List (Option Q) := []
  /-- Analog: consecutive excluded conversions. -/
  exclRun : Nat := 0
  /-- Analog: mean in volts. -/
  volts : Q := 0
deriving DecidableEq, Repr

end Sys2Proof.Machine
end

