-- ==== Sys2Proof/Machine/PartsMotion.lean ====
section
/-! DEFINITION. Profiles, limit switches, step input and centre-find: their state (chapter 8). -/

namespace Sys2Proof.Machine

/-- The requests of Table 8.1. -/
inductive ProfReq where
  | move (target : Int)
  | jog (speed : Int)
  | stop
  | resume
  | limits (vmax amax dmax jmax : Nat)
  | stepOn
  | stepOff
deriving DecidableEq, Repr

/-- The request code of LASTREQ [6:3] (Table 8.8). -/
def ProfReq.code : ProfReq → Nat
  | .move _ => 0 | .jog _ => 1 | .stop => 2 | .resume => 3 | .limits .. => 4 | .stepOn => 5 | .stepOff => 6

/-- Where a profile request comes from: outside the job and the caravan, the job that owns the profile, or a caravan commit that fires (R202, R482). -/
inductive ReqBy where | outside | job | commit
deriving DecidableEq, Repr

/-- The phases of a profile (Table 8.8). -/
inductive Phase where | rest | accel | cruise | coast | decel | track | passive
deriving DecidableEq, Repr

/-- The code of a phase (Table 8.8). -/
def Phase.code : Phase → Nat
  | .rest => 0 | .accel => 1 | .cruise => 2 | .coast => 3 | .decel => 4 | .track => 5 | .passive => 6

/-- What the generator is doing (R205, R209, R226). -/
inductive Motion where | none | position | speed | stopping | track
deriving DecidableEq, Repr

/-- Run-time limits of a profile (R203): pu/s, pu/s², pu/s³. -/
structure Limits where
  /-- VMAX. -/
  vmax : Nat := 40000
  /-- AMAX. -/
  amax : Nat := 200000
  /-- DMAX. -/
  dmax : Nat := 200000
  /-- JMAX; 0 is off. -/
  jmax : Nat := 0
deriving DecidableEq, Repr

/-- What the holder of an axis carries of its profile in the job and update section (R204). -/
structure ProfShare where
  /-- Target. -/
  target : Int := 0
  /-- Target known. -/
  hasTarget : Bool := false
  /-- Phase. -/
  phase : Phase := .rest
  /-- Kind of motion. -/
  motion : Motion := .none
  /-- Target speed of a JOG. -/
  jogV : Int := 0
  /-- Stop cause. -/
  cause : Nat := 0
  /-- Cause of a stop in progress. -/
  stopC : Nat := 0
  /-- PROFILE_DMAX_HELD. -/
  held : Option Int := none
  /-- Overshoot. -/
  overshoot : Bool := false
  /-- Braking for a reversal. -/
  reversing : Bool := false
  /-- Limits in force. -/
  lim : Limits := {}
  /-- REMAIN. -/
  remain : Int := 0
  /-- Step input engaged. -/
  stepOn : Bool := false
  /-- Step origin. -/
  x0 : Int := 0
  /-- The target X(n) last published, pu with 32 fraction bits (R227). -/
  stepX : Int := 0
  /-- Steps since STEP_ON, while the step input is engaged. -/
  steps : Int := 0
  /-- MOVEs accepted under R482, with the target of the last, where the holder is a coordinator lane. -/
  car : Option (Nat × Int) := none
deriving DecidableEq, Repr

/-- A profile generator. Positions, speeds and accelerations carry 32 fraction bits (R201). -/
structure Profile where
  /-- Position set-point x, pu. -/
  x : Int := 0
  /-- Speed v, pu/s. -/
  v : Int := 0
  /-- Acceleration a, pu/s². -/
  a : Int := 0
  /-- Phase. -/
  phase : Phase := .rest
  /-- Kind of motion. -/
  motion : Motion := .none
  /-- Target XT, pu with 32 fraction bits. -/
  target : Int := 0
  /-- The original target is known. -/
  hasTarget : Bool := false
  /-- Target speed of a JOG, pu/s with 32 fraction bits. -/
  jogV : Int := 0
  /-- REMAIN, pu with 32 fraction bits (R209). -/
  remain : Int := 0
  /-- Stop cause: 0 none, 1 STOP, 2 LIMIT, 3 FAULT. -/
  cause : Nat := 0
  /-- PROFILE_DMAX_HELD, with the deceleration it keeps. -/
  held : Option Int := none
  /-- Overshoot flag. -/
  overshoot : Bool := false
  /-- A MOVE whose target lies behind first brakes to rest (R205). -/
  reversing : Bool := false
  /-- Limits in force. -/
  lim : Limits := {}
  /-- DMAX changed in this tick (R205). -/
  dmaxChanged : Bool := false
  /-- The move began in this tick (R208). -/
  fresh : Bool := false
  /-- Ticks within HOLD.BAND at rest (R213). -/
  holdCount : Nat := 0
  /-- Hold reduction is active. -/
  holdOn : Bool := false
  /-- Ticks since it became active, up to HOLD.RAMP. -/
  holdRamp : Nat := 0
  /-- LASTREQ: result code. -/
  result : Nat := 0
  /-- LASTREQ: request code. -/
  request : Nat := 0
  /-- The step input is engaged. -/
  stepOn : Bool := false
  /-- Step origin X0, pu with 32 fraction bits. -/
  x0 : Int := 0
  /-- Step sum at STEP_ON, for STEPSUM. -/
  n0 : Int := 0
  /-- PLS-041 was raised and the lag has not fallen below half of LAGMAX. -/
  lagRaised : Bool := false
  /-- Requests that reached the holder in this tick, applied in step 2 of the next (R202). -/
  reqs : List (ProfReq × ReqBy) := []
  /-- Requests taken on this lane while it does not hold the axis, to forward (R202). -/
  forward : List (ProfReq × ReqBy) := []
  /-- A stop begins in the next tick: 0 none, 2 LIMIT, 3 FAULT (R209, R210, R218). -/
  stopNext : Nat := 0
  /-- The cause of the stop in progress, recorded at rest (R209). -/
  stopC : Nat := 0
  /-- A job owns the profile. -/
  jobOwns : Bool := false
  /-- Position origin, pu with 16 fraction bits (R222). -/
  origin : Int := 0
  /-- The tick of its last shift, with the C by which the holder re-expressed the set-point, pu. -/
  shifted : Option (Nat × Int) := none
  /-- What the holder carries to the others as it stood at the end of the tick before (R204). -/
  carried : Option ProfShare := none
  /-- Consecutive ticks the own switches disagreed with the holder's, negative then positive (R217). -/
  disagree : Nat := 0
  /-- The same for the positive switch. -/
  disagreePos : Nat := 0
deriving DecidableEq, Repr

/-- A limit switch of an axis on this lane (R215, R216). -/
structure Switch where
  /-- Raw state: tripped. -/
  raw : Bool := false
  /-- Ticks the raw state has held. -/
  run : Nat := 0
  /-- Debounced state. -/
  deb : Bool := false
  /-- CHATTER. -/
  chatter : Bool := false
  /-- Ticks of the raw transitions in the window, newest first. -/
  trans : List Nat := []
  /-- Measured position, pu with 16 fraction bits, at the first raw tripped tick of the present trip (R220). -/
  tripPos : Int := 0
  /-- A sample was taken since gather. -/
  seen : Bool := false
deriving DecidableEq, Repr

/-- The step input of a lane (R223 to R225). -/
structure StepIn where
  /-- l_STEP behind its filter. -/
  step : Line := {}
  /-- l_DIR behind its filter. -/
  dir : Line := {}
  /-- Step sum N, pu. -/
  sum : Int := 0
  /-- Clock t_k of the last step. -/
  tk : Option Nat := none
  /-- Its signed size s_k. -/
  sk : Int := 0
  /-- Step interval T_k, clocks; STEPIN.TFIRST at 10,000 clocks a tick where `first`. -/
  tint : Nat := 0
  /-- T_k is STEPIN.TFIRST, a number of ticks, so e is counted in ticks as well (R4, R224). -/
  first : Bool := false
  /-- Tick in which the last step came. -/
  tkTick : Nat := 0
  /-- Its place within that tick, in 1/10,000 of the tick. -/
  tkOff : Int := 0
  /-- Settled (R225). -/
  settled : Bool := true
  /-- Fast edges of the present tick. -/
  fastNow : Nat := 0
  /-- Those of the 999 ticks before. -/
  fastHist : List (Nat × Nat) := []
  /-- The sum at the last close lay above STEPIN.FAST_LIMIT. -/
  fastOver : Bool := false
  /-- X(n) − X0 at the last boundary, pu with 32 fraction bits. -/
  dx : Int := 0
  /-- V(n) at the last boundary, pu/s with 32 fraction bits. -/
  vn : Int := 0
deriving DecidableEq, Repr

/-- The shadow tracking values of one axis (R138): what a lane's engine held at the close of a tick. -/
structure Shadow where
  /-- Profile position, pu with 32 fraction bits. -/
  x : Int := 0
  /-- Profile speed. -/
  v : Int := 0
  /-- Remaining distance. -/
  remain : Int := 0
  /-- Integrator of the position loop, Q32.16. -/
  iPos : Q := 0
  /-- Integrator of the velocity, speed or pressure loop. -/
  iMid : Q := 0
  /-- Integrator of the q-current or coil current loop. -/
  iQ : Q := 0
  /-- Integrator of the d-current loop. -/
  iD : Q := 0
  /-- Control mode code. -/
  mode : Nat := 0
  /-- Set-point blend offset of a mode hand-over, and whether it runs. -/
  blend : Option Int := none
  /-- That blend uses STEER.OVERRIDE.RATE. -/
  blendOver : Bool := false
  /-- The axis is in MANUAL by an override. -/
  override : Bool := false
  /-- Its tick. -/
  blendTick : Nat := 0
  /-- Load estimate. -/
  load : Q := 0
  /-- Scheduling variable x. -/
  schedX : List Q := []
  /-- Class 1 share of a valve fired at the last boundary (R18). -/
  share1 : Option Q := none
deriving DecidableEq, Repr

end Sys2Proof.Machine
end

