-- ==== Sys2Proof/Machine/PartsFab.lean ====
section
/-! DEFINITION. The fabric block's state on one lane: ports, topology map, fabric time, signals and the caravan commit (chapters 17 and 18). -/

namespace Sys2Proof.Machine

/-- A fabric frame (R451, Tables 17.2 to 17.4), without the fields that its plane, port and contents give. -/
structure FabFrame where
  /-- Frame class of Table 17.4. -/
  cls : Nat
  /-- Source node. -/
  src : Nat
  /-- Destination node; 63 is all. -/
  dst : Nat
  /-- Hop limit. -/
  hop : Nat
  /-- Sequence. -/
  seq : Nat
  /-- Fabric tick stamp. -/
  stamp : Nat
  /-- Topology epoch of the sender. -/
  epoch : Nat
  /-- Port of the source on which it was first sent, 0 DP0, 1 DP1. -/
  port : Nat := 0
  /-- Payload, without pad. -/
  payload : List Byte
  /-- The forwarder ended it with an invalid FCS (R459). -/
  bad : Bool := false
deriving DecidableEq, Repr

/-- What the last TIME frame on a port announced (Table 17.7). -/
structure TimeAnn where
  /-- Lane tick count of its reception. -/
  tick : Nat
  /-- Fabric time valid. -/
  valid : Bool
  /-- Sender is the time master. -/
  isMaster : Bool
  /-- Master node ID announced. -/
  master : Nat
  /-- Hops announced; 0xFF no route. -/
  hops : Nat
  /-- Master sequence. -/
  mseq : Nat
  /-- Sender in holdover. -/
  holdover : Bool
deriving DecidableEq, Repr

/-- A fabric port (Tables 17.6 and 17.13). -/
structure FabPort where
  /-- State code of Table 17.6. -/
  state : Nat := 0
  /-- It was UP at the close of the tick before (R457). -/
  upLast : Bool := false
  /-- It goes to DOWN at the close of this tick: 0 no, 1 its PHY lost link, 2 TIME frames are missing (R463). -/
  down : Nat := 0
  /-- Its PHY has link. -/
  phy : Bool := false
  /-- A HELLO since the PHY reached link was judged good. -/
  helloOk : Bool := false
  /-- Lane tick count at which the next HELLO is due (R461). -/
  helloNext : Nat := 0
  /-- A valid TIME frame arrived in this tick. -/
  timeNow : Bool := false
  /-- Consecutive ticks before this one with a valid TIME frame. -/
  timeRun : Nat := 0
  /-- Consecutive closed ticks without one. -/
  missRun : Nat := 0
  /-- Node ID of the last HELLO; 0 none. -/
  neighbour : Nat := 0
  /-- Serial number of the last HELLO. -/
  serial : Nat := 0
  /-- The last 16 valid link delay measurements, 1/16 clock, newest first (R466). -/
  delays : List Int := []
  /-- Receive count of the last TIME frame, and the transmit count it carried. -/
  rx : Option (Nat × Nat) := none
  /-- What it announced. -/
  ann : Option TimeAnn := none
  /-- Consecutive TIME frames whose master sequence is that of the frame before (R468). -/
  seqRun : Nat := 0
  /-- The neighbour's fabric time at a clock, both 1/16 clock, measured in this tick. -/
  meas : Option (Int × Int) := none
  /-- Last offset measured on this port, 1/16 clock. -/
  offset : Int := 0
  /-- Transmit counts of the own TIME frames of this tick and the 4 before, newest first. -/
  txCounts : List Nat := []
  /-- Frame errors in this tick. -/
  errNow : Nat := 0
  /-- Those of the 39,999 ticks before, as (tick count, number). -/
  errHist : List (Nat × Nat) := []
  /-- Their sum at the last close lay above FABRIC.ERR.LIMIT. -/
  errOver : Bool := false
  /-- Frame errors since gather, saturating. -/
  errors : Nat := 0
  /-- SERVICE and BULK frames dropped, saturating. -/
  drops : Nat := 0
  /-- The byte time after the boundary from which it may start a frame. -/
  busy : Nat := 0
  /-- Wire bytes sent in this tick. -/
  load : Nat := 0
  /-- Frames waiting. -/
  queue : List FabFrame := []
  /-- Frames sent in this tick, in order. -/
  sent : List FabFrame := []
  /-- Those of the tick before. -/
  sentLast : List FabFrame := []
  /-- The port has been UP since the lane entered ALIGN. -/
  upSeen : Bool := false
  /-- FAB-011 was raised. -/
  fab011 : Bool := false
deriving DecidableEq, Repr

/-- The fabric block of a lane (chapter 17). -/
structure FabPart where
  /-- It runs: the image was accepted since the last reset (R450). -/
  running : Bool := false
  /-- DP0 and DP1. -/
  ports : Tab 2 FabPort := Tab.fill 2 {}
  /-- The topology map: link i joins entry i of FABRIC.TOPO.ORDER to the next (R457). -/
  links : List Bool := []
  /-- The map in force for routing since the last boundary (R456). -/
  routes : List Bool := []
  /-- Topology epoch. -/
  epoch : Nat := 0
  /-- Next sequence of each class. -/
  seqs : Tab 6 Nat := Tab.fill 6 0
  /-- Frames accepted in this tick and the 4 before: tick, source, class, sequence (R455). -/
  seen : List (Nat × Nat × Nat × Nat) := []
  /-- The fabric boundary of this tick, 1/16 clock of the lane's count. -/
  bound : Int := 0
  /-- The fabric tick count at that boundary. -/
  count : Nat := 0
  /-- Time master chosen; 0 none. -/
  master : Nat := 0
  /-- Hops from it. -/
  hops : Nat := 0
  /-- Upstream port. -/
  up : Option PortId := none
  /-- Master sequence announced. -/
  mseq : Nat := 0
  /-- Fabric time valid. -/
  valid : Bool := false
  /-- In holdover. -/
  holdover : Bool := false
  /-- Ticks in holdover. -/
  holdRun : Nat := 0
  /-- Excluded master node IDs, with the lane tick count at which each exclusion ends (R468). -/
  excluded : List (Nat × Nat) := []
  /-- Lane tick count of the lane's entry into ALIGN. -/
  alignAt : Option Nat := none
  /-- The health report formed last (R147). -/
  report : List Byte := []
  /-- The SAFE payload formed for the next boundary. -/
  safeNext : Option (List Byte) := none
  /-- LINK notices to send from the next boundary. -/
  notices : List (List Byte) := []
deriving DecidableEq, Repr

/-- A subscription on this lane (R479). -/
structure Sub where
  /-- A value has been received. -/
  have_ : Bool := false
  /-- The value last received, as Table 18.1 encodes it. -/
  val : Int := 0
  /-- The value of this tick. -/
  cur : Int := 0
  /-- Fabric tick count of its frame, from the stamp's low 32 bits. -/
  stamp : Int := 0
  /-- The cross-check has failed the element: until the next gather. -/
  xfail : Bool := false
  /-- The element is failed in this tick. -/
  failed : Bool := true
  /-- Its value in the tick before, where it was valid. -/
  prev : Option Int := none
  /-- Consecutive ticks beyond BAND from the median. -/
  run : Nat := 0
  /-- Consecutive ticks of two values beyond BAND. -/
  pairRun : Nat := 0
  /-- Pair disagreement in force. -/
  pair : Bool := false
  /-- Value in use; none where lost on this lane. -/
  use : Option Int := none
  /-- FAB-036 was raised for the present loss. -/
  lost : Bool := false
deriving DecidableEq, Repr

/-- A share entry of a PREPARE (Table 18.4). -/
structure ShareEntry where
  /-- Node. -/
  node : Nat
  /-- Axis index. -/
  axis : Nat
  /-- Probe. -/
  probe : Bool := false
  /-- Raised by redistribution. -/
  raised : Bool := false
  /-- Share: Q16.16 bar, or pu. -/
  share : Int
deriving DecidableEq, Repr

/-- A commit a coordinator lane has prepared (R485). -/
structure Commit where
  /-- Request class, 1 or 2. -/
  cls : Nat
  /-- Commit number. -/
  num : Nat
  /-- Fire tick, low 32 bits. -/
  fire : Nat
  /-- Demand x. -/
  x : Int
  /-- Share entries. -/
  shares : List ShareEntry
  /-- Answers counted: node and READY. -/
  answers : List (Nat × Bool) := []
  /-- ABORT was sent. -/
  aborted : Bool := false
  /-- The deadline has passed. -/
  closed : Bool := false
deriving DecidableEq, Repr

/-- A commit a lane answered READY and will fire (R487). -/
structure Armed where
  /-- Request class. -/
  cls : Nat
  /-- Commit number. -/
  num : Nat
  /-- Coordinator. -/
  src : Nat
  /-- Fire tick, low 32 bits. -/
  fire : Nat
  /-- Axis and share of each entry that names the node. -/
  shares : List (Nat × Int)
deriving DecidableEq, Repr

/-- One request class on a lane. -/
structure CarClass where
  /-- Number of the next commit, once known (R484). -/
  next : Option Nat := none
  /-- Last commit fired on this lane. -/
  last : Option Nat := none
  /-- Last fired number that the coordinator published. -/
  seen : Option Nat := none
  /-- x of the last PREPARE, with its lane tick count. -/
  sent : Option (Int × Nat) := none
  /-- Lane tick count since which a PREPARE has been due. -/
  dueSince : Option Nat := none
  /-- Nodes whose answer counted as REFUSE for the last commit whose deadline has passed, as a mask. -/
  refuse : Nat := 0
  /-- Missing participant nodes, as a mask (R490). -/
  missing : Nat := 0
  /-- The missing set of the last PREPARE. -/
  missingSent : Nat := 0
  /-- Consecutive aborts of an ALL commit. -/
  aborts : Nat := 0
  /-- An ALL commit to retry: demand and shares (R489). -/
  retry : Option (Int × List ShareEntry) := none
  /-- Target of an accepted MOVE not yet prepared (R482). -/
  req : Option Int := none
  /-- Commits fired since gather, saturating. -/
  fired : Nat := 0
  /-- Refusals and aborts since gather, saturating. -/
  refused : Nat := 0
  /-- Last answer given: 0 none, 1 READY, 2 REFUSE. -/
  answer : Nat := 0
  /-- Its reason. -/
  reason : Nat := 0
  /-- The commit last answered: number and coordinator. -/
  answered : Option (Nat × Nat) := none
deriving DecidableEq, Repr

/-- Signals and the caravan commit of a lane (chapter 18). -/
structure CarPart where
  /-- FABRIC.SUB[0] to FABRIC.SUB[15]. -/
  subs : Tab 16 Sub := Tab.fill 16 {}
  /-- Nodes that showed the candidate bit or sent a PREPARE, with the lane tick count (R483). -/
  cands : List (Nat × Nat) := []
  /-- Last rank received from a node. -/
  ranks : List (Nat × Nat) := []
  /-- Elected coordinator; 0 none. -/
  elected : Nat := 0
  /-- This lane is a candidate. -/
  candidate : Bool := false
  /-- It coordinates on its plane. -/
  coord : Bool := false
  /-- Classes 1 and 2. -/
  cls : Tab 2 CarClass := Tab.fill 2 {}
  /-- Commits prepared and not yet fired. -/
  prepared : List Commit := []
  /-- Commits answered READY and not yet fired. -/
  armed : List Armed := []
  /-- Share in force per axis (R487, R488). -/
  share : Tab 12 Int := Tab.fill 12 0
  /-- Tick of the last boundary at which the own plane fired for the axis, and its share. -/
  firedAt : Tab 12 (Option (Nat × Int)) := Tab.fill 12 none
  /-- Tick of the last boundary at which any lane of the node fired for the axis, as seen. -/
  anyAt : Tab 12 (Option Nat) := Tab.fill 12 none
  /-- The share stands at FALLBACK, or nothing has fired since gather. -/
  fell : Tab 12 Bool := Tab.fill 12 true
  /-- MOVEs accepted under R482, and the target of the last one, as the holder carries them to its other lanes. -/
  moves : Nat := 0
  /-- That target, pu. -/
  moveTo : Int := 0
deriving DecidableEq, Repr

end Sys2Proof.Machine
end

