-- ==== Sys2Proof/Machine/PartsJob.lean ====
section
/-! DEFINITION. CAN controllers, voice, service messages, sessions, jobs, and the recorder of the commons: their state (chapters 19 and 20). -/

namespace Sys2Proof.Machine

/-! ## CAN -/

/-- A diagnostic trouble code (R509). -/
structure Dtc where
  /-- SPN. -/
  spn : Nat
  /-- FMI. -/
  fmi : Nat
  /-- Occurrence count. -/
  occ : Nat
deriving DecidableEq, Repr

/-- What a CAN message that the node sends carries (Table 19.3), by field. -/
inductive CanMsg where
  | claim (name : Nat)
  | cannotClaim (name : Nat)
  | nack (pgn : Nat)
  | tpCm (data : List Byte)
  | tpDt (data : List Byte)
  | service (data : List Byte)
  | guidance (curvature : Option Int) (limited reset : Bool)
  | wheelSpeed (speed : Option Q) (distance : Nat)
  | dm1 (red amber : Bool) (dtcs : List Dtc)
  | dm2 (dtcs : List Dtc)
  | software (release stepping : Nat)
  | ecuIdent (ordering serial : Nat)
deriving DecidableEq, Repr

/-- A CAN message with its destination; 255 is global. -/
structure CanFrame where
  /-- Source address. -/
  src : Nat
  /-- Destination address. -/
  dst : Nat
  /-- Content. -/
  msg : CanMsg
deriving DecidableEq, Repr

/-- A transport protocol connection that another node opened (ISO 11783-3, R501). -/
structure InConn where
  /-- Source address. -/
  src : Nat
  /-- It was announced to all (BAM). -/
  bam : Bool
  /-- PGN carried. -/
  pgn : Nat
  /-- Message size, bytes. -/
  size : Nat
  /-- Number of packets. -/
  packets : Nat
  /-- Packets received. -/
  got : Nat := 0
  /-- Bytes received. -/
  data : List Byte := []
deriving DecidableEq, Repr

/-- A connection this node opened to send more than 8 bytes. -/
structure OutConn where
  /-- Destination address. -/
  dst : Nat
  /-- PGN carried. -/
  pgn : Nat
  /-- Bytes. -/
  data : List Byte
deriving DecidableEq, Repr

/-- A message that a transport connection has delivered. -/
structure TpMsg where
  /-- Source address. -/
  src : Nat
  /-- PGN. -/
  pgn : Nat
  /-- Bytes. -/
  data : List Byte
deriving DecidableEq, Repr

/-- A CAN controller of a lane (chapter 19). -/
structure CanCtl where
  /-- 0 error active, 1 error passive, 2 bus-off. -/
  err : Nat := 0
  /-- Transmit error count. -/
  tec : Nat := 0
  /-- Receive error count. -/
  rec_ : Nat := 0
  /-- Address in use; 254 none. -/
  addr : Nat := 254
  /-- No address could be claimed: nothing else is sent until the next gather. -/
  mute : Bool := false
  /-- NAMEs heard, by address. -/
  names : List (Nat × Nat) := []
  /-- Lane tick count before which a new voice sends only its claim (R505). -/
  waitTo : Nat := 0
  /-- Lane tick count of the next Guidance Machine Info. -/
  gmiNext : Nat := 0
  /-- Of the next Wheel-Based Speed and Distance. -/
  speedNext : Nat := 0
  /-- Of the next DM1. -/
  dm1Next : Nat := 0
  /-- Frames queued for the next boundary. -/
  queue : List CanFrame := []
  /-- Frames sent in this tick. -/
  sent : List CanFrame := []
  /-- Inbound connections. -/
  inConns : List InConn := []
  /-- Outbound connections. -/
  outConns : List OutConn := []
  /-- Messages a transport connection delivered in this tick. -/
  delivered : List TpMsg := []
deriving DecidableEq, Repr

/-! ## Services and sessions -/

/-- A service request's header (Table 19.4). -/
structure SvcHdr where
  /-- Controller it came on. -/
  can : CanId := 0
  /-- Requester's address. -/
  src : Nat
  /-- Destination address. -/
  dst : Nat
  /-- Target lane: 0 A, 1 B, 2 C, 3 every lane in the lane mask. -/
  target : Nat
  /-- Tag. -/
  tag : Nat := 0
deriving DecidableEq, Repr

/-- A service response (Table 19.4). -/
structure SvcResp where
  /-- Controller. -/
  can : CanId
  /-- Requester's address. -/
  dst : Nat
  /-- Bytes. -/
  data : List Byte
deriving DecidableEq, Repr

/-- A request whose response the voice awaits from a lane (R512). -/
structure SvcWait where
  /-- Header. -/
  h : SvcHdr
  /-- Service code. -/
  code : Nat
  /-- Lane. -/
  lane : LaneId
  /-- Lane tick count of the request. -/
  at_ : Nat
deriving DecidableEq, Repr

/-- A session challenge (R513). -/
structure Challenge where
  /-- Requester's address. -/
  src : Nat
  /-- 16 bytes. -/
  bytes : List Byte
  /-- Lane tick count at which the lane received it. -/
  at_ : Nat
  /-- A response has answered it. -/
  used : Bool := false
deriving DecidableEq, Repr

/-- An open session (R514). -/
structure Session where
  /-- Requester's address. -/
  src : Nat
  /-- Requester's NAME, once an address claim of that address showed it. -/
  name : Option Nat := none
  /-- Its challenge. -/
  challenge : List Byte
  /-- Ticks without an accepted service message from that address. -/
  idle : Nat := 0
deriving DecidableEq, Repr

/-- An image write in progress (R90, R511). -/
structure ImgWrite where
  /-- Area written. -/
  area : Nat
  /-- Next offset. -/
  next : Nat
  /-- Data written from offset 0. -/
  data : List Byte
  /-- The last block was written: the read-back runs. -/
  last : Bool
deriving DecidableEq, Repr

/-- CAN and service functions of a lane. -/
structure CanPart where
  /-- CAN0 and CAN1. -/
  ctl : Tab 2 CanCtl := Tab.fill 2 {}
  /-- This lane is the voice. -/
  voice : Bool := false
  /-- Lane tick count of the tick at whose close it became the voice (R505). -/
  voiceAt : Nat := 0
  /-- The lane whose voice flag was seen last. -/
  lastVoice : Option LaneId := none
  /-- Consecutive ticks without a frame from the node's address, in an eligible state (R503). -/
  quiet : Nat := 0
  /-- Such a frame arrived in this tick. -/
  heard : Bool := false
  /-- A CURVATURE request is due since OPR-010 (R508). -/
  resetDue : Bool := false
  /-- Sum of the safe vehicle speed over the ticks, for the distance of Wheel-Based Speed. -/
  distance : Nat := 0
  /-- Responses of this lane, carried to the voice over the links. -/
  resps : List SvcResp := []
  /-- Responses the voice awaits. -/
  waits : List SvcWait := []
  /-- The challenge, as this lane received it. -/
  chal : Option Challenge := none
  /-- Random draws made. -/
  draws : Nat := 0
  /-- The open session. -/
  session : Option Session := none
  /-- Consecutive wrong responses. -/
  wrong : Nat := 0
  /-- Lane tick count of a lockout. -/
  locked : Option Nat := none
  /-- Image write. -/
  img : Option ImgWrite := none
deriving DecidableEq, Repr

/-- One entry of the fault summary a lane carries in its link frames (R509). -/
structure FaultSum where
  /-- Class code. -/
  cls : Nat
  /-- Event code number. -/
  code : Nat
  /-- Records since the last acknowledgement. -/
  occ : Nat
  /-- It is an unrecovered event of level L1 or above. -/
  active : Bool
  /-- It is a recovered event not acknowledged. -/
  past : Bool
deriving DecidableEq, Repr

/-! ## Jobs -/

/-- A job's state (Table 20.2). -/
structure JobSt where
  /-- State code. -/
  state : Nat := 0
  /-- Cause code. -/
  cause : Nat := 0
  /-- Ticks since START. -/
  ticks : Nat := 0
deriving DecidableEq, Repr

/-- What a lane carries of its jobs in the job and update section (R524). -/
structure JobShare where
  /-- The job between RUNNING and CANCELLING. -/
  run : Option Nat := none
  /-- Its subject axis. -/
  axis : Nat := 0xFF
  /-- Job states, by number. -/
  st : Tab 10 JobSt := Tab.fill 10 {}
  /-- The job whose START the lane refused in this tick. -/
  refused : Option Nat := none
  /-- CENTRE_FIND phase. -/
  phase : Nat := 0
  /-- C of CENTRE_FIND, pu. -/
  c : Option Int := none
  /-- The step of VALVE_CHAR the lane drives. -/
  point : Option Nat := none
  /-- The lane's part of the job is done: tag written, coil characterised, package checked. -/
  part : Bool := false
  /-- The receiving lane's tick count when `part` first arrived. -/
  partAt : Nat := 0
  /-- Shares in a row that showed the sender's CENTRE_FIND suspended or suspending while the receiving lane ran it. -/
  behind : Nat := 0
  /-- The lane has switched (FW_LOAD, REGATHER). -/
  switched : Bool := false
  /-- Switch boundary of R540, in the sender's numbering. -/
  standAt : Option Nat := none
  /-- The old seal, where a REGATHER checkpoint stands. -/
  oldSeal : Option Word := none
deriving DecidableEq, Repr

/-- CENTRE_FIND (R219 to R222). -/
structure CentreFind where
  /-- Phase 1 to 5; 6 waits for the tag writes. -/
  phase : Nat := 0
  /-- Within the phase: 0 to start, 1 moving, 2 stopping, 3 backing off. -/
  stage : Nat := 0
  /-- Measured position at the start of the phase, pu with 16 fraction bits. -/
  from_ : Int := 0
  /-- The first switch was released since phase 2 began or was restarted (R221). -/
  free1 : Bool := false
  /-- The second switch was released since phase 3 began or was restarted. -/
  free2 : Bool := false
  /-- The switch left behind has released in this phase. -/
  released : Bool := false
  /-- P1, pu. -/
  p1 : Option Int := none
  /-- P2, pu. -/
  p2 : Option Int := none
  /-- C, pu. -/
  c : Option Int := none
  /-- The holder of the axis as last seen. -/
  seen : Option LaneId := none
deriving DecidableEq, Repr

/-- END_LEARN (R530). -/
structure EndLearn where
  /-- 1 negative, 2 positive, 3 back to 0, 4 writing. -/
  stage : Nat := 1
  /-- The motion of the stage has been requested. -/
  asked : Bool := false
  /-- Consecutive ticks with reported speed 0. -/
  zero : Nat := 0
  /-- Negative end, pu. -/
  neg : Int := 0
  /-- Positive end, pu. -/
  pos : Int := 0
deriving DecidableEq, Repr

/-- PEDAL_LEARN (R531): lowest and highest voltage of BRAKE[1] and BRAKE[2], Q16.16 V. -/
structure PedalLearn where
  /-- Ticks. -/
  ticks : Nat := 0
  /-- BRAKE[1]. -/
  r1 : Option (Q × Q) := none
  /-- BRAKE[2]. -/
  r2 : Option (Q × Q) := none
  /-- The spans were taken: the tags are being written. -/
  writing : Bool := false
deriving DecidableEq, Repr

/-- VALVE_CHAR (R532). -/
structure ValveChar where
  /-- Step k, while this lane drives. -/
  k : Nat := 0
  /-- Ticks in the step. -/
  ticks : Nat := 0
  /-- Pressures and coil currents so far, Q16.16. -/
  pts : List (Q × Q) := []
  /-- This lane's coil is done. -/
  done : Bool := false
deriving DecidableEq, Repr

/-- BRIDGE_TEST (R533). -/
structure BridgeTest where
  /-- 1 transistors, 2 alignment, 3 writing. -/
  stage : Nat := 1
  /-- Ticks of the alignment. -/
  ticks : Nat := 0
  /-- Transistors that passed. -/
  mask : Nat := 0
  /-- Offset recorded. -/
  offset : Nat := 0
deriving DecidableEq, Repr

/-- ROTATE_TEST (R534). -/
structure RotateTest where
  /-- Subject axes still to test, the present one first. -/
  axes : List Nat := []
  /-- Original holder of the present one. -/
  orig : Option LaneId := none
  /-- Holder seen last. -/
  seen : Option LaneId := none
  /-- Planned handovers made. -/
  moves : Nat := 0
  /-- Ticks the present holder has held since the last handover. -/
  held : Nat := 0
  /-- A handover is due. -/
  due : Bool := false
deriving DecidableEq, Repr

/-- FW_LOAD (R536 to R541). -/
structure FwLoad where
  /-- Next offset to stage. -/
  next : Nat := 0
  /-- A block request is outstanding, at its offset (R536). -/
  asked : Option Nat := none
  /-- The whole package has arrived. -/
  complete : Bool := false
  /-- The check passed on this lane. -/
  passed : Bool := false
  /-- This lane has switched. -/
  switched : Bool := false
  /-- The switch of this lane has begun. -/
  switching : Bool := false
  /-- Ticks since the first switched lane's entry into OPERATE. -/
  sinceFirst : Option Nat := none
  /-- Switch boundary of R540. -/
  standAt : Option Nat := none
  /-- The job waits for the standstill switch (R540). -/
  stand : Bool := false
deriving DecidableEq, Repr

/-- REGATHER (R542 to R545). -/
structure Regather where
  /-- Ticks since START, as counted across the switch. -/
  ticks : Nat := 0
  /-- This lane has switched. -/
  switched : Bool := false
  /-- Its switch has begun. -/
  switching : Bool := false
  /-- A rollback is under way, with its cause. -/
  back : Option Nat := none
  /-- The yields of R544 were planned. -/
  yielded : Bool := false
deriving DecidableEq, Repr

/-- A calibration record to be written to a tag (R113, R535). -/
structure TagWrite where
  /-- Axis and slot, or a sensor instance of BRAKE. -/
  owner : Sum (Nat × Nat) Nat
  /-- Bytes 96 to 191. -/
  data : List Byte
deriving DecidableEq, Repr

/-- Jobs of a lane (chapter 20). -/
structure JobPart where
  /-- States by job number 1 to 9. -/
  st : Tab 10 JobSt := Tab.fill 10 {}
  /-- The job, other than RECORD_EXPORT, between RUNNING and CANCELLING. -/
  run : Option Nat := none
  /-- Subject axis; 0xFF none or every axis. -/
  axis : Nat := 0xFF
  /-- The job whose START this lane refused in this tick. -/
  refused : Option Nat := none
  /-- Another lane's refusal or failure of the job: fails it here in the next tick. -/
  partner : Bool := false
  /-- A cause that another lane suspended CENTRE_FIND with. -/
  partnerSusp : Option Nat := none
  /-- CENTRE_FIND. -/
  cf : CentreFind := {}
  /-- END_LEARN. -/
  el : EndLearn := {}
  /-- PEDAL_LEARN. -/
  pl : PedalLearn := {}
  /-- VALVE_CHAR. -/
  vc : ValveChar := {}
  /-- BRIDGE_TEST. -/
  bt : BridgeTest := {}
  /-- ROTATE_TEST. -/
  rt : RotateTest := {}
  /-- FW_LOAD. -/
  fw : FwLoad := {}
  /-- REGATHER. -/
  rg : Regather := {}
  /-- Tag writes still to make, the first in progress. -/
  writes : List TagWrite := []
  /-- This lane's tag writes of the job have succeeded. -/
  written : Bool := false
  /-- Lane tick count at which the last of them succeeded. -/
  writtenAt : Nat := 0
  /-- Lane tick count in whose link frame another lane was first told of it. -/
  toldAt : Option Nat := none
  /-- JOB parameters written by OBJECT WRITE since gather, taken at START (R529). -/
  params : List (Nat × List Int) := []
  /-- The lane is ABSENT for every axis by R538. -/
  odd : Bool := false
deriving DecidableEq, Repr

/-! ## The recorder -/

/-- One recorded tick of a lane (R546). -/
structure RecTick where
  /-- Lane. -/
  lane : Nat
  /-- Lane tick count. -/
  count : Nat
  /-- Its bytes: count, values, CRC-16. -/
  bytes : List Byte
deriving DecidableEq, Repr

/-- A recorder window (R547). -/
structure RecWindow where
  /-- Lane whose event opened it. -/
  lane : Nat
  /-- Ticks recorded so far, the pre-trigger span included. -/
  len : Nat
  /-- Ticks still to record. -/
  left : Nat
  /-- Open. -/
  isOpen : Bool
  /-- Data. -/
  ticks : List RecTick
  /-- Number by which an export holds it. -/
  num : Nat
deriving DecidableEq, Repr

/-- The commons island (R12 to R14, R546 to R549). -/
structure Commons where
  /-- It is reachable. -/
  present : Bool := true
  /-- Position in the ring stream of its oldest byte. -/
  base : Nat := 0
  /-- Bytes in the ring. -/
  used : Nat := 0
  /-- Recorded ticks in the ring, oldest first. -/
  ring : List RecTick := []
  /-- Windows held, oldest first. -/
  windows : List RecWindow := []
  /-- The export cursor moved to the oldest data (R548). -/
  moved : Bool := false
  /-- Mean erase count. -/
  wear : Nat := 0
  /-- Number of the window that a lane exports. -/
  exporting : PerLane (Option Nat) := PerLane.fill none
  /-- Number of the next window. -/
  nextNum : Nat := 0
  /-- Lanes that raised SUP-031. -/
  worn : PerLane Bool := PerLane.fill false
deriving DecidableEq, Repr

end Sys2Proof.Machine
end

