-- ==== Sys2Proof/Machine/Operands.lean ====
section
/-! DEFINITION. The operand forms of the commands: what the environment gives a lane with a step, as plain data. -/

namespace Sys2Proof.Machine

/-- The electrical samples a lane takes in one tick (R293, R360, R321). -/
structure ElecIn where
  /-- Bridge voltage at the boundary, Q16.16 V. -/
  vbus : Q := 0
  /-- Leg currents at the boundary, L00 first, Q16.16 A. -/
  cur : List Q := []
  /-- Switch-node voltages at the boundary, Q16.16 V. -/
  node : List Q := []
  /-- Extra conversions of valve legs at the peak of the tick before (R321). -/
  peak : List Q := []
  /-- Chopper conversion of the tick before, where there was one (R362). -/
  chop : Option Q := none
deriving DecidableEq, Repr

/-- The supply and temperature samples of a tick. -/
structure SupIn where
  /-- l_VSUP, Q16.16 V. -/
  vsup : Q := 1572864
  /-- l_VG, Q16.16 V. -/
  vg : Q := 786432
  /-- Junction temperature, 0.1 °C. -/
  tj : Int := 250
  /-- l_VSNS0 in current limit. -/
  lim0 : Bool := false
  /-- l_VSNS1 in current limit. -/
  lim1 : Bool := false
  /-- Deviation of the ADC reference, 0.01 % units. -/
  refDev : Int := 0
deriving DecidableEq, Repr

/-- The electrical samples a lane takes of its feedback inputs in one tick. -/
structure FbkSample where
  /-- Demodulated sine amplitudes of channels 4 and 5, Q16.16 V. -/
  resS : List Q := []
  /-- Demodulated cosine amplitudes. -/
  resC : List Q := []
  /-- Conversions of the analog inputs 0 to 7, Q16.16 V. -/
  ain : List Q := []
deriving DecidableEq, Repr

/-- What a marver slice measures on the item under test. -/
structure MarverIn where
  /-- Groups 1 to 3, 5 and 6: probe charge, bootstrap voltage in mV, shunt offset in µV, reference deviation in 0.01 %, amplitude in % of its setting. -/
  value : Int := 0
  /-- Group 4: the soft comparator tripped on injection. -/
  soft : Bool := true
  /-- Group 4: the hard comparator tripped on injection. -/
  hard : Bool := true
  /-- Group 7: the test word came back right within 2 ticks. -/
  echoed : Bool := true
deriving DecidableEq, Repr

/-- How a self-test ends (R62, Table 3.6). -/
inductive SelfTest where
  | pass
  | logic (test : Nat)
  | memory (address : Nat)
  | offState (leg : Nat)
  | selfTrip (leg : Nat) (hard : Bool)
  | adcReference (deviation : Int)
deriving DecidableEq, Repr

/-- What may wake a lane (R83). -/
inductive WakeBy where
  | demand
  | frame (id : Nat)
  | dominant
  | linkPattern
deriving DecidableEq, Repr

/-- The last switching times of a leg in the period that ended (R343) and its high-side supply at the valley (R346). -/
structure LegMeas where
  /-- Last rising switching time, ns. -/
  rise : Option Nat := none
  /-- Last falling switching time, ns. -/
  fall : Option Nat := none
  /-- High-side supply voltage, mV. -/
  vhs : Nat := 12000
deriving DecidableEq, Repr

/-- A detector that trips: soft or hard comparator with the current in 0.1 A, desaturation with its side and the voltage across that side's transistor in mV. -/
inductive Trip where
  | soft (deciAmp : Nat)
  | hard (deciAmp : Nat)
  | desat (lowSide : Bool) (mv : Nat)
deriving DecidableEq, Repr

/-- A trip with its clock in the tick (R355, R359). -/
structure TripAt where
  /-- Clocks after the boundary. -/
  clk : Nat
  /-- The detector and what it sees. -/
  trip : Trip
deriving DecidableEq, Repr

/-- A Guidance System Command as received (R507): its raw curvature and its command status. -/
structure GuidanceCmd where
  /-- Curvature, in the coding of ISO 11783-7: 0.25 km⁻¹ per bit, offset −8,032 km⁻¹; above 0xFAFF not available. -/
  raw : Nat
  /-- Curvature command status: 1 intended to steer. -/
  status : Nat
deriving DecidableEq, Repr

/-- What the environment gives a lane at a boundary: the pins and samples of the tick that begins, and how the tick that ends was worked and closed. -/
structure TickIn where
  /-- IGN, behind its filter. -/
  ign : Bool := true
  /-- WAKE. -/
  wake : Bool := false
  /-- WORKSHOP. -/
  workshop : Bool := false
  /-- BENCH. -/
  bench : Bool := false
  /-- Bridge and leg samples. -/
  elec : ElecIn := {}
  /-- Supply and temperature. -/
  sup : SupIn := {}
  /-- Feedback samples. -/
  fbk : FbkSample := {}
  /-- A slice of the marver, where the lane ran one in the tick that ends. -/
  marver : Option MarverIn := none
  /-- Transistors of a BRIDGE_TEST that passed, where the test of the last one ends in this tick. -/
  bridge : Option Nat := none
  /-- Measured load of the tick, percent (R50). -/
  load : Nat := 0
  /-- Deviation of the tick timer from the internal reference, 0.01 % units (R120). -/
  deviation : Int := 0
  /-- The lockstep comparator's mismatch address (Table 15.5). -/
  lockstep : Option Nat := none
  /-- The first differing result word of the engine's datapaths (R255). -/
  datapath : Option Nat := none
  /-- Axes whose duty registers are written after the write fence in the tick that ends (R329). -/
  late : List Nat := []
  /-- The cores closed the tick that ends (R408). -/
  cores : Bool := true
  /-- The collector closed the tick that ends (R408). -/
  collector : Bool := true
  /-- Clocks after the boundary at which the TIME frames of DP0 and DP1 pass their timestamp point (R465). -/
  fabTx : List Nat := []
  /-- Mean erase count of the recorder store, where the commons reports it (R549). -/
  wear : Option Nat := none
deriving DecidableEq, Repr

/-- The contents of the identity buses a lane reads: tag address and bytes (R107). -/
abbrev IdBus := List (Nat × List Byte)

/-- A section of a link frame (Table 1.3). -/
inductive LinkSection where
  | marker
  | state
  | outputs
  | endorsements
  | tail
deriving DecidableEq, Repr

/-- A received link frame section (R582): its sender, the section, when its last byte arrived, what disturbed it on the way, and the link delay that loop-back gives in ALIGN. -/
structure LinkRx where
  /-- Sending lane. -/
  sender : LaneId
  /-- Section. -/
  sect : LinkSection
  /-- Clocks after the boundary of the receiver's tick in which the frame's marker arrives, at which the last byte arrived. -/
  arrival : Int
  /-- The bytes of the section that a disturbance changed on the way, each with its pattern of flipped bits. -/
  noise : List (Nat × Byte) := []
  /-- Link delay measured by loop-back, clocks (R64); used in ALIGN. -/
  loopback : Option Int := none
deriving DecidableEq, Repr

/-- An external source of a lane: PIN or FABRIC (R44). -/
inductive ExtSource where | pin | fabric
deriving DecidableEq, Repr

/-- The source code of TIM-006: 1 PIN, 2 FABRIC. -/
def ExtSource.code : ExtSource → Nat | .pin => 1 | .fabric => 2

/-- Where a profile or mode request comes from: a service message, or a steering function or job within a lane (R202, R270). -/
inductive ReqFrom where
  | service (h : SvcHdr)
  | lane (l : LaneId)
deriving DecidableEq, Repr

end Sys2Proof.Machine
end

