-- ==== Sys2Proof/Syntax.lean ====
section
/-! DEFINITION. The commands of the part, one constructor per row of the opcode table, each with the rule that governs it. -/

namespace Sys2Proof

open Sys2Proof.Machine

/-- A command: something that reaches the part from outside, or a condition that its counts have met. -/
inductive Instr where
  /-- The lane supply rises through its power-on threshold, and the lane leaves OFF and starts from BOOT with reset kind POWER-ON. (R568) -/
  | powerOn (l : LaneId)
  /-- The supply supervisor detects a brown-out; the lane sends departure markers from hold-up and goes to OFF. (R133) -/
  | brownOut (l : LaneId)
  /-- A low on l_RESETN of at least 10 µs puts the lane into OFF and floats its config port; a shorter low is ignored. (R553) -/
  | resetnLow (l : LaneId) (ns : Nat)
  /-- The release of l_RESETN starts the lane from BOOT with reset kind RESETN. (R553) -/
  | resetnRelease (l : LaneId) (at_ : Nat) (written : List Byte)
  /-- The supply disconnect opens on overvoltage; the lane runs from hold-up and raises SUP-002. (R569) -/
  | disconnectOpen (l : LaneId) (v : Q)
  /-- The disconnect is still open 40 µs after it opened, so the supervisor treats the event as a brown-out. (R569) -/
  | disconnectHoldupExpiry (l : LaneId)
  /-- l_VG falls below 10.0 V, and the gate driver holds every gate output of the lane off in hardware. (R570) -/
  | gateSupplyLow (l : LaneId)
  /-- The collector has closed no tick for 40 ticks; the independent timer sends departure markers and resets the lane. (R408) -/
  | laneWatchdog (l : LaneId)
  /-- A debug reset request resets the lane if BENCH was high at the last reset release, and otherwise has no effect. (R555) -/
  | debugReset (l : LaneId)
  /-- An accepted debug halt stops the cores, the loop engine and the time bases, while the tick timer and the lease counters run on. (R335) -/
  | debugHalt (l : LaneId)
  /-- Debug halt ends, and each time base restarts at its next valley with dither phase 0. (R336) -/
  | debugHaltEnd (l : LaneId)
  /-- A wake condition in SLEEP or LISTEN makes the lane send the wake pattern and start from BOOT. (R83) -/
  | wake (l : LaneId) (w : WakeBy)
  /-- At reset release the boot code samples BENCH, reads the recorded slot and starts the signature check. (R59) -/
  | bootStart (l : LaneId)
  /-- The firmware signature check completes: the lane starts the slot, falls back to the other slot with MEM-001, or stays in BOOT with MEM-002. (R60)
  `ok` is the sender's expectation alone: the verdict is the signature over the bytes of the slot (R59), whatever it says. -/
  | signatureCheckDone (l : LaneId) (ok : Bool)
  /-- The self-tests complete, and the lane enters GATHER or, at the first failure, enters SAFE. (R62) -/
  | selftestDone (l : LaneId) (t : SelfTest)
  /-- Reading and checking of the image and the identity tags completes, and the lane goes to ALIGN or UNSEALED, or stays in GATHER. (R104) -/
  | gatherDone (l : LaneId) (bus : IdBus)
  /-- The exit conditions of ALIGN hold, and the lane goes to ARMED. (R67) -/
  | alignExit (l : LaneId)
  /-- The lane has not left ALIGN 4,800 ticks after entering it and raises TIM-008. (R68) -/
  | alignTimeout (l : LaneId)
  /-- 2,000 ticks pass in ALIGN without fabric discovery completing, so discovery no longer blocks the lane. (R67) -/
  | discoveryTimeout (l : LaneId)
  /-- LANE.PRECHARGE.TIME expires; the lane checks each bootstrap, raises PWR-003 where needed and marks itself READY. (R69) -/
  | prechargeEnd (l : LaneId) (mv : List Nat)
  /-- An ARMED and READY lane that sees a READY or OPERATE partner enters OPERATE by node start or by late join. (R70) -/
  | operateEntry (l : LaneId) (probes : List Int)
  /-- A tick boundary starts the tick path of sample, compute, exchange, lease, close, load and apply. (R21) -/
  | tick (l : LaneId) (t : TickIn)
  /-- A link frame section arrives, is checked and placed in the receiver's tick, or is discarded as late or bad. (R582) -/
  | linkFrameReceive (l : LaneId) (f : LinkRx)
  /-- A link direction delivers no valid tick marker for 8 ticks and is declared down with LNK-001. (R20) -/
  | linkDown (l : LaneId) (o : LaneId)
  /-- The commons fails, and each lane records SUP-030 with lane field 3. (R13) -/
  | commonsLoss
  /-- A lane lies more than 80 clocks from a three-lane median for 8 ticks and raises TIM-001. (R38) -/
  | tickOutlier (l : LaneId)
  /-- Two aligned lanes lie more than 160 clocks apart for 8 ticks and raise TIM-002. (R39) -/
  | tickSplit (l : LaneId)
  /-- An edge on the sync pin gives a PIN error measurement, or fixes the expected phase in SEARCH. (R42) -/
  | syncPinEdge (l : LaneId) (at_ : Nat)
  /-- A PIN or FABRIC source in SEARCH has 8 consecutive measurements within ±80 clocks and becomes LOCKED. (R44) -/
  | sourceLocked (l : LaneId) (k : ExtSource)
  /-- A source misses 40 expected measurements, becomes LOST with TIM-006, and the active source may change. (R44) -/
  | sourceLost (l : LaneId) (k : ExtSource)
  /-- A LOST source has 400 consecutive measurements inside the window and returns to SEARCH. (R44) -/
  | sourceResearch (l : LaneId) (k : ExtSource)
  /-- Tick work has not finished by the tick fence, and TIM-003 is raised. (R49) -/
  | tickFenceOverrun (l : LaneId) (clocks : Nat)
  /-- Boundary work has not finished by the next boundary, and TIM-004 is raised. (R49) -/
  | boundaryWorkOverrun (l : LaneId) (clocks : Nat)
  /-- The loop engine has not published by 12.00 µs, and TIM-005 is raised. (R49) -/
  | enginePublishLate (l : LaneId) (clocks : Nat)
  /-- The tick timer deviates more than 1 % from the internal reference or stops; every counter clears and TIM-007 is raised. (R120) -/
  | tickLoss (l : LaneId) (deviation : Int)
  /-- The cores have not closed a tick by the next boundary, and COR-002 is raised. (R408) -/
  | tickNotClosed (l : LaneId)
  /-- The lane's wake demand differs from an OPERATE partner's for 40 ticks, and it raises OPR-001. (R78) -/
  | wakeDisagree (l : LaneId)
  /-- Standstill without wake demand for 200,000 ticks sets tick P; the lanes hold axes, drop the park release and set the power-down flag. (R80) -/
  | powerDown (l : LaneId)
  /-- LANE.PARK_WAIT after P expires; the lanes stop renewing, write the journal and enter SLEEP or LISTEN. (R80) -/
  | parkWaitEnd (l : LaneId)
  /-- A lane that sees no lane in OPERATE enters SLEEP after 200,000 ticks without wake demand. (R80) -/
  | sleepTimeout (l : LaneId)
  /-- LANE.LISTEN.MAXTIME expires, and the listening lane enters SLEEP. (R82) -/
  | listenTimeout (l : LaneId)
  /-- A holder's counter reaches zero without renewal; it raises LSE-001 and leaves the holder role. (R124) -/
  | leaseExpiry (l : LaneId) (n : AxisId)
  /-- A lane has withheld its RENEW for LEASE.LEN ticks and raises LSE-002. (R123) -/
  | renewWithheld (l : LaneId) (n : AxisId)
  /-- A lane's silence reaches its position times LEASE.LEN + LEASE.GUARD, and it claims the axis with the next epoch. (R131) -/
  | unplannedClaim (l : LaneId) (n : AxisId)
  /-- In the dead tick after a yield the named successor claims with epoch + 1, and raises LSE-006 if not endorsed. (R128) -/
  | successorClaim (l : LaneId) (n : AxisId)
  /-- A marver cycle has not ended 4.0 s after it began, and LSE-008 is raised. (R144) -/
  | marverCycleTimeout (l : LaneId)
  /-- Standstill of 2.0 s or the TIMED period falls due, and the holders yield one axis per tick to the next lane. (R145) -/
  | rotationDue (l : LaneId)
  /-- Every 40 ticks the lane forms its health report for the fabric. (R147) -/
  | healthReportSend (l : LaneId)
  /-- No counter of an axis has been loaded for 3 × (LEASE.LEN + LEASE.GUARD) ticks, and LSE-010 is raised. (R420) -/
  | axisOrphaned (l : LaneId) (n : AxisId)
  /-- A transition on an incremental line passes the edge filter as an accepted edge or counts as a fast edge. (R170) -/
  | feedbackEdge (l : LaneId) (ch : Fin 4) (at_ : Nat) (a : Bool) (b : Bool) (z : Bool)
  /-- No edge has arrived for SPEED.STILL ticks; the interval speed is 0 and standstill is flagged. (R186) -/
  | feedbackStandstill (l : LaneId) (ch : Fin 4)
  /-- An SSI frame completes and is accepted, or fails with FBK-011 and then FBK-012. (R193) -/
  | ssiFrame (l : LaneId) (k : Fin 2) (startHigh : Bool) (endLow : Bool) (raw : Nat)
  /-- A MOVE request starts a new position move to its target and clears REMAIN. (R205) -/
  | move (o : ReqFrom) (axis : Nat) (target : Int)
  /-- A JOG request starts a speed move to its target speed and clears REMAIN. (R205) -/
  | jog (o : ReqFrom) (axis : Nat) (speed : Int)
  /-- A STOP request decelerates the axis at DSTOP and keeps REMAIN. (R209) -/
  | stop (o : ReqFrom) (axis : Nat)
  /-- A RESUME request starts a position move to the original target of a stopped move. (R211) -/
  | resume (o : ReqFrom) (axis : Nat)
  /-- A LIMITS request sets the run-time VMAX, AMAX, DMAX and JMAX, clipped to the image ceilings. (R207) -/
  | limits (o : ReqFrom) (axis : Nat) (vmax : Nat) (amax : Nat) (dmax : Nat) (jmax : Nat)
  /-- STEP_ON engages the step input as the target source and sets its origin. (R226) -/
  | stepOn (o : ReqFrom) (axis : Nat)
  /-- STEP_OFF releases the step input, and the last interpolated set-point becomes the target. (R202) -/
  | stepOff (o : ReqFrom) (axis : Nat)
  /-- The position error has stayed within HOLD.BAND for HOLD.DELAY ticks, and the current limit ramps down to HOLD.PCT. (R213) -/
  | holdReduction (l : LaneId) (n : AxisId)
  /-- A raw switch state has held for T_DEB ticks and becomes the debounced state. (R216) -/
  | limitDebounce (l : LaneId) (n : AxisId) (neg : Bool)
  /-- CHATTER_WIN ticks without a raw transition end CHATTER. (R216) -/
  | chatterEnd (l : LaneId) (n : AxisId) (neg : Bool)
  /-- A standby's switch states disagree with the holder's for CHATTER_WIN ticks, and FBK-031 is raised. (R217) -/
  | switchDisagree (l : LaneId) (n : AxisId) (neg : Bool)
  /-- An accepted l_STEP edge adds a signed step to the step sum and sets the interpolation interval. (R223) -/
  | stepEdge (l : LaneId) (at_ : Nat) (step : Bool) (dir : Bool)
  /-- Twice the step interval has passed since the last step, and the interpolator settles. (R225) -/
  | stepSettled (l : LaneId)
  /-- Every 40,000 ticks the lane writes its winding temperature model θ to the journal. (R247) -/
  | thetaWrite (l : LaneId)
  /-- A mode request changes the control mode of a STEER axis and starts the set-point blend, or is refused. (R270) -/
  | modeRequest (o : ReqFrom) (axis : Nat) (mode : Nat)
  /-- A set-point blend has not completed by HANDOVER.TMAX, and the holder raises PLS-010. (R276) -/
  | setpointBlendTimeout (l : LaneId) (n : AxisId)
  /-- An output blend has not completed by HANDOVER.TMAX, and the new holder raises PLS-011. (R279) -/
  | outputBlendTimeout (l : LaneId) (n : AxisId)
  /-- The override count reaches STEER.OVERRIDE.TIME; OPR-010 is raised and the included axes change to MANUAL. (R281) -/
  | override_ (l : LaneId)
  /-- The observer that is the angle source is lost after LOSSN ticks; FBK-043 is raised and borrowing or a re-catch follows. (R299) -/
  | observerLost (l : LaneId) (n : AxisId)
  /-- Borrowing has lasted COMM.BORROW.MAX ticks, and the lane re-catches. (R302) -/
  | borrowTimeout (l : LaneId) (n : AxisId)
  /-- The observer locks during a re-catch, and the lane drives again through an output blend from 0. (R304) -/
  | recatchEnd (l : LaneId) (n : AxisId)
  /-- The observer has not locked 8 ticks after the re-catch decision; FBK-041 is raised or the pump start fails. (R304) -/
  | recatchFail (l : LaneId) (n : AxisId)
  /-- Observer and sensor angles differ beyond ERRMAX for LOSSN ticks, and FBK-040 is raised. (R298) -/
  | observerDisagree (l : LaneId) (n : AxisId)
  /-- START.TALIGN expires, and the sensorless start moves from ALIGN to RAMP. (R308) -/
  | pumpAlignEnd (l : LaneId) (n : AxisId)
  /-- HANDOVER reaches START.HANDWIN without lock; the attempt fails with FBK-045, and FBK-042 follows after RETRY failures. (R308) -/
  | pumpStartFail (l : LaneId) (n : AxisId)
  /-- After START.COAST and the speed falling below PUMP.RESTART, the pump starts again from ALIGN. (R309) -/
  | pumpRestart (l : LaneId) (n : AxisId)
  /-- A Hall state change makes the gate-drive block apply the HALLPASS pattern at clock resolution. (R312) -/
  | hallpassCommutate (l : LaneId) (n : AxisId)
  /-- The phase current sum exceeds ISUM.MAX for 4 ticks, and PWR-030 is raised. (R293) -/
  | phaseCurrentSum (l : LaneId) (n : AxisId)
  /-- A time base reaches a valley or reload point and applies its shadow duties and forced states. (R320) -/
  | pwmValley (l : LaneId) (n : AxisId) (ms : List LegMeas)
  /-- An event line fires at its PRESCALE-th source occurrence and delivers to its destinations. (R332) -/
  | eventLineFire (l : LaneId) (k : Fin 8) (samples : List Q)
  /-- Both commanded outputs of a leg are on; both are turned off to the next valley and PWR-040 is raised. (R333) -/
  | shootThrough (l : LaneId) (leg : LegId) (clocks : Nat)
  /-- The gate driver sees both inputs on, turns both outputs off within 20 ns and raises PWR-051. (R340) -/
  | driverInterlock (l : LaneId) (leg : LegId) (clocks : Nat)
  /-- An ABSOLUTE pulse reaches the next peak, the period is on for 100 % and a MISMATCH is counted. (R325) -/
  | absolutePulseClip (l : LaneId) (leg : LegId)
  /-- A high-side supply is in undervoltage; the leg falls back to its isolated input or the lane leaves the axis. (R346) -/
  | hsSupplyUv (l : LaneId) (leg : LegId) (mv : Nat)
  /-- A soft, hard or desaturation trip turns off every gate of the axis and raises PWR-010, PWR-011 or PWR-013. (R355) -/
  | overcurrentTrip (l : LaneId) (leg : LegId) (t : TripAt)
  /-- Identification of a failed transistor completes, and the post-short state is applied. (R357) -/
  | identificationDone (l : LaneId) (n : AxisId) (fell : Bool) (pins : List Nat)
  /-- The chopper check count reaches 4, and the holder raises PWR-017. (R362) -/
  | chopperFault (l : LaneId)
  /-- V_bus exceeds VOV2, every gate of the lane turns off within 1 µs and PWR-019 is raised. (R365) -/
  | overvoltageTrip (l : LaneId) (v : Q)
  /-- An element differs from its median beyond BAND for XTIME ticks and is failed, with OPR-020 or FBK-050. (R374) -/
  | elementCrosscheckFail (l : LaneId) (k : Fin 8)
  /-- Two valid values differ beyond BAND for XTIME ticks; a pair disagreement is in force and OPR-021 is raised. (R374) -/
  | pairDisagreement (l : LaneId) (k : Fin 8)
  /-- A ground-based speed message has agreed for SPEED.CANTIME ticks and is accepted as slip reference. (R379) -/
  | canSpeedAccept (l : LaneId)
  /-- The last guidance command becomes GUIDANCE.TIMEOUT old; OPR-023 is raised and CURVATURE axes go to HOLD. (R383) -/
  | guidanceTimeout (l : LaneId)
  /-- Brake pressure deviates beyond PRS.BAND for PRS.TIME ticks, and PLS-050 is raised. (R388) -/
  | pressureFollowFail (l : LaneId) (n : AxisId)
  /-- Accumulator pressure lies below ACC.PLOW for 4,000 ticks, and PLS-051 is raised. (R388) -/
  | accumulatorLow (l : LaneId)
  /-- Wheel angle and motor position disagree beyond XCHK.BAND for XCHK.TIME ticks, and FBK-052 is raised. (R385) -/
  | wheelAngleXchk (l : LaneId) (n : AxisId)
  /-- A recoverable class has been quiet for FAULT.ANNEAL.TIME ticks, and its faults recover or latch at the recovery limit. (R411) -/
  | anneal (l : LaneId) (cls : FaultClass)
  /-- FAULT.STOP.TMAX after tick s passes, and the stop counts as having reached standstill. (R424) -/
  | stopTimeout (l : LaneId)
  /-- FAULT.STOP.THOLD after standstill, each lane raises COL-011, enters SAFE and keeps LOW holds on its motor triads. (R425) -/
  | stopHoldEnd (l : LaneId)
  /-- A port's PHY reaches link; the port enters VERIFYING and starts sending HELLO frames. (R461) -/
  | phyLinkUp (l : LaneId) (p : PortId)
  /-- A port's PHY reports loss of link, and the port goes DOWN with FAB-010 and a topology update. (R463) -/
  | phyLinkLoss (l : LaneId) (p : PortId)
  /-- A port sees no valid TIME frame for 2 ticks and goes DOWN. (R463) -/
  | timeFramesMissing (l : LaneId) (p : PortId)
  /-- A port is not UP within 2,000 ticks of ALIGN entry, and FAB-011 is raised. (R463) -/
  | portUpTimeout (l : LaneId) (p : PortId)
  /-- Every 40 ticks each port that is not OFF sends a HELLO frame. (R461) -/
  | helloSend (l : LaneId) (p : PortId)
  /-- A received HELLO is judged and sets the port state, with FAB-001 to FAB-003. (R462) -/
  | hello (l : LaneId) (p : PortId) (at_ : Nat) (bytes : List Byte)
  /-- A received TIME frame gives a link delay and offset measurement, and the port may reach UP. (R466) -/
  | timeFrame (l : LaneId) (p : PortId) (at_ : Nat) (bytes : List Byte)
  /-- A received LINK notice with a newer epoch updates the topology map. (R458) -/
  | linkNotice (l : LaneId) (p : PortId) (at_ : Nat) (bytes : List Byte)
  /-- A received SAFE frame updates subscriptions and candidate sets and is forwarded. (R479) -/
  | safeFrame (l : LaneId) (p : PortId) (at_ : Nat) (bytes : List Byte)
  /-- The master sequence stays unchanged in 4 TIME frames, and that master is excluded for 128 ticks. (R468) -/
  | masterSequenceStale (l : LaneId)
  /-- 128 ticks after an exclusion, the excluded master node ID may be chosen again. (R468) -/
  | masterExclusionEnd (l : LaneId)
  /-- A node has been in holdover for 128 ticks, clears fabric time valid and raises FAB-021. (R469) -/
  | holdoverExpiry (l : LaneId)
  /-- A received PREPARE naming the node is answered with READY or REFUSE. (R486) -/
  | prepare (l : LaneId) (p : PortId) (at_ : Nat) (bytes : List Byte)
  /-- A READY answer reaches the coordinator lane and counts if it arrives before the deadline. (R487) -/
  | ready (l : LaneId) (p : PortId) (at_ : Nat) (bytes : List Byte)
  /-- A REFUSE answer reaches the coordinator lane; under ALL the coordinator sends ABORT. (R489) -/
  | refuse (l : LaneId) (p : PortId) (at_ : Nat) (bytes : List Byte)
  /-- A received ABORT cancels the firing of the named commit on this lane. (R487) -/
  | abort (l : LaneId) (p : PortId) (at_ : Nat) (bytes : List Byte)
  /-- The answer deadline passes; missing answers count as REFUSE and the missing set is formed with FAB-031. (R487) -/
  | commitDeadline (l : LaneId) (k : Fin 2)
  /-- At the fire boundary each READY lane sets its share in force. (R487) -/
  | commitFire (l : LaneId) (k : Fin 2)
  /-- Two ticks after a boundary at which its plane fired nothing, the lane takes the largest share fired by another lane of its node. (R488) -/
  | shareTakeover (l : LaneId) (n : AxisId)
  /-- No lane of the node has fired for COMMIT.HOLD ticks; the share becomes FALLBACK and FAB-035 is raised. (R488) -/
  | shareFallback (l : LaneId) (n : AxisId)
  /-- A received BLOCK REQUEST SERVICE frame is answered with a BLOCK DATA frame from the running or staged slot. (R536) -/
  | blockRequest (l : LaneId) (p : PortId) (at_ : Nat) (bytes : List Byte)
  /-- A received BLOCK DATA BULK frame is staged into the slot, or fails the job with cause 15 when its length is 0. (R536) -/
  | blockData (l : LaneId) (p : PortId) (at_ : Nat) (bytes : List Byte)
  /-- A received Address Claimed is handled under ISO 11783-5; the voice may lose its address and a session may end. (R502) -/
  | addressClaimed (c : CanId) (src : Nat) (name : Nat)
  /-- A received Request is answered by the voice for the PGNs of Table 19.3. (R506) -/
  | request (c : CanId) (src : Nat) (dst : Nat) (pgn : Nat)
  /-- A received Guidance System Command is taken as a curvature command when valid. (R507) -/
  | guidanceSystemCommand (c : CanId) (src : Nat) (dst : Nat) (g : GuidanceCmd)
  /-- A received Ground-Based Speed and Distance message feeds the CAN speed acceptance. (R379) -/
  | groundBasedSpeed (c : CanId) (src : Nat) (v : Q)
  /-- A received DM3 or DM11 is negatively acknowledged. (R509) -/
  | dm3Dm11 (c : CanId) (src : Nat) (pgn : Nat)
  /-- Every 100 ms the voice sends Guidance Machine Info. (R508) -/
  | guidanceMachineInfo (l : LaneId) (c : CanId)
  /-- Every 100 ms the voice of a PRIME node sends Wheel-Based Speed and Distance. (R506) -/
  | wheelBasedSpeed (l : LaneId) (c : CanId)
  /-- Every 1 s the voice sends DM1 with the DTCs and lamps. (R509) -/
  | dm1 (l : LaneId) (c : CanId)
  /-- A controller goes bus-off and raises NET-001. (R496) -/
  | canBusOff (l : LaneId) (c : CanId)
  /-- After 128 occurrences of 11 recessive bits the controller recovers from bus-off. (R496) -/
  | canBusOffRecovery (l : LaneId) (c : CanId)
  /-- A controller becomes error passive and raises NET-002. (R496) -/
  | canErrorPassive (l : LaneId) (c : CanId) (tec : Nat) (rec_ : Nat)
  /-- The highest-ranked eligible lane has heard no frame from the node's address for VOICE.QUIET ticks and becomes the voice. (R503) -/
  | voiceTakeover (l : LaneId)
  /-- An OBJECT READ service message returns the value of an object, named by its ID or its symbolic name. (R511, R7) -/
  | objectRead (h : SvcHdr) (o : ObjRef)
  /-- An OBJECT WRITE service message writes a JOB-block object that has no row of its own. (R511) -/
  | objectWrite (h : SvcHdr) (o : ObjRef) (value : List Byte)
  /-- A write of 1 to JOB.RESTART makes the lane restart, after yielding every punty when in OPERATE. (R554) -/
  | jobRestart (h : SvcHdr) (value : Nat)
  /-- In STOPPED after yielding, the lane restarts at the close of the tick in which its last counter reaches zero. (R554) -/
  | laneRestartAfterYield (l : LaneId)
  /-- A write of JOB[7].BLOCK stages a contiguous part of a firmware package, erasing the slot at offset 0. (R536) -/
  | fwBlockWrite (h : SvcHdr) (offset : Nat) (data : List Byte)
  /-- A read of JOB[9].DATA returns 1,024 recorder bytes at CURSOR and advances CURSOR by 64. (R548) -/
  | recordExportRead (h : SvcHdr)
  /-- JOB COMMAND START starts a job if its session, state, speed and level conditions hold. (R525) -/
  | jobStart (h : SvcHdr) (j : Nat) (axis : Nat)
  /-- JOB COMMAND SUSPEND moves a running job to SUSPENDING. (R526) -/
  | jobSuspend (h : SvcHdr) (j : Nat)
  /-- JOB COMMAND RESUME moves a suspended job to RESUMING when the START conditions hold again. (R526) -/
  | jobResume (h : SvcHdr) (j : Nat)
  /-- JOB COMMAND CANCEL moves a job to CANCELLING. (R526) -/
  | jobCancel (h : SvcHdr) (j : Nat)
  /-- JOB COMMAND STATUS returns the job state and cause. (R526) -/
  | jobStatus (h : SvcHdr) (j : Nat)
  /-- A SEAL CONFIRM carrying the computed seal writes the confirmed seal and returns the lane to GATHER, or is refused with CFG-022. (R77) -/
  | sealConfirm (h : SvcHdr) (w : Word)
  /-- A HEALTH REPORT service message returns the 64-byte health report. (R147) -/
  | healthReport (h : SvcHdr)
  /-- An ACKNOWLEDGE service message acknowledges the masked classes, raises COL-013 and releases the FIRST slot. (R410) -/
  | acknowledge (h : SvcHdr) (lanes : Nat) (classes : Nat)
  /-- An IMAGE WRITE block is written into the inactive area, with an erase at offset 0. (R90) -/
  | imageWrite (h : SvcHdr) (offset : Nat) (last : Bool) (data : List Byte)
  /-- The read-back after the last image block completes, and the area is marked pending or CFG-019 is raised. (R90) -/
  | imageWriteVerify (l : LaneId) (ok : Bool)
  /-- A JOURNAL READ service message returns event records from the journal. (R511) -/
  | journalRead (h : SvcHdr) (first : Nat) (count : Nat)
  /-- A SESSION CHALLENGE is answered by the voice with 16 random bytes, which it shares with the other lanes. (R513) -/
  | sessionChallenge (h : SvcHdr)
  /-- Each lane judges a SESSION RESPONSE and opens a session, or counts a wrong response up to lockout with NET-005. (R514) -/
  | sessionResponse (h : SvcHdr) (resp : List Byte)
  /-- A SESSION CLOSE ends the session. (R514) -/
  | sessionClose (h : SvcHdr)
  /-- A KEY CHANGE unmasks the new session key and writes it to the journal. (R515) -/
  | keyChange (h : SvcHdr) (data : List Byte)
  /-- A session challenge expires 40,000 ticks after it was given. (R513) -/
  | challengeExpiry (l : LaneId)
  /-- A session ends after LANE.SESSION.IDLE ticks without an accepted message. (R514) -/
  | sessionIdleTimeout (l : LaneId)
  /-- The 400,000-tick session lockout ends. (R514) -/
  | lockoutEnd (l : LaneId)
  /-- No response from the target lane reaches the voice within 402 ticks, and the voice answers BUSY. (R512) -/
  | serviceResponseTimeout (l : LaneId)
  /-- A calibration tag write and its read-back complete, or fail and fail the job. (R113) -/
  | tagWriteDone (l : LaneId) (ok : Bool)
  /-- In the tick after every tag write has succeeded, all lanes shift their position origin by C. (R222) -/
  | centreOriginShift (l : LaneId)
  /-- The reported speed has stayed at 0 for 400 ticks, and END_LEARN records the end position. (R530) -/
  | endStopFound (l : LaneId)
  /-- PEDAL.TIME expires, and PEDAL_LEARN checks the recorded spans. (R531) -/
  | pedalLearnEnd (l : LaneId)
  /-- VALVE.SETTLE expires, and VALVE_CHAR records the pressure of the step. (R532) -/
  | valveStepSettled (l : LaneId)
  /-- The 4,000-tick alignment of BRIDGE_TEST ends, and the offset is recorded. (R533) -/
  | bridgeAlignEnd (l : LaneId)
  /-- A new holder has been held for 40,000 ticks, and ROTATE_TEST moves on. (R534) -/
  | rotateTestHoldEnd (l : LaneId)
  /-- The signature check of a staged package completes, and the release is recorded or the job fails with cause 14. (R537)
  `ok` is the sender's expectation alone: the verdict is the signature over the staged bytes (R59), whatever it says. -/
  | stagedSignatureCheck (l : LaneId) (ok : Bool)
  /-- The next lane in order yields, enters STOPPED, writes its checkpoint and restarts into the new slot. (R539) -/
  | fwLaneSwitch (l : LaneId)
  /-- A switched lane is not in OPERATE within JOINMAX; JOB-010 is raised and the lane rolls back. (R539) -/
  | fwJoinTimeout (l : LaneId)
  /-- At the named boundary every lane in OPERATE makes a LANE RESTART into the new slot. (R540) -/
  | standstillSwitch (l : LaneId)
  /-- No standstill switch within 10 min rolls the switched lanes back, with cause 17. (R541) -/
  | fwSwitchTimeout (l : LaneId)
  /-- A lane yields, enters STOPPED, writes its checkpoint and restarts to gather the pending image. (R543) -/
  | regatherSwitch (l : LaneId)
  /-- REGATHER is not DONE within 10 min of START and rolls back with JOB-012. (R545) -/
  | regatherTimeout (l : LaneId)
  /-- The post-trigger span of a recorder window ends, and the window closes. (R547) -/
  | recorderWindowEnd
  /-- The supply disconnect re-closes as l_VSUP falls below its re-closing threshold; the lane runs on from its regulators, or, after an open lasting beyond 40 µs, resets with kind BROWN-OUT. (R569) -/
  | disconnectReclose (l : LaneId)
  /-- l_VG rises back above 10.0 V, and the gate driver stops holding every gate output of the lane off. (R570) -/
  | gateSupplyReturn (l : LaneId)
  /-- A parity or ECC error in the collector's registers is detected; COL-001 is raised and, under COLLECTOR_DIRECT, the lane enters SAFE within 1 µs of detection. (R406) -/
  | collectorRegisterError (l : LaneId) (register : Nat)
  /-- The commons becomes reachable again, and recording resumes with STATUS.REC.STATE showing the commons present. (R548) -/
  | commonsReturn
  /-- A received TP.CM or TP.DT frame opens, continues or closes an ISO 11783-3 transport connection that carries a service message of more than 8 bytes. (R501) -/
  | transportProtocolFrame (c : CanId) (src : Nat) (dst : Nat) (isData : Bool) (data : List Byte)
deriving DecidableEq, Repr

end Sys2Proof
end

