-- ==== Sys2Proof/Decode.lean ====
section
/-! DEFINITION. The table spells no command in bits: every one of its rows has an empty list of fields. -/

namespace Sys2Proof

/-- The command that a word spells by the bits of the table: none, since no row of it gives bits. -/
def decodeTableWord (_nbits _w : Nat) : Option Instr := none

end Sys2Proof
end

