-- ==== Sys2Proof/Machine/PartsCtl.lean ====
section
/-! DEFINITION. The loop engine's, commutation's and PWM stage's state of one axis on one lane (chapters 9 to 13). -/

namespace Sys2Proof.Machine

/-- A mode request with its priority of R272: 1 override, 2 fault reactions, 3 service access and guidance. -/
structure ModeReq where
  /-- Mode code of Table 10.1. -/
  mode : Nat
  /-- Priority. -/
  prio : Nat
  /-- The blend uses STEER.OVERRIDE.RATE (R281). -/
  override : Bool := false
deriving DecidableEq, Repr

/-- Loops of an axis (chapter 9). -/
structure LoopPart where
  /-- Integrators, Q32.16: position. -/
  iPos : Q := 0
  /-- Velocity, speed or pressure. -/
  iMid : Q := 0
  /-- q-current or coil current. -/
  iQ : Q := 0
  /-- d-current. -/
  iD : Q := 0
  /-- Velocity set-point: the position loop's output, °/s. -/
  velSet : Q := 0
  /-- Set-point of the middle loop. -/
  midSet : Q := 0
  /-- Output of the middle loop: whole-axis q-current, coil current demand or torque current. -/
  midOut : Q := 0
  /-- Saturation signs at the last evaluation: position loop. -/
  satPos : Int := 0
  /-- Middle loop. -/
  satMid : Int := 0
  /-- Inner loop. -/
  satIn : Int := 0
  /-- Sign gathered for the middle loop's next SAT_UP (R254). -/
  upMidNext : Int := 0
  /-- Sign gathered for the position loop's next SAT_UP. -/
  upPosNext : Int := 0
  /-- SAT_UP of the middle loop at its last evaluation. -/
  upMid : Int := 0
  /-- SAT_UP of the position loop at its last evaluation. -/
  upPos : Int := 0
  /-- Ticks since the last evaluation of the position loop. -/
  agePos : Nat := 0
  /-- Of the middle loop. -/
  ageMid : Nat := 0
  /-- Of the inner loop. -/
  ageIn : Nat := 0
  /-- Middle loop gains last interpolated. -/
  kp : Q := 0
  /-- KI. -/
  ki : Q := 0
  /-- ILIM of R246. -/
  ilim : Q := 0
  /-- Its source: 0 IPEAK, 1 hold, 2 thermal, 3 regeneration. -/
  ilimSrc : Nat := 0
  /-- Winding temperature above ambient, K with 48 fraction bits (R247). -/
  theta : Int := 0
  /-- Winding temperature T, Q16.16 °C. -/
  temp : Q := 0
  /-- THM-001 was raised. -/
  thm1 : Bool := false
  /-- THM-002 stands: T lies above THERM.TMAX. -/
  thm2 : Bool := false
  /-- THM-003 was raised since gather. -/
  thm3 : Bool := false
  /-- Own set limit (R248). -/
  setLimit : Q := 0
  /-- Ticks since the axis last changed holder, for the ripple (R245). -/
  rippleTick : Nat := 0
  /-- The holder's scheduling variables, codes 1 to 5, as used in this tick (R252). -/
  vars : List Q := []
  /-- Mean coil current of the period (R321). -/
  coilMean : Q := 0
  /-- Latest valley sample of a valve leg. -/
  valley : Q := 0
  /-- Latest peak sample. -/
  peak : Q := 0
  /-- v_q or coil voltage of this tick. -/
  vq : Q := 0
  /-- v_d. -/
  vd : Q := 0
  /-- v_q computed in the tick before, in force in this one. -/
  vq1 : Q := 0
  /-- v_d computed in the tick before. -/
  vd1 : Q := 0
  /-- v_q computed two ticks before, in force in the tick before. -/
  vq2 : Q := 0
  /-- v_d computed two ticks before. -/
  vd2 : Q := 0
  /-- α-β voltages of this tick at the output angle (R294). -/
  vab : Q × Q := (0, 0)
  /-- Those computed in the tick before. -/
  vab1 : Q × Q := (0, 0)
  /-- Those computed two ticks before, in force in the tick before. -/
  vab2 : Q × Q := (0, 0)
deriving DecidableEq, Repr

/-- Supervision and mode hand-over of an axis (chapter 10). -/
structure SupPart where
  /-- Control mode (Table 10.1). -/
  mode : Nat := 3
  /-- Set-point b(n), pu with 32 fraction bits. -/
  b : Int := 0
  /-- Demand d(n) of this tick. -/
  d : Int := 0
  /-- A set-point blend runs. -/
  blend : Bool := false
  /-- Its tick, from 1. -/
  blendTick : Nat := 0
  /-- It uses STEER.OVERRIDE.RATE. -/
  blendOver : Bool := false
  /-- PLS-010 was raised for it. -/
  blendRaised : Bool := false
  /-- Speed feed-forward, pu/s with 32 fraction bits. -/
  vff : Int := 0
  /-- The position integrator is pre-loaded at the next evaluation of the position loop (R275). -/
  preload : Bool := false
  /-- Override engaged. -/
  override : Bool := false
  /-- Mode requests for the next tick (R270, R272). -/
  reqs : List ModeReq := []
  /-- Mode requests taken on this lane while it does not hold the axis, to forward (R202). -/
  forward : List ModeReq := []
  /-- Last request result. -/
  result : Nat := 0
  /-- Measured set currents at this boundary. -/
  id : Q := 0
  /-- q-current. -/
  iq : Q := 0
  /-- At the boundary before. -/
  id1 : Q := 0
  /-- q-current of the boundary before. -/
  iq1 : Q := 0
  /-- Electrical speed used with them, rad/s. -/
  w1 : Q := 0
  /-- Rotor speed of the boundary before, rpm. -/
  rpm1 : Q := 0
  /-- Predicted rotor speed of this boundary, rpm (R263). -/
  rpmPred : Q := 0
  /-- The set carried a non-zero current reference in the tick before. -/
  carried1 : Bool := false
  /-- And in the tick before that. -/
  carried2 : Bool := false
  /-- Whole-axis q-current reference in force during the tick before. -/
  iref1 : Q := 0
  /-- Load estimate L, N·m. -/
  load : Q := 0
  /-- The load estimate of the tick before. -/
  load1 : Q := 0
  /-- Ticks L stayed at its clamp. -/
  clampRun : Nat := 0
  /-- PLS-004 was raised since gather. -/
  pls004 : Bool := false
  /-- Filtered electrical residual. -/
  resE : Q := 0
  /-- Filtered mechanical residual, signed. -/
  resM : Q := 0
  /-- Consecutive evaluations beyond the bound: electrical. -/
  runE : Nat := 0
  /-- Mechanical. -/
  runM : Nat := 0
  /-- The first mirage of the window of R268: 1 electrical, 2 mechanical, with its tick. -/
  first : Option (Nat × Nat) := none
  /-- Both models have reached a mirage in the window of the first. -/
  bothMirages : Bool := false
  /-- The electrical model was suspended in this tick. -/
  suspended : Bool := true
  /-- Bound scale in force. -/
  scale : Q := 65536
  /-- Output blend: o(n−1) (R277). -/
  ob : Option Q := none
  /-- Its tick. -/
  obTick : Nat := 0
  /-- PLS-011 was raised for it. -/
  obRaised : Bool := false
  /-- The old holder's primary output o0 at the previous epoch (R277). -/
  o0 : Q := 0
  /-- The candidate for o0 under the epoch in force. -/
  oLast : Q := 0
  /-- That candidate was published in tick k of R131 or in a yield tick. -/
  oExact : Bool := false
  /-- A mirage of either model stands in this tick (R267). -/
  mirage : Bool := false
  /-- In a blend or out of one, the road-wheel demand was last formed in CURVATURE (R382): κ(n−1) is taken from b at entry. -/
  entered : Bool := false
  /-- The new holder's first driving tick is due: the blend is judged then. -/
  obDue : Bool := false
  /-- Sign of computed − o in the last tick of an output blend (R278). -/
  obSign : Int := 0
  /-- Computed primary output before the blend. -/
  computed : Q := 0
deriving DecidableEq, Repr

/-- Commutation, observer and pump start of an axis (chapter 11). -/
structure CommPart where
  /-- θ(n), 1/65,536 electrical turn. -/
  angle : Nat := 0
  /-- Angle in use (Table 11.8). -/
  use : Nat := 0
  /-- The sensor angle is valid. -/
  sensorOk : Bool := false
  /-- Sensor angle. -/
  sensor : Nat := 0
  /-- Electrical speed ω, rad/s. -/
  w : Q := 0
  /-- Mechanical speed, rpm. -/
  rpm : Q := 0
  /-- Phase currents of this boundary. -/
  iu : Q := 0
  /-- V. -/
  iv : Q := 0
  /-- W. -/
  iw : Q := 0
  /-- α current of the boundary before. -/
  ia1 : Q := 0
  /-- β current of the boundary before. -/
  ib1 : Q := 0
  /-- Consecutive ticks of |sum| above COMM.ISUM.MAX. -/
  sumRun : Nat := 0
  /-- That sum. -/
  sum : Q := 0
  /-- PWR-030 was raised for the present run. -/
  sumRaised : Bool := false
  /-- Observer angle θ̂, 1/65,536 turn with 16 fraction bits. -/
  oTh : Int := 0
  /-- Observer speed ω̂, rad/s. -/
  oW : Q := 0
  /-- ε of the last tick. -/
  eps : Int := 0
  /-- Observer locked. -/
  locked : Bool := false
  /-- Consecutive valid ticks within LOCKERR. -/
  lockRun : Nat := 0
  /-- Consecutive ticks of R298. -/
  disRun : Nat := 0
  /-- FBK-040 was raised and the difference has not returned. -/
  disRaised : Bool := false
  /-- Consecutive ticks of R299. -/
  lossRun : Nat := 0
  /-- The observer is the angle source of a sensored axis under CARRY (R301). -/
  carry : Bool := false
  /-- Borrowing from a lane: its code, and ticks so far (R302). -/
  borrow : Option (Nat × Nat) := none
  /-- Re-catch in progress: ticks since its decision, and whether by active short (R303). -/
  recatch : Option (Nat × Bool) := none
  /-- Re-catches since gather, saturating. -/
  recatches : Nat := 0
  /-- Advance of R295, Q16.16 degrees. -/
  advance : Q := 0
  /-- Whole-axis d-current reference. -/
  idRef : Q := 0
  /-- Set references of this tick: d. -/
  dSet : Q := 0
  /-- q. -/
  qSet : Q := 0
  /-- Pump ON (R306). -/
  pumpOn : Bool := false
  /-- Pump phase: 0 OFF, 1 ALIGN, 2 RAMP, 3 HANDOVER, 4 RUN, 5 coasting after failure. -/
  phase : Nat := 0
  /-- Ticks in the phase. -/
  phaseTick : Nat := 0
  /-- ω_r of RAMP, rpm. -/
  wr : Q := 0
  /-- Open-loop angle, 1/65,536 turn with 16 fraction bits. -/
  olTh : Int := 0
  /-- Speed set-point, rpm. -/
  pumpSet : Q := 0
  /-- Consecutive failed attempts. -/
  fails : Nat := 0
  /-- HALLPASS: Hall state the block commutates on, U V W. -/
  hall : Nat := 0
  /-- HALLPASS limp duty in force. -/
  limp : Bool := false
  /-- How the set stood in the tick before, for the estimator of R296: 0 switched, 1 all switches off, 2 active short. -/
  set1 : Nat := 1
deriving DecidableEq, Repr

/-- The time base of an axis and its shadow registers (chapter 12). -/
structure PwmPart where
  /-- The time base runs. -/
  running : Bool := false
  /-- Dither phase k. -/
  dither : Nat := 0
  /-- Boundaries since the last valley. -/
  pos : Nat := 0
  /-- The first valley has been reached. -/
  started : Bool := false
  /-- Length of the period so far, clocks. -/
  lenNow : Nat := 0
  /-- Length of the last completed period. -/
  length : Nat := 0
  /-- Forced state in force: 0 none, 1 all off, 2 all low sides on. -/
  forced : Nat := 0
  /-- Forced state written to the shadow. -/
  forcedNext : Nat := 0
  /-- Forced state computed in this tick. -/
  forcedCalc : Nat := 0
  /-- Ratios computed in this tick, per leg of the axis, 2^20 = 1; none where none is loaded. -/
  ratios : List Nat := []
  /-- A late write waiting for the reload after the next (R329). -/
  late : Option (List Nat × Nat) := none
  /-- A trip holds every gate of the axis off until identification ends (R355). -/
  tripOff : Bool := false
  /-- Hold of R358: 0 none, 1 LOW, 2 HIGH. -/
  hold : Nat := 0
  /-- Clock of the present tick at which it began; 0 where it stood at the boundary. -/
  holdAt : Nat := 0
  /-- VOV1 short on this lane's set: it ends when V_bus lies below VOV1 − HYST. -/
  vov1 : Bool := false
  /-- The leg that tripped first in this period, with its detector (R359). -/
  trip : Option (Nat × Nat) := none
  /-- Ticks since that trip. -/
  tripTick : Nat := 0
  /-- Its clock within its tick (R404). -/
  tripClk : Nat := 0
  /-- The reload of this tick's boundary was applied. -/
  applied : Bool := false
  /-- HALLPASS: the duty in force for the switched leg, 2^20 = 1 (R313). -/
  hallDuty : Nat := 0
  /-- HALLPASS: the ratio written for it. -/
  hallShadow : Nat := 0
  /-- A job drives the axis in UNSEALED (R317). -/
  job : Bool := false
  /-- Identification of a trip on a TRIAD leg is under way (R356). -/
  identDue : Bool := false
deriving DecidableEq, Repr

/-- A leg of a lane (chapters 12 and 13). -/
structure Leg where
  /-- Duty shadow register: ratio, 2^20 = 1. -/
  shadow : Nat := 0
  /-- Duty in force: ratio, 2^20 = 1, or on-time in 1/16 clock. -/
  duty : Nat := 0
  /-- LATE_WRITE count. -/
  late : Nat := 0
  /-- MISMATCH count. -/
  mismatch : Nat := 0
  /-- SHOOT count. -/
  shoot : Nat := 0
  /-- Both outputs are off until the next valley: 1 by R333, 2 by R340. -/
  interlock : Nat := 0
  /-- Latest event-line conversion, A. -/
  evSample : Q := 0
  /-- S_R. -/
  stepR : Nat := 0
  /-- S_F. -/
  stepF : Nat := 0
  /-- Last rising switching time, ns. -/
  tswR : Nat := 0xFFFF
  /-- Last falling switching time. -/
  tswF : Nat := 0xFFFF
  /-- Consecutive measured periods that call for a step beyond a bound: rising; positive beyond STEPMAX, negative beyond STEPMIN. -/
  boundR : Int := 0
  /-- Falling. -/
  boundF : Int := 0
  /-- PWR-050 raised since gather: rising. -/
  raisedR : Bool := false
  /-- Falling. -/
  raisedF : Bool := false
  /-- The leg runs on its isolated input. -/
  iso : Bool := false
  /-- Undervoltage stands. -/
  uv : Bool := false
  /-- High-side supply at the last valley, mV. -/
  vhs : Nat := 0
  /-- Refresh count (R348). -/
  refresh : Nat := 0
  /-- A refresh period is in progress. -/
  refreshing : Bool := false
  /-- Last trip: 0 none, 1 soft, 2 hard, 3 desaturation, 4 phase-to-phase. -/
  trip : Nat := 0
  /-- Identification: 0 none made, 1 NONE, 2 HIGH failed, 3 LOW failed. -/
  ident : Nat := 0
  /-- Current of the trip, 0.1 A, or the side of a desaturation trip. -/
  tripVal : Nat := 0
  /-- Both outputs of the leg are commanded off, while its time base stands or by a HALLPASS pattern. -/
  off : Bool := true
  /-- Low-side on-time in the period so far, clocks, dead time included (R348). -/
  low : Nat := 0
  /-- How long the high-side output had been commanded on at the boundary, clocks; 0 where it was off (R328). -/
  hiFor : Nat := 0
  /-- The same of the low-side output. -/
  loFor : Nat := 0
  /-- What was left at the boundary of an ABSOLUTE pulse, 1/16 clock (R325). -/
  pulse : Nat := 0
  /-- A peak arrived while the pulse before it was still on, and its MISMATCH is not yet counted (R325). -/
  clip : Bool := false
  /-- Clocks from the last commanded edge of either output to the boundary, saturating (R351). -/
  edgeAge : Nat := 65535
  /-- The level of the high-side output that a debug halt holds (R335). -/
  haltHs : Bool := false
  /-- The same of the low-side output. -/
  haltLs : Bool := false
deriving DecidableEq, Repr

/-- An event line (R332). -/
structure EvLine where
  /-- Occurrences of its source since its last firing. -/
  occ : Nat := 0
  /-- Occurrences of the present tick that have been taken. -/
  now : Nat := 0
  /-- Firings delivered to the loop engine, wrapping. -/
  count : Nat := 0
  /-- Firings delivered to the cores, not yet served. -/
  irq : Bool := false
  /-- Latched repeated counts of PASS0 and PASS1. -/
  cap0 : Int := 0
  /-- PASS1. -/
  cap1 : Int := 0
deriving DecidableEq, Repr

/-- The bus of a lane, the chopper and the lane's PWM notes (chapters 12 and 13). -/
structure BusPart where
  /-- V_bus at this boundary, Q16.16 V. -/
  v : Q := 0
  /-- V_bus at the boundary before. -/
  v1 : Q := 0
  /-- Chopper active. -/
  chopOn : Bool := false
  /-- Latest chopper current conversion. -/
  ichop : Q := 0
  /-- Part of the chopper's on-interval in the tick before lasted at least 80 clocks, so its shunt was converted (R362). -/
  chopConv : Bool := false
  /-- Chopper check count. -/
  chopCount : Nat := 0
  /-- V_bus when the count reached 4. -/
  chopV : Q := 0
  /-- PWR-017 was raised for the present count. -/
  chopRaised : Bool := false
  /-- Regeneration limit in force in this tick. -/
  regen : Bool := false
  /-- VOV2 tripped: every gate off. -/
  vov2 : Bool := false
  /-- PWR-018 was raised for the present episode. -/
  vov1Raised : Bool := false
  /-- The gate driver holds every gate off because l_VG is low (R570). -/
  gateLow : Bool := false
  /-- Tick of the last PWR-041, where one was raised since gather (R331). -/
  lateAt : Option Nat := none
  /-- Tick of the last PWR-042. -/
  clipAt : Option Nat := none
  /-- LATE_WRITE counts since the last PWR-041. -/
  lateNew : Nat := 0
  /-- MISMATCH counts since the last PWR-042. -/
  clipNew : Nat := 0
  /-- Loop phase counter (R233). -/
  phase : Nat := 0
  /-- Engine time of this tick, clocks. -/
  engine : Nat := 0
  /-- Highest since gather. -/
  engineMax : Nat := 0
  /-- Ticks since θ was last written to the journal (R247). -/
  thetaTick : Nat := 0
deriving DecidableEq, Repr

/-- A sensor element of this lane and the instance it belongs to (chapter 14). -/
structure Sensor where
  /-- The element has failed: until the next gather (R373). -/
  failed : Bool := false
  /-- Its value in this tick. -/
  value : Q := 0
  /-- Its value in the tick before, with validity. -/
  prev : Option Q := none
  /-- Consecutive ticks beyond BAND from the median. -/
  run : Nat := 0
  /-- Consecutive ticks of two values beyond BAND. -/
  pairRun : Nat := 0
  /-- Last difference. -/
  diff : Q := 0
  /-- Pair disagreement in force. -/
  pair : Bool := false
  /-- Consecutive ticks it has been in force, for Table 15.6 cause 3. -/
  pairTicks : Nat := 0
  /-- Value in use; none where the instance is lost on this lane. -/
  use : Option Q := none
  /-- OPR-022 was raised for the present loss. -/
  lost : Bool := false
deriving DecidableEq, Repr

/-- Steering and braking functions of a lane (chapter 14). -/
structure ChassisPart where
  /-- STEER[1], BRAKE[1] to BRAKE[7]. -/
  sensors : Tab 8 Sensor := Tab.fill 8 {}
  /-- Lane speed v, km/h; none when not measured. -/
  speed : Option Q := none
  /-- Vehicle standstill. -/
  still : Bool := false
  /-- Last ground-based speed message: its speed and tick. -/
  can : Option (Q × Nat) := none
  /-- Consecutive ticks it agreed. -/
  canRun : Nat := 0
  /-- It is accepted. -/
  canOk : Bool := false
  /-- Last guidance curvature command κ_in, 1/m with 32 fraction bits, and its tick. -/
  guide : Option (Int × Nat) := none
  /-- OPR-023 was raised for the last command. -/
  guideOut : Bool := false
  /-- κ(n) per axis with 32 fraction bits. -/
  kappa : Tab 12 Int := Tab.fill 12 0
  /-- The envelope clipped an axis in the tick before. -/
  clipped : Tab 12 Bool := Tab.fill 12 false
  /-- Hand-wheel values of the last 8 ticks, newest first. -/
  hist : List Q := []
  /-- Override count (R280). -/
  override : Nat := 0
  /-- The override of the present count took effect. -/
  overFired : Bool := false
  /-- The lead's road-wheel angle received from the PRIME node, pu with 16 fraction bits (R384). -/
  leadFab : Option Int := none
  /-- What the count saw last: 1 torque, 2 angle, 3 both. -/
  overrideBy : Nat := 0
  /-- p_L and p_R after R386. -/
  pL : Q := 0
  /-- p_R. -/
  pR : Q := 0
  /-- Valve pressure demands left, right, trailer. -/
  dL : Q := 0
  /-- Right. -/
  dR : Q := 0
  /-- Trailer. -/
  dT : Q := 0
  /-- Deceleration D of R387, m/s². -/
  decel : Q := 0
  /-- Slip cap of the left side. -/
  capL : Option Q := none
  /-- Of the right side. -/
  capR : Option Q := none
  /-- Park release in force. -/
  park : Bool := false
  /-- OPR-025 was raised for the present episode. -/
  opr025 : Bool := false
  /-- PARK.DECEL acts. -/
  parkDecel : Bool := false
  /-- Consecutive ticks of low accumulator pressure. -/
  accRun : Nat := 0
  /-- Accumulator low: status bit. -/
  accLow : Bool := false
  /-- PLS-051 was raised for the present episode. -/
  accRaised : Bool := false
  /-- Accumulator pressure last seen. -/
  acc : Q := 0
  /-- Per axis: consecutive ticks of pressure deviation (R388). -/
  prsRun : Tab 12 Nat := Tab.fill 12 0
  /-- Per axis: last deviation. -/
  prsDev : Tab 12 Q := Tab.fill 12 0
  /-- Per axis: consecutive ticks beyond XCHK.BAND (R385). -/
  xchkRun : Tab 12 Nat := Tab.fill 12 0
  /-- Per axis: last difference, pu with 16 fraction bits. -/
  xchkDiff : Tab 12 Int := Tab.fill 12 0
  /-- Per axis: multi-turn position m, 1/65,536 turn; last angle. -/
  turns : Tab 12 Int := Tab.fill 12 0
  /-- Per axis: last channel angle of the cross-check, 1/65,536 turn. -/
  xAngle : Tab 12 (Option Int) := Tab.fill 12 none
  /-- Per axis: offset o, pu with 16 fraction bits, once set. -/
  xOff : Tab 12 (Option Int) := Tab.fill 12 none
  /-- The steering and brakes hold from tick P on (R80): brake pressures held, left and right and trailer. -/
  holdP : Option (Q × Q × Q) := none
deriving DecidableEq, Repr

/-- The supply of a lane (chapter 22, Table 22.14). -/
structure SupplyPart where
  /-- l_VSUP at the boundary, Q16.16 V. -/
  vsup : Q := 0
  /-- l_VG at the boundary, Q16.16 V. -/
  vg : Q := 0
  /-- Junction temperature, 0.1 °C. -/
  tj : Int := 0
  /-- The disconnect is open (R569). -/
  isOpen : Bool := false
  /-- The lane runs from its hold-up store. -/
  holdup : Bool := false
  /-- l_VSNS0 is in current limit. -/
  lim0 : Bool := false
  /-- l_VSNS1 is in current limit. -/
  lim1 : Bool := false
  /-- l_VG lies below 10.5 V at the boundary. -/
  vgLow : Bool := false
  /-- THM-010 was raised and the temperature has not fallen below 140 °C (R578). -/
  hot : Bool := false
  /-- The temperature lies above 160 °C. -/
  tooHot : Bool := false
  /-- The ADC reference lies beyond ±0.5 %: SUP-020 was raised (Table 22.9). -/
  refBad : Bool := false
deriving DecidableEq, Repr

end Sys2Proof.Machine
end

