-- ==== Sys2Proof/Machine/LaneState.lean ====
section
/-! DEFINITION. The state of one lane, as the parts of the chapters put it together. -/

namespace Sys2Proof.Machine

/-- A motor axis entry of the detailed state (Table 1.10). -/
structure MotorEntry where
  /-- θ of R300. -/
  angle : Nat := 0
  /-- Rotor speed, rpm. -/
  rpm : Int := 0
  /-- Own set limit, 0.01 A. -/
  limit : Nat := 0
  /-- Angle flag of R300. -/
  flag : Bool := false
deriving DecidableEq, Repr

/-- The detailed state of a lane, describing its tick n−1 (R18, Table 1.10). -/
structure Detail where
  /-- Loop phase counter. -/
  phase : Nat := 0
  /-- Voice flag. -/
  voice : Bool := false
  /-- Override count, saturating at 255. -/
  override : Nat := 0
  /-- Lane protocol level. -/
  level : Nat := 0
  /-- Address in use on CAN0; 254 none. -/
  addr0 : Nat := 254
  /-- Address in use on CAN1. -/
  addr1 : Nat := 254
  /-- Coordinator candidate set, bit i = node i. -/
  cand : Nat := 0
  /-- Nodes counted as REFUSE, class 1. -/
  refuse1 : Nat := 0
  /-- Class 2. -/
  refuse2 : Nat := 0
  /-- Elements: STEER[1], BRAKE[1] to BRAKE[7]; none where invalid. -/
  elems : Tab 8 (Option Q) := Tab.fill 8 none
  /-- Subscription elements; none where invalid. -/
  subs : Tab 16 (Option Int) := Tab.fill 16 none
  /-- Motor axis entries, by axis. -/
  motors : Tab 12 (Option MotorEntry) := Tab.fill 12 none
deriving DecidableEq, Repr

/-- What a lane carries for the cross-comparison of quadrature channels (R176): the measured position of each axis whose position channel is one, and by how much its UNCERT widens the band; for each sensor instance the widening alone. -/
structure QuadShare where
  /-- Position and widening, pu with 16 fraction bits. -/
  axes : Tab 12 (Option (Int × Int)) := Tab.fill 12 none
  /-- Widening per sensor instance, Q16.16 of its unit. -/
  sensors : Tab 8 Int := Tab.fill 8 0
deriving DecidableEq, Repr

/-- What another lane carries of its engine, profiles and jobs, as last received (R18, R138, R204). -/
structure PeerX where
  /-- Shadow values received in the present tick. -/
  shadow : Option (Tab 12 Shadow) := none
  /-- Shadow values received in the tick before. -/
  shadowPrev : Option (Tab 12 Shadow) := none
  /-- Profile content last carried by the sender as holder. -/
  prof : Tab 12 (Option ProfShare) := Tab.fill 12 none
  /-- Detailed state received in the present tick (Table 1.10). -/
  detail : Option Detail := none
  /-- Detailed state received in the tick before. -/
  detailPrev : Option Detail := none
  /-- The sender's fault summary shows a PWR-017 not recovered (R363). -/
  chopFault : Bool := false
  /-- The sender's fault summary (R509). -/
  faults : List FaultSum := []
  /-- Its jobs (R524). -/
  jobs : JobShare := {}
  /-- The switch states it last published (R217). -/
  switches : Option (Tab 12 (Bool × Bool)) := none
  /-- What it carries for R176 in the present tick. -/
  quads : Option QuadShare := none
deriving DecidableEq, Repr

/-- A lane of the node. -/
structure Lane where
  /-- Which lane it is. -/
  id : LaneId
  /-- Position in the present tick, in clocks, by which events are ordered (R404). -/
  now : Nat := 0
  /-- Clock count of the lane at its last boundary (R169). -/
  clk : Nat := 0
  /-- The model's own: what the environment gave at the boundary, while step 2 of the tick is still to be done (Table 1.4). -/
  due : Option TickIn := none
  /-- Tick timer and device time (chapter 2). -/
  tick : TickPart := {}
  /-- Lane state and start-up (chapter 3). -/
  start : StartPart := {}
  /-- What the last gather gave (chapter 4). -/
  gat : GatherPart := {}
  /-- Lease unit and marver (chapter 5). -/
  lease : LeasePart := {}
  /-- The other lanes over the links; the own entry is unused. -/
  peer : PerLane Peer := PerLane.fill {}
  /-- What the loop engine gave for each axis in this tick. -/
  out : Tab 12 AxisOut := Tab.fill 12 {}
  /-- Feedback channels (chapter 7). -/
  fbk : Tab 16 Chan := Tab.fill 16 {}
  /-- Profile generators (chapter 8). -/
  prof : Tab 12 Profile := Tab.fill 12 {}
  /-- Negative-end switches. -/
  swNeg : Tab 12 Switch := Tab.fill 12 {}
  /-- Positive-end switches. -/
  swPos : Tab 12 Switch := Tab.fill 12 {}
  /-- The step input. -/
  stepIn : StepIn := {}
  /-- Loops (chapter 9). -/
  loop : Tab 12 LoopPart := Tab.fill 12 {}
  /-- Supervision and modes (chapter 10). -/
  sup : Tab 12 SupPart := Tab.fill 12 {}
  /-- Commutation (chapter 11). -/
  comm : Tab 12 CommPart := Tab.fill 12 {}
  /-- Time bases (chapter 12). -/
  pwm : Tab 12 PwmPart := Tab.fill 12 {}
  /-- Legs (chapters 12 and 13). -/
  leg : Tab 16 Leg := Tab.fill 16 {}
  /-- Event lines. -/
  evLine : Tab 8 EvLine := Tab.fill 8 {}
  /-- Bus, chopper, loop phase. -/
  bus : BusPart := {}
  /-- Steering and braking functions (chapter 14). -/
  chas : ChassisPart := {}
  /-- The detailed state sent in this tick, with the shadow values: they describe the tick before. -/
  detailOut : Detail := {}
  /-- Shadow values sent in this tick. -/
  shadowOut : Tab 12 Shadow := Tab.fill 12 {}
  /-- What the other lanes carry beside markers and outputs. -/
  px : PerLane PeerX := PerLane.fill {}
  /-- Supply, junction temperature (chapter 22). -/
  sup22 : SupplyPart := {}
  /-- Fabric block (chapter 17). -/
  fab : FabPart := {}
  /-- Signals and the caravan commit (chapter 18). -/
  car : CarPart := {}
  /-- CAN, voice, services, sessions (chapter 19). -/
  can : CanPart := {}
  /-- Jobs (chapter 20). -/
  job : JobPart := {}
  /-- Fault collector (chapter 15). -/
  col : ColPart := {}
  /-- Non-volatile content. -/
  nvm : Nvm := {}
deriving DecidableEq, Repr

end Sys2Proof.Machine
end

