-- ==== Sys2Proof/Machine/Axes.lean ====
section
/-! DEFINITION. Axes and legs: kinds, the legs that serve an axis on a lane, the axis a leg serves, the channels an axis owns (R151 to R157, R172). -/

namespace Sys2Proof.Machine

/-- The configuration a lane gathered. -/
def Lane.cfg (l : Lane) : Cfg := l.gat.cfg

/-- The kind of an axis (Table 6.2). -/
def Cfg.kind (c : Cfg) (n : Nat) : AxisKind :=
  match c.axisKind n with | 1 => .steer | 2 => .feel | 3 => .pump | 4 => .valve | 5 => .chopper | _ => .none

/-- A motor axis: STEER, FEEL or PUMP (R16). -/
def Cfg.motor (c : Cfg) (n : Nat) : Bool := (c.kind n).motor

/-- The entry of AXIS[n].LEGS for a lane; none for 0xFF. -/
def Cfg.startLeg (c : Cfg) (lane : LaneId) (n : Nat) : Option Nat :=
  let v := ((c.axisLegs n).getD lane.code 255).toNat
  if v < 16 then some v else none

/-- The legs that serve an axis on a lane (Table 6.2): a triad, a PAIR of legs, or one leg. -/
def Cfg.legsOf (c : Cfg) (lane : LaneId) (n : Nat) : List Nat :=
  match c.startLeg lane n with
  | none => []
  | some x =>
    match c.kind n with
    | .none => []
    | .steer | .feel | .pump => [x, x + 1, x + 2].filter (· < 16)
    | .valve => if c.legFunction x = 2 then [x, x + 1].filter (· < 16) else [x]
    | .chopper => [15]

/-- The axis a leg serves on a lane (R152). -/
def Cfg.axisOfLeg (c : Cfg) (lane : LaneId) (leg : Nat) : Option AxisId :=
  allAxes.find? fun n => (c.legsOf lane n.val).contains leg

/-- An axis exists in the image. -/
def Cfg.hasAxis (c : Cfg) (n : Nat) : Bool := c.kind n != .none

/-- The axes of the image in ascending order. -/
def Cfg.axes (c : Cfg) : List AxisId := allAxes.filter fun n => c.hasAxis n.val

/-- The axis owns the channel on this lane (R172). -/
def Cfg.owns (c : Cfg) (n ch : Nat) : Bool :=
  c.hasAxis n &&
    ((c.axisLoopPosCh n == ch && (c.rec? (0x15000010 + 0x10000 * n)).isSome) ||
     (c.axisLoopVelCh n == ch && (c.rec? (0x15000014 + 0x10000 * n)).isSome) ||
     c.axisLoopPrsCh n == ch || c.axisLoopXchkCh n == ch || c.axisCommAngleCh n == ch || c.axisCommInitCh n == ch ||
     c.axisCommPumpCh n == ch)

/-- The axes that own a channel (R172). -/
def Cfg.owners (c : Cfg) (ch : Nat) : List Nat := (allAxes.filter fun n => c.owns n.val ch).map (·.val)

/-- The CH entry of a sensor instance for a lane; index 0 is STEER[1], 1 to 7 are BRAKE[1] to BRAKE[7]. -/
def Cfg.sensorCh (c : Cfg) (lane : LaneId) (i : Nat) : Option Nat :=
  let v := ((if i = 0 then c.sensorSteerCh else c.sensorBrakeCh i).getD lane.code 255).toNat
  if v < 16 then some v else none

/-- Some sensor instance names the channel on this lane. -/
def Cfg.sensorOwns (c : Cfg) (lane : LaneId) (ch : Nat) : Bool := (List.range 8).any fun i => c.sensorCh lane i == some ch

/-- The lanes of the image's lane mask. -/
def Cfg.maskHas (c : Cfg) (lane : LaneId) : Bool := c.laneImageLanemask.testBit lane.code

/-- END_LEARN moves the axis (R530): neither at rest in a suspension nor ended. -/
def Lane.endLearn (l : Lane) (n : AxisId) : Bool := l.job.run == some 2 && l.job.axis == n.val

/-- A lane's lease state of an axis. -/
def Lane.ax (l : Lane) (n : AxisId) : AxisLease := l.lease.ax.get n

/-- One axis's lease state changed. -/
def Lane.modAx (l : Lane) (n : AxisId) (f : AxisLease → AxisLease) : Lane :=
  { l with lease := { l.lease with ax := l.lease.ax.modify n f } }

/-- Every axis's lease state changed. -/
def Lane.mapAx (l : Lane) (f : AxisId → AxisLease → AxisLease) : Lane :=
  { l with lease := { l.lease with ax := l.lease.ax.mapFin f } }

/-- A lane is ABSENT for an axis: by hardware or identity, or by a fault (R153, R401). -/
def AxisLease.absent (a : AxisLease) : Bool := a.absentHw || a.absentFault

/-- Another lane as this lane sees it. -/
def Lane.peerOf (l : Lane) (x : LaneId) : Peer := l.peer.get x

/-- Another lane's view changed. -/
def Lane.modPeer (l : Lane) (x : LaneId) (f : Peer → Peer) : Lane := { l with peer := l.peer.set x (f (l.peer.get x)) }

/-- This lane counts another lane as in OPERATE (R419). -/
def Lane.counts (l : Lane) (x : LaneId) : Bool :=
  let p := l.peerOf x
  (match p.lastMarker with | some m => m.state == .operate | none => false) && !p.down

/-- The lanes this lane counts as in OPERATE besides itself (R419). -/
def Lane.counted (l : Lane) : List LaneId := l.id.others.filter l.counts

/-- The node service level this lane sees (R24, R419): the number of lanes in OPERATE. -/
def Lane.service (l : Lane) : Nat := (if l.start.state = .operate then 1 else 0) + l.counted.length

/-- Another lane's last received published entry of an axis. -/
def Lane.peerEntry (l : Lane) (x : LaneId) (n : AxisId) : Option PubEntry := (l.peerOf x).pubLast.map (·.entries.get n)

/-- The axis service level this lane sees (R24): lanes in OPERATE whose role for the axis is not ABSENT. -/
def Lane.axisLevel (l : Lane) (n : AxisId) : Nat :=
  (if l.start.state = .operate ∧ !(l.ax n).absent then 1 else 0) +
  (l.counted.filter fun x => match l.peerEntry x n with | some e => e.valid | none => false).length

/-- The engine serves an axis on this lane: in OPERATE or UNSEALED, not ABSENT (R232). -/
def Lane.serves (l : Lane) (n : AxisId) : Bool :=
  l.cfg.hasAxis n.val && !(l.ax n).absent && (l.start.state == .operate || l.start.state == .unsealed)

end Sys2Proof.Machine
end

