-- ==== Sys2Proof/Machine/Faults.lean ====
section
/-! DEFINITION. The fault collector: raising, order, escalation, records, reactions, acknowledgement and anneal (chapter 15). -/

namespace Sys2Proof.Machine

/-- The length of this tick in clocks. -/
def Lane.tickLen (l : Lane) : Nat := (10000 + l.tick.corr + l.tick.step).toNat

/-- An event added to the tick's list, with the lane's position in the tick as its time of detection (R404). -/
def Lane.push (l : Lane) (r : Raise) : Lane := { l with col := { l.col with raised := l.col.raised ++ [{ r with clk := l.now }] } }

/-- The context value of an event: the subject's index in [31:24] and a value in [23:0] (R398). -/
def ctxOf (s : Subject) (v : Int) : Word := BitVec.ofNat 32 (s.index * 0x1000000 + toField 24 v)

/-- An event raised with a subject and a value (R398). -/
def Lane.raise (l : Lane) (ev : Ev) (s : Subject) (v : Int) : Lane := l.push { ev := ev, subj := s, ctx := ctxOf s v }

/-- An event without a subject whose context value is a full word (Tables 2.4, 4.11 and 18.9). -/
def Lane.raiseWord (l : Lane) (ev : Ev) (v : Int) : Lane := l.push { ev := ev, ctx := BitVec.ofNat 32 (toField 32 v) }

/-- An event raised at a level its rule gives, tied to axes its rule names (R172, R401). -/
def Lane.raiseFor (l : Lane) (ev : Ev) (s : Subject) (v : Int) (lv : Level) (axes : List Nat) : Lane :=
  l.push { ev := ev, subj := s, ctx := ctxOf s v, level := some lv, axes := axes }

/-- The collector's order of two events of one tick (R404): by clock, then class code, then instance. -/
def Raise.notAfter (x y : Raise) : Bool :=
  let cx := x.ev.cls.code.val
  let cy := y.ev.cls.code.val
  x.clk < y.clk || (x.clk == y.clk && (cx < cy || (cx == cy && x.subj.inst ≤ y.subj.inst)))

/-- An event put into an ordered list, behind those it does not precede. -/
def insertRaise (x : Raise) : List Raise → List Raise
  | [] => [x]
  | y :: ys => if y.notAfter x then y :: insertRaise x ys else x :: y :: ys

/-- The events of one tick in the collector's order (R404). -/
def ordered (rs : List Raise) : List Raise := rs.foldl (fun acc r => insertRaise r acc) []

/-- An event is one of those that neither escalate nor cause escalation (R405). -/
def evNeutral : Ev → Bool
  | .lnk001 | .col010 | .col011 | .col012 | .col013 => true
  | _ => false

/-- The lane holds an unacknowledged fault of a class, raised earlier (R405). -/
def Lane.holdsUnacked (l : Lane) (c : FaultClass) : Bool :=
  l.col.held.any fun h => h.r.ev.cls == c && h.r.level != .l0 && !h.acked && !evNeutral h.r.ev

/-- The level an event is raised at by its own rule, before escalation (R406 for COL-001). -/
def Lane.ownLevel (l : Lane) (r : Raise) : Level :=
  if r.ev = .col001 then (if l.cfg.faultCollectorDirect then .l3 else .l2) else r.level.getD r.ev.level

/-- The level an event is raised at, after escalation (R405, R406). -/
def Lane.raisedLevel (l : Lane) (r : Raise) : Level :=
  let lv := l.ownLevel r
  if lv = .l0 ∨ evNeutral r.ev ∨ !l.cfg.faultEscalate ∨ (r.ev = .col001 ∧ l.cfg.faultCollectorDirect) then lv
  else if l.holdsUnacked r.ev.cls then lv.up else lv

/-- The axes an L2 event applies to (R401): that of its instance, of its leg, those its rule names, or every axis. -/
def Lane.axesOf (l : Lane) (r : Raise) : List Nat :=
  match r.subj with
  | .axis n => [n]
  | .leg n => match l.cfg.axisOfLeg l.id n with | some a => [a.val] | none => List.range 12
  | _ => if r.axes.isEmpty then List.range 12 else r.axes

/-- The lease epoch an event record carries (Table 15.3). -/
def Lane.epochOf (l : Lane) (s : Subject) : Half :=
  match s with
  | .axis n => if h : n < 12 then (l.ax ⟨n, h⟩).epoch else 0
  | .leg n => match l.cfg.axisOfLeg l.id n with | some a => (l.ax a).epoch | none => 0
  | _ => 0

/-- The lane leaves an axis under an L2 event (R401): one whose counter runs yields or lets it run out, any other is ABSENT at once. -/
def AxisLease.leave (a : AxisLease) : AxisLease :=
  if a.counter ≠ 0 ∧ a.role ≠ .absent then { a with leaving := true, returning := false }
  else { a with absentFault := true, returning := false, role := .absent, leaving := false, claim := none }

/-- States in which an L3 or L4 fault puts the lane into SAFE (Table 3.2). -/
def safeable : LState → Bool
  | .gather | .align | .armed | .operate | .stopped | .unsealed => true
  | _ => false

/-- A lane changes state; the ticks in the state start again. -/
def Lane.goto (l : Lane) (s : LState) : Lane := { l with start := { l.start with state := s, inState := 0 } }

/-- Every lease counter cleared at once (R119). -/
def Lane.clearCounters (l : Lane) : Lane :=
  l.mapAx fun _ a => { a with counter := 0, forceZero := false, followLoaded := false, claim := none, yieldTo := none,
                              role := .absent }

/-- SAFE is entered (R402, R119, R409): counters clear, ALIVE freezes, l_DRVINH goes off. -/
def Lane.toSafe (l : Lane) (lv : Level) : Lane :=
  let l := (l.goto .safe).clearCounters
  { l with
    col := { l.col with frozen := true, nodeStop := l.col.nodeStop || lv == Level.l4 }
    gat := { l.gat with idPower := false }
    start := { l.start with drvinh := false, ready := false } }

/-- Entry into SAFE by an L3 or L4 fault, in the states of Table 3.2. An L4 fault of a lane that has just entered SAFE sets the node-stop flag all the same (R403). -/
def Lane.enterSafe (l : Lane) (lv : Level) : Lane :=
  if safeable l.start.state then l.toSafe lv
  else if l.start.state = .safe then { l with col := { l.col with nodeStop := l.col.nodeStop || lv == Level.l4 } }
  else l

/-- A record entered in the history queue and queued for the journal (R417, R418). -/
def ColPart.enter (c : ColPart) (r : Rec) : ColPart :=
  if r.first then { c with slot0 := some r, toJournal := c.toJournal ++ [r] }
  else
    { c with
      ring := if c.ring.length < 31 then c.ring ++ [r] else c.ring.set c.ringPos r
      ringPos := (c.ringPos + 1) % 31
      toJournal := c.toJournal ++ [r] }

/-- A fault latches as it is raised (R414): its class does not anneal, it is PWR-014, COL-011, or at L4. -/
def Lane.latches (l : Lane) (ev : Ev) (lv : Level) : Bool :=
  lv != .l0 && (!l.cfg.faultClassAnneal ev.cls.code.val || ev == .pwr014 || ev == .col011 || lv == .l4)

/-- A fault stop of a moving axis begins in the next tick on the lane that holds it (R209, R210). -/
def Lane.faultStop (l : Lane) (n : AxisId) : Lane :=
  if (l.ax n).role = .holder ∨ l.start.state = .unsealed then
    { l with prof := l.prof.modify n fun p =>
        if p.phase ≠ .rest ∧ p.phase ≠ .passive ∧ p.stopNext = 0 then { p with stopNext := 3 } else p }
  else l

/-- The lane leaves the axes an L2 event applies to; a move of one it holds is stopped (R401, R210). -/
def Lane.leaveAxes (l : Lane) (axes : List Nat) : Lane :=
  axes.foldl (fun (l : Lane) n => if hn : n < 12 then (l.faultStop ⟨n, hn⟩).modAx ⟨n, hn⟩ AxisLease.leave else l) l

/-- One event recorded, with the reaction of its level (R397 to R403). -/
def Lane.recordOne (l : Lane) (r : Raise) : Lane :=
  let lv := l.raisedLevel r
  let first := l.col.slot0.isNone && r.ev != .col013
  let rc : Rec :=
    { count := l.tick.count % 2 ^ 32, ev := r.ev, level := lv, lane := if r.commons then 3 else l.id.code
      first := first, recovered := false, inst := r.subj.inst, ctx := r.ctx, epoch := l.epochOf r.subj }
  let axes := if lv = .l2 then l.axesOf r else []
  let h : Held := { r := rc, subj := r.subj, axes := axes, latched := l.latches r.ev lv }
  let col := l.col.enter rc
  let l := { l with col := { col with held := col.held ++ [h], news := col.news ++ [h] } }
  match lv with
  | .l2 => l.leaveAxes axes
  | .l3 | .l4 => if r.ev = .mem002 then l else l.enterSafe lv
  | _ => l

/-- The collector takes the events of the tick in order (R404). -/
def Lane.collect (l : Lane) : Lane :=
  let rs := ordered l.col.raised
  rs.foldl Lane.recordOne { l with col := { l.col with raised := [], news := [] } }

/-- The first records of the queue written to the journal ring of 4,096 (R418). -/
def Lane.writeRecords (l : Lane) (k : Nat) : Lane :=
  let now := l.col.toJournal.take k
  { l with
    col := { l.col with toJournal := l.col.toJournal.drop k }
    nvm := { l.nvm with
      events := let e := l.nvm.events ++ now; e.drop (e.length - 4096)
      eventNext := (l.nvm.eventNext + now.length) % 4096 } }

/-- Up to eight records written in a tick (R418). -/
def Lane.writeJournal (l : Lane) : Lane := l.writeRecords 8

/-- The lane holds an unacknowledged L3 or L4 event (Table 15.5, item 6). -/
def Lane.unackedHigh (l : Lane) : Bool :=
  l.col.held.any fun h => !h.acked && (h.r.level == .l3 || h.r.level == .l4)

/-- The worst unacknowledged level, coded as health word [27:25] (Table 5.6). -/
def Lane.worstUnacked (l : Lane) : Nat :=
  l.col.held.foldl (fun w h => if h.acked then w else max w (h.r.level.code + 1)) 0

/-- The classes that hold an unacknowledged event (Table 15.11). -/
def Lane.unackMask (l : Lane) : Nat :=
  FaultClass.all.foldl (fun m c => if l.col.held.any (fun h => h.r.ev.cls == c && !h.acked) then m + 2 ^ c.code.val else m) 0

/-- The classes that hold a latched fault (Table 15.11). -/
def Lane.latchedMask (l : Lane) : Nat :=
  FaultClass.all.foldl (fun m c => if l.col.held.any (fun h => h.r.ev.cls == c && h.latched) then m + 2 ^ c.code.val else m) 0

/-- An event the collector no longer needs: acknowledged, and either a note or recovered. -/
def Held.done (h : Held) : Bool := h.acked && (h.r.level == .l0 || h.recovered)

/-- Acknowledgement of the masked classes (R410): events raised before this tick; COL-013; slot 0 released. -/
def Lane.acknowledge (l : Lane) (mask : Nat) : Lane :=
  let held := l.col.held.map fun h =>
    if mask.testBit h.r.ev.cls.code.val && h.r.count != l.tick.count % 2 ^ 32 then { h with acked := true } else h
  let l := { l with col := { l.col with held := held.filter (fun h => !h.done), slot0 := none } }
  l.raise .col013 .none mask

/-- The recovery counts in the journal (R413). -/
def Lane.recoveries (l : Lane) : Recoveries := l.nvm.recoveries.read {}

/-- The faults of a class that have not recovered (R412). -/
def Lane.unrecovered (l : Lane) (c : FaultClass) : List Held :=
  l.col.held.filter fun h => h.r.ev.cls == c && h.r.level != .l0 && !h.recovered

/-- A class is recoverable: its ANNEAL is 1 and it has a fault that is neither recovered nor latched (R411). -/
def Lane.recoverable (l : Lane) (c : FaultClass) : Bool :=
  l.cfg.faultClassAnneal c.code.val && (l.unrecovered c).any fun h => !h.latched

/-- The limit of R413 forbids one more recovery of a class. -/
def Lane.recoveryLimit (l : Lane) (c : FaultClass) : Bool :=
  let r := l.recoveries
  l.cfg.faultAnnealClassmax < r.cls.get c.code + 1 || l.cfg.faultAnnealTotalmax < r.total + 1

/-- Axes that no unrecovered L2 fault concerns any more return to STANDBY from the next tick, to stay if the own checks of that tick pass (R415). -/
def Lane.returnAxes (l : Lane) : Lane :=
  let concerned (n : Nat) : Bool := l.col.held.any fun h => h.r.level == .l2 && !h.recovered && h.axes.contains n
  l.mapAx fun n a =>
    if a.absentFault && !concerned n.val && !l.job.odd then
      if a.absentHw || l.start.state != .operate then { a with absentFault := false, returning := false, role := .absent }
      else { a with returning := true }
    else a

/-- Recovery of a class (R412): one record for each unrecovered fault, the counts raised by one. -/
def Lane.recover (l : Lane) (c : FaultClass) : Lane :=
  let r := l.recoveries
  let n := r.cls.get c.code + 1
  let faults := (l.unrecovered c).filter fun h => !h.latched
  let recs := faults.map fun h => { h.r with count := l.tick.count % 2 ^ 32, recovered := true, first := false, ctx := BitVec.ofNat 32 n, epoch := l.epochOf h.subj }
  let col := recs.foldl ColPart.enter l.col
  let held := col.held.map fun h => if h.r.ev.cls == c && h.r.level != .l0 && !h.latched then { h with recovered := true } else h
  { l with
    col := { col with held := held.filter (fun h => !h.done) }
    nvm := { l.nvm with recoveries := l.nvm.recoveries.write { cls := r.cls.set c.code n, total := r.total + 1 } } }

/-- The faults of a class latch because a recovery limit is reached (R413). -/
def Lane.latchClass (l : Lane) (c : FaultClass) : Lane :=
  let held := l.col.held.map fun h => if h.r.ev.cls == c && h.r.level != .l0 && !h.recovered then { h with latched := true } else h
  ({ l with col := { l.col with held := held } }).raise .col012 .none c.code.val

/-- Every L3 and L4 fault the lane holds has recovered (R416). -/
def Lane.allHighRecovered (l : Lane) : Bool :=
  l.col.held.all fun h => (h.r.level != .l3 && h.r.level != .l4) || h.recovered

/-- The 16 bytes of an event record (R397, Table 15.3). -/
def Rec.bytes (r : Rec) : List Byte :=
  let w1 := r.ev.cls.code.val * 2 ^ 28 + r.level.code * 2 ^ 25 + r.lane % 4 * 2 ^ 23 + b2n r.first * 2 ^ 22 +
    b2n r.recovered * 2 ^ 21 + r.ev.num % 512 * 2 ^ 12 + r.inst % 4096
  let body := beBytes 4 r.count ++ beBytes 4 w1 ++ beBytes 4 r.ctx.toNat
  body ++ beBytes 2 r.epoch.toNat ++ beBytes 2 (crc16 body)

end Sys2Proof.Machine
end

