-- ==== Sys2Proof/Machine/Feedback.lean ====
section
/-! DEFINITION. The feedback block: edge filter, quadrature, index, tone wheels, Hall, speeds, resolver, SSI and analog channels (chapter 7). -/

namespace Sys2Proof.Machine

/-- The settings of an incremental channel that its edges use. -/
structure IncCfg where
  /-- FEEDBACK[c].MODE. -/
  mode : Nat
  /-- TEFF (R170). -/
  teff : Nat
  /-- Counts of one turn, 4 × LINES. -/
  turn : Int
  /-- INDEX.TOL. -/
  tol : Int
  /-- INDEX.SNAP. -/
  snap : Bool
  /-- INDEX.EDGE: the level after the edge that counts. -/
  edge : Bool
  /-- INVERT. -/
  invert : Nat
  /-- N tooth positions. -/
  n : Int
  /-- Gap pattern: 0 none, 1 missing teeth, 2 extra tooth. -/
  gap : Nat
  /-- Missing teeth. -/
  k : Nat
  /-- GAP_RATIO. -/
  ratio : Q
  /-- TONE.TOL. -/
  ttol : Int
  /-- TONE.DIRSRC. -/
  dirsrc : Nat
  /-- Sign of the last step of channel TONE.DIRCH. -/
  chDir : Int
deriving DecidableEq, Repr

/-- The settings of an incremental channel, as gathered (Table 7.4). -/
def incCfg (l : Lane) (c : ChanId) : IncCfg :=
  let f := l.cfg
  let i := c.val
  { mode := f.feedbackMode i, teff := max (f.feedbackTmin i) 20, turn := 4 * (f.feedbackLines i : Int)
    tol := f.feedbackIndexTol i, snap := f.feedbackIndexSnap i, edge := f.feedbackIndexEdge i == 0
    invert := f.feedbackInvert i, n := f.feedbackTonePositions i, gap := bitsN (f.feedbackToneGap i) 7 6
    k := bitsN (f.feedbackToneGap i) 1 0, ratio := f.feedbackToneGapRatio i, ttol := f.feedbackToneTol i
    dirsrc := f.feedbackToneDirsrc i
    chDir := (l.fbk.getD (f.feedbackToneDirch i) {}).dir }

/-- A wrapped 32-bit position. -/
def wrap32 (x : Int) : Int := toSigned 32 (toField 32 x)

/-- The position moved by a number of units at a clock, by an accepted edge (R173, R186). -/
def Chan.move (ch : Chan) (clk : Nat) (units : Int) : Chan :=
  let s := signI units
  let turned := ch.dir ≠ 0 ∧ s ≠ ch.dir
  { ch with
    pos := wrap32 (ch.pos + units), moved := (⟨clk, units⟩ :: ch.moved).take 2, edges := ch.edges + 1
    dir := s, turns := if turned then ch.turns + 1 else ch.turns, since := min 2 (ch.since + 1) }

/-- One count added to the double-step count, two to UNCERT (R174). -/
def Chan.double (ch : Chan) : Chan :=
  { ch with dblNow := ch.dblNow + 1, uncert := min 65535 (ch.uncert + 2), uncertFlag := true }

/-- The direction of a quadrature change: line A leading line B counts up. -/
def quadStep (a0 b0 a1 b1 : Bool) : Int :=
  if a0 ≠ a1 then (if a1 ≠ b1 then 1 else -1) else if b0 ≠ b1 then (if a1 = b1 then 1 else -1) else 0

/-- An index event judged (R177, R178). -/
def Chan.index (g : IncCfg) (ch : Chan) : Chan × List (Ev × Int) :=
  let base := { ch with refPos := some ch.pos, refTurns := ch.turns, found := true }
  match ch.refPos with
  | none => (base, [])
  | some p =>
    let d := wrap32 (ch.pos - p)
    if ch.turns ≠ ch.refTurns then (base, [])
    else if absI (absI d - g.turn) ≤ g.tol then
      let snapped := if g.snap then wrap32 (p + (if d < 0 then -g.turn else g.turn)) else ch.pos
      ({ base with uncertFlag := false, uncert := 0, mismatch := false, refDiff := absI d - g.turn
                   pos := snapped, refPos := some snapped }, [])
    else
      ({ base with mismatch := true, refDiff := absI d - g.turn },
        (Ev.fbk003, absI d) :: (if ch.mismatch then [(Ev.fbk004, absI d)] else []))

/-- The sign of a tone step (R183). DESIGN CHOICE, unsafe: under CHANNEL a step counts as positive while channel TONE.DIRCH has never stepped (log entry 142). -/
def toneSign (g : IncCfg) (ch : Chan) : Int :=
  match g.dirsrc with
  | 1 => if ch.lb.lvl then 1 else -1
  | 2 => if g.chDir < 0 then -1 else 1
  | _ => 1

/-- A reference of a tone wheel reached with `teeth` tooth edges since the last one (R182). -/
def Chan.toneRef (g : IncCfg) (ch : Chan) (teeth : Nat) : Chan × List (Ev × Int) :=
  let nominal := if g.gap = 1 then g.n - g.k else g.n
  let base := { ch with refPos := some ch.pos, refTurns := ch.turns, teeth := 0, found := true }
  match ch.refPos with
  | none => (base, [])
  | some _ =>
    if ch.turns ≠ ch.refTurns then (base, [])
    else
      let d := (teeth : Int) - nominal
      let base := { base with refDiff := d }
      if absI d ≤ g.ttol then ({ base with mismatch := false }, [])
      else ({ base with mismatch := true }, (Ev.fbk005, (teeth : Int)) :: (if ch.mismatch then [(Ev.fbk006, (teeth : Int))] else []))

/-- A tooth edge at a clock (R179, R180). -/
def Chan.tooth (g : IncCfg) (ch : Chan) (clk : Nat) : Chan × List (Ev × Int) :=
  let s := toneSign g ch
  match ch.toothClk with
  | none => ({ ch.move clk s with toothClk := some clk, teeth := ch.teeth + 1 }, [])
  | some t0 =>
    let iv := clk - t0
    let tested := 2 ≤ ch.intervals.length
    let sum : Nat := ch.intervals.foldl (· + ·) 0
    let len := ch.intervals.length
    if tested ∧ g.gap = 1 ∧ g.ratio * (sum : Int) < (iv : Int) * 65536 * len then
      let c1 := { ch.move clk (s * ((g.k : Int) + 1)) with toothClk := some clk }
      c1.toneRef g (ch.teeth + 1)
    else if tested ∧ g.gap = 2 ∧ 2 * iv * len < sum then
      -- an extra edge: no position, not counted against N, and the next interval runs from the tooth edge before it
      ch.toneRef g ch.teeth
    else
      ({ ch.move clk s with toothClk := some clk, teeth := ch.teeth + 1, intervals := (iv :: ch.intervals).take 4 }, [])

/-- The place of a Hall state U, V, W in the six-state sequence; none for 000 and 111 (R184). -/
def hallSector (u v w : Bool) : Option Nat :=
  match u, v, w with
  | true, false, true => some 0
  | true, false, false => some 1
  | true, true, false => some 2
  | false, true, false => some 3
  | false, true, true => some 4
  | false, false, true => some 5
  | _, _, _ => none

/-- The filtered levels of lines A, B, Z. -/
def Chan.seen (ch : Chan) : Bool × Bool × Bool := (ch.la.lvl, ch.lb.lvl, ch.lz.lvl)

/-- What an accepted change of filtered levels does, by mode (R173, R174, R177, R179, R184). `before` are the levels before. A change from 000 or 111 to a valid Hall state moves nothing and is not counted, and INVERT[3] reverses the direction in QUAD, QUAD+INDEX and HALL but not of a tone wheel, whose direction comes from TONE.DIRSRC: DESIGN CHOICE (log entry 142). -/
def Chan.decode (g : IncCfg) (before : Bool × Bool × Bool) (ch : Chan) (clk : Nat) : Chan × List (Ev × Int) :=
  let (a0, b0, z0) := before
  let (a1, b1, z1) := ch.seen
  let rev : Int := if g.invert.testBit 3 then -1 else 1
  let quad (ch : Chan) : Chan :=
    if a0 ≠ a1 ∧ b0 ≠ b1 then ch.double
    else
      let s := quadStep a0 b0 a1 b1
      if s = 0 then ch else ch.move clk (rev * s)
  match g.mode with
  | 1 => (quad ch, [])
  | 2 =>
    let ch := quad ch
    if z0 ≠ z1 ∧ z1 = g.edge then ch.index g else (ch, [])
  | 3 => if a0 ≠ a1 ∧ a1 = g.edge then ch.tooth g clk else (ch, [])
  | 4 =>
    match hallSector a1 b1 z1, hallSector a0 b0 z0 with
    | none, _ => ({ ch with dblNow := ch.dblNow + 1 }, [])
    | some _, none => (ch, [])
    | some s1, some s0 =>
      if s1 = (s0 + 1) % 6 then (ch.move clk rev, [])
      else if s0 = (s1 + 1) % 6 then (ch.move clk (-rev), [])
      else ({ ch with dblNow := ch.dblNow + 1 }, [])
  | _ => (ch, [])

/-- The clock at which a line's filter accepts its standing raw level, if it differs from the filtered one (R170). -/
def Line.due (teff : Nat) (x : Line) : Option Nat :=
  if x.raw = x.lvl then none else some (match x.last with | some t => t + teff | none => 0)

/-- A line's filter accepts its raw level at a clock. -/
def Line.accept (x : Line) (clk : Nat) : Line := { x with lvl := x.raw, last := some clk }

/-- The earliest of three clocks. -/
def earliest (a b c : Option Nat) : Option Nat :=
  [a, b, c].foldl (fun m x => match m, x with | none, y => y | y, none => y | some p, some q => some (min p q)) none

/-- Some lines' filters have accepted a change at one sample, in a channel whose levels before are given: the count, the decoding and the record of the edges (R169, R170). -/
def Chan.took (g : IncCfg) (before : Bool × Bool × Bool) (n : Nat) (ch : Chan) (clk : Nat) : Chan × List (Ev × Int) :=
  let (c1, es) := Chan.decode g before { ch with accepted := ch.accepted + n, edgeNow := true, still := false } clk
  let units : Int := if c1.edges = ch.edges then 0 else match c1.moved with | m :: _ => signI m.units | [] => 0
  ({ c1 with last2 := (List.replicate n (⟨clk, units⟩ : Moved) ++ c1.last2).take 2 }, es)

/-- Changes that the filter accepts between events, up to a clock: each is accepted when TEFF has passed (R170). -/
def Chan.settle (g : IncCfg) (upto : Nat) : Nat → Chan → Chan × List (Ev × Int)
  | 0, ch => (ch, [])
  | k + 1, ch =>
    match earliest (ch.la.due g.teff) (ch.lb.due g.teff) (ch.lz.due g.teff) with
    | none => (ch, [])
    | some t =>
      if upto < t then (ch, [])
      else
        let before := ch.seen
        let hit (x : Line) : Bool := x.due g.teff == some t
        let n := b2n (hit ch.la) + b2n (hit ch.lb) + b2n (hit ch.lz)
        let ch1 := { ch with la := if hit ch.la then ch.la.accept t else ch.la
                             lb := if hit ch.lb then ch.lb.accept t else ch.lb
                             lz := if hit ch.lz then ch.lz.accept t else ch.lz }
        let (ch2, e1) := ch1.took g before n t
        let (ch3, e2) := ch2.settle g upto k
        (ch3, e1 ++ e2)

/-- One line samples its wire at a clock: whether a transition is a fast edge, and whether the filter accepts the level there, be it new or standing since TEFF ended (R170). -/
def Line.sample (teff : Nat) (inv : Bool) (x : Line) (pin : Bool) (clk : Nat) : Line × Bool × Bool :=
  let lvl := pin != inv
  let early := match x.last with | some t => decide (clk < t + teff) | none => false
  let x1 := { x with pin := pin, raw := lvl }
  if early then (x1, decide (lvl ≠ x.raw), false)
  else if lvl = x.lvl then (x1, false, false)
  else (x1.accept clk, false, true)

/-- A line whose channel filters nothing: the filtered level is the raw one. -/
def Line.follow (x : Line) (inv pin : Bool) : Line := { x with pin := pin, raw := pin != inv, lvl := pin != inv, last := none }

/-- A sample of raw levels A, B, Z at a clock (R170, FEEDBACK_EDGE). -/
def Chan.edge (g : IncCfg) (ch : Chan) (clk : Nat) (a b z : Bool) : Chan × List (Ev × Int) :=
  let (ch0, e0) := ch.settle g (clk - 1) 4
  let before := ch0.seen
  let (la, fa, ka) := ch0.la.sample g.teff (g.invert.testBit 0) a clk
  let (lb, fb, kb) := ch0.lb.sample g.teff (g.invert.testBit 1) b clk
  let (lz, fz, kz) := ch0.lz.sample g.teff (g.invert.testBit 2) z clk
  let ch1 := { ch0 with la := la, lb := lb, lz := lz, fastNow := ch0.fastNow + b2n fa + b2n fb + b2n fz }
  if ka || kb || kz then
    let (ch2, e1) := ch1.took g before (b2n ka + b2n kb + b2n kz) clk
    (ch2, e0 ++ e1)
  else (ch1, e0)

/-- The lines of a channel that filters nothing follow their wires. -/
def Chan.follow (invert : Nat) (ch : Chan) (a b z : Bool) : Chan :=
  { ch with la := ch.la.follow (invert.testBit 0) a, lb := ch.lb.follow (invert.testBit 1) b, lz := ch.lz.follow (invert.testBit 2) z }

/-- A channel replaced in the lane. -/
def Lane.setChan (l : Lane) (c : ChanId) (ch : Chan) : Lane := { l with fbk := l.fbk.set c ch }

/-- The level a Table 7.6 event is raised at on this lane: L2 for an owned channel, L1 for a sensor instance's, else a note (R172). -/
def fbkLevel (l : Lane) (c : Nat) (own : Level) : Level :=
  if own ≠ .l2 then own
  else if !(l.cfg.owners c).isEmpty then .l2
  else if l.cfg.sensorOwns l.id c then .l1
  else .l0

/-- A feedback event raised for a channel, tied to the axes that own it (R172, R199). -/
def Lane.raiseFbk (l : Lane) (c : Nat) (ev : Ev) (v : Int) : Lane :=
  l.raiseFor ev (.channel c) v (fbkLevel l c ev.level) (l.cfg.owners c)

/-- Several feedback events raised for a channel. -/
def Lane.raiseFbks (l : Lane) (c : Nat) (es : List (Ev × Int)) : Lane := es.foldl (fun l e => l.raiseFbk c e.1 e.2) l

/-- The count of a history of (tick, number) pairs within the last `span` ticks before `now`. -/
def histSum (now span : Nat) (h : List (Nat × Nat)) : Nat :=
  h.foldl (fun s e => if now < e.1 + span then s + e.2 else s) 0

/-- The sums of R171 and R175 formed at the close of the tick, with their events and the values shown at a close (R198). -/
def Chan.sums (fastLimit dblLimit tick mode : Nat) (ch : Chan) : Chan × List (Ev × Int) :=
  let fh := if ch.fastNow = 0 then ch.fastHist else (tick, ch.fastNow) :: ch.fastHist
  let fh := fh.filter fun e => tick < e.1 + 1000
  let dh := if ch.dblNow = 0 then ch.dblHist else (tick, ch.dblNow) :: ch.dblHist
  let dh := dh.filter fun e => tick < e.1 + 1000
  let fs := histSum tick 1000 fh
  let ds := histSum tick 1000 dh
  let e1 := if fastLimit < fs ∧ !ch.fastOver then [(Ev.fbk001, (fs : Int))] else []
  let e2 := if dblLimit < ds ∧ !ch.dblOver then [(if mode = 4 then Ev.fbk007 else Ev.fbk002, (ds : Int))] else []
  ({ ch with fastHist := fh, dblHist := dh, fastNow := 0, dblNow := 0, fastSum := fs, dblSum := ds
             uncertShown := ch.uncert, refShown := ch.refDiff
             fastOver := decide (fastLimit < fs), dblOver := decide (dblLimit < ds) }, e1 ++ e2)

/-- A rate in units per second with 16 fraction bits, from units over clocks at 400 MHz (R169). -/
def rate (units : Int) (clocks : Nat) : Int := roundDiv (units * 400000000 * 65536) clocks

/-- The interval speed of R186 at a boundary. -/
def Chan.interval (ch : Chan) (boundary : Nat) : Int :=
  match ch.moved with
  | x :: y :: _ =>
    if ch.still ∨ ch.since < 2 ∨ signI x.units ≠ signI y.units then 0
    else rate x.units (max (x.clk - y.clk) (boundary - x.clk))
  | _ => 0

/-- A boundary counted: the whole ticks without an accepted edge (R186). -/
def Chan.countQuiet (ch : Chan) : Chan :=
  { ch with edgeNow := false, quietRun := if ch.edgeNow then 0 else satInc 65535 ch.quietRun }

/-- No edge has been accepted for SPEED.STILL ticks, or none since gather (R186). -/
def Chan.quiet (still : Nat) (ch : Chan) : Bool := ch.accepted == 0 || decide (still ≤ ch.quietRun) && !ch.edgeNow

/-- Standstill: two edges are counted afresh, the interval speed is 0, and at a tone wheel the running tooth interval and the reference are cleared (R179, R182, R186). -/
def Chan.stand (tone : Bool) (ch : Chan) : Chan :=
  { ch with still := true, since := 0, intervals := [], vInt := 0, v := if ch.winRep then ch.v else 0
            refPos := if tone then none else ch.refPos, teeth := if tone then 0 else ch.teeth
            lat := { ch.lat with flags := ch.lat.flags ||| 1 } }

/-- The latch of an incremental channel at a boundary (R169, R185 to R187). -/
def Chan.latchInc (tone : Bool) (w blendN still : Nat) (ch : Chan) (boundary : Nat) : Chan :=
  let ch := ch.countQuiet
  let ch := if ch.quiet still then ch.stand tone else ch
  let now : Latch := ⟨ch.pos, boundary, ch.edges, ch.turns⟩
  let old := ch.hist.getD (w - 1) (ch.hist.getLast?.getD now)
  let vw := if ch.hist.length < w ∨ boundary = old.clk then 0 else rate (wrap32 (now.pos - old.pos)) (boundary - old.clk)
  let vi := ch.interval boundary
  let useWin := decide (blendN ≤ now.edges - old.edges)
  { ch with lpos := ch.pos, vWin := vw, vInt := vi, v := if useWin then vw else vi, winRep := useWin
            hist := (now :: ch.hist).take 65 }

/-- Direction changed within the window of the last latch (Table 7.5, flag 3); the window starts filled with the first latch after gather (R558). -/
def Chan.turnedInWindow (w : Nat) (ch : Chan) : Bool :=
  match ch.hist with
  | x :: _ => x.turns != (ch.hist.getD w (ch.hist.getLast?.getD x)).turns
  | [] => false

/-- A resolver's demodulation every second tick (R188, R190). -/
def Chan.demodulate (amp ratio los lo hi : Int) (ch : Chan) (s c : Q) : Chan × List (Ev × Int) :=
  -- amp in 0.1 V: (RATIO × AMP)² in V² with 32 fraction bits, over 100
  let den := ratio * ratio * amp * amp
  let m := satQ (roundDiv ((s * s + c * c) * 100 * 65536) den)
  let losRun := if m < los then min 2 (ch.losRun + 1) else 0
  let degRun := if m < lo ∨ hi < m then min 8 (ch.degRun + 1) else 0
  let e1 := if losRun = 2 ∧ ch.losRun = 1 then [(Ev.fbk008, roundDiv (m * 1000) 65536)] else []
  let e2 := if degRun = 8 ∧ ch.degRun = 7 then [(Ev.fbk009, roundDiv (m * 1000) 65536)] else []
  ({ ch with resS := s, resC := c, ampSq := m, losRun := losRun, degRun := degRun
             los := losRun == 2, stale := losRun == 2, degraded := degRun == 8 }, e1 ++ e2)

/-- The tracking observer of a resolver, one tick (R189): its law is the implementation's. The standstill flag stays as gather sets it, since no edge is ever accepted on the channel (R558; DEDUCED, log entry 142). -/
def Chan.track (bw tick err : Nat) (ch : Chan) : Chan × List (Ev × Int) :=
  if ch.los then (ch, [])
  else
    let o := Config.resolverTrack bw tick ch.resS ch.resC ch.lpos ch.v
    let run := if err < o.err then min 4 (ch.trackRun + 1) else 0
    let e := if run = 4 ∧ ch.trackRun = 3 then [(Ev.fbk010, (o.err : Int))] else []
    ({ ch with lpos := (o.angle % 65536 : Nat), pos := (o.angle % 65536 : Nat), v := o.speed, vWin := o.speed, trackErr := o.err
               trackRun := run }, e)

/-- Binary value of a Gray code of a number of bits. -/
def grayToBin : Nat → Nat → Nat
  | 0, _ => 0
  | k + 1, g => g ^^^ grayToBin k (g / 2)

/-- Outcome of an SSI frame (R193): 0 accepted, 1 start level, 2 end level, 3 jump. -/
def ssiJudge (jump : Int) (have_ : Bool) (old new : Int) (startHigh endLow : Bool) : Nat :=
  if !startHigh then 1 else if !endLow then 2 else if have_ && decide (jump < absI (new - old)) then 3 else 0

/-- The SSI frame that started at a boundary completes (R191, R193). -/
def Chan.ssi (bits code jump : Nat) (at_ : Nat × Nat) (ch : Chan) (startHigh endLow : Bool) (raw : Nat) : Chan × List (Ev × Int) :=
  let ch := { ch with ssiStart := none }
  let r := raw % 2 ^ bits
  let new : Int := if code = 1 then grayToBin bits r else r
  match ssiJudge jump ch.ssiHave ch.pos new startHigh endLow with
  | 0 => ({ ch with ssiNew := some new, pos := new, ssiHave := true, ssiFails := 0, stale := false
                    ssiHist := (⟨at_.1, at_.2, new⟩ :: ch.ssiHist).take 130 }, [])
  | k => ({ ch with ssiFails := ch.ssiFails + 1, stale := true },
          (Ev.fbk011, (k : Int)) :: (if ch.ssiFails = 1 then [(Ev.fbk012, (k : Int))] else []))

/-- The latch of an SSI channel at the boundary of a tick (R191): the position is used from the tick after, and a frame starts where the count is a multiple of SSI.PERIOD; its speed, over the clocks between the two boundaries (R169, R193). DESIGN CHOICE: where no valid position is exactly the span older, the newest one at least that old is taken with its own age; and FLAGS[4] shows 1, since the speed is that of a window, while on a resolver it shows 0 (log entry 142). -/
def Chan.latchSsi (w period count clk : Nat) (ch : Chan) : Chan :=
  let span := (max w period + period - 1) / period * period
  let v := match ch.ssiHist with
    | x :: _ =>
      match ch.ssiHist.find? (fun e => e.tick + span ≤ x.tick) with
      | some o => if x.clk = o.clk then 0 else rate (x.pos - o.pos) (x.clk - o.clk)
      | none => 0
    | [] => 0
  { ch with lpos := ch.ssiNew.getD ch.lpos, v := v, vWin := v, winRep := true
            ssiStart := if count % period = 0 then some (count, clk) else ch.ssiStart }

/-- An analog conversion in volts (R194). -/
def Chan.convert (f faultTime : Nat) (gain off lo hi : Q) (ch : Chan) (x : Q) : Chan × List (Ev × Int) :=
  if x < lo ∨ hi < x then
    let run := min 256 (ch.exclRun + 1)
    ({ ch with conv := (none :: ch.conv).take f, exclRun := run, stale := true },
      if run = faultTime then [(Ev.fbk013, roundDiv (x * 1000) 65536)] else [])
  else
    let conv := (some x :: ch.conv).take f
    let vals := conv.filterMap id
    let mean := roundDiv (sumI vals) vals.length
    let y := satQ (addQ (mulQ gain mean) off)
    ({ ch with conv := conv, exclRun := 0, stale := false, volts := mean, lpos := y, pos := y }, [])

/-- The channel that gives a tone wheel its direction has accepted what its filters accept up to a clock, its next tooth edge included (R183). -/
def Lane.settleDir (l : Lane) (c : ChanId) (upto : Nat) : Lane :=
  let f := l.cfg
  if f.feedbackMode c.val = 3 ∧ f.feedbackToneDirsrc c.val = 2 then
    match allChans.find? fun d => d.val == f.feedbackToneDirch c.val && d.val < 4 && d != c && f.feedbackMode d.val != 0 with
    | some d =>
      let (ch, es) := (l.fbk.get d).settle (incCfg l d) upto 4
      (l.setChan d ch).raiseFbks d.val es
    | none => l
  else l

/-- An incremental channel has accepted what its filters accept up to a clock (R170). -/
def Lane.settleChan (l : Lane) (c : ChanId) (upto : Nat) : Lane :=
  let l := match (l.fbk.get c).la.due (incCfg l c).teff with | some t => if t ≤ upto then l.settleDir c t else l | none => l
  let (ch, es) := (l.fbk.get c).settle (incCfg l c) upto 4
  (l.setChan c ch).raiseFbks c.val es

/-- A sample of raw levels on an incremental channel at a clock (R170), its direction channel settled up to it (R183). -/
def Lane.sampleEdge (l : Lane) (c : ChanId) (clk : Nat) (a b z : Bool) : Lane :=
  let l := (l.settleChan c (clk - 1)).settleDir c clk
  let (ch, es) := (l.fbk.get c).edge (incCfg l c) clk a b z
  (l.setChan c ch).raiseFbks c.val es

/-- An incremental channel at the close of the tick (R171, R175, R198): what the filter has accepted before the boundary, whose clock is given, and the sums. -/
def Lane.closeChan (l : Lane) (boundary : Nat) (c : ChanId) : Lane :=
  let f := l.cfg
  let i := c.val
  if f.feedbackMode i = 0 ∨ 4 ≤ i then l
  else
    let l := l.settleChan c (boundary - 1)
    let (ch, es) := (l.fbk.get c).sums (f.feedbackFastLimit i) (f.feedbackDoubleLimit i) l.tick.count (f.feedbackMode i)
    (l.setChan c ch).raiseFbks i es

/-- Every channel at the close of the tick (R198). -/
def Lane.feedbackClose (l : Lane) : Lane :=
  allChans.foldl (fun (k : Lane) c => k.closeChan (l.clk + l.tickLen) c) l

/-- The flags of Table 7.5 as they stand. -/
def Chan.flagsNow (w : Nat) (ssi : Bool) (ch : Chan) : Nat :=
  b2n ch.still + 2 * b2n ch.uncertFlag + 4 * b2n ch.found + 8 * b2n (ch.turnedInWindow w) +
  16 * b2n ch.winRep + 32 * b2n ch.stale + 64 * b2n ch.los + 128 * b2n ch.degraded + 256 * b2n ssi

/-- The last two accepted edges, the accepted-edge count and the flags latched (R169). -/
def Chan.latch (w : Nat) (ssi : Bool) (ch : Chan) : Chan :=
  { ch with lat := { edges := ch.last2, accepted := ch.accepted, flags := ch.flagsNow w ssi } }

/-- The latched stale flag. -/
def Chan.isStale (ch : Chan) : Bool := ch.lat.flags.testBit 5

/-- The latched loss-of-signal flag. -/
def Chan.isLost (ch : Chan) : Bool := ch.lat.flags.testBit 6

/-- The latched standstill flag. -/
def Chan.isStill (ch : Chan) : Bool := ch.lat.flags.testBit 0

/-- The position or value and the speeds of one channel latched at the boundary (R169). -/
def Lane.latchPos (l : Lane) (x : FbkSample) (c : ChanId) : Lane :=
  let f := l.cfg
  let i := c.val
  let ch := l.fbk.get c
  if i < 4 then
    l.setChan c (ch.latchInc (f.feedbackMode i == 3) (f.feedbackSpeedW i) (f.feedbackSpeedBlendN i) (f.feedbackSpeedStill i) l.clk)
  else if i < 6 then
    let (ch, e1) :=
      if l.tick.count % 2 = 0 then
        ch.demodulate (f.feedbackResExcAmp i) (f.feedbackResRatio i) (f.feedbackResLos i) (f.feedbackResDegLo i)
          (f.feedbackResDegHi i) (x.resS.getD (i - 4) 0) (x.resC.getD (i - 4) 0)
      else (ch, [])
    let (ch, e2) := ch.track (f.feedbackResBandwidth i) l.tick.count (f.feedbackResTrackerr i)
    (l.setChan c ch).raiseFbks i (e1 ++ e2)
  else if i < 8 then
    l.setChan c (ch.latchSsi (f.feedbackSpeedW i) (f.feedbackSsiPeriod i) l.tick.count l.clk)
  else
    let (ch, e) := ch.convert (f.feedbackAinFilter i) (f.feedbackAinFaulttime i) (f.feedbackAinGain i) (f.feedbackAinOffset i)
      (f.feedbackAinMin i) (f.feedbackAinMax i) (x.ain.getD (i - 8) 0)
    (l.setChan c ch).raiseFbks i e

/-- One channel latched at the boundary (R169). -/
def Lane.latchChan (l : Lane) (x : FbkSample) (c : ChanId) : Lane :=
  if l.cfg.feedbackMode c.val = 0 then l
  else
    let l := l.latchPos x c
    l.setChan c ((l.fbk.get c).latch (l.cfg.feedbackSpeedW c.val) (c.val == 6 || c.val == 7))

/-- The feedback latch of a tick: every channel in order (FEEDBACK_LATCH, ANALOG_CONVERSION, RESOLVER_DEMODULATION). -/
def Lane.latchFeedback (l : Lane) (x : FbkSample) : Lane := allChans.foldl (fun l c => l.latchChan x c) l

/-- An event that Table 7.6 gives level L2 AXIS. -/
def chanEvent (ev : Ev) : Bool := ev.cls == .fbk && ev.level == .l2 && decide (ev.num ≤ 13)

/-- The channel counts as failed on this lane: off, or under an event that Table 7.6 gives level L2 AXIS, raised in this tick or held and not recovered, where the channel has an owner or a sensor (R172, R301). -/
def Lane.chanFailed (l : Lane) (c : Nat) : Bool :=
  l.cfg.feedbackMode c == 0 ||
  (l.col.raised.any fun r => r.subj == .channel c && chanEvent r.ev && r.level != some .l0) ||
  l.col.held.any fun h => h.subj == .channel c && chanEvent h.r.ev && h.r.level != .l0 && !h.recovered

/-- A channel's latched position or value. -/
def Lane.chPos (l : Lane) (c : Nat) : Int := (l.fbk.getD c {}).lpos

/-- A channel's reported speed, units per second with 16 fraction bits. -/
def Lane.chSpeed (l : Lane) (c : Nat) : Int := (l.fbk.getD c {}).v

/-- The status flags of a channel (Table 7.5): those latched at the boundary (R169). -/
def Lane.chFlags (l : Lane) (c : Nat) : Nat := (l.fbk.getD c {}).lat.flags

/-- Every channel as it stands after a gather (R558): position 0, two edges to count afresh, standstill; the filters start from the levels of the wires. -/
def Lane.freshFeedback (l : Lane) : Lane :=
  { l with fbk := l.fbk.mapFin fun i ch =>
      Chan.follow (l.cfg.feedbackInvert i.val) {} ch.la.pin ch.lb.pin ch.lz.pin }

/-- The excitation a resolver channel drives (R188): its peak in 0.1 V and the place of a clock of the tick in its period of 4 ticks, in 1/65,536 period, the period having started at the last boundary whose tick count is a multiple of 4; none where the channel is off or the lane does not sample. -/
def Lane.excitation (l : Lane) (k : Fin 2) (at_ : Nat) : Option (Nat × Nat) :=
  let c := 4 + k.val
  let len := l.tickLen
  let runs := match l.start.state with | .off | .boot | .selftest | .sleep | .listen => false | _ => true
  if l.cfg.feedbackMode c = 0 ∨ !runs then none
  else some (l.cfg.feedbackResExcAmp c, l.tick.count % 4 * 16384 + min 16383 (at_ * 16384 / len))

/-- The excitation voltage at a clock of the tick, in 1/2^40 of 0.1 V: a sine of 10 kHz (R188). -/
def Lane.excitationVolts (l : Lane) (k : Fin 2) (at_ : Nat) : Int :=
  match l.excitation k at_ with | some (a, p) => a * sinTurn p | none => 0

/-- The level of pass-through output k, lines A and B (R195, R196): the filtered lines of the channel that names it. -/
def Lane.passLevels (l : Lane) (k : Nat) : Bool × Bool :=
  let runs := match l.start.state with | .off | .boot | .selftest | .sleep | .listen => false | _ => true
  match (List.range 4).find? (fun c => l.cfg.feedbackPass c == k + 1 && l.cfg.feedbackMode c != 0 && l.cfg.feedbackMode c != 4) with
  | some c => if runs then ((l.fbk.getD c {}).la.lvl, (l.fbk.getD c {}).lb.lvl) else (false, false)
  | none => (false, false)

end Sys2Proof.Machine
end

