-- ==== Sys2Proof/Machine/Sync.lean ====
section
/-! DEFINITION. The tick: markers, alignment, corrections, external sources, timing runs (chapter 2). -/

namespace Sys2Proof.Machine

/-- The effective source order: entries up to the first FREE, then FREE (R41); FABRIC is left out on a time master (R43). -/
def Lane.sources (l : Lane) : List Nat :=
  let o := (l.cfg.tickSyncOrder.map Int.toNat).takeWhile (· != 0)
  (o.filter fun s => !(s == 2 && l.tick.skipFabric)) ++ [0]

/-- A source is present on this lane (R44). -/
def SyncSource.present (s : SyncSource) : Bool :=
  s.state != 0 && (match s.meas with
    | some m => decide (absI m ≤ 800)
    | none => !s.expected && s.lastInside)

/-- A source is present as the last close judged it (R44): its last expected measurement lay inside the window. A lane tells the others this in its marker, which leaves before the measurement of its tick. -/
def SyncSource.shown (s : SyncSource) : Bool := s.state != 0 && s.lastInside

/-- The other lanes of the alignment set: ARMED or OPERATE, with a valid marker in this tick. -/
def Lane.alignOthers (l : Lane) : List LaneId :=
  l.id.others.filter fun x => match (l.peerOf x).marker with | some m => m.state == .armed || m.state == .operate | none => false

/-- A lane sees a source present on some lane of its alignment set (R44), itself included. -/
def Lane.sourcePresent (l : Lane) (k : Nat) : Bool :=
  match k with
  | 0 => true
  | 1 => l.tick.pin.present || l.alignOthers.any fun x => match (l.peerOf x).marker with | some m => m.pinPresent | none => false
  | _ => l.tick.fabric.present || l.alignOthers.any fun x => match (l.peerOf x).marker with | some m => m.fabPresent | none => false

/-- The active source: the first entry of the order that is present (R44, R45). -/
def Lane.activeSource (l : Lane) : Nat := (l.sources.find? l.sourcePresent).getD 0

/-- The state of a source by its code: 1 PIN, 2 FABRIC. -/
def Lane.sourceOf (l : Lane) : Nat → SyncSource | 1 => l.tick.pin | 2 => l.tick.fabric | _ => {}

/-- The own state of the active source. -/
def Lane.sourceState (l : Lane) : SyncSource := l.sourceOf l.tick.source

/-- The last measured error of a source, that of the present tick where it was measured (R46). -/
def SyncSource.lastErr (s : SyncSource) : Option Int := s.meas.orElse fun _ => s.lastMeas

/-- The lane is synchronised to fabric time (R46). -/
def Lane.synced (l : Lane) : Bool :=
  l.tick.source == 2 && l.tick.fabric.state == 2 &&
    (match l.tick.fabric.lastErr with | some m => decide (absI m ≤ 80) | none => false)

/-- The fabric tick count of this tick, where the lane holds an offset (R35). -/
def Lane.fabTick? (l : Lane) : Option Nat := l.tick.fabOffset.map fun o => toField 48 ((l.tick.count : Int) + o)

/-- The fabric tick count of this tick; 0 without an offset. -/
def Lane.fabTick (l : Lane) : Nat := l.fabTick?.getD 0

/-- The tick marker the lane sends in this tick (R583, R133, R402). The node-stop flag of an L4 event leaves in the first marker after the event, the last that the lane's cores prepared; the collector's markers in SAFE show it no more (DEDUCED from R403 and R583). -/
def Lane.markerOut (l : Lane) : Marker :=
  if 0 < l.start.departing then { state := .off, count := l.tick.count, resets := l.start.resets }
  else if l.start.state = .safe then
    { state := .safe, ign := l.start.ign, wake := l.start.wake, count := l.tick.count, resets := l.start.resets
      nodeStop := l.col.nodeStop && decide (l.start.inState ≤ 1) }
  else
    { state := l.start.state, ready := l.start.ready
      powerDown := l.start.sinceP.isSome
      stop := match l.col.stopS with | some s => decide (s < l.tick.count) | none => false
      nodeStop := l.col.nodeStop, synced := l.synced, ign := l.start.ign, wake := l.start.wake
      standstill := l.start.still, fabLow := if l.synced then l.fabTick % 65536 else 0
      count := l.tick.count, ehat := l.tick.ehatSent, pinPresent := l.tick.pin.shown, fabPresent := l.tick.fabric.shown, resets := l.start.resets }

/-- The lane sends markers in this tick: from SELFTEST onwards, and departure markers from hold-up (R133). -/
def Lane.sendsMarkers (l : Lane) : Bool :=
  0 < l.start.departing || (match l.start.state with | .off | .boot | .sleep | .listen => false | _ => true)

/-- The 16 bytes of a marker (Table 1.11); its fields of several bytes go out most significant byte first (DESIGN CHOICE: R5 does not name link frames). -/
def Marker.bytes (m : Marker) (sender : LaneId) : List Byte :=
  let b0 := sender.code + 4 * m.state.code
  let b1 := b2n m.ready + 2 * b2n m.powerDown + 4 * b2n m.stop + 8 * b2n m.nodeStop + 16 * b2n m.synced + 32 * b2n m.ign +
    64 * b2n m.wake + 128 * b2n m.standstill
  let body := [byteOf b0, byteOf b1] ++ beBytes 2 (if m.synced then m.fabLow else 0) ++ beBytes 8 m.count
  body ++ beBytes 4 (crc32c body)

/-- Twice the median of the alignment set's boundaries against the own boundary (R36). -/
def Lane.offset2 (l : Lane) : Int := median2 (0 :: l.alignOthers.map fun x => (l.peerOf x).boundary)

/-- d of R36, rounded to the nearest clock, halves towards zero. -/
def Lane.offsetD (l : Lane) : Int := roundDivTowardsZero l.offset2 2

/-- Ehat of R37: the median of the valid predicted errors of this tick's markers, own included; 0 if there is none. -/
def Lane.ehat (l : Lane) : Int :=
  let own := l.tick.ehatSent.toList
  let others := l.id.others.filterMap fun x => match (l.peerOf x).marker with | some m => m.ehat | none => none
  roundDivTowardsZero (median2 (own ++ others)) 2

/-- The boundary of the active source for acquisition: the first source of the order that this lane sees anywhere within the tick, as distance after the own boundary (R40). In a tick without an expected measurement it stands where the last one placed it. -/
def Lane.acquired (l : Lane) : Option Int :=
  (l.sources.takeWhile (· != 0)).findSome? fun k =>
    let s := l.sourceOf k
    match s.meas with
    | some m => some m
    | none => if !s.expected && s.seen then some s.err else none

/-- The acquisition reference of a lane in ALIGN, as its distance after the own boundary (R40); none without a reference to step to. -/
def Lane.alignRef (l : Lane) : Int :=
  let running := l.alignOthers
  if !running.isEmpty then roundDivTowardsZero (median2 (running.map fun x => (l.peerOf x).boundary)) 2
  else
    match l.acquired with
    | some m => m
    | none =>
      let lower := LaneId.all.find? fun x =>
        x == l.id || (match (l.peerOf x).marker with | some m => m.state == .align | none => false)
      match lower with
      | some x => if x = l.id then 0 else (l.peerOf x).boundary
      | none => 0

/-- One source's counts at the close of a tick (R44). DESIGN CHOICE: where an expected measurement is absent, the run of measurements inside the window starts anew, in LOCKED and in LOST alike (log 28). -/
def SyncSource.judge (s : SyncSource) : SyncSource :=
  match s.meas with
  | some m =>
    let inside := absI m ≤ 800
    { s with
      lockRun := if absI m ≤ 80 then s.lockRun + 1 else 0
      missRun := if inside then 0 else s.missRun + 1
      backRun := if inside then s.backRun + 1 else 0
      lastInside := decide inside, seen := true, err := m, errValid := decide inside, lastMeas := some m }
  | none =>
    if s.expected then { s with lockRun := 0, missRun := s.missRun + 1, backRun := 0, lastInside := false, seen := false } else s

/-- The consecutive ticks in which the own boundary lay beyond 80 clocks of a three-lane median, this one included (R38). -/
def Lane.outlierNow (l : Lane) : Nat := if l.alignOthers.length = 2 ∧ 160 < absI l.offset2 then l.tick.outlierRun + 1 else 0

/-- The difference of the two boundaries of a two-lane alignment set. -/
def Lane.twoLaneDiff (l : Lane) : Int := match l.alignOthers with | x :: _ => (l.peerOf x).boundary | [] => 0

/-- The consecutive ticks in which two lanes lay more than 160 clocks apart, this one included (R39). -/
def Lane.splitNow (l : Lane) : Nat := if l.alignOthers.length = 1 ∧ 160 < absI l.twoLaneDiff then l.tick.splitRun + 1 else 0

/-- The correction of the next tick (R37, TICK_CORRECTION) or the step of ALIGN (R40, ALIGN_STEP), with the sources judged. -/
def Lane.closeSync (l : Lane) : Lane :=
  let d := l.offsetD
  let t := { l.tick with pin := l.tick.pin.judge, fabric := l.tick.fabric.judge, source := l.activeSource, offset := d }
  let l1 := { l with tick := t }
  match l.start.state with
  | .armed | .operate =>
    { l1 with tick := { t with
        corrNext := clampI (-40) 40 (d + l.ehat - l.tick.corr), step := 0
        outlierRun := min 65535 l.outlierNow, splitRun := min 65535 l.splitNow } }
  | .align =>
    let r := l1.alignRef
    { l1 with tick := { t with corrNext := 0, step := r, alignErr := some r, outlierRun := 0, splitRun := 0 } }
  | _ => { l1 with tick := { t with corrNext := 0, step := 0, outlierRun := 0, splitRun := 0 } }

/-- A PIN edge is expected in the tick of this count (R42). -/
def Lane.pinExpected (l : Lane) (count : Nat) : Bool :=
  l.tick.pin.state != 0 && (match l.tick.pinPhase with
    | some p => count % max 1 l.cfg.tickSyncPinPeriod == p
    | none => false)

/-- The boundary of the next tick; a correction stands for one tick and is 0 where no close sets the next one, as while the cores are halted or in reset: the timer, the count, the predicted errors and the expected measurements (R32, R33, R37, R42). -/
def Lane.boundaryTick (l : Lane) : Lane :=
  let t := l.tick
  let len : Nat := (10000 + t.corr + t.step).toNat
  let count := t.count + 1
  let next (s : SyncSource) (ex : Bool) : SyncSource :=
    { s with err := s.err - t.corr - t.step, meas := s.early, early := none, expected := ex }
  let pin := next t.pin (l.pinExpected count)
  let fab := next t.fabric (t.fabric.state != 0 && !t.skipFabric)
  let src := match t.source with | 1 => some pin | 2 => some fab | _ => none
  let out := match src with | some s => if s.errValid then some s.err else none | none => none
  { l with
    clk := l.clk + len, now := 0
    tick := { t with
      count := count, corr := t.corrNext, corrNext := 0, step := 0, pin := pin, fabric := fab, ehatSent := out
      pinPulse := l.cfg.tickSyncPinDir == 1 && l.start.state.code ≥ 3 && count % max 1 l.cfg.tickSyncPinPeriod == 0
      overFence := 0, overBoundary := 0, overPublish := 0 } }

/-- An edge of the configured polarity on the sync pin, at clocks after the boundary (R42). The edge belongs to the boundary it lies nearest to; of two edges in one expected tick the first is measured, and of two that come before their boundary the last (DESIGN CHOICE: the manual names one edge). -/
def Lane.pinEdge (l : Lane) (at_ : Nat) : Lane :=
  if l.tick.pin.state = 0 ∨ l.cfg.tickSyncPinDir ≠ 0 then l
  else
    let x : Int := (at_ : Int) - l.cfg.tickSyncPinOffset
    let len := 10000 + l.tick.corr + l.tick.step
    let k : Nat := if len < 2 * x then 1 else 0
    let e := x - len * (k : Int)
    let period := max 1 l.cfg.tickSyncPinPeriod
    let target := l.tick.count + k
    let phase := match l.tick.pinPhase with | some p => p | none => target % period
    if target % period ≠ phase then { l with tick := { l.tick with pinPhase := some phase } }
    else
      let p := l.tick.pin
      let p := if k = 0 then { p with meas := some (p.meas.getD e), expected := true } else { p with early := some e }
      { l with tick := { l.tick with pin := p, pinPhase := some phase } }

/-- A measurement of the FABRIC source in this tick (R43). -/
def Lane.fabricMeas (l : Lane) (e : Int) : Lane :=
  if l.tick.fabric.state = 0 ∨ l.tick.skipFabric then l
  else { l with tick := { l.tick with fabric := { l.tick.fabric with meas := some e, expected := true } } }

/-- A source changes state; its runs start again, and PIN's phase is fixed anew in SEARCH (R42, R44). -/
def SyncSource.to (s : SyncSource) (st : Nat) : SyncSource := { s with state := st, lockRun := 0, missRun := 0, backRun := 0 }

/-- The sources at gather (R44): SEARCH where the order names them before the first FREE, else UNUSED. -/
def Lane.startSources (l : Lane) : Lane :=
  let o := (l.cfg.tickSyncOrder.map Int.toNat).takeWhile (· != 0)
  { l with tick := { l.tick with
      pin := ({} : SyncSource).to (if o.contains 1 then 1 else 0), pinPhase := none
      fabric := ({} : SyncSource).to (if o.contains 2 then 1 else 0), source := 0 } }

/-- LOST sources return to SEARCH when the lane enters ALIGN (R44). -/
def Lane.alignSources (l : Lane) : Lane :=
  let f (s : SyncSource) : SyncSource := if s.state = 3 then s.to 1 else s
  { l with tick := { l.tick with
      pinPhase := if l.tick.pin.state = 3 then none else l.tick.pinPhase, pin := f l.tick.pin, fabric := f l.tick.fabric } }

/-- STATUS.LANE[l].TICK.SYNCSTATE (Table 2.5). -/
def Lane.syncState (l : Lane) : Nat := l.tick.pin.state + 4 * l.tick.fabric.state + 16 * b2n l.synced

end Sys2Proof.Machine
end

