-- ==== Sys2Proof/Machine/Lease.lean ====
section
/-! DEFINITION. The punty lease: line of an axis, published outputs, endorsements, step 4, handovers, witnesses, last-lane rule, health word (chapters 5 and 6). -/

namespace Sys2Proof.Machine

/-! ## Line and eligibility -/

/-- This lane's node start entered the other lane in the same tick: its marker of the tick before showed ARMED and READY, that of this tick shows OPERATE (R72). -/
def Lane.enteringPeer (l : Lane) (x : LaneId) : Bool :=
  match (l.peerOf x).markerPrev, (l.peerOf x).marker with
  | some p, some m => p.state == .armed && p.ready && m.state == .operate
  | _, _ => false

/-- The start epoch E_start (R560): the fabric tick count's low 16 bits where every entering lane agrees on it, else 1. -/
def Lane.eStart (l : Lane) : Half :=
  let low := l.fabTick % 65536
  let ok (x : LaneId) : Bool :=
    match (l.peerOf x).marker with | some m => m.synced && m.fabLow == low | none => false
  let entering := l.id.others.filter l.enteringPeer
  if l.synced && entering.all ok then BitVec.ofNat 16 low else 1

/-- A role that stands in the line (R127). -/
def roleInLine : Role → Bool | .standby | .follower => true | _ => false

/-- A lane is eligible for an axis in this tick (R127): by its marker of this tick and its published entry of the tick before. -/
def Lane.eligible (l : Lane) (n : AxisId) (x : LaneId) : Bool :=
  if x = l.id then l.start.state == .operate && !(l.ax n).absent && roleInLine (l.ax n).role
  else
    match (l.peerOf x).marker, (l.peerOf x).pubPrev with
    | some m, some p => m.state == .operate && (p.entries.get n).valid && roleInLine (p.entries.get n).role
    | _, _ => false

/-- The cyclic order of an axis: from the lane after the holder, or from AXIS[n].SUCCESSION where no lane held it (R127). -/
def Lane.order (l : Lane) (n : AxisId) : List LaneId :=
  let first : LaneId :=
    match (l.ax n).heldBy with
    | some h => h.next
    | none => LaneId.ofMod (l.cfg.axisSuccession n.val)
  [first, first.next, first.next.next]

/-- The line of an axis (R127). -/
def Lane.line (l : Lane) (n : AxisId) : List LaneId := (l.order n).filter (l.eligible n)

/-- The lane's own position in the line, counted from 1; 0 where it stands in none. -/
def Lane.position (l : Lane) (n : AxisId) : Nat :=
  match (l.line n).findIdx? (· == l.id) with | some i => i + 1 | none => 0

/-- The silence S of R131. -/
def Lane.silence (l : Lane) (n : AxisId) : Nat := l.tick.count - (l.ax n).lastRenew

/-- LEASE.LEN + LEASE.GUARD. -/
def Cfg.claimTime (c : Cfg) : Nat := c.leaseLen + c.leaseGuard

/-! ## Comparison -/

/-- The output limit of an axis times 1,000, Q16.16 (R123): IPEAK of a motor axis, the maximum coil current of a valve, 1.0 of the chopper. -/
def Cfg.outputLimitMilli (c : Cfg) (n : Nat) : Int :=
  match c.kind n with
  | .steer | .feel | .pump => c.axisIpeak n * 1000
  | .valve => (c.axisCoilImax n : Int) * 65536
  | .chopper => 65536 * 1000
  | .none => 0

/-- Two primary outputs lie within AXIS[n].ENDORSE.BAND of the output limit (R123). -/
def Cfg.inBand (c : Cfg) (n : Nat) (x y : Q) : Bool :=
  absI (x - y) * 1000000 ≤ (c.axisEndorseBand n : Int) * c.outputLimitMilli n

/-- The difference of two primary outputs in 0.1 % of the output limit (Table 5.10). -/
def Cfg.diffPermille (c : Cfg) (n : Nat) (x y : Q) : Int := roundDiv (absI (x - y) * 1000000) (maxI 1 (c.outputLimitMilli n))

/-- The published entry of another lane of this tick. -/
def Lane.entryNow (l : Lane) (x : LaneId) (n : AxisId) : Option PubEntry := (l.peerOf x).pub.map (·.entries.get n)

/-- The published entry of another lane of the tick before. -/
def Lane.entryPrev (l : Lane) (x : LaneId) (n : AxisId) : Option PubEntry := (l.peerOf x).pubPrev.map (·.entries.get n)

/-- A departure under the angle channel's own events waits while the observer carries, the lane borrows, or it re-catches; one under any other event does not (R301, R305). -/
def Lane.leaveWaits (l : Lane) (n : AxisId) : Bool :=
  let x := l.comm.get n
  (x.carry || x.borrow.isSome || x.recatch.isSome) &&
    !(l.col.held.any fun h => h.axes.contains n.val && !h.recovered && h.subj != .channel (l.cfg.axisCommAngleCh n.val))

/-- The lane's own checks of an axis passed in this tick (R121): neither COR-010 nor TIM-005 in it, no check of the engine failed, and no lockstep mismatch (DEDUCED from the example of chapter 1). -/
def Lane.ownChecks (l : Lane) (n : AxisId) : Bool :=
  !(l.ax n).absent && (!(l.ax n).leaving || l.leaveWaits n) && l.col.datapath.isNone && l.col.lockstep.isNone && l.tick.overPublish == 0 && !(l.out.get n).checksFail

/-! ## Witnesses and the last-lane rule -/

/-- A lane witness for another lane (R134). -/
def Lane.witness (l : Lane) (x : LaneId) : Bool :=
  match (l.peerOf x).lastMarker with | some m => m.state != .operate | none => false

/-- A departure witness for another lane and an axis (R134). -/
def Lane.departed (l : Lane) (x : LaneId) (n : AxisId) : Bool :=
  l.witness x || (match l.peerEntry x n with | some e => !e.valid | none => false)

/-- At least one of the lane's links delivers valid markers (R135). -/
def Lane.anyLink (l : Lane) : Bool := l.id.others.any fun x => (l.peerOf x).marker.isSome

/-- The last-lane rule applies to an axis that the lane holds or claims (R135). -/
def Lane.lastRule (l : Lane) (n : AxisId) : Bool :=
  ((l.ax n).role == .holder || (l.ax n).claim.isSome) && l.anyLink && l.id.others.all fun x => l.departed x n

/-- The lane endorses itself (R136). -/
def Lane.selfEndorsed (l : Lane) (n : AxisId) : Bool :=
  l.lastRule n && l.col.lockstep.isNone && l.ownChecks n && !(l.out.get n).mirage

/-! ## Publication (step 2) -/

/-- The front steer wheel-angle rate lies below LEASE.ROTATE.STEERRATE (R145). -/
def Lane.steerSlow (l : Lane) : Bool :=
  let c := l.cfg
  let n := c.steerFront
  let v := roundDiv (l.chSpeed (c.axisLoopVelCh n) * c.axisLoopVelScale n) 65536
  decide (absI v * 100 < (c.leaseRotateSteerrate : Int) * 65536)

/-- The axis is being re-caught on some lane, or holds a READY share not yet fired (R130). -/
def Lane.yieldBlocked (l : Lane) (n : AxisId) : Bool :=
  (l.out.get n).recatch || (l.car.armed.any fun a => a.shares.any fun s => s.1 == n.val) ||
  l.id.others.any fun x => match l.entryPrev x n with | some e => e.recatch | none => false

/-- A lane may be named successor of a yield of this tick (R128): eligible, and its entry of the tick before showed checks pass and an output in the band. -/
def Lane.successorOk (l : Lane) (n : AxisId) (x : LaneId) : Bool :=
  x != l.id && l.eligible n x &&
  (match l.entryPrev x n with
   | some e => e.checks && l.cfg.inBand n.val e.prim (l.ax n).primPrev
   | none => false)

/-- The successor that a holder which leaves the axis or yields it in sequence names: the first of the line that may be named. -/
def Lane.successor (l : Lane) (n : AxisId) : Option LaneId :=
  let line := if l.job.rg.yielded then (l.line n).filter fun x => (l.px.get x).jobs.switched else l.line n
  line.find? (l.successorOk n)

/-- The successor of a rotation: the first lane in the line, where it may be named (R145). -/
def Lane.rotateTo (l : Lane) (n : AxisId) : Option LaneId :=
  match (l.line n).filter (· != l.id) with
  | x :: _ => if l.successorOk n x then some x else none
  | [] => none

/-- A rotation acts in this tick (R145): at FULL or DUAL, and under TIMED only while the steering moves slowly. -/
def Lane.rotates (l : Lane) : Bool := decide (2 ≤ l.service) && (l.cfg.leaseRotateMode != 2 || l.steerSlow)

/-- The yield of this tick for an axis (R128, R130). A sequence is the holder's own: each holder yields one axis per tick in ascending order, and an axis that cannot yield yet holds back the later ones of that holder (DESIGN CHOICE: R145 and R130 do not say whether the order runs over the holders of a node). -/
def Lane.yieldNow (l : Lane) (n : AxisId) : Option LaneId :=
  let a := l.ax n
  if a.role = .holder ∧ a.counter ≠ 0 ∧ !l.yieldBlocked n then
    if a.leaving then l.successor n
    else if l.lease.yieldPlan.head? = some n.val then (if l.lease.rotating then (if l.rotates then l.rotateTo n else none) else l.successor n)
    else none
  else none

/-- The claim of the first tick of a node start (R72). -/
def Lane.firstClaim (l : Lane) (n : AxisId) : Bool :=
  l.lease.firstTick && l.cfg.hasAxis n.val && (l.line n).head? == some l.id

/-- The published entry of an axis (R121, Table 5.1). In ARMED bytes 1 to 15 are 0, so the field of the follower lane reads 0. -/
def Lane.pubEntry (l : Lane) (n : AxisId) : PubEntry :=
  let a := l.ax n
  if l.start.state = .operate then
    let o := l.out.get n
    { valid := l.cfg.hasAxis n.val && !a.absent, checks := l.ownChecks n, role := if a.absent then .absent else a.role
      claim := a.claim.isSome, yieldTo := a.yieldTo, follower := a.follower
      epoch := a.claim.getD a.epoch, counter := a.counterStart
      recatch := o.recatch, blend := o.blend, last := l.lastRule n, prim := satQ o.prim, sec := satQ o.sec }
  else if l.cfg.hasAxis n.val && !a.absent then { valid := true, role := .standby, follower := some .a }
  else { follower := some .a }

/-- The lane sends published outputs: in OPERATE, and in ARMED once READY (R121). -/
def Lane.sendsPub (l : Lane) : Bool := l.start.state == .operate || (l.start.state == .armed && l.start.ready)

/-- The published-output section of this tick. -/
def Lane.pubSection (l : Lane) : PubSection :=
  { service := l.service, entries := Tab.ofFn fun n => l.pubEntry n }

/-- The follower lane that a holder publishes differs from that of its entry of the tick before: LSE-009 (R162). -/
def Lane.noteFollower (l : Lane) (n : AxisId) : Lane :=
  let a := l.ax n
  let l := l.modAx n fun a => { a with follPub := a.follower }
  if l.start.state = .operate ∧ a.role = .holder ∧ a.follower ≠ a.follPub then
    (l.raise .lse009 (.axis n.val) (match a.follower with | some x => x.code | none => 3)).modAx n fun a =>
      { a with followChg := satInc 65535 a.followChg }
  else l

/-- Publication: the yields and first claims of the tick are decided and the published outputs stand for this tick (R121, R128, R72). -/
def Lane.publish (l : Lane) : Lane :=
  if l.lease.pubOut.isSome then l
  else if !l.sendsPub then l
  else
    let l :=
      if l.start.state = .operate then
        l.mapAx fun n a =>
          { a with yieldTo := l.yieldNow n
                   claim := if l.firstClaim n then some l.eStart else a.claim }
      else l
    let l := { l with lease := { l.lease with pubOut := some l.pubSection } }
    allAxes.foldl Lane.noteFollower l

/-! ## Endorsement (step 3) -/

/-- The lanes that claim an axis in this tick, by this lane's view, with their claimed epochs. -/
def Lane.claims (l : Lane) (n : AxisId) : List (LaneId × Half) :=
  LaneId.all.filterMap fun x =>
    if x = l.id then (l.ax n).claim.map fun e => (x, e)
    else match l.entryNow x n with
      | some p => if p.valid && p.claim then some (x, p.epoch) else none
      | none => none

/-- The claim that prevails (R129, R132): the named successor's, else the one earliest in the line. -/
def Lane.prevails (l : Lane) (n : AxisId) : Option (LaneId × Half) :=
  let cs := l.claims n
  match (l.ax n).yieldedTo.bind fun s => cs.find? (·.1 == s) with
  | some c => some c
  | none => (l.order n).findSome? fun x => cs.find? (·.1 == x)

/-- A claim is allowed at this tick and epoch under R72, R128, R129 or R131. -/
def Lane.claimAllowed (l : Lane) (n : AxisId) (x : LaneId) (e : Half) : Bool :=
  if l.lease.firstTick then e == l.eStart && (l.line n).head? == some x
  else e == (l.ax n).epoch + 1 && ((l.ax n).yieldedTo == some x || l.cfg.claimTime ≤ l.silence n)

/-- The lane gives endorsements for an axis: in OPERATE, not ABSENT, and of the protocol level of the others (R123, R538). -/
def Lane.mayEndorse (l : Lane) (n : AxisId) : Bool :=
  l.start.state == .operate && l.cfg.hasAxis n.val && !(l.ax n).absent && !l.lease.nonEndorsing

/-- A RENEW is given to another lane (R123). -/
def Lane.givesRenew (l : Lane) (n : AxisId) (x : LaneId) : Bool :=
  l.mayEndorse n && !l.lease.stopped &&
  (match l.entryNow x n with
   | some e => e.valid && e.checks && e.role == .holder && e.counter != 0 && !e.claim && e.epoch == (l.ax n).epoch &&
       l.cfg.inBand n.val e.prim (l.out.get n).prim
   | none => false)

/-- A CLAIM endorsement is given to another lane (R123, R132). -/
def Lane.givesClaim (l : Lane) (n : AxisId) (x : LaneId) : Bool :=
  l.mayEndorse n &&
  (match l.entryNow x n with
   | some e => e.valid && e.checks && e.claim && (l.prevails n).map (·.1) == some x && l.claimAllowed n x e.epoch &&
       l.cfg.inBand n.val e.prim (l.out.get n).prim
   | none => false)

/-- A lane meets the conditions of R162 in its entry of this tick. -/
def Lane.followerOk (l : Lane) (n : AxisId) (x : LaneId) : Bool :=
  x != l.id && l.eligible n x && !(l.ax n).ranOut.get x &&
  (match l.entryNow x n with
   | some e => e.valid && e.checks && roleInLine e.role && l.cfg.inBand n.val e.prim (l.out.get n).prim &&
       !((l.ax n).sawFollower.get x && e.epoch == (l.ax n).epoch && e.counter == 0)
   | none => false)

/-- The follower that the holder of a PAIR axis picks and grants in this tick (R125, R162, R164). -/
def Lane.followPick (l : Lane) (n : AxisId) : Option LaneId :=
  let a := l.ax n
  if l.start.state = .operate ∧ l.cfg.axisShare n.val = 1 ∧ l.cfg.motor n.val ∧ a.role = .holder ∧ a.counterStart ≠ 0 ∧
      a.yieldTo = none ∧ 2 ≤ l.axisLevel n ∧ !l.lease.stopped then
    (l.line n).find? (l.followerOk n)
  else none

/-- The endorsement entries of an axis in this tick (R122). -/
def Lane.endorsesOf (l : Lane) (n : AxisId) : List Endorse :=
  let c := l.tick.count
  let one (x : LaneId) : List Endorse :=
    match l.entryNow x n with
    | some e =>
      if l.givesRenew n x then [⟨.renew, x, e.epoch, c⟩] else if l.givesClaim n x then [⟨.claim, x, e.epoch, c⟩] else []
    | none => []
  l.id.others.flatMap one ++
  (match l.followPick n with | some x => [⟨.follow, x, (l.ax n).epoch, c⟩] | none => [])

/-- Step 3: the endorsements of this tick are formed from what arrived until now (R122, R123). -/
def Lane.endorse (l : Lane) : Lane :=
  if l.lease.endsOut.isSome then l
  else if l.start.state = .operate then
    { l with lease := { l.lease with endsOut := some (Tab.ofFn fun n => l.endorsesOf n) } }
  else l

/-- The endorsements for an axis received from a lane that name the present tick, translated (R34, R124). -/
def Lane.endsFrom (l : Lane) (n : AxisId) (x : LaneId) : List Endorse :=
  match (l.peerOf x).ends, (l.peerOf x).diff with
  | some t, some d => (t.get n).filter fun i => i.count % 2 ^ 32 == toField 32 ((l.tick.count : Int) + d)
  | _, _ => []

/-- An endorsement received in this tick that names a lane. -/
def Lane.endorsedBy (l : Lane) (n : AxisId) (x : LaneId) (ty : EndType) (s : LaneId) (e : Half) : Bool :=
  (l.endsFrom n x).any fun i => i.ty == ty && i.subject == s && i.epoch == e

/-- Some other lane endorses this lane (R124). -/
def Lane.endorsed (l : Lane) (n : AxisId) (ty : EndType) (e : Half) : Bool :=
  l.id.others.any fun x => l.endorsedBy n x ty l.id e

/-! ## Counters -/

/-- The epoch register written: the counter clears (R118). -/
def AxisLease.writeEpoch (a : AxisLease) (e : Half) : AxisLease :=
  { a with epoch := e, counter := 0, fresh := true, followLoaded := false, ranOut := PerLane.fill false
           sawFollower := PerLane.fill false }

/-- The counter accepts a load of an epoch (R118). -/
def AxisLease.accepts (a : AxisLease) (e : Half) : Bool := e == a.epoch && (a.counter != 0 || a.fresh)

/-- A load of a counter, which raises LSE-005 where it is refused (R118). -/
def Lane.load (l : Lane) (n : AxisId) (e : Half) : Lane :=
  if (l.ax n).accepts e then l.modAx n fun a => { a with counter := l.cfg.leaseLen, fresh := false }
  else l.raise .lse005 (.axis n.val) e.toNat

/-- The lane that holds an axis changed, by an endorsed claim (R126, R145, R149). What any lane carried of the profile belongs to an earlier holding (R204). -/
def Lane.heldByNow (l : Lane) (n : AxisId) (x : LaneId) : Lane :=
  let a := l.ax n
  let planned := a.yieldedTo == some x
  let contested := 1 < (l.claims n).length
  let first := l.lease.firstTick
  let l := { l with px := l.px.mapL fun _ p => { p with prof := p.prof.set n none } }
  let l := l.modAx n fun a =>
    { a with
      heldBy := some x, former := if a.heldBy = some x then a.former else a.heldBy, lastRenew := l.tick.count, yieldedTo := none, named := false, lse006 := false
      heldSince := l.tick.count
      handover := if first then a.handover else if contested then 3 else if planned then 1 else 2
      handoverGap := if first then a.handoverGap else min a.gap 255 }
  if first then l
  else
    { l with lease := { l.lease with
        planned := l.lease.planned + b2n planned
        unplanned := l.lease.unplanned + b2n (!planned) } }

/-- Stand-down at an endorsed claim of another lane (R132). -/
def Lane.standDown (l : Lane) (n : AxisId) (x : LaneId) (e : Half) : Lane :=
  let a := l.ax n
  let l := l.heldByNow n x
  if e = a.epoch then l
  else
    let l := l.modAx n fun a => { a.writeEpoch e with role := if a.absent then .absent else .standby, leaving := false
                                                      absentFault := a.absentFault || a.leaving, yieldTo := none, forceZero := false }
    if a.role = .holder then l.raise .lse007 (.axis n.val) e.toNat else l

/-- The claims of other lanes that a third lane endorsed in what it sent: its endorsement names claimant and epoch, whether or not the claimant's own entry arrived (R131, R132). -/
def Lane.claimsEndorsed (l : Lane) (n : AxisId) : List (LaneId × Half) :=
  l.id.others.flatMap fun x => (l.endsFrom n x).filterMap fun i =>
    if i.ty == .claim && i.subject != l.id && i.subject != x then some (i.subject, i.epoch) else none

/-- A claim of another lane of this tick that some lane endorsed: this one, or the third one (R132). -/
def Lane.endorsedClaim (l : Lane) (n : AxisId) : Option (LaneId × Half) :=
  match (l.claims n).find? fun c => c.1 != l.id && l.givesClaim n c.1 with
  | some c => some c
  | none => (l.claimsEndorsed n).head?

/-! ## Step 4 -/

/-- What the lane observes of an axis from the entries of this tick: its holder, yields, followers that ran out (R127, R129, R162). -/
def Lane.observe (l : Lane) (n : AxisId) : Lane :=
  l.id.others.foldl (fun l x =>
    match l.entryNow x n with
    | none => l
    | some e =>
      l.modAx n fun a =>
        let same := e.valid && !e.claim && e.epoch == a.epoch
        let a := if same && e.role == .holder then { a with heldBy := some x } else a
        let a := if same && e.role == .holder && e.yieldTo.isSome then
            { a with yieldedTo := e.yieldTo, yieldFault := !e.checks, lastRenew := l.tick.count, named := e.yieldTo == some l.id
                     forceZero := a.forceZero || a.role == .follower }
          else a
        let saw := a.sawFollower.get x
        let a := if same && saw && e.counter == 0 then { a with ranOut := a.ranOut.set x true } else a
        if same && e.role == .follower then { a with sawFollower := a.sawFollower.set x true } else a) l

/-- The holder's, follower's and claimant's decision of step 4 for an axis (R124, R125, R128, R136). -/
def Lane.leaseDecide (l : Lane) (n : AxisId) : Lane :=
  let a := l.ax n
  let self := l.selfEndorsed n
  match a.role, a.claim with
  | .holder, _ =>
    if a.yieldTo.isSome then
      l.modAx n fun a => { a with forceZero := true, yieldedTo := a.yieldTo, lastRenew := l.tick.count }
    else if l.ownChecks n && !l.lease.stopped && (l.endorsed n .renew a.epoch || self) then
      (l.load n a.epoch).modAx n fun a => { a with lastRenew := l.tick.count }
    else l
  | .follower, none =>
    let byHolder := match a.heldBy with | some h => h != l.id && l.endorsedBy n h .follow l.id a.epoch | none => false
    if l.ownChecks n && byHolder && !a.forceZero then
      (l.load n a.epoch).modAx n fun a => { a with followLoaded := true }
    else l
  | .standby, none =>
    let byHolder := match a.heldBy with | some h => h != l.id && l.endorsedBy n h .follow l.id a.epoch | none => false
    if l.ownChecks n && byHolder && l.cfg.axisShare n.val = 1 then
      (l.load n a.epoch).modAx n fun a => { a with followLoaded := a.fresh == false && a.counter != 0 }
    else l
  | .absent, none => l
  | _, some e =>
    if (l.prevails n).map (·.1) ≠ some l.id then
      (l.raise .lse004 (.axis n.val) e.toNat).modAx n fun a => { a with claim := none }
    else if l.endorsed n .claim e || self then
      let unplanned := !l.lease.firstTick && a.yieldedTo != some l.id
      let l := l.heldByNow n l.id
      let l := l.modAx n fun a => { a.writeEpoch e with role := .holder, follower := none, lse003 := unplanned }
      l.load n e
    else if a.named && !a.lse006 then
      (l.raise .lse006 (.axis n.val) e.toNat).modAx n fun a => { a with lse006 := true }
    else l

/-- Another lane's RENEW of the axis at the epoch in force was received, or one was given (R131). -/
def Lane.renewSeen (l : Lane) (n : AxisId) : Bool :=
  let e := (l.ax n).epoch
  (match l.lease.endsOut with
   | some t => (t.get n).any fun i => i.ty == .renew && i.epoch == e
   | none => false) ||
  l.id.others.any fun x => LaneId.all.any fun s => l.endorsedBy n x .renew s e

/-- The holder's published output of a tick in which this lane gives it no RENEW (R123). -/
def Lane.withholds (l : Lane) (n : AxisId) : Option Q :=
  let gave := match l.lease.endsOut with | some t => (t.get n).any (·.ty == .renew) | none => false
  if l.start.state = .operate ∧ !(l.ax n).absent ∧ !gave then
    l.id.others.findSome? fun x => match l.entryNow x n with | some e => if e.role == .holder then some e.prim else none | none => none
  else none

/-- The count of withheld RENEWs (R123). -/
def Lane.countWithheld (l : Lane) (n : AxisId) : Lane :=
  match l.withholds n with
  | some q =>
    let l := l.modAx n fun a =>
      { a with withheld := satInc 255 a.withheld, diff := l.cfg.diffPermille n.val q (l.out.get n).prim }
    { l with lease := { l.lease with withheldTotal := satInc (2 ^ 32 - 1) l.lease.withheldTotal } }
  | none => l.modAx n fun a => { a with withheld := 0, lse002 := false }

/-- An axis drew no drive in this tick, as far as this lane can tell (R149): after a yield, after LEASE.LEN of silence, or where the holder's counter reads 0. -/
def Lane.undriven (l : Lane) (n : AxisId) : Bool :=
  let a := l.ax n
  if a.role = .holder ∧ a.counterStart ≠ 0 then false
  else a.yieldedTo.isSome || l.cfg.leaseLen ≤ l.silence n ||
    (match a.heldBy with
     | some h => (match l.entryNow h n with | some e => e.counter == 0 | none => false)
     | none => false)

/-- The axis shows an orphan's signs in this tick (R420). -/
def Lane.orphanNow (l : Lane) (n : AxisId) : Bool :=
  let a := l.ax n
  let es := l.id.others.filterMap fun x => l.entryNow x n
  l.start.state == .operate && l.cfg.hasAxis n.val && a.counterStart == 0 && es.all (·.counter == 0) &&
    (!a.absent || es.any (·.valid))

/-- A lane that returns to an axis stays STANDBY if its own checks pass in the tick; where they fail it is ABSENT in the next, and tries again in the one after (R415; DESIGN CHOICE: the manual names no second try). -/
def Lane.returnCheck (l : Lane) (n : AxisId) : Lane :=
  let a := l.ax n
  if !a.returning then l
  else if a.absentFault then l.modAx n fun a => { a with absentFault := false, role := .standby }
  else if l.ownChecks n then l.modAx n fun a => { a with returning := false }
  else l.modAx n fun a => { a with absentFault := true, role := .absent }

/-- Step 4 of an axis (R124). -/
def Lane.stepAxis (l : Lane) (n : AxisId) : Lane :=
  let gap := l.undriven n
  let orphan := l.orphanNow n
  let pick := l.followPick n
  let l := l.modAx n fun a =>
    { a with gap := if gap then satInc 255 a.gap else 0
             orphan := if orphan then satInc 65535 a.orphan else 0
             lse010 := orphan && a.lse010
             followLoaded := false, gaveFollow := pick.isSome }
  let l := l.countWithheld n
  let start := l.lease.firstTick && l.start.state == .operate && !(l.ax n).absent && l.cfg.hasAxis n.val
  let l := if start then l.modAx n fun a => a.writeEpoch l.eStart else l
  let l := l.observe n
  let l := if l.renewSeen n then l.modAx n fun a => { a with lastRenew := l.tick.count } else l
  let other := l.endorsedClaim n
  let l := if l.start.state == LState.operate && !(l.ax n).absent then l.leaseDecide n else l
  let l : Lane := match other with
    | some (x, e) => if (l.ax n).role == .holder && (l.ax n).claim == some e then l else l.standDown n x e
    | none => l
  l.modAx n fun a => { a with follower := if a.role = Role.holder then pick else none }

/-- Axes of the yield sequence that this lane no longer holds, or whose yield was published, leave it (R130). -/
def Lane.advancePlan (l : Lane) : Lane :=
  let keep (i : Nat) : Bool := if h : i < 12 then (l.ax ⟨i, h⟩).role == .holder && (l.ax ⟨i, h⟩).yieldTo.isNone else false
  let plan := l.lease.yieldPlan.filter keep
  { l with lease := { l.lease with yieldPlan := plan, rotating := l.lease.rotating && !plan.isEmpty } }

/-- Step 4 of the tick: the lease unit's decisions on every axis (Table 1.4). -/
def Lane.leaseStep (l : Lane) : Lane :=
  let l := (l.publish).endorse
  let given := match l.lease.endsOut with
    | some t => countTrue (allAxes.map fun n => !(t.get n).isEmpty) | none => 0
  let l := { l with lease := { l.lease with given := given } }
  let e := l.eStart
  let l := if l.lease.firstTick then { l with lease := { l.lease with eStart := e } } else l
  let l := allAxes.foldl Lane.returnCheck (allAxes.foldl Lane.stepAxis l)
  l.advancePlan

/-- Step 7 at the boundary of the next tick: counters decrement or are forced to zero, roles follow (R117, R119, R124, R128, R163, R401). -/
def Lane.boundaryLease (l : Lane) : Lane :=
  let due := allAxes.filter fun n => (l.ax n).lse003
  let l := l.mapAx fun n a =>
    let c := if a.forceZero then 0 else a.counter - 1
    let role :=
      if a.yieldTo.isSome then Role.standby
      else if a.followLoaded && a.role == .standby then .follower
      else if a.role == .follower && c == 0 then .standby
      else if a.role == .holder && c == 0 && l.lease.stopped then .standby
      else a.role
    let gone := a.leaving && c == 0 && a.counterStart == 0 && role != .holder
    { a with
      counter := c, counterStart := c, forceZero := false, claim := none, yieldTo := none, lse003 := false
      primPrev := satQ (l.out.get n).prim, halved := a.gaveFollow
      followLoaded := a.followLoaded && c != 0
      absentFault := a.absentFault || gone, leaving := a.leaving && !gone
      role := if gone then .absent else role }
  let l := { l with lease := { l.lease with firstTick := false, pubOut := none, endsOut := none } }
  due.foldl (fun l n => l.raise .lse003 (.axis n.val) (l.ax n).epoch.toNat) l

/-! ## The rows of chapter 5 -/

/-- A holder's counter reached zero without renewal (R124): LSE-001, the lane leaves the holder role. -/
def Lane.leaseExpiry (l : Lane) (n : AxisId) : Lane :=
  let a := l.ax n
  if l.start.state = .operate ∧ a.role = .holder ∧ a.counter = 0 ∧ !l.lease.stopped then
    (l.raise .lse001 (.axis n.val) a.epoch.toNat).modAx n fun a =>
      { a with role := .standby }
  else l

/-- RENEW withheld for LEASE.LEN ticks, the present one included: raised at its close (R123, R585). -/
def Lane.renewWithheld (l : Lane) (n : AxisId) : Lane :=
  match ((l.publish).endorse).withholds n with
  | some q =>
    if l.cfg.leaseLen ≤ (l.ax n).withheld + 1 ∧ !(l.ax n).lse002 then
      (l.raise .lse002 (.axis n.val) (l.cfg.diffPermille n.val q (l.out.get n).prim)).modAx n fun a => { a with lse002 := true }
    else l
  | none => l

/-- The lane may claim an axis in this tick: in OPERATE, eligible, with no claim or yield pending. -/
def Lane.mayClaim (l : Lane) (n : AxisId) : Bool :=
  l.cfg.hasAxis n.val && l.eligible n l.id && (l.ax n).claim.isNone && !l.lease.firstTick && l.lease.pubOut.isNone && !l.lease.stopped

/-- An unplanned claim (R131). -/
def Lane.unplannedClaim (l : Lane) (n : AxisId) : Lane :=
  let p := l.position n
  if l.mayClaim n ∧ p ≠ 0 ∧ p * l.cfg.claimTime ≤ l.silence n then
    l.modAx n fun a => { a with claim := some (a.epoch + 1) }
  else l

/-- The named successor's claim (R128, R129). -/
def Lane.successorClaim (l : Lane) (n : AxisId) : Lane :=
  if l.mayClaim n ∧ (l.ax n).named then l.modAx n fun a => { a with claim := some (a.epoch + 1) } else l

/-- The axis is seen orphaned for 3 × (LEASE.LEN + LEASE.GUARD) ticks, at the close of the last of them (R420). -/
def Lane.orphaned (l : Lane) (n : AxisId) : Bool := 3 * l.cfg.claimTime ≤ (l.ax n).orphan

/-- LSE-010 in the tick whose close completes the count (R420, R585). -/
def Lane.axisOrphaned (l : Lane) (n : AxisId) : Lane :=
  let k := (l.ax n).orphan + 1
  if l.orphanNow n ∧ 3 * l.cfg.claimTime ≤ k ∧ !(l.ax n).lse010 then
    (l.raise .lse010 (.axis n.val) k).modAx n fun a => { a with lse010 := true }
  else l

/-- The axes of an image that this lane holds, in ascending order. -/
def Lane.held (l : Lane) : List AxisId := allAxes.filter fun n => (l.ax n).role == .holder

/-- The axes that a rotation which falls due concerns (R145). -/
def Lane.rotateAxes (l : Lane) : List AxisId :=
  let c := l.cfg
  l.held.filter fun n =>
    c.axisRotate n.val &&
    (match c.leaseRotateMode with
     | 1 => 80000 ≤ l.lease.stillRun && !l.lease.rotated && decide (l.lease.stillRun - 80000 ≤ l.tick.count - (l.ax n).heldSince)
     | 2 => c.leaseRotatePeriod * 40000 ≤ l.tick.count - (l.ax n).heldSince
     | _ => false)

/-! ## Health -/

/-- The held-axis mask: axes this lane holds. -/
def Lane.heldMask (l : Lane) : Nat := l.held.foldl (fun m n => m + 2 ^ n.val) 0

/-- A link direction is up: it has delivered a marker and is not declared down (R20, R61). -/
def Lane.linkUp (l : Lane) (x : LaneId) : Bool := (l.peerOf x).everUp && !(l.peerOf x).down

/-- The witnesses of byte 45 (Table 5.7), and no lane link up (R20). -/
def Lane.witnessByte (l : Lane) : Nat :=
  (l.id.others.filter l.witness).foldl (fun m x => m + 2 ^ x.code) (if l.id.others.any l.linkUp then 0 else 8)

/-- The lowest-numbered failing marver group; 0 none. -/
def Marver.lowest (m : Marver) : Nat := ((List.range 8).find? fun i => m.failing.testBit i).elim 0 (· + 1)

/-- The health word (R146, Table 5.6). -/
def Lane.healthWord (l : Lane) : Word :=
  BitVec.ofNat 32
    (l.start.state.code * 2 ^ 28 + l.worstUnacked * 2 ^ 25 + l.service * 2 ^ 23 + l.lease.marver.count % 128 * 2 ^ 16 +
     l.heldMask % 256 * 2 ^ 8 + min l.lease.given 15 * 16 + l.lease.marver.lowest)

/-- The role of an axis as reported: ABSENT outside OPERATE (R23). -/
def Lane.roleOf (l : Lane) (n : AxisId) : Role :=
  if l.start.state = .operate ∧ l.cfg.hasAxis n.val ∧ !(l.ax n).absent then (l.ax n).role else .absent

/-- The roles, 2 bits per axis (Table 5.7). -/
def Lane.roles (l : Lane) : Nat := allAxes.foldl (fun m n => m + (l.roleOf n).code * 4 ^ n.val) 0

/-- The health report (R147, Table 5.7). -/
def Lane.healthReport (l : Lane) : List Byte :=
  let m := l.lease.marver
  let body :=
    beBytes 4 l.healthWord.toNat ++ beBytes 4 (l.tick.count % 2 ^ 32) ++ [byteOf l.start.state.code, byteOf l.service] ++
    beBytes 3 l.roles ++ [0] ++ (allAxes.flatMap fun n => beBytes 2 (l.ax n).epoch.toNat) ++ beBytes 2 l.heldMask ++
    beBytes 2 m.count ++ beBytes 2 m.time ++ [byteOf m.failing, byteOf l.witnessByte] ++ [0, 0] ++
    beBytes 4 l.lease.withheldTotal ++ beBytes 2 (min l.lease.planned 65535) ++ beBytes 2 (min l.lease.unplanned 65535) ++ [0, 0, 0, 0]
  body ++ beBytes 4 (crc32c body)

/-! ## Layout of the sections -/

/-- The 16 bytes of a published-output entry (Table 5.1). -/
def PubEntry.bytes (e : PubEntry) (i : Nat) : List Byte :=
  let b0 := b2n e.valid * 128 + b2n e.checks * 64 + e.role.code * 16 + i % 16
  let succ := match e.yieldTo with | some x => x.code | none => 0
  let foll := match e.follower with | some x => x.code | none => 3
  let b1 := b2n e.claim * 128 + b2n e.yieldTo.isSome * 64 + succ * 16 + foll * 4
  let b5 := b2n e.recatch * 128 + b2n e.blend * 64 + b2n e.last * 32
  [byteOf b0, byteOf b1] ++ beBytes 2 e.epoch.toNat ++ [byteOf e.counter, byteOf b5, 0, 0] ++
    beBytes 4 (toField 32 e.prim) ++ beBytes 4 (toField 32 e.sec)

/-- The 200 bytes of the published-output section with its CRC (Table 1.3, R121). -/
def PubSection.bytes (p : PubSection) (sender : LaneId) : List Byte :=
  let body := [byteOf sender.code, byteOf p.service, 0, 0] ++
    (allAxes.flatMap fun n => (p.entries.get n).bytes n.val)
  body ++ beBytes 4 (crc32c body)

/-- The 8 bytes of an endorsement entry (Table 5.2). -/
def Endorse.bytes (e : Endorse) (i : Nat) : List Byte :=
  let ty := match e.ty with | .renew => 0 | .claim => 1 | .follow => 2
  [byteOf (128 + ty * 32 + i % 16), byteOf e.subject.code] ++ beBytes 2 e.epoch.toNat ++ beBytes 4 (e.count % 2 ^ 32)

end Sys2Proof.Machine
end

