-- ==== Sys2Proof/Machine/Fabric.lean ====
section
/-! DEFINITION. The fabric block: frames, forwarding and routing, ports and discovery, fabric time, SAFE frames (chapter 17). -/

namespace Sys2Proof.Machine

/-! ## Frames -/

/-- The largest frame of a class, destination address to FCS (Table 17.4); none for a reserved class. -/
def fabMax : Nat → Option Nat
  | 0 => some 70 | 1 => some 230 | 2 => some 256 | 3 => some 938 | 4 => some 938 | 5 => some 64 | _ => none

/-- Egress priority of a class, lower first (Table 17.4). -/
def fabPrio : Nat → Nat
  | 0 => 1 | 2 => 2 | 1 => 3 | 5 => 4 | 3 => 5 | _ => 6

/-- The order in which a port sends frames: by priority, ABORT ahead within COMMIT (R460, R492). -/
def FabFrame.rank (f : FabFrame) : Nat := 2 * fabPrio f.cls + (if f.cls = 2 ∧ f.payload.head? ≠ some 4 then 1 else 0)

/-- Bytes from destination address to FCS. -/
def FabFrame.size (f : FabFrame) : Nat := 38 + max f.payload.length 26

/-- Bytes on the wire, with preamble, start delimiter and interframe gap. -/
def FabFrame.wire (f : FabFrame) : Nat := f.size + 20

/-- A frame that crosses one link only: TIME and HELLO. -/
def FabFrame.local_ (f : FabFrame) : Bool := f.cls == 0 || (f.cls == 5 && f.payload.head? == some 1)

/-- The Dravun header (Table 17.3). -/
def FabFrame.header (f : FabFrame) (plane : Nat) : List Byte :=
  [byteOf (16 + f.cls), byteOf (64 * plane + f.src), byteOf f.dst, byteOf f.hop] ++ beBytes 2 f.seq ++ beBytes 2 f.payload.length ++
  beBytes 4 f.stamp ++ beBytes 2 f.epoch ++ [0, 0]

/-- The bytes of a frame (Table 17.2); a frame that a forwarder ended shows an inverted FCS (R459). -/
def FabFrame.bytes (f : FabFrame) (plane : Nat) : List Byte :=
  let body := f.header plane ++ f.payload ++ List.replicate (26 - f.payload.length) 0
  let head := [0x03, 0xD5, 0x00, byteOf plane, 0, 0, 0x02, 0xD5, 0x00, byteOf plane, byteOf f.src, byteOf f.port, 0x88, 0xB5] ++
    body ++ beBytes 4 (crc32c body)
  head ++ leBytes 4 (if f.bad then crc32 head ^^^ 0xFFFFFFFF else crc32 head)

/-- The header checks of R452: none where one fails; else the frame, and whether its end-to-end check and FCS hold. -/
def fabParse (plane : Nat) (bs : List Byte) : Option (FabFrame × Bool) :=
  let b (i : Nat) : Nat := (bs.getD i 0).toNat
  let n := bs.length
  let cls := b 14 % 16
  let len := b 20 * 256 + b 21
  if n < 64 ∨ slice bs 0 6 ≠ [0x03, 0xD5, 0x00, byteOf plane, 0, 0] ∨ slice bs 12 2 ≠ [0x88, 0xB5] ∨ b 14 / 16 ≠ 1 ∨
     b 15 / 64 ≠ plane ∨ n ≠ 38 + max len 26 ∨ b 17 = 0 then none
  else
    match fabMax cls with
    | none => none
    | some m =>
      if m < n then none
      else
        let body := slice bs 14 (n - 22)
        let good := beNat (slice bs (n - 8) 4) == crc32c body && leNat (slice bs (n - 4) 4) == crc32 (bs.take (n - 4))
        some ({ cls := cls, src := b 15 % 64, dst := b 16 % 64, hop := b 17, seq := beNat (slice bs 18 2), stamp := beNat (slice bs 22 4)
                epoch := beNat (slice bs 26 2), port := b 11, payload := slice bs 30 len }, good)

/-! ## Topology -/

/-- The own node ID. -/
def Lane.node (l : Lane) : Nat := l.cfg.laneImageNodeid

/-- FABRIC.TOPO.ORDER as numbers. -/
def Cfg.order (c : Cfg) : List Nat := c.fabricTopoOrder.map Int.toNat

/-- The plane is a ring. -/
def Cfg.ring (c : Cfg) : Bool := c.fabricTopoKind == 1

/-- A node's place in the order. -/
def Cfg.place (c : Cfg) (node : Nat) : Option Nat := c.order.findIdx? (· == node)

/-- The number of links the order implies. -/
def Cfg.linkCount (c : Cfg) : Nat := if c.ring then c.order.length else c.order.length - 1

/-- The expected neighbour of a port (R447, R462); none where the port is OFF. -/
def Cfg.expected (c : Cfg) (port : PortId) : Option Nat :=
  match c.place c.laneImageNodeid with
  | none => none
  | some i =>
    let n := c.order.length
    if port = 1 then (if i + 1 < n then c.order[i + 1]? else if c.ring then c.order[0]? else none)
    else (if 0 < i then c.order[i - 1]? else if c.ring then c.order[n - 1]? else none)

/-- The link a port of a node ends. -/
def Cfg.linkOf (c : Cfg) (node port : Nat) : Option Nat :=
  match c.place node with
  | none => none
  | some i =>
    let n := c.order.length
    if port = 1 then (if i < c.linkCount then some i else none)
    else if 0 < i then some (i - 1) else if c.ring then some (n - 1) else none

/-- One port changed. -/
def Lane.modPort (l : Lane) (p : PortId) (f : FabPort → FabPort) : Lane :=
  { l with fab := { l.fab with ports := l.fab.ports.modify p f } }

/-- The divisor D of R471. -/
def Cfg.divisor (c : Cfg) : Nat :=
  let m := c.order.foldl max 0
  if m ≤ 24 then 1 else if m ≤ 46 then 2 else 4

/-- The fabric block started as the image is accepted (R447, R450, R457). -/
def Lane.freshFab (l : Lane) : Lane :=
  let c := l.cfg
  let port (p : PortId) : FabPort := { state := if l.node = 0 ∨ (c.expected p).isNone then 0 else 1 }
  let up := List.replicate c.linkCount true
  { l with fab := { running := true, ports := Tab.ofFn port, links := up, routes := up, bound := 16 * (l.clk : Int), count := l.fabTick
                    valid := true, holdover := true } }

/-! ## Egress -/

/-- A frame may end at the given byte time of a tick of `len` clocks: SERVICE and BULK end at least 6.00 µs before the boundary, COMMIT and DISCOVER 0.10 µs; TIME and SAFE are not held (R460, R492). -/
def FabFrame.fits (f : FabFrame) (len ends : Nat) : Bool :=
  match f.cls with
  | 2 | 5 => decide (ends ≤ (len - 40) * 25 / 32)
  | 3 | 4 => decide (ends ≤ (len - 2400) * 25 / 32)
  | _ => true

/-- A frame put on the wire. -/
def FabPort.transmit (p : FabPort) (start : Nat) (f : FabFrame) : FabPort :=
  { p with busy := start + f.wire, load := p.load + f.wire, sent := p.sent ++ [f] }

/-- A frame put into a queue in the order of R460. -/
def enqueue (f : FabFrame) : List FabFrame → List FabFrame
  | [] => [f]
  | g :: gs => if f.rank < g.rank then f :: g :: gs else g :: enqueue f gs

/-- The first frame of a queue that may start at a byte time; a frame that may not holds back its own class (R460). -/
def nextFrame (len start : Nat) : List FabFrame → List Nat → Option FabFrame
  | [], _ => none
  | f :: fs, held => if !held.contains f.cls && f.fits len (start + f.wire) then some f else nextFrame len start fs (f.cls :: held)

/-- The waiting frames that start up to a byte time, each as the port becomes free for it (R460). -/
def FabPort.pump (now len : Nat) : Nat → FabPort → FabPort
  | 0, p => p
  | k + 1, p =>
    if now < p.busy then p
    else
      match nextFrame len p.busy p.queue [] with
      | some f => FabPort.pump now len k (({ p with queue := p.queue.erase f }).transmit p.busy f)
      | none => { p with busy := now }

/-- What the port has sent by a byte time of a tick of `len` clocks. -/
def FabPort.run (p : FabPort) (now len : Nat) : FabPort := FabPort.pump now len (p.queue.length + 1) p

/-- A frame offered to a port at a byte time: it waits in its place, and starts at once where the port is free for it; a SERVICE or BULK frame that finds the queue full is discarded (R460). -/
def FabPort.offer (p : FabPort) (now len : Nat) (f : FabFrame) : FabPort :=
  let p := p.run now len
  if (f.cls = 3 ∨ f.cls = 4) ∧ now < p.busy ∧ 16384 < f.size + p.queue.foldl (fun s g => s + g.size) 0 then { p with drops := satInc 4294967295 p.drops }
  else ({ p with queue := enqueue f p.queue }).run now len

/-- The byte time of the lane's position in the tick. -/
def Lane.byteTime (l : Lane) : Nat := (l.now * 25 + 31) / 32

/-- A port sends frames that cross the plane: it is UP, or VERIFYING with link (R462). -/
def FabPort.carries (p : FabPort) : Bool := p.phy && (p.state == 3 || p.state == 2)

/-- A SERVICE or BULK frame discarded for want of a way (R456). -/
def Lane.fabDrop (l : Lane) : Lane := l.modPort 1 fun p => { p with drops := satInc 4294967295 p.drops }

/-- The links of the way from a place over DP1, or over DP0, to another place. -/
def Cfg.way (c : Cfg) (dp1 : Bool) (i j : Nat) : List Nat :=
  let n := c.order.length
  if dp1 then (List.range ((j + n - i) % n)).map fun k => (i + k) % n
  else (List.range ((i + n - j) % n)).map fun k => (i + n - 1 - k) % n

/-- The ports and hop limits for a frame of a class to a destination (R455, R456); empty where there is no way. -/
def Lane.ways (l : Lane) (cls dst : Nat) : List (PortId × Nat) :=
  let c := l.cfg
  let n := c.order.length
  match c.place l.node with
  | none => []
  | some i =>
    if c.ring then
      if (cls = 3 ∨ cls = 4) ∧ dst ≠ 63 then
        match c.place dst with
        | none => []
        | some j =>
          let w1 := c.way true i j
          let w0 := c.way false i j
          let open_ (w : List Nat) : Bool := w.all fun k => l.fab.routes.getD k false
          let first1 := w1.length ≤ w0.length
          if first1 then (if open_ w1 then [(1, w1.length)] else if open_ w0 then [(0, w0.length)] else [])
          else (if open_ w0 then [(0, w0.length)] else if open_ w1 then [(1, w1.length)] else [])
      else [(0, n - 1), (1, n - 1)]
    else if dst = 63 then (if 0 < i then [((0 : PortId), i)] else []) ++ (if i + 1 < n then [((1 : PortId), n - 1 - i)] else [])
    else
      match c.place dst with
      | none => []
      | some j => if j < i then [(0, i - j)] else if i < j then [(1, j - i)] else []

/-- A new frame of the own node with the next sequence of its class (R453). -/
def Lane.newFrame (l : Lane) (cls dst : Nat) (payload : List Byte) : Lane × FabFrame :=
  let seq := l.fab.seqs.getD cls 0
  let f : FabFrame :=
    { cls := cls, src := l.node, dst := dst, hop := 1, seq := seq, stamp := l.fabTick % 2 ^ 32, epoch := l.fab.epoch, payload := payload }
  ({ l with fab := { l.fab with seqs := if h : cls < 6 then l.fab.seqs.set ⟨cls, h⟩ ((seq + 1) % 65536) else l.fab.seqs } }, f)

/-- A frame that crosses the plane, sent on every way R455 and R456 give. -/
def Lane.fabSend (l : Lane) (cls dst : Nat) (payload : List Byte) : Lane :=
  if !l.fab.running || l.node == 0 then l
  else
    let (l, f) := l.newFrame cls dst payload
    let ws := l.ways cls dst
    if ws.isEmpty ∧ (cls = 3 ∨ cls = 4) then l.fabDrop
    else ws.foldl (fun l w => l.modPort w.1 fun p =>
      if p.carries then p.offer l.byteTime l.tickLen { f with hop := w.2, port := w.1.val } else p) l

/-- A frame for one link. -/
def Lane.fabSendLink (l : Lane) (p : PortId) (cls : Nat) (payload : List Byte) : Lane :=
  let (l, f) := l.newFrame cls 63 payload
  l.modPort p fun q => q.offer l.byteTime l.tickLen { f with port := p.val }

/-! ## Reception and forwarding -/

/-- A frame error counted (R452). -/
def FabPort.error (p : FabPort) : FabPort := { p with errNow := p.errNow + 1, errors := satInc 4294967295 p.errors }

/-- The other port. -/
def otherPort (p : PortId) : PortId := if p = 0 then 1 else 0

/-- The conditions of R454 for forwarding, but for the checks of the frame. -/
def Lane.forwards (l : Lane) (p : PortId) (f : FabFrame) : Bool :=
  f.dst != l.node && 1 < f.hop && (l.fab.ports.get (otherPort p)).state == 3 && !f.local_

/-- The frame forwarded (R454): only the hop limit changes. Where that port's PHY has lost link in this tick the frame is lost. -/
def Lane.forward (l : Lane) (p : PortId) (f : FabFrame) : Lane :=
  l.modPort (otherPort p) fun q => if q.phy then q.offer l.byteTime l.tickLen { f with hop := f.hop - 1 } else q

/-- The egress port starts a frame as its header arrives (R459). -/
def Lane.cutsThrough (l : Lane) (p : PortId) (f : FabFrame) : Bool :=
  let q := (l.fab.ports.get (otherPort p)).run l.byteTime l.tickLen
  f.size ≤ 256 && q.busy ≤ l.byteTime && q.queue.all fun g => f.rank < g.rank

/-- A port that sends only HELLO and TIME frames and accepts nothing else (R462). -/
def FabPort.closed (p : FabPort) : Bool := p.state == 4 || p.state == 5 || p.state == 6

/-- In a RING, a copy of a frame already accepted (R455). -/
def Lane.duplicate (l : Lane) (f : FabFrame) : Bool :=
  l.cfg.ring && l.fab.seen.any fun s => s.2.1 == f.src && s.2.2.1 == f.cls && s.2.2.2 == f.seq && l.tick.count ≤ s.1 + 4

/-- A frame received on a port (R452, R454, R455, R459): the frame where this node consumes it. -/
def Lane.fabReceive (l : Lane) (p : PortId) (bs : List Byte) : Lane × Option FabFrame :=
  let q := l.fab.ports.get p
  if !l.fab.running || !q.phy || q.state == 0 then (l, none)
  else
    match fabParse l.id.code bs with
    | none => (l.modPort p FabPort.error, none)
    | some (f, good) =>
      if (f.src == l.node && !(f.local_ && f.cls == 5)) || (!f.local_ && q.closed) then (if good then l else l.modPort p FabPort.error, none)
      else if !good then
        let l := if l.forwards p f && l.cutsThrough p f && !l.duplicate f then l.forward p { f with bad := true } else l
        (l.modPort p FabPort.error, none)
      else if l.duplicate f then (l, none)
      else
        let l := if l.forwards p f then l.forward p f else l
        let l := { l with fab := { l.fab with seen := (l.tick.count, f.src, f.cls, f.seq) :: l.fab.seen } }
        (l, if f.dst = l.node ∨ f.dst = 63 then some f else none)

/-! ## Ports -/

/-- A link of the map marked, where it exists. -/
def FabPart.mark (x : FabPart) (link : Option Nat) (up : Bool) : FabPart :=
  match link with
  | some i => { x with links := x.links.set i up }
  | none => x

/-- A port changes state. -/
def Lane.portTo (l : Lane) (p : PortId) (st : Nat) : Lane :=
  l.modPort p fun q => { q with state := st, upSeen := q.upSeen || st == 3 }

/-- The close of a tick in which a port entered or left UP: the map, the epoch and a LINK notice follow (R457, R458). -/
def Lane.portMap (l : Lane) (p : PortId) : Lane :=
  let q := l.fab.ports.get p
  let up := q.state == 3
  if up = q.upLast then l
  else
    let l := l.modPort p fun q => { q with upLast := up }
    let e := (l.fab.epoch + 1) % 65536
    let x := l.fab.mark (l.cfg.linkOf l.node p.val) up
    { l with fab := { x with
        epoch := e, notices := x.notices ++ [[2, byteOf l.node, byteOf p.val, byteOf (b2n up)] ++ beBytes 2 e] } }

/-- An event of a port. -/
def Lane.raisePort (l : Lane) (ev : Ev) (p : PortId) (v : Int) : Lane := l.raise ev (.port p.val) v

/-- A port's PHY reaches link (R461, R462). -/
def Lane.phyUp (l : Lane) (p : PortId) : Lane :=
  let q := l.fab.ports.get p
  if !l.fab.running || q.state == 0 || q.phy then l
  else
    (l.modPort p fun q => { q with
      phy := true, helloOk := false, helloNext := l.tick.count + 1, timeNow := false, timeRun := 0, missRun := 0, delays := [], rx := none
      ann := none, seqRun := 0, meas := none, txCounts := [] }).portTo p (if q.state = 1 then 2 else q.state)

/-- A port's PHY reports loss of link; the port goes to DOWN at the close (R463). -/
def Lane.phyLoss (l : Lane) (p : PortId) : Lane :=
  let q := l.fab.ports.get p
  if !l.fab.running || !q.phy then l
  else l.modPort p fun q => { q with
    phy := false, helloOk := false, ann := none, meas := none, queue := [], down := if q.state = 1 then 0 else 1 }

/-- This tick would be the second consecutive one without a valid TIME frame; the port goes to DOWN at its close, unless one still comes (R463). -/
def Lane.timeMissing (l : Lane) (p : PortId) : Lane :=
  let q := l.fab.ports.get p
  if (q.state == 2 || q.state == 3) && q.phy && !q.timeNow && 1 ≤ q.missRun && q.down == 0 then l.modPort p fun q => { q with down := 2 }
  else l

/-- A port goes to DOWN at the close of the tick, with FAB-010 (R463); where its PHY has reached link again it is VERIFYING. -/
def Lane.portDown (l : Lane) (p : PortId) : Lane :=
  let q := l.fab.ports.get p
  let due := q.down == 1 || (q.down == 2 && !q.timeNow)
  let l := l.modPort p fun q => { q with down := 0 }
  if !due then l
  else
    let l := l.raisePort .fab010 p q.down
    if q.down = 1 ∧ q.phy then l.portTo p 2
    else (l.modPort p fun q => { q with helloOk := false, ann := none, queue := [] }).portTo p 1

/-- The port has not been UP within 2,000 ticks of the lane's entry into ALIGN (R463). -/
def Lane.portTimeout (l : Lane) (p : PortId) : Lane :=
  let q := l.fab.ports.get p
  match l.fab.alignAt with
  | some t =>
    if q.state != 0 && !q.upSeen && !q.fab011 && t + 2000 ≤ l.tick.count then
      (l.raisePort .fab011 p q.state).modPort p fun q => { q with fab011 := true }
    else l
  | none => l

/-- The lane enters ALIGN: its ports' 2,000 ticks begin (R463). -/
def Lane.fabAlign (l : Lane) : Lane :=
  { l with fab := { l.fab with alignAt := some l.tick.count, ports := l.fab.ports.mapFin fun _ q => { q with upSeen := q.state == 3, fab011 := false } } }

/-- Discovery has completed (R464): no port is DOWN or VERIFYING. -/
def Lane.fabDiscovered (l : Lane) : Bool := l.fab.ports.xs.all fun q => q.state != 1 && q.state != 2

/-! ## Discovery -/

/-- The lane is eligible for time mastership (R467). -/
def Lane.timeEligible (l : Lane) : Bool :=
  l.node != 0 && (match l.start.state with | .align | .armed | .operate | .stopped | .unsealed => true | _ => false)

/-- The topology digest of HELLO (Table 17.5). -/
def Cfg.topoDigest (c : Cfg) : Nat := crc32c (byteOf c.fabricTopoKind :: c.order.map byteOf)

/-- The HELLO payload of a port (Table 17.5). -/
def Lane.helloPayload (l : Lane) (p : PortId) : List Byte :=
  [1, byteOf l.node] ++ beBytes 8 Config.serial ++
  [byteOf (l.cfg.laneImageRole % 4 + 4 * b2n l.timeEligible + 8 * p.val + 16 * l.start.state.code), 0] ++ beBytes 4 l.gat.sealVal.toNat ++
  beBytes 4 l.cfg.topoDigest ++ beBytes 2 l.fab.epoch ++ [0, 0, 0, 0]

/-- A port sends its HELLO when it is due (R461). -/
def Lane.helloSend (l : Lane) (p : PortId) : Lane :=
  let q := l.fab.ports.get p
  if l.fab.running && q.state != 0 && q.phy && q.helloNext ≤ l.tick.count then
    (l.fabSendLink p 5 (l.helloPayload p)).modPort p fun q => { q with helloNext := l.tick.count + 40 }
  else l

/-- FABRIC.TOPO.SEAL's entry for a node; 0 any. -/
def Cfg.sealFor (c : Cfg) (node : Nat) : Nat :=
  match c.place node with | some i => (c.fabricTopoSeal.getD i 0).toNat | none => 0

/-- The state a HELLO is judged to (Table 17.6): code, event and context value; 3 where nothing speaks against UP. -/
def Lane.judgeHello (l : Lane) (p : PortId) (pl : List Byte) : Nat × Option (Ev × Int) :=
  let node := (pl.getD 1 0).toNat
  let serial := beNat (slice pl 2 8)
  let want := l.cfg.sealFor node
  if node = l.node then (5, some (.fab002, serial % 2 ^ 24))
  else if l.cfg.expected p ≠ some node ∨ beNat (slice pl 16 4) ≠ l.cfg.topoDigest then (4, some (.fab001, node))
  else if want ≠ 0 ∧ beNat (slice pl 12 4) ≠ want then (6, some (.fab003, node))
  else (3, none)

/-- A received HELLO (R462). -/
def Lane.hello (l : Lane) (p : PortId) (f : FabFrame) : Lane :=
  let q := l.fab.ports.get p
  let (st, ev) := l.judgeHello p f.payload
  let l := l.modPort p fun q =>
    { q with neighbour := (f.payload.getD 1 0).toNat, serial := beNat (slice f.payload 2 8), helloOk := st == 3 }
  if st = 3 then
    if q.state = 3 ∨ q.state = 1 then l
    else l.portTo p (if 8 ≤ q.timeRun + b2n q.timeNow then 3 else 2)
  else
    let l := l.portTo p st
    match ev with
    | some (e, v) => if q.state = st then l else l.raisePort e p v
    | none => l

/-- A received LINK notice with a newer epoch (R458). -/
def Lane.linkNotice (l : Lane) (f : FabFrame) : Lane :=
  let pl := f.payload
  let e := beNat (slice pl 4 2)
  let ahead := (e + 65536 - l.fab.epoch) % 65536
  if 1 ≤ ahead ∧ ahead ≤ 32767 then
    { l with fab := { (l.fab.mark (l.cfg.linkOf (pl.getD 1 0).toNat (pl.getD 2 0).toNat) (pl.getD 3 0 == 1)) with epoch := e } }
  else l

/-! ## Fabric time -/

/-- The lane's node is the time master of its plane. -/
def Lane.timeMaster (l : Lane) : Bool := l.fab.master != 0 && l.fab.master == l.node

/-- The node's fabric time at a clock, both 1/16 clock. -/
def FabPart.timeAt (x : FabPart) (a : Int) : Int := (x.count : Int) * 160000 + (a - x.bound)

/-- The announcement of master and hops on a port (R467): 0xFF on the upstream port or without a master. -/
def FabPart.hopsOn (x : FabPart) (p : PortId) : Nat := if x.up = some p ∨ x.master = 0 then 0xFF else x.hops

/-- The TIME payload of a port at its timestamp point, clocks after the boundary (Table 17.7). -/
def Lane.timePayload (l : Lane) (p : PortId) (tx : Nat) : List Byte :=
  let q := l.fab.ports.get p
  let t := l.fab.timeAt (16 * ((l.clk : Int) + tx))
  let cnt := (t / 160000).toNat % 2 ^ 48
  let ph := (t % 160000).toNat
  beBytes 6 cnt ++ beBytes 4 ph ++
  [byteOf (128 * b2n l.fab.valid + 64 * b2n l.timeMaster + l.fab.master % 64), byteOf (l.fab.hopsOn p), byteOf l.fab.mseq, byteOf (b2n l.fab.holdover), 0, 0] ++
  beBytes 4 ((l.clk + tx) % 2 ^ 32) ++ beBytes 4 ((q.rx.elim 0 (·.1)) % 2 ^ 32) ++ beBytes 4 ((q.rx.elim 0 (·.2)) % 2 ^ 32) ++ [0, 0, 0, 0]

/-- The link delay in use (R466), 1/16 clock; none before the first valid measurement. -/
def FabPort.delay (q : FabPort) : Option Int :=
  if q.delays.isEmpty then none else some (roundDiv (sumI q.delays) q.delays.length)

/-- The difference of two counts of 32 bits, signed. -/
def diff32 (x y : Nat) : Int := toSigned 32 (toField 32 ((x : Int) - y))

/-- A valid TIME frame received at clocks after the boundary (R465, R466, R462). -/
def Lane.timeFrame (l : Lane) (p : PortId) (at_ : Nat) (f : FabFrame) : Lane :=
  let pl := f.payload
  let b (i : Nat) : Nat := (pl.getD i 0).toNat
  let t4 := (l.clk + at_) % 2 ^ 32
  let t3 := beNat (slice pl 16 4)
  let t2 := beNat (slice pl 20 4)
  let t1 := beNat (slice pl 24 4)
  let q := l.fab.ports.get p
  let delays := if q.txCounts.contains t1 then ((8 * (diff32 t4 t1 - diff32 t3 t2)) :: q.delays).take 16 else q.delays
  let mseq := b 12
  let ann : TimeAnn :=
    { tick := l.tick.count, valid := b 10 ≥ 128, isMaster := bitN (b 10) 6, master := b 10 % 64, hops := b 11, mseq := mseq, holdover := bitN (b 13) 0 }
  let q1 : FabPort :=
    { q with delays := delays, rx := some (t4, t3), ann := some ann, timeNow := true
             seqRun := match q.ann with | some a => if a.mseq = mseq then satInc 255 q.seqRun else 0 | none => 0 }
  let a : Int := 16 * ((l.clk : Int) + at_)
  let q2 : FabPort := match q1.delay with
    | some d =>
      let t : Int := (beNat (slice pl 0 6) : Int) * 160000 + beNat (slice pl 6 4) + d
      { q1 with meas := some (t, a), offset := satI32 (l.fab.timeAt a - t) }
    | none => q1
  let l := l.modPort p fun _ => q2
  let l := if l.fab.up = some p then { l with fab := { l.fab with mseq := mseq } } else l
  if q.state = 1 then l.portTo p 2
  else if q.state = 2 && q.helloOk && 8 ≤ q.timeRun + 1 then l.portTo p 3
  else l

/-- The candidates of R467: master, hops and port, in the order of preference on ties. -/
def Lane.timeCandidates (l : Lane) : List (Nat × Nat × Option PortId) :=
  let own := if l.timeEligible then [(l.node, 0, (none : Option PortId))] else []
  own ++ (List.finRange 2).filterMap fun p =>
    let q := l.fab.ports.get p
    match q.ann with
    | some a =>
      if q.state = 3 ∧ l.tick.count ≤ a.tick + 1 ∧ a.valid ∧ a.hops < 61 ∧ !(l.fab.excluded.any fun e => e.1 == a.master && l.tick.count < e.2) then
        some (a.master, a.hops + 1, some p)
      else none
    | none => none

/-- The best candidate (R467): lowest master node ID, then fewest hops, then the own node and DP0. -/
def bestTime (cs : List (Nat × Nat × Option PortId)) : Option (Nat × Nat × Option PortId) :=
  cs.foldl (fun m c => match m with
    | none => some c
    | some b => if c.1 < b.1 ∨ (c.1 = b.1 ∧ c.2.1 < b.2.1) then some c else some b) none

/-- The master choice at the close of the tick (R467, R469). -/
def Lane.chooseMaster (l : Lane) : Lane :=
  let old := l.fab.master
  let (m, h, up) := (bestTime l.timeCandidates).getD (0, 0xFF, none)
  let hold : Bool := m == 0
  let x := { l.fab with
    master := m, hops := h, up := up, holdover := hold, holdRun := if hold then satInc 65535 l.fab.holdRun else 0
    valid := if hold then (if l.fab.holdover then l.fab.valid else true) else true }
  let l := { l with fab := x, tick := { l.tick with skipFabric := m != 0 && m == l.node } }
  if m = old then l else l.raise .fab020 .none m

/-- The master sequence unchanged in 4 consecutive TIME frames from the upstream port (R468). -/
def Lane.sequenceStale (l : Lane) : Lane :=
  match l.fab.up with
  | some p =>
    let q := l.fab.ports.get p
    if 4 ≤ q.seqRun then
      let l := { l with fab := { l.fab with excluded := (l.fab.master, l.tick.count + 128) :: l.fab.excluded.filter fun e => e.1 != l.fab.master } }
      l.modPort p fun q => { q with seqRun := 0 }
    else l
  | none => l

/-- Exclusions whose 128 ticks have passed end (R468). -/
def Lane.exclusionEnd (l : Lane) : Lane :=
  { l with fab := { l.fab with excluded := l.fab.excluded.filter fun e => l.tick.count < e.2 } }

/-- 128 ticks in holdover have passed (R469). -/
def Lane.holdoverExpiry (l : Lane) : Lane :=
  if l.fab.running && l.fab.holdover && l.fab.valid && 128 ≤ l.fab.holdRun then
    ({ l with fab := { l.fab with valid := false } }).raise .fab021 .none 0
  else l

/-- An offset wrapped to within half a tick. -/
def wrapTick (x : Int) : Int := (x + 80000) % 160000 - 80000

/-- The fabric boundary of the new tick (R469), nearest the lane's boundary, with its count. -/
def Lane.placeBoundary (l : Lane) : Lane :=
  let x := l.fab
  let lane : Int := 16 * (l.clk : Int)
  if l.timeMaster then
    let l := match l.tick.fabOffset with
      | some _ => l
      | none => { l with tick := { l.tick with fabOffset := some 0 } }
    { l with fab := { x with bound := lane, count := l.fabTick, mseq := (x.mseq + 1) % 256 } }
  else
    let meas := match x.up with | some p => (x.ports.get p).meas | none => none
    let (b, c) : Int × Int := match meas with
      | some (t, a) =>
        let b := x.bound + 160000 - wrapTick (x.timeAt a - t)
        (b, roundDiv (t + (b - a)) 160000)
      | none => (x.bound + 160000, (x.count : Int) + 1)
    let k := roundDiv (lane - b) 160000
    { l with fab := { x with bound := b + 160000 * k, count := toField 48 (c + k) } }

/-! ## SAFE frames -/

/-- The lane publishes SAFE frames in its state (R471). -/
def Lane.publishesSafe (l : Lane) : Bool :=
  match l.start.state with | .armed | .operate | .stopped | .unsealed => true | _ => false

/-- The SAFE payload is due in the tick of a count (R471). -/
def Lane.safeDue (l : Lane) : Bool :=
  let t := (match l.fabTick? with | some t => t | none => l.tick.count) + 1
  l.fab.running && l.node != 0 && l.publishesSafe && t % l.cfg.divisor == l.node % l.cfg.divisor

/-- Bytes 0 to 71 of the SAFE payload (Table 17.8). -/
def Lane.safeHead (l : Lane) : List Byte :=
  let m := l.markerOut
  beBytes 4 l.healthWord.toNat ++
  [byteOf (l.service % 4 + 4 * b2n m.stop + 8 * b2n m.nodeStop + 16 * b2n m.powerDown), byteOf l.cfg.divisor, 0, 0] ++
  (l.fab.report ++ List.replicate (64 - l.fab.report.length) 0)

/-- Every 40 ticks the lane forms its health report for the fabric (R147). -/
def Lane.formReport (l : Lane) : Lane :=
  if l.tick.count % 40 = 0 then { l with fab := { l.fab with report := l.healthReport } } else l

/-! ## The tick -/

/-- The ports at the close of a tick: what still goes out in it, DOWN, the map, TIME runs, frame error sums with FAB-012, and what R455 remembers. -/
def Lane.closePorts (l : Lane) : Lane :=
  let now := l.tick.count
  let len := l.tickLen
  let l := { l with fab := { l.fab with
    seen := l.fab.seen.filter fun s => now < s.1 + 4
    ports := l.fab.ports.mapFin fun _ q => q.run (len * 25 / 32) len } }
  (List.finRange 2).foldl (fun l p =>
    let l := (l.portDown p).portMap p
    let q := l.fab.ports.get p
    let hist := ((if q.errNow = 0 then [] else [(now, q.errNow)]) ++ q.errHist).filter fun e => now < e.1 + 40000
    let sum := hist.foldl (fun s e => s + e.2) 0
    let beyond : Bool := decide (l.cfg.fabricErrLimit < sum)
    let l := l.modPort p fun q =>
      { q with errNow := 0, errHist := hist, errOver := beyond, timeNow := false
               timeRun := if q.timeNow then satInc 255 q.timeRun else 0
               missRun := if q.timeNow || !q.phy then 0 else satInc 255 q.missRun }
    if beyond && !q.errOver then l.raisePort .fab012 p sum else l) l

/-- The fabric block at the start of a tick: fabric boundary, TIME frames, the SAFE frame, LINK notices and what waited (R458, R460, R465, R471). -/
def Lane.fabBoundary (l : Lane) (tx : List Nat) : Lane :=
  if !l.fab.running then l
  else
    let l := l.placeBoundary
    let l := { l with fab := { l.fab with
      routes := l.fab.links
      ports := l.fab.ports.mapFin fun _ q => { q with busy := 0, load := 0, sent := [], sentLast := q.sent, meas := none } } }
    let l := if l.fab.valid && !l.timeMaster && (l.fab.up.isSome || l.fab.holdover) then
      l.fabricMeas (roundDiv (l.fab.bound - 16 * (l.clk : Int)) 16) else l
    let l := (List.finRange 2).foldl (fun l p =>
      let q := l.fab.ports.get p
      if q.state != 0 && q.phy then
        let t := tx.getD p.val 10
        let (l, f) := l.newFrame 0 63 (l.timePayload p t)
        l.modPort p fun q => (q.transmit 0 { f with port := p.val }) |> fun q => { q with txCounts := (((l.clk + t) % 2 ^ 32) :: q.txCounts).take 5 }
      else l) l
    let l := match l.fab.safeNext with
      | some pl =>
        let (l, f) := l.newFrame 1 63 pl
        (l.ways 1 63).foldl (fun (l : Lane) (w : PortId × Nat) => l.modPort w.1 fun q =>
          if q.carries then q.transmit q.busy { f with hop := w.2, port := w.1.val } else q) { l with fab := { l.fab with safeNext := none } }
      | none => l
    let ns := l.fab.notices
    let l := { l with fab := { l.fab with notices := [] } }
    ns.foldl (fun l n => l.fabSend 5 63 n) l

end Sys2Proof.Machine
end

