-- ==== Sys2Proof/Machine/Motion.lean ====
section
/-! DEFINITION. Motion profiles: requests, the path of a move, stops, hold reduction, limit switches, step interpolation (chapter 8). -/

namespace Sys2Proof.Machine

/-- A whole number as a profile quantity with 32 fraction bits. -/
def fx (n : Int) : Int := n * 2 ^ 32

/-- Ticks per second of the nominal 25.000 µs (R201). -/
def tps : Int := 40000

/-- One profile changed. -/
def Lane.modProf (l : Lane) (n : AxisId) (f : Profile → Profile) : Lane := { l with prof := l.prof.modify n f }

/-- The value of a channel with 16 fraction bits: its latched position, or its filtered value for an analog input. -/
def Lane.chQ (l : Lane) (c : Nat) : Int := if c < 8 then l.chPos c * 65536 else l.chPos c

/-- The measured position of an axis in pu with 16 fraction bits (R239), from its origin (R222). -/
def Lane.measured (l : Lane) (n : AxisId) : Int :=
  let c := l.cfg
  roundDiv (l.chQ (c.axisLoopPosCh n.val) * c.axisLoopPosScale n.val) 65536 - (l.prof.get n).origin

/-! ## Stopping distance -/

/-- The integer square root of a number below 2^512. -/
def isqrtBig (n : Nat) : Nat := isqrtIter n 256 0 (2 ^ 256 - 1)

/-- stopdist(v, D) is not less than s (R205); v, D and s with 32 fraction bits, J whole. -/
def stopGe (v D : Int) (J : Nat) (s : Int) : Bool :=
  if s ≤ 0 then true
  else if D ≤ 0 then decide (0 < v)
  else if J = 0 then 2 * D * s ≤ v * v
  else if D * D ≤ v * (J : Int) * 2 ^ 32 then 2 * D * s * (J : Int) * 2 ^ 32 ≤ v * v * (J : Int) * 2 ^ 32 + v * D * D
  else s * s * (J : Int) * 2 ^ 32 ≤ v * v * v

/-- stopdist(v, D) with 32 fraction bits. -/
def stopDist (v D : Int) (J : Nat) : Int :=
  if D ≤ 0 then 0
  else if J = 0 then roundDiv (v * v) (2 * D)
  else if D * D ≤ v * (J : Int) * 2 ^ 32 then roundDiv (v * v) (2 * D) + roundDiv (v * D) (2 * (J : Int) * 2 ^ 32)
  else (isqrtBig (v * v * v / ((J : Int) * 2 ^ 32)).toNat : Int)

/-- dreq(v, s) with 32 fraction bits; none where no deceleration stops within s (R205). -/
def dreq (v : Int) (J : Nat) (s : Int) : Option Int :=
  if v ≤ 0 then some 0
  else if s ≤ 0 then none
  else if J = 0 then some (roundDiv (v * v) (2 * s))
  else
    let j : Int := J
    if s * s * j * 2 ^ 32 < v * v * v then none
    else
      let root : Int := isqrtBig ((s * j) * (s * j) - v * v * v * j / 2 ^ 32).toNat
      some (roundDiv ((s * j - root) * 2 ^ 32) v)

/-! ## One tick of the generator -/

/-- The acceleration after one tick on its way to `want`, within JMAX × 25 µs (R205); with 32 fraction bits. -/
def jerkTo (J : Nat) (a want : Int) : Int :=
  if J = 0 then want
  else
    let d := roundDiv (fx J) tps
    clampI (a - d) (a + d) want

/-- The speed gained while an acceleration of the same sign falls to 0 within the jerk limit, after the tick it applies in. -/
def jerkRest (jd a : Int) : Int :=
  if a ≤ 0 ∨ jd ≤ 0 then 0 else let m := a / jd; roundDiv (m * a - jd * m * (m + 1) / 2) tps

/-- The acceleration and the speed of one tick on the way up to a speed `goal`, with the jerk limit `jd` per tick: the greatest change of acceleration from which the goal is not passed; one above `up` falls to it at the jerk limit (R206). -/
def rampUp (jd v a goal up : Int) : Int × Int :=
  let exact := (goal - v) * tps
  if absI (exact - a) ≤ jd ∧ absI exact ≤ jd ∧ exact ≤ maxI up a then (exact, goal)
  else
    let fits (x : Int) : Bool := decide (v + roundDiv x tps + jerkRest jd x ≤ goal)
    let top := if a ≤ up then minI up (a + jd) else maxI up (a - jd)
    let x := if fits top then top else if a ≤ up && fits a then a else a - jd
    (x, v + roundDiv x tps)

/-- The acceleration and the speed of one tick towards a speed, at `up` from below it and at `down` from above it (R205, R206): the last tick lands on it. DESIGN CHOICE with JMAX set: every change of the acceleration keeps to JMAX × 25 µs, so the approach begins to ease off early enough that the speed is not passed (log entry 143). -/
def ramp (J : Nat) (v a goal up down : Int) : Int × Int :=
  let jd := roundDiv (fx J) tps
  if J = 0 then
    let want := if v < goal then up else if goal < v then -down else 0
    let v1 := v + roundDiv want tps
    if (v < goal ∧ goal ≤ v1) ∨ (goal < v ∧ v1 ≤ goal) then (want, goal) else (want, v1)
  else if v ≤ goal then rampUp jd v a goal up
  else let (x, v1) := rampUp jd (-v) (-a) (-goal) down; (-x, -v1)

/-- A quotient rounded up. -/
def ceilDiv (n d : Int) : Int := -(-n / d)

/-- Speed and travel of one tick at acceleration `a`, in the direction of motion, ending at rest where it reaches it; travel rounds up. -/
def advance (v a : Int) : Int × Int :=
  let v1 := v + roundDiv a tps
  if v1 ≤ 0 ∧ a < 0 then (0, ceilDiv (v * v) (2 * -a))
  else (v1, ceilDiv (v + v1) (2 * tps))

/-- The direction of motion: that of the speed, or towards a point from rest. -/
def Profile.dir (p : Profile) (aim : Int) : Int :=
  if 0 < p.v then 1 else if p.v < 0 then -1 else if p.x ≤ aim then 1 else -1

/-- The profile at rest. -/
def Profile.atRest (p : Profile) : Profile := { p with v := 0, a := 0, phase := .rest, motion := .none, reversing := false }

/-- The stop of R209 has come to rest. -/
def Profile.stopRest (p : Profile) : Profile :=
  { p.atRest with remain := if p.hasTarget then p.target - p.x else 0, cause := p.stopC, stopC := 0, overshoot := false }

/-- A move reaches its target exactly (R205); a stop that let it run is recorded (R209). -/
def Profile.land (p : Profile) : Profile :=
  { p.atRest with x := p.target, cause := if p.stopC = 0 then p.cause else p.stopC, stopC := 0 }

/-- A distance past the target that counts as an overshoot, 1/256 pu with 32 fraction bits: below it the roundings of the generator's arithmetic reach (DESIGN CHOICE: no number format of the generator is stated). -/
def overshootLeast : Int := 2 ^ 24

/-- One tick of a position move (R205 to R208), with the distance past the target of a PLS-040. DESIGN CHOICE for a jerk limit, where dreq has no value once the distance is shorter than any stop: the generator then decelerates at DHARD, and passes its target only where the move began in this tick; a deceleration that ends short of the target starts towards it again. -/
def Profile.stepPosition (dhard : Int) (p : Profile) : Profile × Option Int :=
  let p := if p.v = 0 ∧ (p.overshoot || p.reversing) then { p with overshoot := false, reversing := false, held := none, phase := .accel } else p
  let dir := p.dir p.target
  let v := p.v * dir
  let a := p.a * dir
  let J := p.lim.jmax
  let s := (p.target - p.x) * dir
  let dmax := fx p.lim.dmax
  -- one tick towards VMAX, the phase given
  let run (p : Profile) (ph : Phase) : Profile :=
    let (a1, v1) := ramp J v a (fx p.lim.vmax) (fx p.lim.amax) dmax
    { p with x := p.x + ceilDiv (v + v1) (2 * tps) * dir, v := v1 * dir, a := a1 * dir, phase := ph }
  let put (p : Profile) (ph : Phase) (want : Int) : Profile :=
    let a1 := jerkTo J a want
    let (v1, dx) := advance v a1
    let p1 := { p with x := p.x + dx * dir, v := v1 * dir, a := (if v1 = 0 ∧ (J = 0 ∨ !(p.reversing || p.overshoot)) then 0 else a1) * dir, phase := ph }
    let left := (p1.target - p1.x) * dir
    if ph = .decel ∧ !p1.overshoot ∧ !p1.reversing then
      if left ≤ 0 ∨ (v1 = 0 ∧ left ≤ overshootLeast) then p1.land else if v1 = 0 then { p1 with phase := .accel } else p1
    else p1
  if p.reversing then (put p .decel (-dmax), none)
  else if p.overshoot then (put p .decel (-dhard), none)
  else
    let passed := p.dmaxChanged && !(p.phase == .rest) && (stopGe v dmax J s && !(stopDist v dmax J == s))
    let p :=
      if p.dmaxChanged && p.phase == .decel && !passed then { p with phase := .coast, held := none }
      else if passed then { p with held := some ((dreq v J s).getD dhard) }
      else p
    let D := p.held.getD dmax
    if p.phase = .decel ∨ passed ∨ stopGe v D J s then
      let past := stopDist v dhard J - s
      let r := dreq v J s
      let beyond := match r with | some d => decide (dhard < d) | none => J == 0 || p.fresh
      if beyond && decide (overshootLeast < past) then
        ({ put { p with overshoot := true } .decel (-dhard) with overshoot := true }, some past)
      else (put p .decel (-(minI (r.getD dhard) dhard)), none)
    else if p.phase = .coast then (put p .coast 0, none)
    else
      let vmax := fx p.lim.vmax
      if v < vmax then (run p .accel, none)
      else if vmax < v then (run p p.phase, none)
      else (run p .cruise, none)

/-- One tick of a speed move (R205). -/
def Profile.stepSpeed (p : Profile) : Profile :=
  let vmax := fx p.lim.vmax
  let vt := clampI (-vmax) vmax p.jogV
  let dir := if 0 < p.v then 1 else if p.v < 0 then -1 else if 0 ≤ vt then 1 else -1
  let v := p.v * dir
  let a := p.a * dir
  let J := p.lim.jmax
  -- without a jerk limit the speed comes to 0 before it turns
  let goal := if J = 0 then maxI 0 (vt * dir) else vt * dir
  let go (ph : Phase) : Profile :=
    let (a1, v1) := ramp J v a goal (fx p.lim.amax) (fx p.lim.dmax)
    let dx := if v1 = 0 ∧ a1 < 0 then ceilDiv (v * v) (2 * -a1) else ceilDiv (v + v1) (2 * tps)
    { p with x := p.x + dx * dir, v := v1 * dir, a := (if J = 0 ∧ v1 = goal then 0 else a1) * dir, phase := ph }
  if v = 0 ∧ vt = 0 ∧ a = 0 then p.atRest
  else if v < goal then go .accel
  else if goal < v then
    let q := go .decel
    if q.v = 0 ∧ vt = 0 ∧ (J = 0 ∨ q.a = 0) then q.atRest else q
  else go .cruise

/-- One tick of a stop (R209): DSTOP with no jerk limit. -/
def Profile.stepStop (dstop : Int) (p : Profile) : Profile :=
  let dir := p.dir p.x
  let v := p.v * dir
  let (v1, dx) := advance v (-dstop)
  let p := { p with x := p.x + dx * dir, v := v1 * dir, a := -dstop * dir, phase := .decel }
  if v1 = 0 then p.stopRest else p

/-- One tick in phase TRACK (R226): X(n) is taken where the limits allow it, otherwise a speed within the limits. -/
def Profile.stepTrack (p : Profile) (X V : Int) : Profile :=
  let need := (X - p.x) * tps
  let up := roundDiv (fx p.lim.amax) tps
  let down := roundDiv (fx p.lim.dmax) tps
  let vmax := fx p.lim.vmax
  let (lo, hi) := if 0 ≤ p.v then (p.v - down, p.v + up) else (p.v - up, p.v + down)
  let lo := maxI lo (-vmax)
  let hi := minI hi vmax
  if lo ≤ need ∧ need ≤ hi then { p with x := X, v := clampI lo hi V, a := (clampI lo hi V - p.v) * tps, phase := .track, target := X }
  else
    let v1 := clampI lo hi (Config.trackSpeed p.x p.v X V vmax (fx p.lim.amax) (fx p.lim.dmax))
    { p with x := p.x + roundDiv (p.v + v1) (2 * tps), v := v1, a := (v1 - p.v) * tps, phase := .track, target := X }

/-- The profile moves: neither at rest nor passive. -/
def Profile.moving (p : Profile) : Bool := !(p.phase == .rest) && !(p.phase == .passive)

/-- A stop begins (R209, R226): the first cause counts; a move already braking harder than DSTOP runs on to its target, and one that follows the step input keeps X(n) of the stop tick as its original target. -/
def Profile.beginStop (dstop : Int) (cause : Nat) (X : Int) (p : Profile) : Profile :=
  if !p.moving || p.stopC != 0 then p
  else
    let p := if p.motion = .track then { p with target := X, hasTarget := true, stepOn := false } else p
    let braking := p.motion == .position && p.phase == .decel && decide (dstop < absI p.a)
    if braking then { p with stopC := cause }
    else { p with motion := .stopping, stopC := cause, hasTarget := p.hasTarget && p.motion != .speed }

/-! ## Requests -/

/-- A switch counts as tripped (R216). -/
def Switch.tripped (s : Switch) : Bool := s.deb || s.chatter

/-- Motion in a direction leads towards a tripped or chattering switch of this lane (R218). -/
def Lane.blocked (l : Lane) (n : AxisId) (dir : Int) : Bool :=
  !l.endLearn n &&
  ((dir < 0 && l.cfg.axisProfileLimitNegCh n.val != 255 && (l.swNeg.get n).tripped) ||
  (0 < dir && l.cfg.axisProfileLimitPosCh n.val != 255 && (l.swPos.get n).tripped))

/-- A limit argument is 0xFFFFFFFF or lies within its range (Table 8.5, R203). -/
def limitOk (v lo hi : Nat) : Bool := v == 0xFFFFFFFF || (lo ≤ v && v ≤ hi)

/-- The result of a request (Table 8.2), its causes tried in code order. -/
def Lane.judgeReq (l : Lane) (n : AxisId) (r : ProfReq) (o : ReqBy) : Nat :=
  let p := l.prof.get n
  if o != .job && (p.phase == .passive || p.jobOwns) then 1
  else match r with
  | .move t => if l.blocked n (fx t - p.x) then 2 else 0
  | .jog v => if l.blocked n v then 2 else 0
  | .stop => 0
  | .resume =>
    if p.remain ≠ 0 ∧ l.blocked n (p.target - p.x) then 2
    else if p.remain = 0 then 3
    else if p.phase ≠ .rest then 4 else 0
  | .limits v a d j =>
    if limitOk v 1 1000000 && limitOk a 1 10000000 && limitOk d 1 10000000 && (j == 0 || limitOk j 1000 4000000000) then 0 else 5
  | .stepOn => if l.cfg.stepinAxis ≠ n.val ∨ p.motion = .stopping ∨ p.stopC ≠ 0 then 6 else 0
  | .stepOff => 0

/-- The limits a LIMITS request leaves in force (R203). -/
def Lane.clipLimits (l : Lane) (n : AxisId) (old : Limits) (v a d j : Nat) : Limits :=
  let c := l.cfg
  let pick (x y : Nat) : Nat := if x = 0xFFFFFFFF then y else x
  { vmax := min (pick v old.vmax) (c.axisProfileVmax n.val), amax := min (pick a old.amax) (c.axisProfileDhard n.val)
    dmax := min (pick d old.dmax) (c.axisProfileDhard n.val), jmax := pick j old.jmax }

/-- A position move starts towards a target (R205). -/
def Profile.startMove (p : Profile) (t : Int) : Profile :=
  { p with motion := .position, target := t, hasTarget := true, held := none, overshoot := false, cause := 0, stopC := 0
           reversing := p.v != 0 && signI (t - p.x) != signI p.v, stepOn := false, fresh := true
           phase := if p.phase == .rest || p.phase == .track then .accel else if p.phase == .decel then .cruise else p.phase }

/-- The effect of an accepted request (Table 8.1). -/
def Lane.applyReq (l : Lane) (n : AxisId) (r : ProfReq) : Lane :=
  l.modProf n fun p =>
    match r with
    | .move t => { p.startMove (fx t) with remain := 0 }
    | .jog v => { p with motion := .speed, jogV := fx v, hasTarget := false, remain := 0, held := none, overshoot := false, cause := 0
                         stopC := 0, stepOn := false, reversing := false }
    | .stop => p.beginStop (fx (l.cfg.axisProfileDstop n.val)) 1 (p.x0 + l.stepIn.dx)
    | .resume => { p.startMove p.target with remain := 0 }
    | .limits v a d j =>
      let lim := l.clipLimits n p.lim v a d j
      { p with lim := lim, dmaxChanged := p.dmaxChanged || lim.dmax != p.lim.dmax }
    | .stepOn => { p with motion := .track, phase := .track, stepOn := true, x0 := p.x - fx l.stepIn.sum, n0 := l.stepIn.sum, cause := 0 }
    | .stepOff =>
      if p.stepOn then { p.startMove (p.x0 + l.stepIn.dx) with remain := p.remain } else p

/-- Requests that reached this lane for an axis in this tick: taken where it holds the axis, else forwarded (R202). -/
def Lane.request (l : Lane) (n : AxisId) (r : ProfReq) (o : ReqBy) : Lane :=
  if l.cfg.kind n.val != .steer then l
  else if (l.ax n).role == .holder || l.start.state == .unsealed then l.modProf n fun p => { p with reqs := p.reqs ++ [(r, o)] }
  else l.modProf n fun p => { p with forward := p.forward ++ [(r, o)] }

/-- A participant entry of a request class: node, axis, GAIN, LIMIT, WEIGHT (Table 18.7). -/
structure Part where
  /-- Node. -/
  node : Nat
  /-- Axis index. -/
  axis : Nat
  /-- GAIN. -/
  gain : Q
  /-- LIMIT. -/
  limit : Q
  /-- WEIGHT. -/
  weight : Q
deriving DecidableEq, Repr

/-- The participants of a request class. -/
def Cfg.parts (c : Cfg) (k : Nat) : List Part :=
  (List.range 16).filterMap fun i =>
    if c.fabricCommitPartNode k i = 0 then none
    else some { node := c.fabricCommitPartNode k i, axis := c.fabricCommitPartAxis k i, gain := c.fabricCommitPartGain k i
                limit := c.fabricCommitPartLimit k i, weight := c.fabricCommitPartWeight k i }

/-- A MOVE for the axis goes through the caravan commit on this lane (R481, R482). -/
def Lane.viaCaravan (l : Lane) (n : Nat) : Bool :=
  n == l.cfg.steerFront && l.cfg.laneImageRole == 0 && l.car.coord && !(l.cfg.parts 2).isEmpty

/-- An accepted MOVE applied, or handed to the caravan commit (R202, R482). -/
def Lane.acceptReq (l : Lane) (n : AxisId) (r : ProfReq) (o : ReqBy) : Lane :=
  match r with
  | .move t =>
    if o == .outside && l.viaCaravan n.val then
      { l with car := { l.car with
          moves := l.car.moves + 1, moveTo := t
          cls := l.car.cls.modify 1 fun k => { k with req := some t } } }
    else l.applyReq n r
  | _ => l.applyReq n r

/-- A PASSIVE generator starts from the motion it holds (R200). -/
def Profile.takeUp (p : Profile) : Profile :=
  if p.phase = .passive then
    { p with phase := if p.v = 0 then .rest else .decel, motion := if p.v = 0 then .none else .speed, jogV := 0 }
  else p

/-- The requests of the tick before are applied, each with its result (R202). -/
def Lane.applyReqs (l : Lane) (n : AxisId) : Lane :=
  let rs := (l.prof.get n).reqs
  let l := l.modProf n fun p => { p with reqs := [] }
  rs.foldl (fun l rj =>
    let l := if rj.2 = .job then l.modProf n Profile.takeUp else l
    let res := l.judgeReq n rj.1 rj.2
    let l := if res = 0 then l.acceptReq n rj.1 rj.2 else l
    l.modProf n fun p => { p with result := res, request := rj.1.code }) l

/-! ## Step input -/

/-- e of R224 at a clock that lies `off` 1/10,000 of a tick into the tick given: in clocks; where T_k is STEPIN.TFIRST, in ticks of 10,000 (R4: the tick count binds). -/
def StepIn.age (s : StepIn) (tick : Nat) (off : Int) (clk : Nat) : Int :=
  match s.tk with
  | none => 0
  | some t => if s.first then ((tick : Int) - s.tkTick) * 10000 + off - s.tkOff else (clk : Int) - t

/-- The place of a clock within the present tick, in 1/10,000 of it. -/
def Lane.tickShare (l : Lane) (t : Nat) : Int := roundDiv (((t : Int) - l.clk) * 10000) (max 1 l.tickLen : Nat)

/-- X(n) − X0 and V(n) of R224 at an age e; settled from e = 2 × T_k on (R225). -/
def StepIn.at (s : StepIn) (e : Int) : StepIn :=
  match s.tk with
  | none => { s with dx := fx s.sum, vn := 0 }
  | some _ =>
    if s.settled ∨ 2 * (s.tint : Int) ≤ e then { s with settled := true, dx := fx s.sum, vn := 0 }
    else
      let back := if e < s.tint then roundDiv (fx s.sk * ((s.tint : Int) - e)) (maxI 1 s.tint) else 0
      { s with dx := fx s.sum - back, vn := roundDiv (fx s.sk * 400000000) (maxI 1 (maxI s.tint e)) }

/-- A step accepted at a clock, with the filtered level of l_DIR (R223, R224). DESIGN CHOICE: the step sum N wraps at 32 bits, the width of its status object (log 166). -/
def Lane.takeStep (l : Lane) (t : Nat) (dirLvl : Bool) : Lane :=
  let s := l.stepIn
  let sz := if dirLvl != (l.cfg.stepinDirpol == 1) then l.cfg.stepinSize else -l.cfg.stepinSize
  let off := l.tickShare t
  let next : Option Nat := s.tk.bind fun t0 =>
    if !s.settled && decide (s.age l.tick.count off t < 2 * s.tint) && signI sz == signI s.sk then some (t - t0) else none
  { l with stepIn := { s with
      sum := wrap32 (s.sum + sz), tk := some t, sk := sz, tint := next.getD (l.cfg.stepinTfirst * 10000), first := next.isNone
      tkTick := l.tick.count, tkOff := off, settled := false } }

/-- What the filters of l_STEP and l_DIR accept between events, before a clock (R170, R223): a step has the filtered level of l_DIR before its sample (R518). -/
def Lane.stepSettle (l : Lane) (before : Nat) : Lane :=
  let s := l.stepIn
  let due (x : Line) : Option Nat := (x.due 80).filter fun t => t < before
  let take (x : Line) : Line := match due x with | some t => x.accept t | none => x
  let l1 := { l with stepIn := { s with step := take s.step, dir := take s.dir } }
  match due s.step with
  | some t =>
    let dir := match due s.dir with | some u => if u < t then s.dir.raw else s.dir.lvl | none => s.dir.lvl
    if s.step.raw == (l.cfg.stepinEdge == 0) then l1.takeStep t dir else l1
  | none => l1

/-- The step input sees levels on l_STEP and l_DIR at a clock (R223, R518). -/
def Lane.stepEdge (l : Lane) (clk : Nat) (stepLvl dirLvl : Bool) : Lane :=
  let l := l.stepSettle clk
  let s := l.stepIn
  let (st1, f1, k1) := s.step.sample 80 false stepLvl clk
  let (dr1, f2, _) := s.dir.sample 80 false dirLvl clk
  let l := { l with stepIn := { s with step := st1, dir := dr1, fastNow := s.fastNow + b2n f1 + b2n f2 } }
  if k1 && st1.lvl == (l.cfg.stepinEdge == 0) then l.takeStep clk s.dir.lvl else l

/-- The interpolator settles once e has reached 2 × T_k (R225). -/
def Lane.stepSettled (l : Lane) : Lane :=
  if l.stepIn.tk.isSome ∧ !l.stepIn.settled ∧ 2 * (l.stepIn.tint : Int) ≤ l.stepIn.age l.tick.count 0 l.clk then
    { l with stepIn := { l.stepIn with settled := true, dx := fx l.stepIn.sum, vn := 0 } }
  else l

/-- The step input at a boundary: the interpolation (R224, R225). -/
def Lane.stepTick (l : Lane) : Lane := { l with stepIn := l.stepIn.at (l.stepIn.age l.tick.count 0 l.clk) }

/-- The step input at the close of the tick, whose next boundary has the clock given: what the filters accepted and the fast-edge sum (R223). -/
def Lane.stepClose (l : Lane) (boundary : Nat) : Lane :=
  let l := l.stepSettle boundary
  let s := l.stepIn
  let t := l.tick.count
  let fh := if s.fastNow = 0 then s.fastHist else (t, s.fastNow) :: s.fastHist
  let fh := fh.filter fun e => t < e.1 + 1000
  let sum := histSum t 1000 fh
  let beyond := decide (l.cfg.stepinFastLimit < sum)
  let l := { l with stepIn := { s with fastNow := 0, fastHist := fh, fastOver := beyond } }
  if beyond && !s.fastOver then l.raise .fbk033 (if l.cfg.stepinAxis < 12 then .axis l.cfg.stepinAxis else .none) sum else l

/-! ## Limit switches -/

/-- The raw state of a switch from the conversion of the tick (R215). -/
def Lane.rawTripped (l : Lane) (n : AxisId) (ch : Nat) : Bool :=
  match (l.fbk.getD ch {}).conv with
  | some x :: _ => if l.cfg.axisProfileLimitPolarity n.val = 0 then decide (l.cfg.axisProfileLimitVtrip n.val < x) else decide (x < l.cfg.axisProfileLimitVtrip n.val)
  | _ => true

/-- A switch sampled in a tick (R216). -/
def Switch.sample (win tick : Nat) (pos : Int) (s : Switch) (raw : Bool) : Switch :=
  let moved := s.seen && raw != s.raw
  let tr := (if moved then tick :: s.trans else s.trans).filter fun t => tick < t + win
  { s with raw := raw, run := if moved || !s.seen then 1 else satInc 65535 s.run, trans := tr, seen := true
           tripPos := if raw && (moved || !s.seen) then pos else s.tripPos }

/-- The switches of an axis sampled (LIMIT_SWITCH_SAMPLE). -/
def Lane.sampleSwitches (l : Lane) (n : AxisId) : Lane :=
  let c := l.cfg
  let i := n.val
  if c.kind i != .steer then l
  else
    let one (l : Lane) (ch : Nat) (neg : Bool) : Lane :=
      if ch < 8 ∨ 15 < ch then l
      else
        let s := if neg then l.swNeg.get n else l.swPos.get n
        let s := s.sample (c.axisProfileLimitChatterWin i) l.tick.count (l.measured n) (l.rawTripped n ch)
        if neg then { l with swNeg := l.swNeg.set n s } else { l with swPos := l.swPos.set n s }
    one (one l (c.axisProfileLimitNegCh i) true) (c.axisProfileLimitPosCh i) false

/-- A switch has tripped: where the axis moves under this lane, a stop begins in the next tick with FBK-032, but not during END_LEARN (R218, R530). -/
def Lane.switchTrips (l : Lane) (n : AxisId) (neg : Bool) : Lane :=
  if ((l.ax n).role == .holder || l.start.state == .unsealed) && (l.prof.get n).moving && !l.endLearn n then
    (l.modProf n fun p => { p with stopNext := if p.stopNext = 0 then 2 else p.stopNext }).raise .fbk032 (.axis n.val) (if neg then 0 else 1)
  else l

/-- A switch enters CHATTER at the close of the tick whose window holds more than CHATTER_N transitions: FBK-030, and a trip where it was not tripped before (R216, R218). -/
def Lane.chatterClose (l : Lane) (n : AxisId) (neg : Bool) : Lane :=
  let s := if neg then l.swNeg.get n else l.swPos.get n
  if l.cfg.kind n.val = .steer ∧ s.seen ∧ !s.chatter ∧ l.cfg.axisProfileLimitChatterN n.val < s.trans.length then
    let s1 := { s with chatter := true }
    let l := if neg then { l with swNeg := l.swNeg.set n s1 } else { l with swPos := l.swPos.set n s1 }
    let l := l.raise .fbk030 (.axis n.val) (if neg then 0 else 1)
    if s.deb then l else l.switchTrips n neg
  else l

/-- A raw state that has held for T_DEB ticks becomes the debounced state; a trip while the axis moves stops the move (R216, R218). -/
def Lane.debounce (l : Lane) (n : AxisId) (neg : Bool) : Lane :=
  let s := if neg then l.swNeg.get n else l.swPos.get n
  if s.seen ∧ s.raw ≠ s.deb ∧ l.cfg.axisProfileLimitTDeb n.val ≤ s.run then
    let s1 := { s with deb := s.raw }
    let l := if neg then { l with swNeg := l.swNeg.set n s1 } else { l with swPos := l.swPos.set n s1 }
    if !s.tripped && s1.tripped then l.switchTrips n neg else l
  else l

/-- CHATTER ends after CHATTER_WIN ticks without a raw transition (R216). -/
def Lane.chatterEnd (l : Lane) (n : AxisId) (neg : Bool) : Lane :=
  let s := if neg then l.swNeg.get n else l.swPos.get n
  let win := l.cfg.axisProfileLimitChatterWin n.val
  let quiet := s.trans.all fun t => t + win ≤ l.tick.count
  if s.chatter ∧ quiet then
    let s1 := { s with chatter := false, deb := s.raw }
    if neg then { l with swNeg := l.swNeg.set n s1 } else { l with swPos := l.swPos.set n s1 }
  else l

/-- The switch states a lane publishes: negative and positive end of each axis (R217). -/
def Lane.switchShare (l : Lane) : Tab 12 (Bool × Bool) := Tab.ofFn fun n => ((l.swNeg.get n).tripped, (l.swPos.get n).tripped)

/-- The switch states that the holder of an axis last published, where this lane is not the holder. -/
def Lane.holderSwitches (l : Lane) (n : AxisId) : Option (Bool × Bool) :=
  match (l.ax n).heldBy with
  | some h => if h = l.id then none else (l.px.get h).switches.map (·.get n)
  | none => none

/-- Ticks of disagreement of this standby's switches with the holder's (R217). -/
def Lane.countDisagree (l : Lane) (n : AxisId) : Lane :=
  if l.cfg.kind n.val != .steer || (l.ax n).role != .standby then l.modProf n fun p => { p with disagree := 0, disagreePos := 0 }
  else
    match l.holderSwitches n with
    | none => l
    | some s =>
      l.modProf n fun p =>
        { p with disagree := if (l.swNeg.get n).tripped != s.1 then satInc 65535 p.disagree else 0
                 disagreePos := if (l.swPos.get n).tripped != s.2 then satInc 65535 p.disagreePos else 0 }

/-- FBK-031 (R217). -/
def Lane.switchDisagree (l : Lane) (n : AxisId) (neg : Bool) : Lane :=
  let p := l.prof.get n
  if (if neg then p.disagree else p.disagreePos) = l.cfg.axisProfileLimitChatterWin n.val then
    (l.raise .fbk031 (.axis n.val) (if neg then 0 else 1)).modProf n fun p =>
      if neg then { p with disagree := satInc 65535 p.disagree + 1 } else { p with disagreePos := satInc 65535 p.disagreePos + 1 }
  else l

/-! ## The generator in step 2 -/

/-- What the holder carries to the other lanes (R204). -/
def Lane.profShare (l : Lane) (n : AxisId) : ProfShare :=
  let p := l.prof.get n
  { target := p.target, hasTarget := p.hasTarget, phase := p.phase, motion := p.motion, jogV := p.jogV, cause := p.cause, stopC := p.stopC
    held := p.held, overshoot := p.overshoot, reversing := p.reversing, lim := p.lim, remain := p.remain, stepOn := p.stepOn, x0 := p.x0
    stepX := if p.stepOn then p.x0 + l.stepIn.dx else 0, steps := if p.stepOn then l.stepIn.sum - p.n0 else 0
    car := if n.val = l.cfg.steerFront then some (l.car.moves, l.car.moveTo) else none }

/-- A position of the holder's tick n−1, in the origin of tick n: where the origin shifted in tick n−1, the value is from before the shift (R222). -/
def Lane.sinceShift (l : Lane) (n : AxisId) (x : Int) : Int :=
  match (l.prof.get n).shifted with
  | some (t, c) => if t + 1 = l.tick.count then x - fx c else x
  | none => x

/-- A standby or follower takes the holder's profile (R204). -/
def Lane.adoptProfile (l : Lane) (n : AxisId) : Lane :=
  match (l.ax n).heldBy with
  | none => l
  | some h =>
    if h = l.id then l
    else
      let l := match (l.px.get h).prof.get n with
        | some s =>
          l.modProf n fun p =>
            { p with target := s.target, hasTarget := s.hasTarget, phase := s.phase, motion := s.motion, jogV := s.jogV, cause := s.cause
                     stopC := s.stopC, held := s.held, overshoot := s.overshoot, reversing := s.reversing, lim := s.lim, remain := s.remain
                     stepOn := s.stepOn, x0 := if s.stepOn then s.stepX - l.stepIn.dx else s.x0
                     n0 := if s.stepOn then l.stepIn.sum - s.steps else p.n0 }
        | none => l
      match (l.px.get h).shadowPrev with
      | some t => l.modProf n fun p => { p with x := l.sinceShift n (t.get n).x, v := (t.get n).v }
      | none => l

/-- The generator set PASSIVE at a mode set-point in pu with 32 fraction bits (R200). -/
def Profile.passive (p : Profile) (x : Int) : Profile :=
  { p with v := (x - p.x) * tps, x := x, a := 0, phase := .passive, motion := .none, stepOn := false, overshoot := false, reversing := false, stopC := 0
           stopNext := 0 }

/-- One tick of the generator in POSITION, HOLD or a job (R200, R205). DESIGN CHOICE: the lag of R226 is taken as a magnitude, so PLS-041 is raised for a lag in either direction (log 166). -/
def Lane.stepProfile (l : Lane) (n : AxisId) : Lane :=
  let c := l.cfg
  let i := n.val
  let p := l.prof.get n
  let p := p.takeUp
  let X := p.x0 + l.stepIn.dx
  let p := if p.stopNext = 0 then p else { (p.beginStop (fx (c.axisProfileDstop i)) p.stopNext X) with stopNext := 0 }
  let (p, ev) : Profile × Option Int :=
    match p.motion with
    | .none => (p, none)
    | .position => p.stepPosition (fx (c.axisProfileDhard i))
    | .speed => (p.stepSpeed, none)
    | .stopping => (p.stepStop (fx (c.axisProfileDstop i)), none)
    | .track => (p.stepTrack X l.stepIn.vn, none)
  let p := { p with dmaxChanged := false, fresh := false }
  let holder := (l.ax n).role == .holder || l.start.state == .unsealed
  let l := { l with prof := l.prof.set n p }
  let l := match ev with | some d => if holder then l.raise .pls040 (.axis i) (roundDiv d (2 ^ 32)) else l | none => l
  if p.motion = .track then
    let lag := absI (X - p.x)
    if !p.lagRaised ∧ fx c.stepinLagmax < lag then
      let l := if holder then l.raise .pls041 (.axis i) (roundDiv lag (2 ^ 32)) else l
      l.modProf n fun p => { p with lagRaised := true }
    else if 2 * lag < fx c.stepinLagmax then l.modProf n fun p => { p with lagRaised := false } else l
  else l

/-! ## Hold reduction -/

/-- The ticks within HOLD.BAND and the ramp of the limit (R213, R214); `active` where the axis is in POSITION or HOLD. -/
def Lane.holdTick (l : Lane) (n : AxisId) (active : Bool) : Lane :=
  let err := absI (roundDiv (l.prof.get n).x 65536 - l.measured n)
  let inBand := err ≤ (l.cfg.axisProfileHoldBand n.val : Int) * 65536
  l.modProf n fun p =>
    if active && p.phase == .rest && inBand then
      { p with holdCount := satInc 65536 p.holdCount
               holdRamp := if p.holdOn then satInc (l.cfg.axisProfileHoldRamp n.val) p.holdRamp else 0 }
    else { p with holdCount := 0, holdOn := false, holdRamp := 0 }

/-- The hold reduction begins when the count has reached HOLD.DELAY (R213); HOLD.PCT = 100 disables it (R214). -/
def Lane.holdReduction (l : Lane) (n : AxisId) : Lane :=
  let p := l.prof.get n
  if l.cfg.kind n.val = .steer ∧ (l.ax n).role = .holder ∧ p.phase = .rest ∧ !p.holdOn ∧ l.cfg.axisProfileHoldPct n.val < 100 ∧
      l.cfg.axisProfileHoldDelay n.val ≤ p.holdCount then
    l.modProf n fun p => { p with holdOn := true }
  else l

/-- The whole-axis current limit after hold reduction (R213). -/
def Lane.holdLimit (l : Lane) (n : AxisId) : Q :=
  let c := l.cfg
  let ip := c.axisIpeak n.val
  let p := l.prof.get n
  if p.holdOn then
    let low := roundDiv (ip * c.axisProfileHoldPct n.val) 100
    ip - roundDiv ((ip - low) * (min p.holdRamp (c.axisProfileHoldRamp n.val) : Nat)) (maxI 1 (c.axisProfileHoldRamp n.val))
  else ip

/-- The profile state word (Table 8.8). -/
def Lane.profileState (l : Lane) (n : AxisId) : Nat :=
  let p := l.prof.get n
  p.phase.code + 8 * p.cause + 32 * b2n p.held.isSome + 64 * b2n p.overshoot + 128 * b2n p.holdOn + 256 * b2n p.stepOn +
  512 * b2n l.stepIn.settled + 1024 * b2n (l.swNeg.get n).tripped + 2048 * b2n (l.swPos.get n).tripped +
  4096 * b2n (l.swNeg.get n).chatter + 8192 * b2n (l.swPos.get n).chatter

/-- A profile as a gather leaves it (R203, R557): limits from the image, nothing requested. -/
def Cfg.freshProfile (c : Cfg) (n : Nat) : Profile :=
  { lim := { vmax := c.axisProfileVmax n, amax := min (c.axisProfileAmax n) (c.axisProfileDhard n)
             dmax := min (c.axisProfileDmax n) (c.axisProfileDhard n), jmax := c.axisProfileJmax n } }

end Sys2Proof.Machine
end

