-- ==== Sys2Proof/Machine/Chassis.lean ====
section
/-! DEFINITION. Steering and braking functions: sensor instances, vehicle speed, steering demands, brake demands, park release, slip cap, drive inhibit (chapter 14). -/

namespace Sys2Proof.Machine

/-! ## Angles -/

/-- π with 40 fraction bits. -/
def pi40 : Int := 3454217652358

/-- The terms of a Taylor series summed: each term is the one before times `x2 / (k (k + 1))`, alternating. -/
def taylor (x2 : Int) : Nat → Int → Int → Int
  | 0, _, _ => 0
  | f + 1, k, t => t + taylor x2 f (k + 2) (-(roundDiv (roundDiv (t * x2) (2 ^ 40)) (k * (k + 1))))

/-- Sine of an angle in radians with 40 fraction bits, for angles within a half turn. -/
def sinRad (x : Int) : Int := taylor (roundDiv (x * x) (2 ^ 40)) 14 2 x

/-- Cosine likewise. -/
def cosRad (x : Int) : Int := taylor (roundDiv (x * x) (2 ^ 40)) 14 1 (2 ^ 40)

/-- The arctangent series x − x³/3 + x⁵/5 − … with 40 fraction bits. -/
def atanSeries (x2 : Int) : Nat → Int → Int → Int
  | 0, _, _ => 0
  | f + 1, k, t => roundDiv t k + atanSeries x2 f (k + 2) (-(roundDiv (t * x2) (2 ^ 40)))

/-- The arctangent of a number of magnitude at most 1, by halving the angle twice first. -/
def atanSmall (x : Int) : Int :=
  let half (y : Int) : Int := roundDiv (y * 2 ^ 40) (2 ^ 40 + isqrtBig (2 ^ 80 + y * y).toNat)
  4 * (let y := half (half x); atanSeries (roundDiv (y * y) (2 ^ 40)) 14 1 y)

/-- The arctangent in radians, both with 40 fraction bits. -/
def atanRad (x : Int) : Int :=
  if absI x ≤ 2 ^ 40 then atanSmall x
  else signI x * (roundDiv pi40 2 - atanSmall (roundDiv (2 ^ 80) (absI x)))

/-- An angle in radians with 40 fraction bits as pu of 0.001° with 32 fraction bits (R201). -/
def radToPu (x : Int) : Int := roundDiv (x * 180000 * 2 ^ 32) pi40

/-- An angle in pu with 32 fraction bits as radians with 40 fraction bits. -/
def puToRad (x : Int) : Int := roundDiv (x * pi40) (180000 * 2 ^ 32)

/-! ## Sensor instances -/

/-- An object of a sensor instance: index 0 is STEER[1], 1 to 7 are BRAKE[1] to BRAKE[7]. -/
def Cfg.sensorBand (c : Cfg) (i : Nat) : Q := if i = 0 then c.sensorSteerBand else c.sensorBrakeBand i

/-- XTIME of a sensor instance. -/
def Cfg.sensorXtime (c : Cfg) (i : Nat) : Nat := if i = 0 then c.sensorSteerXtime else c.sensorBrakeXtime i

/-- Some lane of the lane mask has a channel for the instance (R376). -/
def Cfg.sensorUsed (c : Cfg) (i : Nat) : Bool := LaneId.all.any fun x => c.maskHas x && (c.sensorCh x i).isSome

/-- The number of lanes whose CH entry names a channel. -/
def Cfg.sensorLanes (c : Cfg) (i : Nat) : Nat := (LaneId.all.filter fun x => (c.sensorCh x i).isSome).length

/-- The code of an instance in event records: [7] the block, [6:0] the instance byte (R395, Table 15.4). -/
def sensorCode (i : Nat) : Nat := if i = 0 then 1 else 128 + i

/-- One sensor changed. -/
def Lane.modSensor (l : Lane) (i : Fin 8) (f : Sensor → Sensor) : Lane :=
  { l with chas := { l.chas with sensors := l.chas.sensors.modify i f } }

/-- The value of this lane's element (R372). -/
def Lane.elemValue (l : Lane) (i : Nat) : Q :=
  let c := l.cfg
  match c.sensorCh l.id i with
  | none => 0
  | some ch =>
    if 4 ≤ i then sat48 (roundDiv (l.chSpeed ch * c.sensorBrakeCirc i * 36) (maxI 1 (c.feedbackTonePositions ch) * 10000))
    else
      let (s, o) := if i = 0 then (c.sensorSteerScale, c.sensorSteerOffset) else (c.sensorBrakeScale i, c.sensorBrakeOffset i)
      addQ (mulQ (l.chQ ch) s) o

/-- What fails an element in a tick (R373). -/
def Lane.elemFails (l : Lane) (i : Nat) : Bool :=
  match l.cfg.sensorCh l.id i with
  | none => true
  | some ch => l.gat.sensorBad.getD i false || l.chanFailed ch || (l.fbk.getD ch {}).isStale

/-- Two values under the pair rule of Table 14.1. -/
def pairRule (i : Nat) (x y : Q) : Q := if i = 0 ∨ 4 ≤ i then roundDiv (x + y) 2 else maxI x y

/-- The values of tick n−1 that the other lanes in OPERATE carry of an instance (Table 14.2, R18). -/
def Lane.otherValues (l : Lane) (i : Fin 8) : List Q :=
  l.id.others.filterMap fun x =>
    if l.counts x then (match (l.px.get x).detail with | some d => d.elems.get i | none => none) else none

/-- The value in use (R375, Table 14.2). -/
def Lane.valueInUse (l : Lane) (i : Fin 8) : Option Q :=
  let s := l.chas.sensors.get i
  let os := l.otherValues i
  if !s.failed then
    match s.pair, os with
    | true, [y] => if 4 ≤ i.val then some s.value else some (pairRule i.val s.value y)
    | _, _ => some s.value
  else match os with
    | x :: y :: _ => some (pairRule i.val x y)
    | [x] => some x
    | [] => none

/-- The own elements sampled: values and failures (R372, R373). -/
def Lane.sampleSensors (l : Lane) : Lane :=
  (List.finRange 8).foldl (fun l i =>
    let v := l.elemValue i.val
    let bad := l.elemFails i.val
    l.modSensor i fun s => { s with prev := if s.failed then none else some s.value, failed := s.failed || bad, value := v }) l

/-- No lane in OPERATE has a valid element: this one fails its own, and the detailed state of every other one in OPERATE says so of its own (R376); while such a state is missing, the lane cannot see it. -/
def Lane.lostEverywhere (l : Lane) (failed : Bool) (valid : Detail → Bool) : Bool :=
  l.start.state == .operate && failed &&
    l.counted.all fun x => match (l.px.get x).detail with | some d => !valid d | none => false

/-- The values in use, and OPR-022 (R375, R376). -/
def Lane.useSensors (l : Lane) : Lane :=
  let past := (l.chas.sensors.getD 0 {}).use.getD (l.chas.hist.headD 0)
  let l := { l with chas := { l.chas with hist := (past :: l.chas.hist).take 8 } }
  (List.finRange 8).foldl (fun l i =>
    let s := l.chas.sensors.get i
    let u := l.valueInUse i
    let gone := l.cfg.sensorUsed i.val && l.lostEverywhere s.failed fun d => (d.elems.get i).isSome
    -- where a state is missing, an episode of OPR-022 in force stays (R585)
    let lost := gone || (s.lost && u.isNone && l.start.state == .operate)
    let l := l.modSensor i fun s => { s with use := u, lost := lost }
    if lost && !s.lost then l.raise .opr022 (.sensor (sensorCode i.val)) 0 else l) l

/-- The cross-checks counted at the close of the tick, over the values that lanes in OPERATE had in the tick before, the own included (R374): a lane outside OPERATE judges none. -/
def Lane.judgeSensors (l : Lane) : Lane :=
  (List.finRange 8).foldl (fun l i =>
    let s := l.chas.sensors.get i
    let others := l.id.others.filterMap fun x =>
      if l.counts x then (match (l.px.get x).detail with | some d => d.elems.get i | none => none) else none
    match s.failed || l.start.state != .operate, s.prev with
    | false, some own =>
      let band := l.cfg.sensorBand i.val
      match others with
      | [x, y] =>
        let med := roundDiv (median2 [own, x, y]) 2
        let d := own - med
        l.modSensor i fun s => { s with run := if band < absI d then satInc 65536 s.run else 0, diff := d, pairRun := 0, pair := false, pairTicks := 0 }
      | [x] =>
        let d := own - x
        let beyond := band < absI d
        l.modSensor i fun s =>
          { s with run := 0, diff := d, pairRun := if beyond then satInc 65536 s.pairRun else 0, pair := s.pair && beyond
                   pairTicks := if s.pair && beyond then satInc 65535 s.pairTicks else 0 }
      -- with no other valid value nothing ends a disagreement in force
      | _ => l.modSensor i fun s => { s with run := 0, pairRun := 0 }
    | _, _ => l.modSensor i fun s => { s with run := 0, pairRun := 0, pair := false, pairTicks := 0 }) l

/-- A difference in hundredths of the unit of value. -/
def hundredths (q : Q) : Int := roundDiv (q * 100) 65536

/-- An element fails its cross-check in the tick in which the count, this tick included, reaches XTIME (R374). -/
def Lane.elementFail (l : Lane) (i : Fin 8) : Lane :=
  let s := l.judgeSensors.chas.sensors.get i
  if !s.failed ∧ l.cfg.sensorXtime i.val ≤ s.run then
    (l.raise (if 4 ≤ i.val then .fbk050 else .opr020) (.sensor (sensorCode i.val)) (hundredths s.diff)).modSensor i fun s =>
      { s with failed := true, run := 0 }
  else l

/-- A pair disagreement comes into force in the tick in which the count, this tick included, reaches XTIME (R374). -/
def Lane.pairDisagree (l : Lane) (i : Fin 8) : Lane :=
  let s := l.judgeSensors.chas.sensors.get i
  if !s.failed ∧ !s.pair ∧ l.cfg.sensorXtime i.val ≤ s.pairRun then
    (l.raise .opr021 (.sensor (sensorCode i.val)) (hundredths s.diff)).modSensor i fun s => { s with pair := true, pairTicks := 0 }
  else l

/-- The value in use of an instance, index 0 STEER[1]. -/
def Lane.inUse (l : Lane) (i : Nat) : Option Q := (l.chas.sensors.getD i {}).use

/-! ## Vehicle speed -/

/-- A speed above every threshold and table, for a speed that is not measured (R377). -/
def noSpeed : Q := 2 ^ 40

/-- The safe vehicle speed, km/h (R377). -/
def Lane.speed (l : Lane) : Q := match l.chas.speed with | some v => absI v | none => noSpeed

/-- Lane speed and standstill (R377, R378). -/
def Lane.formSpeed (l : Lane) : Lane :=
  let own := [4, 5, 6, 7].filter fun i => !(l.chas.sensors.getD i {}).failed
  let vals := own.map fun i => (l.chas.sensors.getD i {}).value
  let still := 2 ≤ own.length && own.all fun i =>
    match l.cfg.sensorCh l.id i with | some ch => (l.fbk.getD ch {}).isStill | none => false
  { l with chas := { l.chas with speed := if 2 ≤ vals.length then some (roundDiv (median2 vals) 2) else none, still := still } }

/-- The agreement of ground-based speed messages (R379). -/
def Lane.canSpeed (l : Lane) : Lane :=
  let ok := match l.chas.can, l.chas.speed with
    | some (v, t), some w => l.tick.count < t + 4000 && absI (absI v - absI w) ≤ l.cfg.brakeSpeedCanband
    | _, _ => false
  { l with chas := { l.chas with canRun := if ok then satInc 65536 l.chas.canRun else 0, canOk := l.chas.canOk && ok } }

/-- A ground-based speed is accepted (R379). -/
def Lane.acceptSpeed (l : Lane) : Lane :=
  if !l.chas.canOk ∧ l.cfg.brakeSpeedCantime ≤ l.chas.canRun then { l with chas := { l.chas with canOk := true } } else l

/-- A curve at an abscissa; none for 0xFF. -/
def Cfg.curve (c : Cfg) (k : Nat) (x : Int) : Option Int := if k = 255 then none else some (interp (c.curveX k) (c.curveY k) x)

/-! ## Steering demands -/

/-- The steering ratio R at the safe vehicle speed, ° hand-wheel per ° road-wheel (R380). -/
def Lane.ratio (l : Lane) : Option Q := l.cfg.curve l.cfg.steerRatioCurve l.speed

/-- The MANUAL demand of the front axis, pu with 32 fraction bits (R380). -/
def Lane.manualDemand (l : Lane) : Option Int :=
  match l.inUse 0, l.ratio with
  | some h, some r =>
    let m := fx l.cfg.steerAngleMax
    if r = 0 then none else some (clampI (-m) m (roundDiv (h * 1000 * 2 ^ 32) r))
  | _, _ => none

/-- The hand-wheel angle that a set-point maps to (R380, R280), Q16.16 °. -/
def Lane.wheelOf (l : Lane) (b : Int) : Option Q := l.ratio.map fun r => roundDiv (b * r) (1000 * 2 ^ 32)

/-- A guidance command is valid: not older than GUIDE.TIMEOUT ticks (R383). -/
def Lane.guideValid (l : Lane) : Bool :=
  match l.chas.guide with | some (_, t) => l.tick.count < t + l.cfg.steerGuideTimeout | none => false

/-- The curvature of a set-point: 1,000 × tan(b / 1,000 °) / WHEELBASE, 1/m with 32 fraction bits (R382). -/
def Lane.kappaOf (l : Lane) (b : Int) : Int :=
  let x := puToRad b
  let c := cosRad x
  if l.cfg.steerWheelbase = 0 ∨ c = 0 then 0 else roundDiv (1000 * sinRad x * 2 ^ 32) (c * (l.cfg.steerWheelbase : Int))

/-- The curvature envelope of an axis in CURVATURE in one tick (R382, R383): κ(n), and whether κ_c differs from κ_in. -/
def Lane.envelope (l : Lane) (k0 : Int) : Int × Bool :=
  let c := l.cfg
  let v := l.speed
  match l.guideValid, l.chas.guide with
  | true, some (raw, _) =>
    let kin := if c.steerGuideSign = 1 then -raw else raw
    let K := absI ((c.curve c.steerGuideKmaxCurve v).getD (Config.noCurve 0 v)) * 65536
    let R := absI ((c.curve c.steerGuideKrateCurve v).getD (Config.noCurve 1 v)) * 65536
    let kc := clampI (-K) K kin
    let step := roundDiv R 40000
    (k0 + clampI (-step) step (kc - k0), kc != kin)
  | _, _ => (k0, false)

/-- The demand of CURVATURE from a curvature: 1,000 × (180 / π) × atan(WHEELBASE × κ / 1,000), pu with 32 fraction bits. -/
def Lane.curvatureDemand (l : Lane) (k : Int) : Int :=
  radToPu (atanRad (roundDiv (k * (l.cfg.steerWheelbase : Int) * 2 ^ 8) 1000))

/-- The share g of R384, Q16.16. -/
def Lane.followShare (l : Lane) (n : Nat) : Q :=
  let v := l.speed
  let a := l.cfg.axisFollowVcut n
  let b := l.cfg.axisFollowVzero n
  if v ≤ a then 65536 else if b ≤ v then 0 else roundDiv ((b - v) * 65536) (maxI 1 (b - a))

/-- The demand of a follow axis (R384), pu with 32 fraction bits; `b` the lead's set-point, pu with 16 fraction bits. -/
def Lane.followDemand (l : Lane) (n : Nat) (b : Int) : Int :=
  let y := (l.cfg.curve (l.cfg.axisFollowCurve n) b).getD (Config.noCurve 2 b)
  l.followShare n * y

/-- The lead's set-point for a follow axis, pu with 16 fraction bits. -/
def Lane.leadPoint (l : Lane) (n : Nat) : Option Int :=
  let lead := l.cfg.axisFollowLead n
  if lead = 0xFE then l.chas.leadFab
  else if lead < 12 then some (roundDiv (l.sup.getD lead {}).b 65536)
  else none

/-- The holder's load estimate of an axis: this lane's where it drives the axis, else as the holder's shadow values show it (R381, R138). -/
def Lane.holderLoad (l : Lane) (n : Nat) : Q :=
  if h : n < 12 then
    let own := (l.sup.get ⟨n, h⟩).load
    if (l.ax ⟨n, h⟩).role == .holder || l.start.state == .unsealed then own
    else match (l.ax ⟨n, h⟩).heldBy with
      | some x => if x = l.id then own else ((l.px.get x).shadowPrev.map fun t => (t.get ⟨n, h⟩).load).getD own
      | none => own
  else 0

/-- The torque demand of the FEEL axis, N·m (R381); ω_h is 0 while no hand-wheel value is in use (DESIGN CHOICE: the manual names none). -/
def Lane.feelTorque (l : Lane) : Q :=
  let c := l.cfg
  let front := c.steerFront
  let h := (l.inUse 0).getD 0
  let old := if (l.inUse 0).isSome then l.chas.hist.getD 7 h else h
  let wh := (h - old) * 5000
  let damp := mulQ c.steerFeelDamp wh
  let t :=
    if front < 12 ∧ (l.sup.getD front {}).mode = 2 then
      let F := mulQ (l.holderLoad front) (c.axisLoopMechKrack front)
      let lim := roundDiv ((c.steerAngleMax : Int) * l.ratio.getD 0) 1000
      let tend := (if lim < absI h then signI h * mulQ c.steerFeelKend (absI h - lim) else 0)
      let rack := mulQ c.steerFeelKrack F
      sumI [-rack, -damp, -tend]
    else -damp
  clampI (-c.steerFeelTmax) c.steerFeelTmax t

/-- The override count of R280, by the holder of the FEEL axis; other lanes take the holder's. -/
def Lane.countOverride (l : Lane) : Lane :=
  let c := l.cfg
  let n := c.steerOverrideFeel
  if h : n < 12 then
    let a := l.ax ⟨n, h⟩
    if a.role = .holder then
      let front := c.steerFront
      let torque := c.steerOverrideTorque < absI (l.sup.getD n {}).load
      let angle := match l.inUse 0, l.wheelOf (l.sup.getD front {}).b with
        | some x, some y => front < 12 && decide (c.steerOverrideAngle < absI (x - y))
        | _, _ => false
      let hit := torque || angle
      let cnt := if hit then satInc 255 l.chas.override else 0
      { l with chas := { l.chas with override := cnt, overrideBy := b2n torque + 2 * b2n angle, overFired := hit && l.chas.overFired } }
    else
      match a.heldBy with
      | some x =>
        (match (l.px.get x).detail with
         | some d => { l with chas := { l.chas with override := d.override, overFired := d.override != 0 && l.chas.overFired } }
         | none => l)
      | none => l
  else l

/-! ## Wheel angle against motor position -/

/-- Counts per mechanical turn of a channel, and the width at which its position wraps (R385). -/
def Lane.perTurn (l : Lane) (n ch : Nat) : Int × Nat :=
  let c := l.cfg
  if ch < 4 then
    match c.feedbackMode ch with
    | 3 => (c.feedbackTonePositions ch, 32)
    | 4 => (6 * (c.axisCommPolepairs n : Int), 32)
    | _ => (4 * (c.feedbackLines ch : Int), 32)
  else if ch < 6 then (65536 * (c.feedbackResPoleratio ch : Int), 16)
  else ((if c.axisCommCpt n = 0 then 2 ^ c.feedbackSsiBits ch else (c.axisCommCpt n : Int)), c.feedbackSsiBits ch)

/-- The accumulated position and the comparison of R385 for one axis. -/
def Lane.crossTick (l : Lane) (n : AxisId) : Lane :=
  let c := l.cfg
  let i := n.val
  let ch := c.axisLoopXchkCh i
  if c.kind i != .steer || 7 < ch then l
  else
    let (per, bits) := l.perTurn i ch
    let pos := l.chPos ch
    let acc := l.chas.turns.get n + (match l.chas.xAngle.get n with | some p => toSigned bits (toField bits (pos - p)) | none => 0)
    let w := l.measured n
    let m := roundDiv (acc * c.axisLoopXchkRatio i) (maxI 1 per)
    let off := match l.chas.xOff.get n with
      | some o => some o
      | none => if l.start.state = .operate then some (w - m) else none
    let d := match off with | some o => w - m - o | none => 0
    let beyond := (c.axisLoopXchkBand i : Int) * 65536 < absI d
    { l with chas := { l.chas with
        turns := l.chas.turns.set n acc, xAngle := l.chas.xAngle.set n (some pos), xOff := l.chas.xOff.set n off
        xchkRun := l.chas.xchkRun.modify n fun r => if beyond then satInc 65536 r else 0, xchkDiff := l.chas.xchkDiff.set n d } }

/-- FBK-052 (R385). -/
def Lane.wheelXchk (l : Lane) (n : AxisId) : Lane :=
  if l.chas.xchkRun.get n = l.cfg.axisLoopXchkTime n.val then
    let l := l.raise .fbk052 (.axis n.val) (roundDiv (absI (l.chas.xchkDiff.get n)) 65536)
    { l with chas := { l.chas with xchkRun := l.chas.xchkRun.modify n (· + 1) } }
  else l

/-! ## Braking -/

/-- A loop with a divisor evaluates in this tick (R234). -/
def Lane.evaluates (l : Lane) (n D : Nat) : Bool := ((l.bus.phase : Int) - l.cfg.axisLoopPhase n) % (max 1 D : Nat) == 0

/-- The pressure a valve axis measures on LOOP.PRS.CH, bar. -/
def Lane.pressure (l : Lane) (n : Nat) : Q := l.chQ (l.cfg.axisLoopPrsCh n)

/-- The accumulator's channel, where one is configured (R388). -/
def Cfg.accChannel (c : Cfg) : Option Nat :=
  let n := c.brakePump
  if n < 12 then (let ch := c.axisCommPumpCh n; if 8 ≤ ch ∧ ch < 16 then some ch else none) else none

/-- The accumulator pressure, where the lane has a valid value (R389). -/
def Lane.accumulator (l : Lane) : Option Q :=
  match l.cfg.accChannel with
  | some ch =>
    let c := l.fbk.getD ch {}
    if l.cfg.feedbackMode ch = 0 ∨ c.isStale ∨ c.conv.head? = some none then none else some (l.chQ ch)
  | none => none

/-- The slip cap of a side updated at an evaluation of its pressure loop; unchanged while there is no reference speed or no wheel of the side to form a slip from (R390; DESIGN CHOICE: the manual names no slip then). -/
def Lane.slipCap (l : Lane) (n : Nat) (left : Bool) (cap : Option Q) (s : Q) (dt : Nat) : Option Q × Option Int :=
  let c := l.cfg
  let wheels := [4, 5, 6, 7].filterMap l.inUse
  let vref : Option Q := if l.chas.canOk then l.chas.can.map (fun x => absI x.1) else match wheels with | [] => none | x :: xs => some (maxOf x xs)
  let side := (if left then [4, 6] else [5, 7]).filterMap l.inUse
  match vref, side with
  | some v, xs =>
    let w := match xs with | [] => v | x :: r => r.foldl minI x
    if v < c.brakeSlipVmin ∨ v ≤ 0 then (none, none)
    else if xs.isEmpty then (cap, none)
    else
      let slip := roundDiv ((v - w) * 65536) v
      let p := l.pressure n
      if c.brakeSlipMax < slip then
        let base := match cap with | some k => minI k p | none => p
        (some (maxI 0 (base - c.brakeSlipStep)), if cap.isNone then some (roundDiv (slip * 1000) 65536) else none)
      else if slip < c.brakeSlipMax - c.brakeSlipHyst then
        match cap with
        | some k =>
          let k1 := k + roundDiv (c.brakeSlipRise * dt) 40000
          (if s ≤ k1 then none else some k1, none)
        | none => (none, none)
      else (cap, none)
  | none, _ => (cap, none)

/-- Brake demands of the tick (R386, R387, R390, R80). -/
def Lane.brakeDemands (l : Lane) : Lane :=
  let c := l.cfg
  let pedal (i : Nat) : Q :=
    match c.curve c.brakePedalCurve ((l.inUse i).getD 0) with | some p => p | none => 0
  let p1 := pedal 1
  let p2 := pedal 2
  let joint := c.brakeSplitVmax ≤ l.speed
  let pL := if joint then maxI p1 p2 else p1
  let pR := if joint then maxI p1 p2 else p2
  let stopD := match l.col.stopS with | some s => if s < l.tick.count then c.faultStopDecel else 0 | none => 0
  let D := maxI stopD (if l.chas.parkDecel then c.brakeParkDecel else 0)
  let pA := mulQ c.brakeKdecel D
  let sL := maxI pL pA
  let sR := maxI pR pA
  let side (n : Nat) (left : Bool) (cap : Option Q) (s : Q) (l : Lane) : Lane × Option Q :=
    if (if h : n < 12 then l.serves ⟨n, h⟩ else false) ∧ c.axisLoopPrsCh n < 16 ∧ l.evaluates n (c.axisLoopPrsDiv n) then
      let (cap1, ev) := l.slipCap n left cap s (c.axisLoopPrsDiv n)
      match ev with | some v => (l.raise .pls052 (.axis n) v, cap1) | none => (l, cap1)
    else (l, cap)
  let (l, capL) := side c.brakeValveLeft true l.chas.capL sL l
  let (l, capR) := side c.brakeValveRight false l.chas.capR sR l
  let lim (s : Q) (cap : Option Q) : Q := match cap with | some k => minI s k | none => s
  let tr := minI sL sR
  let dT := (c.curve c.brakeTrailerCurve tr).getD tr
  let (dL, dR, dT) := match l.chas.holdP with | some (x, y, z) => (x, y, z) | none => (lim sL capL, lim sR capR, dT)
  { l with chas := { l.chas with pL := pL, pR := pR, decel := D, capL := capL, capR := capR, dL := dL, dR := dR, dT := dT } }

/-- The park release (R389). -/
def Lane.parkTick (l : Lane) : Lane :=
  let c := l.cfg
  let lever := match l.inUse 3 with | some v => v | none => if l.chas.still then 65536 else 0
  let set := 32768 ≤ lever
  let slow := l.speed < c.brakeParkVapply
  let still := l.col.stopStill.isSome
  let pres := match c.accChannel with
    | none => true
    | some _ => (match l.accumulator with | some p => decide (c.brakeParkPmin ≤ p) | none => false)
  let begins := !l.chas.park && !set && pres && !still && l.start.sinceP.isNone
  let ends := l.chas.park && ((set && slow) || still || l.start.sinceP.isSome)
  let park := (l.chas.park && !ends) || begins
  let fast := park && set && !slow
  { l with chas := { l.chas with park := park, parkDecel := fast, opr025 := fast } }

/-- The park lever set at speed is noted once per episode (R389, R585). -/
def Lane.parkStep (l : Lane) : Lane :=
  let was := l.chas.opr025
  let l := l.parkTick
  if l.chas.opr025 && !was then
    l.raise .opr025 (if l.cfg.brakePark < 12 then .axis l.cfg.brakePark else .none) (roundDiv (l.speed * 10) 65536)
  else l

/-- The largest service brake pressure demand (R387). -/
def Lane.maxService (l : Lane) : Q := maxI l.chas.dL (maxI l.chas.dR l.chas.dT)

/-- The pressure demand p_ref of a valve axis (R387), the larger of it and the class 1 share in force (Table 18.3), but for a service brake held at its pressure under R80; 0 where no brake function drives it. -/
def Lane.prefOf (l : Lane) (n : Nat) : Q :=
  let c := l.cfg
  let d : Option Q := if n = c.brakeValveLeft then some l.chas.dL else if n = c.brakeValveRight then some l.chas.dR
    else if n = c.brakeValveTrailer then some l.chas.dT else none
  if d.isSome && l.chas.holdP.isSome then d.getD 0 else maxI (d.getD 0) (l.car.share.getD n 0)

/-- Pressure deviations counted after the loops ran of an axis the lane serves (R388). -/
def Lane.countPressure (l : Lane) (n : AxisId) : Lane :=
  let c := l.cfg
  if c.kind n.val != .valve || 15 < c.axisLoopPrsCh n.val then l
  else
    let dev := absI (l.prefOf n.val - l.pressure n.val)
    let sat := (l.loop.get n).satMid != 0
    { l with chas := { l.chas with
        prsDev := l.chas.prsDev.set n dev
        prsRun := l.chas.prsRun.modify n fun r => if !l.serves n then 0 else if sat then r else if c.brakePrsBand < dev then satInc 65536 r else 0 } }

/-- PLS-050 (R388). -/
def Lane.pressureFollow (l : Lane) (n : AxisId) : Lane :=
  if l.chas.prsRun.get n = l.cfg.brakePrsTime then
    let l := l.raise .pls050 (.axis n.val) (roundDiv (l.chas.prsDev.get n * 10) 65536)
    { l with chas := { l.chas with prsRun := l.chas.prsRun.modify n (· + 1) } }
  else l

/-- Low accumulator pressure counted (R388). -/
def Lane.countAcc (l : Lane) : Lane :=
  match l.cfg.accChannel with
  | none => l
  | some ch =>
    let p := l.chQ ch
    let low := p < l.cfg.brakeAccPlow
    { l with chas := { l.chas with
        acc := p, accRun := if low then satInc 4000 l.chas.accRun else 0, accLow := l.chas.accLow && decide (p ≤ l.cfg.brakeAccPlow), accRaised := l.chas.accRaised && low } }

/-- PLS-051 (R388, R585). -/
def Lane.accumulatorLow (l : Lane) : Lane :=
  if 4000 ≤ l.chas.accRun ∧ !l.chas.accRaised then
    let l := l.raise .pls051 (.axis l.cfg.brakePump) (roundDiv (l.chas.acc * 10) 65536)
    { l with chas := { l.chas with accRaised := true, accLow := true } }
  else l

/-- The lane drives l_DRVINH on (R391). -/
def Lane.drvinhOn (l : Lane) : Bool := l.start.state == .operate && l.col.stopS.isNone && l.start.sinceP.isNone

/-- The drive-inhibit output as R391 sets it. -/
def Lane.driveInhibit (l : Lane) : Lane := { l with start := { l.start with drvinh := l.drvinhOn } }

end Sys2Proof.Machine
end

