-- ==== Sys2Proof/Machine/Comm.lean ====
section
/-! DEFINITION. Commutation: electrical angle, currents, observer, borrowing and re-catch, pump start, three-pin drive (chapter 11). -/

namespace Sys2Proof.Machine

/-- 2π with 15 decimal places, times 10^15. -/
def twoPi : Int := 6283185307179586

/-- 10^15. -/
def e15 : Int := 1000000000000000

/-- One axis's commutation state changed. -/
def Lane.modComm (l : Lane) (n : AxisId) (f : CommPart → CommPart) : Lane := { l with comm := l.comm.modify n f }
/-- One axis's loop state changed. -/
def Lane.modLoop (l : Lane) (n : AxisId) (f : LoopPart → LoopPart) : Lane := { l with loop := l.loop.modify n f }
/-- One axis's supervision state changed. -/
def Lane.modSup (l : Lane) (n : AxisId) (f : SupPart → SupPart) : Lane := { l with sup := l.sup.modify n f }
/-- One axis's time base changed. -/
def Lane.modPwm (l : Lane) (n : AxisId) (f : PwmPart → PwmPart) : Lane := { l with pwm := l.pwm.modify n f }
/-- One leg changed. -/
def Lane.modLeg (l : Lane) (i : LegId) (f : Leg → Leg) : Lane := { l with leg := l.leg.modify i f }

/-- The electrical speed of a mechanical speed: rad/s from rpm, both Q16.16. -/
def rpmToRad (p : Nat) (rpm : Q) : Q := roundDiv (rpm * (p : Int) * twoPi) (60 * e15)

/-- The mechanical speed of an electrical speed. -/
def radToRpm (p : Nat) (w : Q) : Q := roundDiv (w * 60 * e15) (maxI 1 p * twoPi)

/-- The connection index of this lane's winding set, from its slot 0 tag (R108). -/
def Lane.connIndex (l : Lane) (n : AxisId) : Nat :=
  match l.gat.tags.get n with | some t :: _ => (t.getD 26 0).toNat | _ => 0

/-- The set displacement of the slot 0 tag (R108). -/
def Lane.setDisp (l : Lane) (n : AxisId) : Nat :=
  match l.gat.tags.get n with | some t :: _ => (t.getD 27 0).toNat | _ => 0

/-- The angle source of an axis. -/
def Cfg.source (c : Cfg) (n : Nat) : Nat := c.axisCommSource n

/-- The lane's set of the axis carries: its gate enable stands, and it has a driving role. -/
def Lane.drives (l : Lane) (n : AxisId) : Bool :=
  let a := l.ax n
  a.counter != 0 && (a.role == .holder || a.role == .follower || l.start.state == .unsealed)

/-! ## Sensor angle and speed -/

/-- A Hall angle (R291): angle and whether it is interpolated. -/
def Lane.hallAngle (l : Lane) (n : AxisId) (ch : Nat) : Int × Bool :=
  let c := l.cfg
  let x := l.fbk.getD ch {}
  let off := (c.axisCommOffset n.val : Int)
  let sgn : Int := if c.axisCommDir n.val = 1 then -1 else 1
  match hallSector x.la.lvl x.lb.lvl x.lz.lvl with
  | none => (off + sgn * roundDiv (x.lpos * 65536) 6, false)
  | some k =>
    let start := roundDiv ((k : Int) * 65536) 6
    let rpm := roundDiv (x.v * 60) (6 * maxI 1 (c.axisCommPolepairs n.val))
    if absI rpm < (c.axisCommHallWinterp n.val : Int) * 65536 then (off + sgn * (start + 5461), false)
    else
      let since : Int := match x.moved.head? with | some m => (l.clk : Int) - m.clk | none => 0
      -- sectors per second times the time since the edge, in 1/65,536 turn
      let turn := minI 10923 (roundDiv (absI x.v * 10923 * since) (65536 * 400000000))
      (off + sgn * (if 0 ≤ x.v then start + turn else start + 10923 - turn), true)

/-- The sensor angle of an axis (Table 11.2, R288): angle, angle in use, and whether it is valid. -/
def Lane.sensorAngle (l : Lane) (n : AxisId) : Int × Nat × Bool :=
  let c := l.cfg
  let i := n.val
  let ch := c.axisCommAngleCh i
  let x := l.fbk.getD ch {}
  let p : Int := c.axisCommPolepairs i
  let off : Int := c.axisCommOffset i
  let sgn : Int := if c.axisCommDir i = 1 then -1 else 1
  let ok := !l.chanFailed ch && !x.isStale && !x.isLost
  match c.source i with
  | 0 =>
    match x.refPos with
    | some r => (off + sgn * roundDiv (p * 65536 * (x.lpos - r)) (maxI 1 (4 * (c.feedbackLines ch : Int))), 0, ok)
    | none => let (a, ip) := l.hallAngle n (c.axisCommInitCh i); (a, if ip then 2 else 1, ok && !l.chanFailed (c.axisCommInitCh i))
  | 1 => (off + sgn * (p / maxI 1 (c.feedbackResPoleratio ch)) * x.lpos, 0, ok)
  | 2 =>
    let cpt : Int := c.axisCommCpt i
    let age : Int := match x.ssiHist with | p :: _ => ((l.clk - p.clk : Nat) : Int) | [] => 0
    let pos := x.lpos * 65536 + roundDiv (x.v * age) 400000000
    (off + sgn * (if cpt = 0 then 0 else roundDiv (p * ((pos % (cpt * 65536)))) cpt), 0, ok && x.ssiHave)
  | 3 => let (a, ip) := l.hallAngle n ch; (a, if ip then 2 else 1, ok)
  | _ => (0, 3, false)

/-- The sensor's mechanical speed, rpm (R292). -/
def Lane.sensorRpm (l : Lane) (n : AxisId) : Q :=
  let c := l.cfg
  let i := n.val
  let ch := c.axisCommAngleCh i
  let v := (l.fbk.getD ch {}).v
  let per : Int :=
    match c.source i with
    | 0 => 4 * (c.feedbackLines ch : Int)
    | 1 => 65536 * (c.feedbackResPoleratio ch : Int)
    | 2 => c.axisCommCpt i
    | 3 => 6 * (c.axisCommPolepairs i : Int)
    | _ => 0
  let r := if per = 0 then 0 else sat48 (roundDiv (v * 60) per)
  if c.axisCommDir i = 1 then -r else r

/-! ## Observer -/

/-- How the winding set stands in the present tick, for the estimator of R296 at the next boundary: 0 switched, 1 all switches off, 2 active short. -/
def Lane.setState (l : Lane) (n : AxisId) : Nat :=
  let w := l.pwm.get n
  if !l.drives n ∨ w.tripOff ∨ l.bus.vov2 then (if w.hold != 0 then 2 else 1)
  else if w.forced = 1 then 1 else if w.forced = 2 then 2 else 0

/-- α and β of three phase quantities (R293). -/
def clarke (u v w : Q) : Q × Q := (roundDiv (2 * u - v - w) 3, roundDiv ((v - w) * 577350269189626) e15)

/-- The axis runs in HALLPASS (R312). -/
def Cfg.hallpass (c : Cfg) (n : Nat) : Bool := c.kind n == .pump && c.source n == 3 && c.axisCommHallpass n

/-- Table 11.6: the phase switched at the duty, the phase with its low side on, the phase off; none for 000 and 111. -/
def hallPattern : Nat → Option (Nat × Nat × Nat)
  | 5 => some (0, 1, 2) | 4 => some (0, 2, 1) | 6 => some (1, 2, 0) | 2 => some (1, 0, 2) | 3 => some (2, 0, 1) | 1 => some (2, 1, 0)
  | _ => none

/-- The phase voltages of a HALLPASS set in force during the tick before: the switched leg at its duty, the low leg at 0, the third as its node measures (R296, R312; log 146). -/
def Lane.hallVolts (l : Lane) (n : AxisId) (node : Nat → Q) : Q × Q :=
  match hallPattern (l.comm.get n).hall with
  | none => clarke (node 0) (node 1) (node 2)
  | some (sw, low, _) =>
    let v (k : Nat) : Q := if k = sw then roundDiv (((l.pwm.get n).hallDuty : Int) * l.bus.v) (2 ^ 20) else if k = low then 0 else node k
    clarke (v 0) (v 1) (v 2)

/-- One tick of the back-EMF observer, on what the set did in the tick before (R296, R297). -/
def Lane.observe1 (l : Lane) (n : AxisId) (ia ib va vb : Q) (na nb : Q) : Lane :=
  let c := l.cfg
  let i := n.val
  let x := l.comm.get n
  let st := x.set1
  let (va, vb) := if st = 0 then (va, vb) else if st = 1 then (na, nb) else (0, 0)
  let (ia, ib) := if st = 1 then (0, 0) else (ia, ib)
  let (ja, jb) := if st = 1 then (0, 0) else (x.ia1, x.ib1)
  let R := c.axisCommRes i
  let Lq := c.axisCommLq i
  let emf (v i0 i1 : Q) : Q := v - roundDiv (i0 * R) (1000 * 65536) - roundDiv (Lq * (i0 - i1)) (65536 * 25)
  let ea := emf va ia ja
  let eb := emf vb ib jb
  let B : Int := c.axisCommObsBw i
  let th := x.oTh / 65536
  let eps := wrapTurn (atan2Turn eb ea - th - signI x.oW * 16384)
  let w := sat48 (x.oW + roundDiv (B * B * eps * 248050213442 * 25) (1000000000 * 1000000))
  let dth := roundDiv (w * 65536 * 25 * e15) (1000000 * twoPi) + roundDiv (2 * twoPi * B * eps * 65536 * 25) (e15 * 1000000)
  let rpm := absI (radToRpm (c.axisCommPolepairs i) w)
  let valid := (c.axisCommObsWmin i : Int) * 65536 ≤ rpm
  let run := if valid ∧ absI eps ≤ c.axisCommObsLockerr i then satInc 255 x.lockRun else 0
  l.modComm n fun y =>
    { y with oTh := toField 32 (x.oTh + dth), oW := w, eps := eps, lockRun := run
             locked := valid && (x.locked || c.axisCommObsLockn i ≤ run) }

/-- The observer coasts at its speed while no sample is used. -/
def CommPart.coastObs (x : CommPart) : CommPart :=
  { x with oTh := toField 32 (x.oTh + roundDiv (x.oW * 65536 * 25 * e15) (1000000 * twoPi)) }

/-- The observer is valid (R297). -/
def Lane.obsValid (l : Lane) (n : AxisId) : Bool :=
  (l.cfg.axisCommObsWmin n.val : Int) * 65536 ≤ absI (radToRpm (l.cfg.axisCommPolepairs n.val) (l.comm.get n).oW)

/-- The observer is the angle source: of a sensorless axis, or of a sensored one under CARRY (R299). -/
def Lane.obsIsSource (l : Lane) (n : AxisId) : Bool :=
  let x := l.comm.get n
  (l.cfg.source n.val == 4 && x.phase == 4 && x.recatch.isNone && x.borrow.isNone) || x.carry

/-! ## The angle of the tick -/

/-- A lane to borrow an angle from, by the detailed state given (R302): the first after this one that is in OPERATE, not ABSENT, and carries the flag. -/
def Lane.lender (l : Lane) (n : AxisId) (state : PeerX → Option Detail) : Option LaneId :=
  [l.id.next, l.id.next.next].find? fun x =>
    l.counts x && (match l.peerEntry x n with | some e => e.valid | none => false) &&
    (match state (l.px.get x) with
     | some d => (match d.motors.get n with | some m => m.flag | none => false)
     | none => false)

/-- The connection index that another lane shows for an axis, where it was exchanged (R64, R302). -/
def Lane.peerConn (l : Lane) (x : LaneId) (n : AxisId) : Nat :=
  match (l.peerOf x).digests with
  | some ds => (match ds.getD n.val none with | some (_, is) => (is.getD 0 none).getD 0 | none => 0)
  | none => 0

/-- The borrowed angle and speed (R302). -/
def Lane.borrowed (l : Lane) (n : AxisId) (x : LaneId) : Option (Int × Q) :=
  match (l.px.get x).detail with
  | some d =>
    match d.motors.get n with
    | some m =>
      let rpm := m.rpm * 65536
      let w := rpmToRad (l.cfg.axisCommPolepairs n.val) rpm
      let adv := roundDiv (w * 25 * e15) (1000000 * twoPi)
      some ((m.angle : Int) + adv + 256 * ((l.connIndex n : Int) - l.peerConn x n) * l.setDisp n, w)
    | none => none
  | none => none

/-- A re-catch is by active short: the back-EMF exceeds KSHORT of the bus (R303). -/
def Lane.recatchShort (l : Lane) (n : AxisId) : Bool :=
  let c := l.cfg
  let emf := roundDiv (1732050808 * c.axisCommPsi n.val * absI (l.comm.get n).w) (1000000000 * 1000 * 65536)
  !(decide (emf ≤ mulQ (c.axisCommRecatchKshort n.val) l.bus.v))

/-- A re-catch is decided for the next tick (R303). -/
def Lane.startRecatch (l : Lane) (n : AxisId) : Lane :=
  let short := l.recatchShort n
  l.modComm n fun y => { y with recatch := some (0, short), borrow := none, carry := false, lossRun := 0, locked := false, lockRun := 0
                                recatches := satInc 255 y.recatches }

/-- The lane that lends in this tick: the first that qualifies, and with none the lane re-catches in this tick (R302). -/
def Lane.borrowStep (l : Lane) (n : AxisId) : Lane :=
  match (l.comm.get n).borrow with
  | some (_, k) =>
    (match l.lender n (·.detail) with
     | some y => l.modComm n fun z => { z with borrow := some (y.code, k) }
     | none => l.startRecatch n)
  | none => l

/-- The observer locks again while the lane borrows: it is the angle source from this tick, on a sensored axis as a carry (R302, R301). -/
def Lane.borrowEnd (l : Lane) (n : AxisId) : Lane :=
  let x := l.comm.get n
  if x.borrow.isSome ∧ x.locked then l.modComm n fun y => { y with borrow := none, carry := l.cfg.source n.val != 4 } else l

/-! ## Pump start -/

/-- The input x of a pump, bar (R306). -/
def Lane.pumpInput (l : Lane) (n : AxisId) : Q :=
  let c := l.cfg
  if c.axisCommPumpInput n.val = 1 then l.maxService
  else c.axisCommPumpPtarget n.val - l.chQ (c.axisCommPumpCh n.val)

/-- A start under R309, decided in this tick: re-catch where the rotor turns fast enough, else ALIGN; a pump with a sensor is in RUN at once, with no failed attempt (R308, R310). -/
def Lane.pumpBegin (l : Lane) (n : AxisId) : Lane :=
  let c := l.cfg
  let rpm := absI (radToRpm (c.axisCommPolepairs n.val) (l.comm.get n).oW)
  if c.source n.val ≠ 4 then l.modComm n fun y => { y with phase := 4, phaseTick := 0, fails := 0 }
  else if (c.axisCommPumpRestart n.val : Int) * 65536 ≤ rpm then
    ((l.modComm n fun y => { y with w := y.oW }).startRecatch n).modComm n fun y =>
      { y with phase := 4, phaseTick := 0, pumpSet := (c.axisCommStartWhand n.val : Int) * 65536 }
  else l.modComm n fun y => { y with phase := 1, phaseTick := 1, wr := 0 }

/-- The pump switches and its start advances by one tick, before the angle of the tick is taken (R306, R307, R308, R311). -/
def Lane.pumpTick (l : Lane) (n : AxisId) (newHolder : Bool) : Lane :=
  let c := l.cfg
  let i := n.val
  if c.kind i != .pump then l
  else
    let x := l.pumpInput n
    let was := (l.comm.get n).pumpOn
    let on := if was then !(decide (x < c.axisCommPumpOff i)) else decide (c.axisCommPumpOn i < x)
    let l := l.modComm n fun y => { y with pumpOn := on }
    if !on then l.modComm n fun y => { y with phase := 0, phaseTick := 0, pumpSet := 0, recatch := none, borrow := none }
    else if !was then l.pumpBegin n
    else if newHolder ∧ c.source i = 4 ∧ 1 ≤ (l.comm.get n).phase ∧ (l.comm.get n).phase ≤ 3 then
      (l.modComm n fun y => { y with fails := 0 }).pumpBegin n
    else
      let y := l.comm.get n
      let y := { y with phaseTick := satInc 65535 y.phaseTick }
      let whand := (c.axisCommStartWhand i : Int) * 65536
      if y.phase = 2 then
        let wr := y.wr + roundDiv ((c.axisCommStartRamp i : Int) * 65536) 40000
        let turn := roundDiv (wr * (c.axisCommPolepairs i : Int) * 65536) (60 * 40000)
        let y := { y with wr := minI wr whand, olTh := toField 32 (y.olTh + turn) }
        l.modComm n fun _ => if whand ≤ wr then { y with phase := 3, phaseTick := 0 } else y
      else if y.phase = 3 then
        let turn := roundDiv (y.wr * (c.axisCommPolepairs i : Int) * 65536) (60 * 40000)
        let y := { y with olTh := toField 32 (y.olTh + turn) }
        if y.locked then
          (l.modComm n fun _ => { y with phase := 4, phaseTick := 0, pumpSet := whand, fails := 0 }).modLoop n fun p =>
            { p with iMid := c.axisCommStartIramp i }
        else l.modComm n fun _ => y
      else l.modComm n fun _ => y

/-! ## Measurement -/

/-- The measurements of a motor axis at the boundary: currents, observer, the phase of a pump's start, angle, speed (R293, R296, R288, R292, R301, R302, R308). The rotor speed of SENSORLESS is the observer's in every phase of a start. -/
def Lane.measureAxis (l : Lane) (e : ElecIn) (n : AxisId) (fresh : Bool) : Lane :=
  let c := l.cfg
  let i := n.val
  match c.startLeg l.id i with
  | none => l.pumpTick n fresh
  | some s =>
    let l := l.borrowStep n
    let x := l.comm.get n
    let iu := e.cur.getD s 0
    let iv := e.cur.getD (s + 1) 0
    let iw := e.cur.getD (s + 2) 0
    let (ia, ib) := clarke iu iv iw
    let (na, nb) := clarke (e.node.getD s 0) (e.node.getD (s + 1) 0) (e.node.getD (s + 2) 0)
    -- the voltages in force during the tick before
    let sum := iu + iv + iw
    let beyond := c.axisCommIsumMax i < absI sum
    let (va, vb) := if c.hallpass i then l.hallVolts n fun k => e.node.getD (s + k) 0 else (l.loop.get n).vab2
    -- observer: seeded while borrowing or in the first two boundaries of a re-catch
    let l := l.modComm n fun y => { y with iu := iu, iv := iv, iw := iw, sum := sum, sumRun := if beyond then satInc 255 y.sumRun else 0
                                           sumRaised := beyond && y.sumRaised }
    let l := match x.recatch with
      | some (k, _) =>
        if k = 0 then l.modComm n fun y => ({ y with oW := y.w, locked := false, lockRun := 0 } : CommPart).coastObs
        else if k = 1 then l.modComm n CommPart.coastObs
        else l.observe1 n ia ib va vb na nb
      | none => if (l.ax n).absent then l else l.observe1 n ia ib va vb na nb
    let l := l.borrowEnd n
    -- the open-loop angle of this tick is the one that the phase has reached
    let olTh := (l.comm.get n).olTh
    let l := l.pumpTick n fresh
    let (sa, use, ok) := l.sensorAngle n
    let sa := (sa % 65536).toNat
    let x := l.comm.get n
    let p := c.axisCommPolepairs i
    -- carry (R301)
    let srcBad := c.source i != 4 && !ok
    let canCarry := c.axisObserverPolicy i == 1 && srcBad && l.drives n && x.locked &&
      decide ((c.axisCommCarryWmin i : Int) * 65536 ≤ absI (radToRpm p x.oW))
    let keepCarry := x.carry && x.locked && decide ((c.axisCommCarryWmin i : Int) * 65536 ≤ absI (radToRpm p x.oW))
    let starts := canCarry && !x.carry
    let carry := keepCarry || starts
    let obs := (x.oTh / 65536).toNat % 65536
    -- borrowing
    let bor := match x.borrow with
      | some (bc, k) => (match LaneId.ofNat? bc with | some y => (l.borrowed n y).map fun b => (b, bc, k) | none => none)
      | none => none
    let olA := (olTh / 65536).toNat % 65536
    let (angle, use, w, rpm) : Nat × Nat × Q × Q :=
      match x.recatch, bor with
      | some (_, sh), _ => (obs, if sh then 7 else 6, x.oW, radToRpm p x.oW)
      | none, some ((a, w), _, _) => ((a % 65536).toNat, 5, w, radToRpm p w)
      | none, none =>
        if carry then (obs, 4, x.oW, radToRpm p x.oW)
        else if c.source i = 4 then
          (if x.phase = 1 then c.axisCommStartAngle i else if x.phase = 2 ∨ x.phase = 3 then olA else obs, 3, x.oW, radToRpm p x.oW)
        else let r := l.sensorRpm n; (sa, use, rpmToRad p r, r)
    let co := cosTurn angle
    let si := sinTurn angle
    let id := mulTrig ia co + mulTrig ib si
    let iq := mulTrig ib co - mulTrig ia si
    -- disagreement and loss (R298, R299)
    let diff := absI (wrapTurn ((obs : Int) - sa))
    let dis := ok && x.locked && decide ((c.axisCommObsErrmax i : Int) < diff)
    let l := l.modComm n fun y =>
      { y with angle := angle, use := use, sensorOk := ok, sensor := sa, w := w, rpm := rpm, ia1 := ia, ib1 := ib, carry := carry
               disRun := if dis then satInc 255 y.disRun else 0
               disRaised := y.disRaised && decide ((c.axisCommObsErrmax i : Int) < diff)
               recatch := y.recatch.map fun r => (satInc 65535 r.1, r.2)
               borrow := y.borrow.map fun b => (b.1, satInc 65535 b.2) }
    let l := match bor with
      | some ((a, w), _, _) => l.modComm n fun y => { y with oTh := toField 32 (a * 65536), oW := w }
      | none => l
    let l := l.modSup n fun s => { s with id1 := s.id, iq1 := s.iq, id := id, iq := iq }
    if starts then (l.raise .fbk044 (.axis i) (roundDiv rpm 65536)).modAx n AxisLease.leave else l

/-- The conditions of R299 counted, on the prediction of the same tick. -/
def Lane.lossTick (l : Lane) (n : AxisId) : Lane :=
  let c := l.cfg
  let i := n.val
  let x := l.comm.get n
  let now := c.motor i && l.obsIsSource n &&
    (decide ((c.axisCommObsErrmax i : Int) < absI x.eps) || !l.obsValid n ||
     decide ((c.axisCommObsWdev i : Int) * 65536 < absI (radToRpm (c.axisCommPolepairs i) x.oW - (l.sup.get n).rpmPred)))
  l.modComm n fun y => { y with lossRun := if now then satInc 255 y.lossRun else 0 }

/-- The angle flag of R300: a valid sensor's angle, or a locked observer's; not the open-loop angle of a start. -/
def Lane.angleFlag (l : Lane) (n : AxisId) : Bool :=
  let x := l.comm.get n
  let openLoop := l.cfg.source n.val == 4 && 1 ≤ x.phase && x.phase ≤ 3
  x.borrow.isNone && x.recatch.isNone && !openLoop &&
    ((l.cfg.source n.val != 4 && x.sensorOk && !x.carry) || ((x.use == 3 || x.use == 4) && x.locked))

/-! ## Phase advance -/

/-- The advance of R295 in degrees, and the whole-axis d-current of the table, at the present speed. -/
def Lane.phaseAdvance (l : Lane) (n : AxisId) : Q × Q :=
  let c := l.cfg
  let i := n.val
  let w := (l.comm.get n).w
  let fe := roundDiv (absI w * e15) twoPi
  let adv := interp (c.axisCommPaFe i) (c.axisCommPaAngle i) fe
  let idc := interp (c.axisCommPaFe i) (c.axisCommPaId i) fe
  (if w < 0 then -adv else adv, clampI (-(c.axisIpeak i)) 0 idc)

/-! ## Observer rows -/

/-- FBK-040 (R298). -/
def Lane.observerDisagree (l : Lane) (n : AxisId) : Lane :=
  let x := l.comm.get n
  if l.cfg.axisCommObsLossn n.val ≤ x.disRun ∧ !x.disRaised then
    (l.raise .fbk040 (.axis n.val) (absI (wrapTurn (x.oTh / 65536 - (x.sensor : Int))))).modComm n fun y => { y with disRaised := true }
  else l

/-- The observer that is the angle source is lost at the close of this tick; borrowing or a re-catch follows in the next, by the detailed state of this one (R299, R302). -/
def Lane.observerLost (l : Lane) (n : AxisId) : Lane :=
  if l.cfg.motor n.val ∧ l.obsIsSource n ∧ l.cfg.axisCommObsLossn n.val ≤ (l.comm.get n).lossRun then
    match l.lender n (·.detail) with
    | some y =>
      (l.raise .fbk043 (.axis n.val) 1).modComm n fun z =>
        { z with borrow := some (y.code, 0), carry := false, lossRun := 0, locked := false, lockRun := 0 }
    | none => (l.raise .fbk043 (.axis n.val) (if l.recatchShort n then 3 else 2)).startRecatch n
  else l

/-- Borrowing has lasted COMM.BORROW.MAX ticks: the lane re-catches (R302). -/
def Lane.borrowTimeout (l : Lane) (n : AxisId) : Lane :=
  match (l.comm.get n).borrow with
  | some (_, k) => if l.cfg.axisCommBorrowMax n.val ≤ k then l.startRecatch n else l
  | none => l

/-! ## The ends of the start phases -/

/-- ALIGN ends after START.TALIGN ticks (R308). -/
def Lane.pumpAlignEnd (l : Lane) (n : AxisId) : Lane :=
  let x := l.comm.get n
  if l.cfg.kind n.val = .pump ∧ x.phase = 1 ∧ l.cfg.axisCommStartTalign n.val ≤ x.phaseTick then
    l.modComm n fun y => { y with phase := 2, phaseTick := 0, wr := 0, olTh := (l.cfg.axisCommStartAngle n.val : Int) * 65536 }
  else l

/-- An attempt to start has failed in a phase (R308 to R310, R304). -/
def Lane.pumpFailed (l : Lane) (n : AxisId) (phase : Nat) : Lane :=
  let drives := (l.ax n).role == .holder
  let f := satInc 255 (l.comm.get n).fails
  let l := l.modComm n fun y => { y with phase := 5, phaseTick := 0, fails := f, recatch := none, locked := false, lockRun := 0 }
  let l := if drives then l.raise .fbk045 (.axis n.val) phase else l
  if drives ∧ l.cfg.axisCommStartRetry n.val ≤ f then l.raise .fbk042 (.axis n.val) f else l

/-- HANDOVER reaches START.HANDWIN without lock (R308). -/
def Lane.pumpStartFail (l : Lane) (n : AxisId) : Lane :=
  let x := l.comm.get n
  if l.cfg.kind n.val = .pump ∧ x.phase = 3 ∧ l.cfg.axisCommStartHandwin n.val ≤ x.phaseTick ∧ !x.locked then l.pumpFailed n 3 else l

/-- After START.COAST and the speed falling below PUMP.RESTART, the pump starts again from ALIGN (R309). -/
def Lane.pumpRestart (l : Lane) (n : AxisId) : Lane :=
  let c := l.cfg
  let x := l.comm.get n
  let rpm := absI (radToRpm (c.axisCommPolepairs n.val) x.oW)
  if c.kind n.val = .pump ∧ x.phase = 5 ∧ c.axisCommStartCoast n.val ≤ x.phaseTick ∧ rpm < (c.axisCommPumpRestart n.val : Int) * 65536 then
    l.modComm n fun y => { y with phase := 1, phaseTick := 0, wr := 0 }
  else l

/-- The phase current sum (R293). -/
def Lane.phaseSum (l : Lane) (n : AxisId) : Lane :=
  let x := l.comm.get n
  if 4 ≤ x.sumRun ∧ !x.sumRaised then
    (l.raise .pwr030 (.axis n.val) (roundDiv (absI x.sum * 1000) 65536)).modComm n fun y => { y with sumRaised := true }
  else l

/-! ## Three-pin drive -/

/-- The Hall state U, V, W of an axis's channel as a number, U highest. -/
def Lane.hallState (l : Lane) (n : AxisId) : Nat :=
  let x := l.fbk.getD (l.cfg.axisCommAngleCh n.val) {}
  4 * b2n x.la.lvl + 2 * b2n x.lb.lvl + b2n x.lz.lvl

/-- The gate-drive block reads the present Hall state (R312). -/
def Lane.readHall (l : Lane) (n : AxisId) : Lane := l.modComm n fun y => { y with hall := l.hallState n }

end Sys2Proof.Machine
end

