-- ==== Sys2Proof/Machine/Superv.lean ====
section
/-! DEFINITION. Loop supervision: plausibility models, control modes, set-point blend, output blend, override (chapter 10). -/

namespace Sys2Proof.Machine

/-! ## Roles -/

/-- The lane drives the axis as its holder, or alone in UNSEALED. -/
def Lane.commands (l : Lane) (n : AxisId) : Bool := (l.ax n).role == .holder || l.start.state == .unsealed

/-- The lane from which this lane takes what the holder carries: the holder, where it is another lane. -/
def Lane.holderOf (l : Lane) (n : AxisId) : Option LaneId :=
  match (l.ax n).heldBy with | some h => if h = l.id then none else some h | none => none

/-- What the holder published of an axis in the shadow section of tick n−1 (R138, R252, R273). A lane that serves no shadow of the axis, ABSENT for it, takes the section of this tick where it is there. -/
def Lane.holderShadow (l : Lane) (n : AxisId) : Option Shadow :=
  match l.holderOf n with
  | some h =>
    let p := l.px.get h
    (if l.serves n then p.shadowPrev else p.shadow.orElse fun _ => p.shadowPrev).map (·.get n)
  | none => none

/-! ## Plausibility models -/

/-- The torque constant times a q-current, N·m (R263). -/
def Cfg.torqueOf (c : Cfg) (n : Nat) (iq : Q) : Q :=
  sat48 (roundDiv (3 * (c.axisCommPolepairs n : Int) * c.axisCommPsi n * iq) (2 * 1000 * 65536))

/-- A mechanical speed in rad/s of one in rpm. -/
def rpmToMech (rpm : Q) : Q := roundDiv (rpm * twoPi) (60 * e15)

/-- A mechanical speed in rpm of one in rad/s. -/
def mechToRpm (w : Q) : Q := roundDiv (w * 60 * e15) twoPi

/-- The friction torque MECH.B × ω, N·m. -/
def Cfg.friction (c : Cfg) (n : Nat) (w : Q) : Q := sat48 (roundDiv (c.axisLoopMechB n * w) (1000 * 65536))

/-- The whole-axis q-current reference in force during tick n−1 (R263): the own one of a holder, and of a lane that has just yielded, else the one the holder published. -/
def Lane.irefBefore (l : Lane) (n : AxisId) : Q :=
  if l.commands n || (l.ax n).heldBy == some l.id then (l.sup.get n).iref1
  else match l.holderOf n with
    | some h => (match l.entryPrev h n with | some e => if e.valid && e.counter != 0 then e.prim else 0 | none => 0)
    | none => 0

/-- The predicted rotor speed of this boundary, rpm (R263). -/
def Lane.predictSpeed (l : Lane) (n : AxisId) : Q :=
  let c := l.cfg
  let s := l.sup.get n
  let w := rpmToMech s.rpm1
  let t := c.torqueOf n.val (l.irefBefore n) - s.load - c.friction n.val w
  let J := maxI 1 (c.axisLoopMechJ n.val)
  sat48 (s.rpm1 + mechToRpm (roundDiv (t * 16384) J))

/-- The load estimate after the tick's residual was formed (R264). -/
def Lane.loadNext (l : Lane) (n : AxisId) : Q :=
  let c := l.cfg
  let s := l.sup.get n
  let w := rpmToMech s.rpm1
  let dw := rpmToMech (l.comm.get n).rpm - w
  let imp := c.torqueOf n.val (l.irefBefore n) - c.friction n.val w - roundDiv (c.axisLoopMechJ n.val * dw * 4) 65536
  let L := s.load + roundDiv (twoPi * (c.axisLoopMechLoadbw n.val : Int) * 25 * (imp - s.load)) (e15 * 1000000)
  let m := c.axisLoopMechLoadmax n.val
  match if l.commands n then none else l.holderShadow n with
  | some h => h.load
  | none => clampI (-m) m L

/-- The electrical residual r_e (R262). -/
def Lane.elecResidual (l : Lane) (n : AxisId) : Q :=
  let c := l.cfg
  let s := l.sup.get n
  let p := l.loop.get n
  let R := c.axisCommRes n.val
  let Ld := c.axisCommLd n.val
  let Lq := c.axisCommLq n.val
  let psi := c.axisCommPsi n.val
  let wl (x : Int) : Int := roundDiv (s.w1 * x) (1000000 * 2 ^ 32)
  let vd := p.vd2 - roundDiv (R * s.id1) (1000 * 65536) + wl (Lq * s.iq1)
  let vq := p.vq2 - roundDiv (R * s.iq1) (1000 * 65536) - wl (Ld * s.id1 + psi * 65536 * 1000)
  let dp := s.id1 + roundDiv (vd * 25 * 65536) (maxI 1 Ld)
  let qp := s.iq1 + roundDiv (vq * 25 * 65536) (maxI 1 Lq)
  let a := s.id - dp
  let b := s.iq - qp
  (isqrtBig (a * a + b * b).toNat : Int)

/-- The bound scale s(T), with LASTSCALE under the last-lane rule (R266). -/
def Lane.boundScale (l : Lane) (n : AxisId) : Q :=
  let c := l.cfg
  let i := n.val
  let T := (l.loop.get n).temp
  let lo := c.axisLoopMirTlo i * 65536
  let hi := c.axisLoopMirThi i * 65536
  let s := if T ≤ lo then 65536 else if hi ≤ T then c.axisLoopMirHotscale i else lerp lo 65536 hi (c.axisLoopMirHotscale i) T
  if l.lastRule n then mulQ s (c.axisLastscale i) else s

/-- The electrical model is evaluated in this tick (R261). -/
def Lane.elecRuns (l : Lane) (n : AxisId) : Bool :=
  let s := l.sup.get n
  s.carried1 && s.carried2 && (l.comm.get n).recatch.isNone &&
  !(l.id.others.any fun x => match l.entryPrev x n with | some e => e.recatch | none => false)

/-- The events of a mirage (R267, R268): of the electrical model, of the mechanical one. Within MIR.ATTRWIN ticks of a first mirage, one of the other model adds PLS-003 and a second of the same model raises nothing. -/
def Lane.mirages (l : Lane) (n : AxisId) (hitE hitM : Bool) : Lane :=
  let i := n.val
  let s := l.sup.get n
  let t := l.tick.count
  let e (l : Lane) : Lane := l.raise .pls001 (.axis i) (roundDiv (s.resE * 1000) 65536)
  let m (l : Lane) : Lane := l.raise .pls002 (.axis i) (roundDiv (absI s.resM) 65536)
  let open_ := match s.first with
    | some (k, t0) => if t ≤ t0 + l.cfg.axisLoopMirAttrwin i then some k else none
    | none => none
  match open_ with
  | none =>
    let l := if hitE then e l else l
    let l := if hitM then m l else l
    l.modSup n fun s =>
      { s with first := if hitE then some (1, t) else if hitM then some (2, t) else none, bothMirages := hitE && hitM }
  | some k =>
    if !s.bothMirages ∧ (if k = 1 then hitM else hitE) then
      (((if k = 1 then m l else e l).raise .pls003 (.axis i) k)).modSup n fun s => { s with bothMirages := true }
    else l

/-- The plausibility models evaluated in one tick (R261 to R268). -/
def Lane.modelRun (l : Lane) (n : AxisId) : Lane :=
  let c := l.cfg
  let i := n.val
  let s := l.sup.get n
  let f : Int := maxI 1 (c.axisLoopMirFilter i)
  let sc := l.boundScale n
  let runs := l.elecRuns n
  let resE := if runs then s.resE + roundDiv (l.elecResidual n - s.resE) f else 0
  let pred := l.predictSpeed n
  let resM := s.resM + roundDiv ((l.comm.get n).rpm - pred - s.resM) f
  let N := c.axisLoopMirN i
  let beyondE := runs && decide (mulQ (c.axisLoopMirEbound i) sc < resE)
  let beyondM := decide (mulQ (c.axisLoopMirMbound i) sc < absI resM)
  let runE := if beyondE then satInc 65535 s.runE else 0
  let runM := if beyondM then satInc 65535 s.runM else 0
  let L := l.loadNext n
  let m := c.axisLoopMechLoadmax i
  let atClamp := absI L == m
  let clampRun := if atClamp && l.commands n then satInc 255 s.clampRun else 0
  let l := l.modSup n fun s =>
    { s with resE := resE, resM := resM, runE := runE, runM := runM, load1 := s.load, load := L, clampRun := clampRun, suspended := !runs, scale := sc
             rpmPred := pred, mirage := decide (N ≤ runE) || decide (N ≤ runM) }
  let l := l.mirages n (runE == N) (runM == N)
  if 40 ≤ clampRun ∧ !s.pls004 then
    (l.raise .pls004 (.axis i) (roundDiv (absI L * 10) 65536)).modSup n fun s => { s with pls004 := true }
  else l

/-- The plausibility models of an axis in one tick: evaluated for a motor axis on a lane that is not ABSENT for it, cleared otherwise (R261). -/
def Lane.modelTick (l : Lane) (n : AxisId) : Lane :=
  if l.cfg.motor n.val && !(l.ax n).absent then l.modelRun n
  else l.modSup n fun s => { s with resE := 0, resM := 0, runE := 0, runM := 0, mirage := false }

/-- What the models of the next tick start from: the measurements of this boundary and the references of this tick. -/
def Lane.modelShift (l : Lane) (n : AxisId) : Lane :=
  let x := l.comm.get n
  let carried := l.drives n && (x.dSet != 0 || x.qSet != 0)
  let driven := l.drives n
  l.modSup n fun s =>
    { s with w1 := x.w, rpm1 := x.rpm, carried2 := s.carried1, carried1 := carried
             iref1 := if driven then (l.out.get n).prim else 0 }

/-- The rack force of the holder in kN (R265). -/
def Lane.rackForce (l : Lane) (n : AxisId) : Q := mulQ (absI (l.sup.get n).load) (l.cfg.axisLoopMechKrack n.val)

/-- The rack force of tick n−1, as the scheduling of tick n takes it (Table 9.3). -/
def Lane.rackForce1 (l : Lane) (n : AxisId) : Q := mulQ (absI (l.sup.get n).load1) (l.cfg.axisLoopMechKrack n.val)

/-! ## Modes -/

/-- The result of a mode request (Table 10.2), but for the priority. -/
def Lane.judgeMode (l : Lane) (n : AxisId) (r : ModeReq) : Nat :=
  let c := l.cfg
  if c.kind n.val != .steer || 4 ≤ r.mode then 3
  else if (l.prof.get n).jobOwns then 1
  else if r.mode = 1 ∧ (c.steerWheelbase = 0 ∨ !l.guideValid) then 2
  else if r.mode = 2 ∧ l.manualDemand.isNone then 2
  else 0

/-- The demand d(n) of a STEER axis in CURVATURE or MANUAL, pu with 32 fraction bits (Table 10.1, R380, R382, R384). -/
def Lane.modeDemand (l : Lane) (n : AxisId) : Option Int :=
  let c := l.cfg
  let i := n.val
  if c.axisFollowLead i = 255 then
    (if (l.sup.get n).mode = 1 then some (l.curvatureDemand (l.chas.kappa.get n)) else l.manualDemand)
  else (l.leadPoint i).map (l.followDemand i)

/-- A mode taken up (R271, R272, R281): the generator goes PASSIVE for POSITION and HOLD, κ starts from the set-point for CURVATURE. -/
def Lane.enterMode (l : Lane) (n : AxisId) (r : ModeReq) : Lane :=
  let s := l.sup.get n
  if s.mode = r.mode then l
  else
    let l := l.modSup n fun s =>
      { s with mode := r.mode, override := r.override, preload := true, blend := false, blendTick := 0, blendOver := r.override
               blendRaised := false, entered := true }
    if r.mode = 0 ∨ r.mode = 3 then
      l.modProf n fun p => if p.phase == .passive then p else { p with phase := .passive, reversing := false, overshoot := false, stepOn := false, stopC := 0 }
    else if r.mode = 1 then { l with chas := { l.chas with kappa := l.chas.kappa.set n (l.kappaOf s.b) }, can := { l.can with resetDue := false } }
    else l

/-- The mode requests that reached the holder for this tick (R272): the best accepted one takes effect, the others are refused. -/
def Lane.applyModes (l : Lane) (n : AxisId) : Lane :=
  let rs := (l.sup.get n).reqs
  let l := l.modSup n fun s => { s with reqs := [] }
  let ordered := (rs.filter (·.prio == 1)) ++ (rs.filter (·.prio == 2)) ++ (rs.filter (fun r => r.prio != 1 && r.prio != 2))
  (ordered.foldl (fun (lt : Lane × Bool) r =>
    let (l, taken) := lt
    let res := l.judgeMode n r
    if res ≠ 0 then (l.modSup n fun s => { s with result := res }, taken)
    else if taken then (l.modSup n fun s => { s with result := 4 }, taken)
    else ((l.enterMode n r).modSup n fun s => { s with result := 0 }, true)) (l, false)).1

/-- A mode request taken on this lane for an axis (R270, R202): queued where it commands the axis, else forwarded. -/
def Lane.modeRequest (l : Lane) (n : AxisId) (r : ModeReq) : Lane :=
  if l.commands n then l.modSup n fun s => { s with reqs := s.reqs ++ [r] }
  else l.modSup n fun s => { s with forward := s.forward ++ [r] }

/-- The lane takes requests for an axis: it commands it, or is named its successor in the dead tick of a planned handover (R202, Table 10.6). -/
def Lane.takesRequests (l : Lane) (n : AxisId) : Bool := l.commands n || (l.ax n).yieldedTo == some l.id

/-- At the close, after the decisions of step 4: what is still to be applied to an axis goes with it to the lane that commands it next (R202, Table 10.6); a job's own requests end with the lane's command. -/
def Lane.passRequests (l : Lane) : Lane :=
  allAxes.foldl (fun (l : Lane) n =>
    if l.commands n && (l.ax n).yieldTo.isNone then
      let l := l.modSup n fun s => { s with reqs := s.reqs ++ s.forward, forward := [] }
      l.modProf n fun p => { p with reqs := p.reqs ++ p.forward, forward := [] }
    else if (l.ax n).yieldedTo = some l.id then l
    else
      let l := l.modSup n fun s => { s with reqs := [], forward := s.forward ++ s.reqs }
      l.modProf n fun p => { p with reqs := [], forward := p.forward ++ p.reqs.filter (·.2 != .job) }) l

/-- A mode request with those for the axes that follow the named one (R384). -/
def Lane.modeRequestAll (l : Lane) (n : AxisId) (r : ModeReq) : Lane :=
  let fs := allAxes.filter fun k => k != n && l.cfg.kind k.val == .steer && l.cfg.axisFollowLead k.val == n.val
  (n :: fs).foldl (fun l k => l.modeRequest k r) l

/-- A standby or follower takes the holder's mode, set-point and blend with its rate and tick (R273); κ starts from b where it takes up CURVATURE. -/
def Lane.takeMode (l : Lane) (n : AxisId) (h : Shadow) : Lane :=
    let changed : Bool := decide ((l.sup.get n).mode ≠ h.mode)
    let l := if changed && h.mode == 1 then { l with chas := { l.chas with kappa := l.chas.kappa.set n (l.kappaOf (l.sinceShift n h.x)) } } else l
    l.modSup n fun s =>
      { s with mode := h.mode, override := h.override, b := l.sinceShift n h.x, blend := h.blend.isSome, blendOver := h.blendOver, blendTick := h.blendTick
               blendRaised := decide (l.cfg.axisHandoverTmax n.val ≤ h.blendTick), preload := s.preload || changed, entered := false }

/-- A lane that does not command the axis takes what its holder carries (R273). -/
def Lane.adoptMode (l : Lane) (n : AxisId) : Lane := match l.holderShadow n with | some h => l.takeMode n h | none => l

/-- In its first driving tick a successor applies a mode change that the former holder made in its last one (Table 10.6); else it goes on from its own advanced state. -/
def Lane.takeOver (l : Lane) (n : AxisId) : Lane :=
  let a := l.ax n
  if a.role = .holder ∧ a.heldSince + 1 = l.tick.count then
    match (a.former.filter (· != l.id)).bind fun x => (l.px.get x).shadowPrev with
    | some t => if (t.get n).mode ≠ (l.sup.get n).mode then l.takeMode n (t.get n) else l
    | none => l
  else l

/-- From the power-down tick P the lane holds every steering axis (R80). -/
def Lane.holdsAtP (l : Lane) : Bool := l.start.sinceP.isSome && l.start.state == .operate

/-- A STEER axis comes to HOLD at its present position at tick P, whatever mode, move or job drove it (R80). -/
def Lane.holdSteer (l : Lane) (n : AxisId) : Lane :=
  let l := l.modSup n fun s => { s with mode := 3, override := false, preload := s.preload || s.mode != 3, blend := false, blendTick := 0, blendRaised := false, entered := false }
  l.modProf n fun p => { p with phase := .passive, reversing := false, overshoot := false, stepOn := false, stopC := 0, stopNext := 0 }

/-- Requests that reach an axis held under R80 have no effect: profile requests answer REFUSED_MODE, mode requests REFUSED_PRIORITY (DESIGN CHOICE: the manual names no result; log 164). -/
def Lane.refuseAll (l : Lane) (n : AxisId) : Lane :=
  let l := l.modProf n fun p => if p.reqs.isEmpty then p else { p with reqs := [], result := 1 }
  l.modSup n fun s => if s.reqs.isEmpty then s else { s with reqs := [], result := 4 }

/-- The set-point of a STEER axis in one tick (R269, R273, R274, R382): modes, generator, blend, feed-forward. -/
def Lane.steerPoint (l : Lane) (n : AxisId) : Lane :=
  let c := l.cfg
  let i := n.val
  let own := l.commands n
  let l := if own then (if l.holdsAtP then l.refuseAll n else ((l.takeOver n).applyReqs n).applyModes n) else (l.adoptProfile n).adoptMode n
  let s := l.sup.get n
  if s.mode = 0 ∨ s.mode = 3 ∨ (l.prof.get n).jobOwns then
    let l := ({ l with chas := { l.chas with clipped := l.chas.clipped.set n false } }).stepProfile n
    let p := l.prof.get n
    l.modSup n fun s =>
      { s with b := p.x, d := p.x, blend := false, vff := if p.phase == .passive then 0 else if p.motion == .track then l.stepIn.vn else p.v, entered := false }
  else
    let (l, opr) : Lane × Bool :=
      if s.mode = 1 ∧ c.axisFollowLead i = 255 then
        let (k, clip) := l.envelope (l.chas.kappa.get n)
        ({ l with chas := { l.chas with kappa := l.chas.kappa.set n k, clipped := l.chas.clipped.set n clip } }, clip && !l.chas.clipped.get n)
      else ({ l with chas := { l.chas with clipped := l.chas.clipped.set n false } }, false)
    let l := if opr && l.serves n then
        l.raise .opr024 (.axis i) (match l.chas.guide with | some (k, _) => roundDiv (absI k * 10000) (2 ^ 32) | none => 0)
      else l
    let d := (l.modeDemand n).getD s.b
    let band := fx (c.axisHandoverBand i)
    let near := absI (d - s.b) ≤ band
    let starts := s.entered && !near
    let runs := (s.blend || starts) && !near
    let r := roundDiv (fx (if s.blendOver then c.steerOverrideRate else c.axisHandoverRate i)) tps
    let b := if runs then s.b + clampI (-r) r (d - s.b) else d
    let l := l.modSup n fun s =>
      { s with d := d, b := b, blend := runs, blendTick := if starts then 1 else if runs then satInc 65536 s.blendTick else s.blendTick
               vff := if s.blend || starts then (b - s.b) * tps else 0, entered := false }
    { l with prof := l.prof.modify n fun p => p.passive b }

/-- The set-point of a STEER axis: on a lane that serves it, and on one that is ABSENT for it but sees what its holder carries, whose own demands may follow it (R381, R384). -/
def Lane.steerAny (l : Lane) (n : AxisId) : Lane :=
  if l.cfg.kind n.val = .steer ∧ (l.serves n ∨ (l.start.state = .operate ∧ (l.holderShadow n).isSome)) then l.steerPoint n else l

/-- A hand-wheel lost on every lane moves the axes in MANUAL to HOLD (R376). -/
def Lane.handLost (l : Lane) (n : AxisId) : Lane :=
  if (l.chas.sensors.getD 0 {}).lost ∧ l.cfg.kind n.val = .steer ∧ (l.sup.get n).mode = 2 ∧ l.commands n then
    l.modSup n fun s => { s with reqs := s.reqs ++ [{ mode := 3, prio := 2 }] }
  else l

/-- PLS-010: the set-point blend has not completed by HANDOVER.TMAX (R276). -/
def Lane.setpointBlendTimeout (l : Lane) (n : AxisId) : Lane :=
  let s := l.sup.get n
  if s.blend ∧ !s.blendRaised ∧ l.commands n ∧ l.cfg.axisHandoverTmax n.val ≤ s.blendTick then
    (l.raise .pls010 (.axis n.val) (roundDiv (absI (s.d - s.b)) (2 ^ 32))).modSup n fun s => { s with blendRaised := true }
  else l

/-! ## Output blend -/

/-- A number of 0.1 % of an axis's output limit, Q16.16. -/
def Cfg.permilleOfLimit (c : Cfg) (n k : Nat) : Q := roundDiv ((k : Int) * c.outputLimitMilli n) 1000000

/-- One tick of the output blend over the computed primary output (R277 to R279): what the lane drives and publishes. -/
def Lane.outputBlend (l : Lane) (n : AxisId) (computed : Q) : Lane :=
  let c := l.cfg
  let i := n.val
  let s := l.sup.get n
  let band := c.permilleOfLimit i (c.axisHandoverOband i)
  let q := c.permilleOfLimit i (c.axisHandoverOrate i)
  let o1 : Option Q :=
    if s.obDue then (if band < absI (computed - s.o0) then some s.o0 else none) else s.ob
  match o1 with
  | none => l.modSup n fun s => { s with computed := computed, ob := none, obTick := 0, obDue := false, obRaised := false, obSign := 0 }
  | some o =>
    if absI (computed - o) ≤ band then
      l.modSup n fun s => { s with computed := computed, ob := none, obDue := false, obSign := 0 }
    else
      let o := o + clampI (-q) q (computed - o)
      l.modSup n fun s =>
        { s with computed := computed, ob := some o, obTick := if s.obDue then 1 else satInc 65536 s.obTick, obDue := false
                 obRaised := s.obRaised && !s.obDue, obSign := if l.commands n then signI (computed - o) else 0 }

/-- The primary output after the blend. -/
def SupPart.driven (s : SupPart) : Q := s.ob.getD s.computed

/-- An output blend from a given value begins with the next computed output (R304, R364). -/
def Lane.blendFrom (l : Lane) (n : AxisId) (o : Q) : Lane :=
  l.modSup n fun s => { s with o0 := o, obDue := true, obTick := 0, obRaised := false }

/-- PLS-011: the output blend has not completed by HANDOVER.TMAX (R279). -/
def Lane.outputBlendTimeout (l : Lane) (n : AxisId) : Lane :=
  let s := l.sup.get n
  if s.ob.isSome ∧ !s.obRaised ∧ l.commands n ∧ l.cfg.axisHandoverTmax n.val ≤ s.obTick then
    (l.raise .pls011 (.axis n.val) (l.cfg.diffPermille n.val s.computed s.driven)).modSup n fun s => { s with obRaised := true }
  else l

/-- The old holder's output noted for o0 from the entries of this tick, before step 4 changes the epoch (R277). -/
def Lane.noteOutputs (l : Lane) : Lane :=
  allAxes.foldl (fun l n =>
    let a := l.ax n
    let got : Option (Q × Bool) :=
      match a.heldBy with
      | some h =>
        if h = l.id then (match l.lease.pubOut with | some p => some ((p.entries.get n).prim, (p.entries.get n).yieldTo.isSome) | none => none)
        else (match l.entryNow h n with
          | some e => if e.valid && e.role == .holder && e.epoch == a.epoch then some (e.prim, e.yieldTo.isSome) else none
          | none => none)
      | none => none
    let renewed := l.renewSeen n
    match got with
    | some (p, y) => l.modSup n fun s => if renewed || y || !s.oExact then { s with oLast := p, oExact := renewed || y } else s
    | none => if renewed then l.modSup n fun s => { s with oExact := false } else l) l

/-- After step 4: an axis that changed holder starts its handover blend and ripple anew, and a fault handover stops a moving axis (R245, R277, R210): an unplanned one, or a yield under an L2 AXIS fault, which shows in the yield's entry as checks pass 0 (R401; DEDUCED: no entry carries the cause of a yield). -/
def Lane.noteHandover (before l : Lane) : Lane :=
  allAxes.foldl (fun l n =>
    let old := (before.ax n).heldBy
    if old.isSome ∧ (before.ax n).epoch ≠ (l.ax n).epoch then
      let faulty := (l.ax n).handover != 1 || (before.ax n).yieldFault || (l.ax n).yieldFault
      let l := l.modSup n fun s => { s with o0 := s.oLast, obDue := true, obTick := 0, obRaised := false, oLast := 0, oExact := false }
      let l := l.modLoop n fun p => { p with rippleTick := 0 }
      if faulty ∧ (l.ax n).role = .holder then l.modProf n fun p => { p with stopNext := if p.moving && p.stopNext == 0 then 3 else p.stopNext } else l
    else if old ≠ (l.ax n).heldBy then l.modLoop n fun p => { p with rippleTick := 0 }
    else l) l

/-! ## Override -/

/-- The lane holds the FEEL axis of the override (R280). -/
def Lane.holdsFeel (l : Lane) : Bool :=
  if h : l.cfg.steerOverrideFeel < 12 then (l.ax ⟨l.cfg.steerOverrideFeel, h⟩).role == .holder else false

/-- The override count that the FEEL axis's holder carries: of its tick before, as its frame of this tick shows it, else the one last taken (R280, R18). -/
def Lane.overrideSeen (l : Lane) : Nat :=
  match (if h : l.cfg.steerOverrideFeel < 12 then l.holderOf ⟨l.cfg.steerOverrideFeel, h⟩ else none).bind fun x => (l.px.get x).detail with
  | some d => d.override
  | none => l.chas.override

/-- The override count has reached STEER.OVERRIDE.TIME (R281): on the lane that counts, at the close of the tick; on another, in the tick in which the count reaches it, before step 2; in the dead tick of a planned handover the named successor keeps the change for its first driving tick (Table 10.6). -/
def Lane.overrideEngage (l : Lane) : Lane :=
  let c := l.cfg
  let feel := l.holdsFeel
  if c.steerOverrideFeel < 12 ∧ !l.chas.overFired ∧ c.steerOverrideTime ≤ (if feel then l.chas.override else l.overrideSeen) then
    let l := if feel then l.raise .opr010 (.axis c.steerOverrideFeel) l.chas.overrideBy else l
    let l := { l with chas := { l.chas with overFired := true }, can := { l.can with resetDue := true } }
    allAxes.foldl (fun l n =>
      let s := l.sup.get n
      if c.kind n.val = .steer ∧ c.axisModeOverride n.val ∧ (s.mode = 0 ∨ s.mode = 1 ∨ s.mode = 3) ∧
          (l.commands n ∨ (l.ax n).yieldedTo = some l.id) ∧ !(l.prof.get n).jobOwns then
        l.modSup n fun s => { s with reqs := s.reqs ++ [{ mode := 2, prio := 1, override := true }] }
      else l) l
  else l

/-- STATUS.AXIS[n].MODE (Table 10.7). -/
def Lane.modeStatus (l : Lane) (n : AxisId) : Nat :=
  let s := l.sup.get n
  s.mode + 8 * b2n s.blend + 16 * b2n s.ob.isSome + 32 * b2n s.override + 64 * b2n (l.lastRule n) + 128 * b2n s.suspended + 256 * s.result

end Sys2Proof.Machine
end

