-- ==== Sys2Proof/Machine/Caravan.lean ====
section
/-! DEFINITION. Fabric signals and the caravan commit (chapter 18). -/

namespace Sys2Proof.Machine

/-! ## Signals -/

/-- A signal's local number is one whose value is a whole number rather than Q16.16 (Table 18.1). -/
def wholeSignal (loc : Nat) : Bool := loc == 1 || (32 ≤ loc && loc ≤ 43)

/-- The own value of a local signal, as Table 18.1 encodes it; none where the lane does not have it (R478). -/
def Lane.signal (l : Lane) (loc : Nat) : Option Int :=
  let c := l.cfg
  if loc = 1 then (if c.steerFront < 12 then some (satI32 (roundDiv (l.sup.getD c.steerFront {}).b (2 ^ 32))) else none)
  else if loc = 2 then l.chas.speed.map fun v => absI v
  else if loc = 3 then (if c.brakeValveTrailer < 12 then some l.chas.dT else none)
  else if loc = 4 then (if c.brakeValveLeft < 12 then some l.chas.dL else none)
  else if loc = 5 then (if c.brakeValveRight < 12 then some l.chas.dR else none)
  else if h : 16 ≤ loc ∧ loc ≤ 27 then
    (let n : AxisId := ⟨loc - 16, by omega⟩
     if c.hasAxis n.val && !(l.ax n).absent then some (l.out.get n).prim else none)
  else if h : 32 ≤ loc ∧ loc ≤ 43 then
    (let n : AxisId := ⟨loc - 32, by omega⟩
     if c.hasAxis n.val then some (l.axisLevel n) else none)
  else none

/-- The signal area of the SAFE payload (Table 18.2). -/
def Lane.signalArea (l : Lane) : List Byte :=
  let pubs := l.cfg.fabricPub
  [byteOf (l.car.elected % 64 + 64 * b2n l.car.candidate + 128 * b2n l.car.coord), byteOf l.cfg.fabricCarRank] ++
  beBytes 2 ((l.car.cls.getD 0 {}).last.getD 0) ++ beBytes 2 ((l.car.cls.getD 1 {}).last.getD 0) ++ [byteOf 0, byteOf 0] ++
  (List.range 14).flatMap fun i =>
    let loc := (pubs.getD i 0).toNat
    match (if i < pubs.length then l.signal loc else none) with
    | some v => (beBytes 3 (2 ^ 23 + loc) ++ [byteOf 0] ++ beBytes 4 (toField 32 v) : List Byte)
    | none => (beBytes 3 (if i < pubs.length then loc else 0) ++ List.replicate 5 (byteOf 0) : List Byte)

/-- The SAFE payload formed by the boundary work of the tick before it is published (R471). -/
def Lane.formSafe (l : Lane) : Lane :=
  { l with fab := { l.fab with safeNext := if l.safeDue then some (l.safeHead ++ l.signalArea) else none } }

/-- Age of a subscription's element; 0 where its sender's count is ahead (R479). -/
def Lane.subAge (l : Lane) (j : Nat) : Nat := ((l.fabTick : Int) - (l.car.subs.getD j {}).stamp).toNat

/-- One subscription changed. -/
def Lane.modSub (l : Lane) (j : Fin 16) (f : Sub → Sub) : Lane := { l with car := { l.car with subs := l.car.subs.modify j f } }

/-- Two values under the pair rule of a subscription. -/
def Cfg.subPair (c : Cfg) (j : Nat) (x y : Int) : Int := if c.fabricSubRule j = 1 then maxI x y else roundDiv (x + y) 2

/-- Two values of a subscription differ by more than BAND (R479). -/
def Cfg.subBeyond (c : Cfg) (j : Nat) (d : Int) : Bool :=
  c.fabricSubBand j < absI d * (if wholeSignal (c.fabricSubSig j % 2 ^ 19) then 65536 else 1)

/-- The value in use of a subscription (R375, R479). -/
def Lane.subUse (l : Lane) (j : Fin 16) : Option Int :=
  let s := l.car.subs.get j
  let os := l.id.others.filterMap fun x =>
    if l.counts x then (match (l.px.get x).detail with | some d => d.subs.get j | none => none) else none
  if !s.failed then
    match s.pair, os with
    | true, [y] => some (l.cfg.subPair j.val s.cur y)
    | _, _ => some s.cur
  else match os with
    | x :: y :: _ => some (l.cfg.subPair j.val x y)
    | [x] => some x
    | [] => none

/-- The axes that follow the lead of another node (R480, R384). -/
def Lane.farFollowers (l : Lane) : List AxisId := allAxes.filter fun n => l.cfg.kind n.val == .steer && l.cfg.axisFollowLead n.val == 0xFE

/-- The lead's value in use, and HOLD for its follow axes where it is lost on every lane (R480). -/
def Lane.leadTick (l : Lane) : Lane :=
  if h : l.cfg.fabricLeadSub < 16 then
    let s := l.car.subs.get ⟨l.cfg.fabricLeadSub, h⟩
    match s.use with
    | some v => { l with chas := { l.chas with leadFab := some (v * 65536) } }
    | none =>
      if s.lost then
        l.farFollowers.foldl (fun l n =>
          if (l.sup.get n).mode = 2 ∨ (l.sup.get n).mode = 1 then l.modeRequest n { mode := 3, prio := 2 } else l) l
      else l
  else l

/-- The own elements of the subscriptions: age and failure (R479). -/
def Lane.subTick (l : Lane) : Lane :=
  (List.finRange 16).foldl (fun l j =>
    if l.cfg.fabricSubSig j.val = 0 then l
    else
      let stale := !(l.car.subs.get j).have_ || l.cfg.fabricSubMaxage j.val < l.subAge j.val
      l.modSub j fun s => { s with prev := if s.failed then none else some s.cur, failed := stale || s.xfail, cur := s.val }) l

/-- The values in use of the subscriptions, and FAB-036 where one is lost on every lane in OPERATE (R479, R376). -/
def Lane.useSubs (l : Lane) : Lane :=
  ((List.finRange 16).foldl (fun l j =>
    if l.cfg.fabricSubSig j.val = 0 then l
    else
      let s := l.car.subs.get j
      let u := l.subUse j
      let gone := l.lostEverywhere s.failed fun d => (d.subs.get j).isSome
      let lost := gone || (s.lost && u.isNone && l.start.state == .operate)
      let l := l.modSub j fun s => { s with use := u, lost := lost }
      if lost && !s.lost then l.raise .fab036 .none j.val else l) l).leadTick

/-- The cross-checks of the subscriptions at the close of the tick, XTIME 40 (R374, R479). -/
def Lane.judgeSubs (l : Lane) : Lane :=
  (List.finRange 16).foldl (fun l j =>
    let s := l.car.subs.get j
    let others := l.id.others.filterMap fun x =>
      if l.counts x then (match (l.px.get x).detail with | some d => d.subs.get j | none => none) else none
    match s.failed || l.start.state != .operate, s.prev with
    | false, some own =>
      match others with
      | [x, y] =>
        let run := if l.cfg.subBeyond j.val (own - roundDiv (median2 [own, x, y]) 2) then satInc 65535 s.run else 0
        l.modSub j fun s => { s with run := run, xfail := s.xfail || decide (40 ≤ run), pairRun := 0, pair := false }
      | [x] =>
        let beyond := l.cfg.subBeyond j.val (own - x)
        let run := if beyond then satInc 65535 s.pairRun else 0
        l.modSub j fun s => { s with run := 0, pairRun := run, pair := decide (40 ≤ run) }
      -- with no other valid value nothing ends a disagreement in force
      | _ => l.modSub j fun s => { s with run := 0, pairRun := 0 }
    | _, _ => l.modSub j fun s => { s with run := 0, pairRun := 0, pair := false }) l

/-! ## Coordinator election -/

/-- An entry of a list keyed by node replaced. -/
def putNode (k v : Nat) (xs : List (Nat × Nat)) : List (Nat × Nat) := (k, v) :: xs.filter fun e => e.1 != k

/-- The value of a node. -/
def getNode (k : Nat) (xs : List (Nat × Nat)) : Option Nat := (xs.find? fun e => e.1 == k).map (·.2)

/-- A mask of nodes. -/
def nodeMask (ns : List Nat) : Nat := (List.range 64).foldl (fun m i => if ns.contains i then m + 2 ^ i else m) 0

/-- The nodes of a mask. -/
def maskNodes (m : Nat) : List Nat := (List.range 64).filter fun i => m.testBit i

/-- The lane is a candidate (R483). -/
def Lane.isCandidate (l : Lane) : Bool := l.start.state == .operate && l.cfg.fabricCarRank != 0 && 2 ≤ l.service && l.node != 0

/-- The lane's own candidate set (R483), as the detailed state carries it. -/
def Lane.ownCands (l : Lane) : List Nat :=
  (if l.isCandidate then [l.node] else []) ++
  (l.car.cands.filter fun e => l.tick.count ≤ e.2 + 4 * l.cfg.divisor).map (·.1)

/-- The rank of a node, as last received; an unknown rank stands behind every known one. -/
def Lane.rankOf (l : Lane) (node : Nat) : Nat :=
  if node = l.node then l.cfg.fabricCarRank else match getNode node l.car.ranks with | some r => if r = 0 then 256 else r | none => 256

/-- The elected coordinator (R483); 0 none. -/
def Lane.electedNode (l : Lane) : Nat :=
  let others := l.id.others.flatMap fun x => match (l.px.get x).detailPrev with | some d => maskNodes d.cand | none => []
  match (l.ownCands ++ others).foldl (fun m n => match m with
    | none => some n
    | some b => if l.rankOf n < l.rankOf b ∨ (l.rankOf n = l.rankOf b ∧ n < b) then some n else some b) (none : Option Nat) with
  | some n => n
  | none => 0

/-- The election (R483, R484): FAB-033 on a change; a lane that starts coordinating takes up each class's numbers. -/
def Lane.elect (l : Lane) : Lane :=
  let e := l.electedNode
  let cand := l.isCandidate
  let coord : Bool := cand && e == l.node
  let starts := coord && !l.car.coord
  let old := l.car.elected
  let cls : Tab 2 CarClass := l.car.cls.mapFin fun _ k =>
    if starts then { k with next := some (match k.seen with | some s => (s + 1) % 65536 | none => 0), sent := none, dueSince := none, aborts := 0, retry := none, refuse := 0, missing := 0, missingSent := 0 }
    else if coord then k else { k with next := none, dueSince := none, retry := none, req := none }
  let l := { l with car := { l.car with
      elected := e, candidate := cand, coord := coord, cls := cls, cands := l.car.cands.filter fun x => l.tick.count ≤ x.2 + 4 * l.cfg.divisor } }
  if e = old then l else l.raise .fab033 .none e

/-- The entry of a signal area that carries a local signal with valid = 1; reserved bits are ignored (Table 18.2, R6). -/
def signalEntry (area : List Byte) (loc : Nat) : Option Nat :=
  (List.range 14).find? fun i =>
    let w := beNat (slice area (8 + 8 * i) 3)
    decide (2 ^ 23 ≤ w) && w % 2 ^ 19 == loc

/-- A received SAFE frame (R479, R483, R484). -/
def Lane.safeFrame (l : Lane) (f : FabFrame) : Lane :=
  let area := f.payload.drop 72
  let b0 := (area.getD 0 0).toNat
  let l := { l with car := { l.car with
      ranks := putNode f.src (area.getD 1 0).toNat l.car.ranks
      cands := if bitN b0 6 then putNode f.src l.tick.count l.car.cands else l.car.cands
      cls := if bitN b0 7 then l.car.cls.mapFin fun i k => { k with seen := some (beNat (slice area (2 + 2 * i.val) 2)) } else l.car.cls } }
  let l := (List.finRange 16).foldl (fun l j =>
    let sig := l.cfg.fabricSubSig j.val
    if sig = 0 ∨ sig / 2 ^ 19 ≠ f.src then l
    else
      match signalEntry area (sig % 2 ^ 19) with
      | some i =>
        let stamp := (l.fabTick : Int) + diff32 f.stamp (l.fabTick % 2 ^ 32)
        l.modSub j fun s => { s with have_ := true, val := toSigned 32 (beNat (slice area (12 + 8 * i) 4)), stamp := stamp }
      | none => l) l
  l.elect

/-! ## Shares -/

/-- One class changed; class 1 is entry 0. -/
def Lane.modClass (l : Lane) (k : Nat) (f : CarClass → CarClass) : Lane :=
  { l with car := { l.car with cls := if h : k - 1 < 2 then l.car.cls.modify ⟨k - 1, h⟩ f else l.car.cls } }

/-- A class's state. -/
def Lane.carClass (l : Lane) (k : Nat) : CarClass := l.car.cls.getD (k - 1) {}

/-- Fraction bits of a class's values: class 1 is Q16.16, class 2 whole pu. -/
def classUnit (k : Nat) : Int := if k = 1 then 1 else 65536

/-- The nominal share of R481, in Q16.16 of the unit. -/
def Part.nominal (p : Part) (k : Nat) (x : Int) : Int :=
  clampI (-p.limit) p.limit (roundDiv (x * classUnit k * p.gain) 65536)

/-- The shares of a PREPARE under SOME, with redistribution (R490); true where redistribution is in force. -/
def redistribute (ps : List Part) (k : Nat) (x : Int) (missing : List Nat) : List ShareEntry × Bool :=
  let gone (p : Part) : Bool := missing.contains p.node
  let E := sumI (ps.map fun p => if gone p then p.weight * p.nominal k x else 0)
  let S := sumI (ps.map fun p => if gone p then 0 else p.weight * (p.limit - p.nominal k x))
  let more (r : Int) : Int := if E = 0 then 0 else if S ≤ E then r else roundDiv (r * E) S
  let on : Bool := decide (E ≠ 0)
  (ps.map fun p =>
    if gone p then { node := p.node, axis := p.axis, probe := true, share := 0 }
    else
      let q := p.nominal k x
      { node := p.node, axis := p.axis, raised := decide (0 < E), share := roundDiv (q + more (p.limit - q)) (classUnit k) }, on)

/-- The demand x of a class on this lane (R481). -/
def Lane.demand (l : Lane) (k : Nat) : Option Int :=
  let kc := l.carClass k
  match kc.retry with
  | some (x, _) => some x
  | none =>
    if k = 1 then
      if l.cfg.fabricCarDemandSub = 255 then some l.chas.dT
      else (l.car.subs.getD l.cfg.fabricCarDemandSub {}).use
    else kc.req

/-- The results the lane has for a class, its own and those of the node's other lanes that are candidates, as masks of nodes whose answers counted as REFUSE (R490). -/
def Lane.results (l : Lane) (k : Nat) : List Nat :=
  (l.carClass k).refuse :: l.id.others.filterMap fun x =>
    if l.counts x then
      (((l.px.get x).detail.orElse fun _ => (l.px.get x).detailPrev).filter fun d => d.cand.testBit l.node).map fun d => if k = 1 then d.refuse1 else d.refuse2
    else none

/-- The missing set from a list of results (R490). -/
def Lane.missingFrom (l : Lane) (k : Nat) (rs : List Nat) : Nat :=
  nodeMask (((l.cfg.parts k).map (·.node)).filter fun n => rs.length ≤ 2 * (rs.filter fun r => r.testBit n).length && 0 < rs.length)

/-- A new missing set, with FAB-031 for each node that enters it (R490). -/
def Lane.setMissing (l : Lane) (k m : Nat) : Lane :=
  let old := (l.carClass k).missing
  let l := l.modClass k fun c => { c with missing := m }
  (maskNodes m).foldl (fun l n => if old.testBit n then l else l.raise .fab031 .none (k * 65536 + n : Nat)) l

/-- A PREPARE of a class is due (R485). -/
def Lane.prepareDue (l : Lane) (k : Nat) : Bool :=
  let kc := l.carClass k
  l.car.coord && !(l.cfg.parts k).isEmpty && (l.demand k).isSome &&
  (kc.retry.isSome || kc.req.isSome || kc.missing != kc.missingSent ||
   (match kc.sent, l.demand k with
    | some (x0, t0), some x => l.cfg.fabricCommitStep k ≤ absI (x - x0) * classUnit k || t0 + l.cfg.fabricCommitRefresh k ≤ l.tick.count
    | none, _ => true
    | _, none => false))

/-- The COMMIT payload of a PREPARE (Table 18.4). -/
def Commit.prepareBytes (c : Commit) (on : Bool) : List Byte :=
  [1, byteOf c.cls] ++ beBytes 2 c.num ++ beBytes 4 c.fire ++ [byteOf c.shares.length, byteOf (b2n on), 0, 0] ++ beBytes 4 (toField 32 c.x) ++
  c.shares.flatMap fun s =>
    [byteOf s.node, byteOf s.axis, byteOf (b2n s.probe + 2 * b2n s.raised), 0] ++ beBytes 4 (toField 32 s.share) ++ [0, 0, 0, 0]

/-- A PREPARE of a class sent (R484, R485, R489, R490). -/
def Lane.sendPrepare (l : Lane) (k : Nat) : Lane :=
  match l.demand k with
  | none => l
  | some x =>
    let kc := l.carClass k
    let (shares, on) : List ShareEntry × Bool := match kc.retry with
      | some (_, ss) => (ss, false)
      | none => redistribute (l.cfg.parts k) k x (if l.cfg.fabricCommitMode k = 1 then maskNodes kc.missing else [])
    let num := kc.next.getD 0
    let c : Commit := { cls := k, num := num, fire := (l.fabTick + 2) % 2 ^ 32, x := x, shares := shares }
    let l := l.fabSend 2 63 (c.prepareBytes on)
    let l := { l with car := { l.car with prepared := l.car.prepared ++ [c] } }
    l.modClass k fun kc =>
      { kc with next := some ((num + 1) % 65536), sent := some (x, l.tick.count), dueSince := none, missingSent := kc.missing, retry := none, req := none }

/-- The coordinator's work of the tick before its PREPARE leaves (R485, R490): at most one PREPARE. -/
def Lane.carWork (l : Lane) : Lane :=
  if !l.car.coord then l
  else
    let l := [1, 2].foldl (fun l k =>
      if l.cfg.fabricCommitMode k = 1 && !(l.cfg.parts k).isEmpty then l.setMissing k (l.missingFrom k (l.results k)) else l) l
    let l := [1, 2].foldl (fun l k => l.modClass k fun kc =>
      { kc with dueSince := if l.prepareDue k then some (kc.dueSince.getD l.tick.count) else none }) l
    match (l.carClass 1).dueSince, (l.carClass 2).dueSince with
    | some a, some b => if a ≤ b then l.sendPrepare 1 else l.sendPrepare 2
    | some _, none => l.sendPrepare 1
    | none, some _ => l.sendPrepare 2
    | none, none => l

/-- The PREPARE starts no later than 12.50 µs after the boundary (R485). -/
def Lane.carSend (l : Lane) : Lane := { ({ l with now := min l.now 4400 }).carWork with now := l.now }

/-! ## Answers -/

/-- The share entries of a PREPARE payload. -/
def shareEntries (pl : List Byte) : List ShareEntry :=
  (List.range (min 16 (pl.getD 8 0).toNat)).map fun i =>
    let e := slice pl (16 + 12 * i) 12
    { node := (e.getD 0 0).toNat % 64, axis := (e.getD 1 0).toNat, probe := bitN (e.getD 2 0).toNat 0, raised := bitN (e.getD 2 0).toNat 1
      share := toSigned 32 (beNat (slice e 4 4)) }

/-- A reason of Table 18.5 applies to a share entry. -/
def Lane.refuses (l : Lane) (src k fire : Nat) (reason : Nat) (e : ShareEntry) : Bool :=
  match reason with
  | 1 => l.start.state != .operate
  | 2 => !l.synced
  | 3 => diff32 fire (l.fabTick % 2 ^ 32) ≤ 0
  | 4 => 12 ≤ e.axis || l.cfg.kind e.axis != (if k = 1 then .valve else .steer)
  | 5 => if h : e.axis < 12 then l.axisLevel ⟨e.axis, h⟩ == 0 else true
  | 6 =>
    k == 2 && (let m := (l.sup.getD e.axis {}).mode
      (m != 0 && m != 3) || (l.prof.getD e.axis {}).jobOwns || decide ((l.cfg.steerAngleMax : Int) < absI e.share))
  | _ => l.car.elected != src

/-- The first reason that applies, with the axis of its first failing share (R486). -/
def Lane.refusal (l : Lane) (src k fire : Nat) (es : List ShareEntry) : Option (Nat × Nat) :=
  [1, 2, 3, 4, 5, 6, 7].findSome? fun r => (es.find? (l.refuses src k fire r)).map fun e => (r, e.axis)

/-- A received PREPARE (R483, R486). -/
def Lane.prepare (l : Lane) (f : FabFrame) : Lane :=
  let pl := f.payload
  let k := (pl.getD 1 0).toNat
  let num := beNat (slice pl 2 2)
  let fire := beNat (slice pl 4 4)
  let l := ({ l with car := { l.car with cands := putNode f.src l.tick.count l.car.cands } }).elect
  let l := if l.car.elected = f.src then l else l.raise .fab034 .none f.src
  let es := (shareEntries pl).filter fun e => e.node == l.node
  if es.isEmpty || (k != 1 && k != 2) || (l.carClass k).answered == some (num, f.src) then l
  else
    let kc := l.carClass k
    let reply (msg reason : Nat) (l : Lane) : Lane :=
      l.fabSend 2 f.src ([byteOf msg, byteOf k] ++ beBytes 2 num ++ beBytes 4 fire ++ [byteOf (l.node + 64 * l.id.code), byteOf reason, 0, 0, 0, 0, 0, 0])
    match l.refusal f.src k fire es with
    | some (r, axis) =>
      let l := if kc.answer = 2 ∧ kc.reason = r then l else l.raise .fab030 (.axis (axis % 256)) (k * 65536 + r : Nat)
      reply 3 r (l.modClass k fun c => { c with answer := 2, reason := r, answered := some (num, f.src), refused := satInc 65535 c.refused })
    | none =>
      let a : Armed := { cls := k, num := num, src := f.src, fire := fire, shares := es.map fun e => (e.axis, if e.probe then 0 else e.share) }
      let l := { l with car := { l.car with armed := l.car.armed ++ [a] } }
      reply 2 0 (l.modClass k fun c => { c with answer := 1, reason := 0, answered := some (num, f.src) })

/-- A received ABORT cancels the firing of its commit (R487). -/
def Lane.abort (l : Lane) (f : FabFrame) : Lane :=
  let k := (f.payload.getD 1 0).toNat
  let num := beNat (slice f.payload 2 2)
  let mine (a : Armed) : Bool := a.cls == k && a.num == num && a.src == f.src
  if l.car.armed.any mine then
    ({ l with car := { l.car with armed := l.car.armed.filter fun a => !mine a } }).modClass k fun c => { c with refused := satInc 65535 c.refused }
  else l

/-- One prepared commit changed. -/
def Lane.modCommit (l : Lane) (k num : Nat) (f : Commit → Commit) : Lane :=
  { l with car := { l.car with prepared := l.car.prepared.map fun c => if c.cls = k ∧ c.num = num then f c else c } }

/-- An ALL commit aborted (R489, R482): ABORT, and the retry or the drop. -/
def Lane.abortCommit (l : Lane) (c : Commit) (code node : Nat) : Lane :=
  let l := l.fabSend 2 63 ([4, byteOf c.cls] ++ beBytes 2 c.num ++ beBytes 4 c.fire ++ [byteOf code, byteOf node, 0, 0, 0, 0, 0, 0])
  let l := l.modCommit c.cls c.num fun c => { c with aborted := true }
  let n := (l.carClass c.cls).aborts + 1
  if l.cfg.fabricCommitRetry c.cls ≤ n then
    let l := l.modClass c.cls fun k => { k with aborts := 0, retry := none, refused := satInc 65535 k.refused, sent := some (c.x, l.tick.count) }
    let l := l.raise .fab032 .none (c.cls * 65536 + c.num : Nat)
    if h : c.cls = 2 ∧ l.cfg.steerFront < 12 then l.modProf ⟨l.cfg.steerFront, h.2⟩ fun p => { p with result := 7, request := 0 } else l
  else l.modClass c.cls fun k => { k with aborts := n, retry := some (c.x, c.shares), refused := satInc 65535 k.refused }

/-- A READY or REFUSE that reaches the coordinator lane at clocks after the boundary (R487, R489). -/
def Lane.answer (l : Lane) (f : FabFrame) (at_ : Nat) (ready : Bool) : Lane :=
  let pl := f.payload
  let k := (pl.getD 1 0).toNat
  let num := beNat (slice pl 2 2)
  let node := (pl.getD 8 0).toNat % 64
  match l.car.prepared.find? fun c => c.cls == k && c.num == num with
  | none => l
  | some c =>
    let left := diff32 c.fire (l.fabTick % 2 ^ 32)
    let timely : Bool := !c.closed && (1 < left || (left == 1 && at_ + 2000 ≤ l.tickLen))
    if !timely || c.answers.any (fun a => a.1 == node) || !(c.shares.any fun s => s.node == node) then l
    else
      let l := l.modCommit k num fun c => { c with answers := c.answers ++ [(node, ready)] }
      if ready then l
      else
        let l := l.modClass k fun c => { c with refused := satInc 65535 c.refused }
        if l.cfg.fabricCommitMode k = 0 ∧ !c.aborted then l.abortCommit c 1 node else l

/-- The answer deadline of a commit of a class passes (R487, R489, R490). -/
def Lane.commitDeadline (l : Lane) (k : Nat) : Lane :=
  match l.car.prepared.find? fun c => c.cls == k && !c.closed && c.fire == (l.fabTick + 1) % 2 ^ 32 with
  | none => l
  | some c =>
    let nodes := (c.shares.map (·.node)).foldl (fun ns n => if ns.contains n then ns else ns ++ [n]) ([] : List Nat)
    let silent := nodes.filter fun n => !(c.answers.any fun a => a.1 == n)
    let bad := nodes.filter fun n => silent.contains n || c.answers.any fun a => a.1 == n && !a.2
    let l := l.modCommit k c.num fun c => { c with closed := true }
    let l := l.modClass k fun kc => { kc with refuse := nodeMask bad }
    if l.cfg.fabricCommitMode k = 1 then l.setMissing k (l.missingFrom k [nodeMask bad])
    else
      match silent with
      | n :: _ => if c.aborted then l else l.abortCommit c 2 n
      | [] => if bad.isEmpty then l.modClass k fun kc => { kc with aborts := 0 } else l

/-! ## Firing -/

/-- A share set in force for an axis at the next boundary (R487, R482). -/
def Lane.fireShare (l : Lane) (k : Nat) (s : Nat × Int) : Lane :=
  if h : s.1 < 12 then
    let n : AxisId := ⟨s.1, h⟩
    let l := { l with car := { l.car with
      share := l.car.share.set n s.2, firedAt := l.car.firedAt.set n (some (l.tick.count + 1, s.2)), anyAt := l.car.anyAt.set n (some (l.tick.count + 1))
      fell := l.car.fell.set n false } }
    if k = 2 ∧ (l.ax n).role = .holder then l.modProf n fun p => { p with reqs := p.reqs ++ [(.move s.2, .commit)] } else l
  else l

/-- The fire boundary of a class (R482, R487): it ends the tick in which it is executed. -/
def Lane.commitFire (l : Lane) (k : Nat) : Lane :=
  let now := (l.fabTick + 1) % 2 ^ 32
  let l := (l.car.armed.filter fun a => a.cls == k && a.fire == now).foldl (fun l a =>
    let l := a.shares.foldl (fun l s => l.fireShare k s) l
    l.modClass k fun c => { c with last := some a.num, fired := satInc 65535 c.fired }) l
  let l := { l with car := { l.car with armed := l.car.armed.filter fun b => !(b.cls == k && b.fire == now) } }
  match l.car.prepared.find? fun c => c.cls == k && c.fire == now with
  | some c =>
    let l := { l with car := { l.car with prepared := l.car.prepared.filter fun d => !(d.cls == k && d.fire == now) } }
    if c.aborted then l
    else
      let l := l.modClass k fun kc => { kc with last := some c.num, seen := some c.num, fired := satInc 65535 kc.fired }
      if h : k = 2 ∧ l.cfg.steerFront < 12 then
        let n : AxisId := ⟨l.cfg.steerFront, h.2⟩
        if (l.ax n).role = .holder then l.modProf n fun p => { p with reqs := p.reqs ++ [(.move c.x, .commit)] } else l
      else l
  | none => l

/-- The largest class 1 share another lane of the node fired for an axis at the last boundary, as its shadow entry carries it (R18, R488). -/
def Lane.otherFired (l : Lane) (n : AxisId) : Option Int :=
  (l.id.others.filterMap fun x => match (l.px.get x).shadow with | some t => (t.get n).share1 | none => none).foldl
    (fun m v => match m with | none => some v | some w => some (maxI v w)) (none : Option Int)

/-- Two ticks after a boundary m at which the own plane fired nothing for the axis (R488): executed at the end of tick m+1. -/
def Lane.shareTakeover (l : Lane) (n : AxisId) : Lane :=
  let m := l.tick.count - 1
  let older : Bool := match l.car.firedAt.get n with | some (t, _) => decide (t < m) | none => true
  match l.otherFired n with
  | some v =>
    if older ∧ l.cfg.kind n.val = .valve then
      { l with car := { l.car with share := l.car.share.set n v, anyAt := l.car.anyAt.set n (some m), fell := l.car.fell.set n false } }
    else l
  | none => l

/-- No lane of the node has fired for the axis for COMMIT[1].HOLD ticks (R488). -/
def Lane.shareFallback (l : Lane) (n : AxisId) : Lane :=
  match l.car.anyAt.get n with
  | some t =>
    if !(l.car.fell.get n) ∧ l.cfg.kind n.val = .valve ∧ t + l.cfg.fabricCommitHold 1 ≤ l.tick.count then
      ({ l with car := { l.car with share := l.car.share.set n (l.cfg.fabricCommitFallback 1), fell := l.car.fell.set n true } }).raise .fab035 .none n.val
    else l
  | none => l

/-- Firing by other lanes noted at the close of the tick (R488). -/
def Lane.noteFired (l : Lane) : Lane :=
  { l with car := { l.car with anyAt := l.car.anyAt.mapFin fun n t => if (l.otherFired n).isSome then some (max (l.tick.count - 1) (t.getD 0)) else t } }

/-- Signals and the caravan at gather. -/
def Lane.freshCar (l : Lane) : Lane := { l with car := {} }

end Sys2Proof.Machine
end

