-- ==== Sys2Proof/Machine/Package.lean ====
section
/-! DEFINITION. Firmware packages in the slots of the boot store: length, release, protocol level, signature (Table 20.6, R59). -/

namespace Sys2Proof.Machine

/-- The size of a firmware slot: 8 MiB. -/
def slotSize : Nat := 0x800000

/-- The length of the package whose header a slot holds: header, body, signature. -/
def packageLen (m : Mem) : Nat := 128 + beNat (m.readList 12 4)

/-- The package in a slot carries the signature of the Zilevo key over its header and body (R59, Table 20.6). -/
def packageValid (key : Nat × Nat) (m : Mem) : Bool :=
  let n := packageLen m
  decide (n ≤ slotSize) && ecdsaValid key (m.readList 0 (n - 64)) (beNat (m.readList (n - 64) 32)) (beNat (m.readList (n - 32) 32))

/-- The memory of a firmware slot. -/
def Lane.slotMem (l : Lane) (slot : Nat) : Mem := if slot = 0 then l.nvm.slot0 else l.nvm.slot1

/-- The release of the package in a slot. -/
def packageRelease (m : Mem) : Nat := beNat (m.readList 4 4)

/-- The protocol level of the package in a slot. -/
def packageLevel (m : Mem) : Nat := beNat (m.readList 8 2)

/-- The release the lane runs. -/
def Lane.release (l : Lane) : Nat := beNat ((l.slotMem l.start.slot).readList 4 4)

/-- The lane's own protocol level. -/
def Lane.protocol (l : Lane) : Nat := beNat ((l.slotMem l.start.slot).readList 8 2)

end Sys2Proof.Machine
end

