-- ==== Sys2Proof/Machine/Wire.lean ====
section
/-! DEFINITION. The bytes of CAN messages, least significant byte first (R5), as ISO 11783-3, -5, -7 and -12 lay them out (PRESUMED: the manual names the parts and not the layouts). -/

namespace Sys2Proof.Machine

/-- The characters of a text as bytes. -/
def ascii (s : String) : List Byte := s.toList.map fun c => byteOf c.toNat

/-- The four bytes of a DTC: SPN low byte first, its top 3 bits above the FMI, then the occurrence count. -/
def Dtc.bytes (d : Dtc) : List Byte :=
  leBytes 2 d.spn ++ [byteOf (d.spn / 65536 % 8 * 32 + d.fmi % 32), byteOf (d.occ % 128)]

/-- The DTCs after the two lamp bytes, one empty DTC where there is none, filled up to 8 bytes. -/
def dtcBytes (lamps : Nat) (ds : List Dtc) : List Byte :=
  let body := byteOf lamps :: 0xFF :: (if ds.isEmpty then [{ spn := 0, fmi := 0, occ := 0 }] else ds).flatMap Dtc.bytes
  body ++ List.replicate (8 - body.length) 0xFF

/-- A curvature of 1/m with 32 fraction bits in 0.25 km⁻¹ per bit, offset −8,032 km⁻¹; 0xFFFF not available. -/
def curvatureRaw (k : Option Int) : Nat :=
  match k with
  | some k => (clampI 0 0xFAFF (roundDiv (k * 4000) (2 ^ 32) + 32128)).toNat
  | none => 0xFFFF

/-- A speed of km/h with 16 fraction bits in 0.001 m/s per bit; 0xFFFF not available. -/
def speedRaw (v : Option Q) : Nat :=
  match v with
  | some v => (clampI 0 0xFAFF (roundDiv (v * 2500) (9 * 65536))).toNat
  | none => 0xFFFF

/-- The PGN of a message (Table 19.3). -/
def CanMsg.pgn : CanMsg → Nat
  | .claim _ | .cannotClaim _ => 0xEE00
  | .nack _ => 0xE800
  | .tpCm _ => 0xEC00
  | .tpDt _ => 0xEB00
  | .service _ => 0xEF00
  | .guidance .. => 0xAC00
  | .wheelSpeed .. => 0xFE48
  | .dm1 .. => 0xFECA
  | .dm2 _ => 0xFECB
  | .software .. => 0xFEDA
  | .ecuIdent .. => 0xFDC5

/-- The bytes of a message sent to an address; bits and fields the manual does not name are sent as not available (R508). -/
def CanMsg.bytes (dst : Nat) : CanMsg → List Byte
  | .claim name | .cannotClaim name => leBytes 8 name
  | .nack pgn => [1, 0xFF, 0xFF, 0xFF, byteOf dst] ++ leBytes 3 pgn
  | .tpCm data | .tpDt data | .service data => data
  | .guidance k limited reset =>
    leBytes 2 (curvatureRaw k) ++ [byteOf (0x3F + 64 * b2n reset), byteOf (0x1F + 32 * b2n limited), 0xFF, 0xFF, 0xFF, 0xFF]
  | .wheelSpeed v d => leBytes 2 (speedRaw v) ++ leBytes 4 d ++ [0xFF, 0xFF]
  | .dm1 red amber ds => dtcBytes (0xC3 + 16 * b2n red + 4 * b2n amber) ds
  | .dm2 ds => dtcBytes 0xFF ds
  | .software release stepping => byteOf 2 :: (ascii (toString (release / 65536) ++ "." ++ toString (release % 65536) ++ "*B" ++ toString stepping ++ "*"))
  | .ecuIdent ordering serial => ascii ((if ordering = 0 then "CUA-T48-A" else "CUA-T48-H") ++ "*" ++ toString serial ++ "*")

/-- The bytes of a frame. -/
def CanFrame.bytes (f : CanFrame) : List Byte := f.msg.bytes f.dst

/-- The packets of a message, 7 bytes each. -/
def packetCount (n : Nat) : Nat := (n + 6) / 7

/-- A TP.DT packet of a message, counted from 1; unused bytes are 0xFF. -/
def tpPacket (data : List Byte) (k : Nat) : List Byte :=
  let p := slice data (7 * (k - 1)) 7
  byteOf k :: (p ++ List.replicate (7 - p.length) 0xFF)

/-- A message announced to all and its packets (R501). -/
def announce (pgn : Nat) (bs : List Byte) : List CanMsg :=
  let n := packetCount bs.length
  .tpCm ([32] ++ leBytes 2 bs.length ++ [byteOf n, 0xFF] ++ leBytes 3 pgn) :: (List.range n).map fun k => .tpDt (tpPacket bs (k + 1))

end Sys2Proof.Machine
end

