-- ==== Sys2Proof/Machine/Can.lean ====
section
/-! DEFINITION. CAN controllers, ISO 11783 messages, the voice lane, transport connections (chapter 19). -/

namespace Sys2Proof.Machine

/-! ## Controllers -/

/-- One controller changed. -/
def Lane.modCan (l : Lane) (c : CanId) (f : CanCtl → CanCtl) : Lane := { l with can := { l.can with ctl := l.can.ctl.modify c f } }

/-- A controller's state. -/
def Lane.canCtl (l : Lane) (c : CanId) : CanCtl := l.can.ctl.get c

/-- CAN[c].MODE is ISOBUS. -/
def Lane.isobus (l : Lane) (c : CanId) : Bool := l.cfg.canMode c.val == 1

/-- The lane transmits on a controller (R499, R502, R503, R505): it is the voice since the tick before at the latest, and the controller is neither OFF nor bus-off. -/
def Lane.speaks (l : Lane) (c : CanId) : Bool :=
  l.can.voice && l.can.voiceAt != l.tick.count && l.cfg.canMode c.val != 0 && (l.canCtl c).err != 2 &&
  (match l.start.state with | .operate | .stopped | .unsealed => true | _ => false)

/-- The node's address: that in use, else CAN[c].ADDR (R502). -/
def Lane.nodeAddr (l : Lane) (c : CanId) : Nat := if (l.canCtl c).addr = 254 then l.cfg.canAddr c.val else (l.canCtl c).addr

/-- The NAME of the node on a controller (R502), its fields placed as ISO 11783-5 places them. -/
def Lane.ownName (l : Lane) (c : CanId) : Nat :=
  let g := l.cfg
  let i := c.val
  Config.serial % 2 ^ 21 + g.canNameManuf i % 2 ^ 11 * 2 ^ 21 + g.canNameEcuinst i % 8 * 2 ^ 32 + g.canNameFuncinst i % 32 * 2 ^ 35 +
  g.canNameFunction i % 256 * 2 ^ 40 + g.canNameClass i % 128 * 2 ^ 49 + g.canNameClassinst i % 16 * 2 ^ 56 + 2 * 2 ^ 60 + 2 ^ 63

/-- A controller that is not OFF runs in restricted operation on a lane that is not the voice (R499). -/
def Lane.restricted (l : Lane) (c : CanId) : Bool := l.cfg.canMode c.val != 0 && !l.can.voice

/-- The bit timing of a controller: nominal rate in kbit/s, time quanta per bit and the quantum after which it samples (R498); a PRIVATE controller's quanta are not laid down. -/
def Cfg.canTiming (c : Cfg) (i : Nat) : Nat × Option (Nat × Nat) :=
  if c.canMode i = 1 then (250, some (16, (16 * c.canNsp i + 500) / 1000)) else (c.canNbr i, none)

/-- A frame sent in this tick from the address in use. -/
def Lane.canSend (l : Lane) (c : CanId) (dst : Nat) (m : CanMsg) : Lane :=
  l.modCan c fun x => { x with sent := x.sent ++ [{ src := x.addr, dst := dst, msg := m }] }

/-- A message of any length: in one frame, or announced to all and in packets where it has more than 8 bytes (R501, Table 19.3). -/
def Lane.canSendAll (l : Lane) (c : CanId) (m : CanMsg) : Lane :=
  let bs := m.bytes 255
  if bs.length ≤ 8 then l.canSend c 255 m
  else (announce m.pgn bs).foldl (fun l x => l.canSend c 255 x) l

/-- The lane sends messages other than its claim on a controller (R502, R505). -/
def Lane.talks (l : Lane) (c : CanId) : Bool :=
  l.speaks c && l.isobus c && !(l.canCtl c).mute && (l.canCtl c).addr != 254 && (l.canCtl c).waitTo ≤ l.tick.count

/-- A frame with a source address arrived on a controller of this lane (R503). -/
def Lane.heardFrom (l : Lane) (c : CanId) (src : Nat) : Lane :=
  if src = l.nodeAddr c ∧ l.cfg.canMode c.val ≠ 0 then { l with can := { l.can with heard := true } } else l

/-- A controller counts errors (R496, R497): it is not OFF, and the lane's state runs it; in LISTEN the one controller that runs sends neither acknowledgement nor error frame (R82). -/
def Lane.canRuns (l : Lane) (c : CanId) : Bool :=
  l.cfg.canMode c.val != 0 && (match l.start.state with | .off | .boot | .selftest | .sleep | .listen => false | _ => true)

/-- A controller goes bus-off (R496). -/
def Lane.busOff (l : Lane) (c : CanId) : Lane :=
  if !l.canRuns c ∨ (l.canCtl c).err = 2 then l
  else (l.modCan c fun x => { x with err := 2, tec := 255 }).raise .net001 .none c.val

/-- A controller recovers from bus-off after 128 occurrences of 11 recessive bits (R496). -/
def Lane.busOn (l : Lane) (c : CanId) : Lane :=
  if (l.canCtl c).err = 2 then l.modCan c fun x => { x with err := 0, tec := 0, rec_ := 0 } else l

/-- A controller becomes error passive, with its error counts (R496). -/
def Lane.errorPassive (l : Lane) (c : CanId) (tec rec_ : Nat) : Lane :=
  if !l.canRuns c ∨ (l.canCtl c).err ≠ 0 then l
  else (l.modCan c fun x => { x with err := 1, tec := min 255 tec, rec_ := min 255 rec_ }).raise .net002 .none c.val

/-! ## The voice (R503 to R505) -/

/-- A state in which a lane may be the voice. -/
def voiceState : LState → Bool | .operate | .stopped | .unsealed => true | _ => false

/-- The eligible lanes this lane sees, with whether each is in OPERATE (R503). -/
def Lane.eligibleVoices (l : Lane) : List (LaneId × Bool) :=
  LaneId.all.filterMap fun x =>
    if x = l.id then (if voiceState l.start.state then some (x, l.start.state == .operate) else none)
    else match (l.peerOf x).lastMarker with
      | some m => if voiceState m.state && !(l.peerOf x).down then some (x, m.state == .operate) else none
      | none => none

/-- The rank of an eligible lane, lower first: OPERATE ahead, then the cyclic order from LANE.VOICE.FIRST. -/
def Lane.voiceRank (l : Lane) (e : LaneId × Bool) : Nat := (if e.2 then 0 else 3) + (e.1.code + 3 - l.cfg.laneVoiceFirst % 3) % 3

/-- The lane ranks ahead of every other eligible lane. -/
def Lane.topVoice (l : Lane) : Bool :=
  match (l.eligibleVoices).find? fun e => e.1 == l.id with
  | some me => l.eligibleVoices.all fun e => e.1 == l.id || decide (l.voiceRank me < l.voiceRank e)
  | none => false

/-- The other lanes whose detailed state shows the voice flag, as last received in this tick or the one before. -/
def Lane.voicesSeen (l : Lane) : List LaneId :=
  l.id.others.filter fun x => match (l.px.get x).detail.orElse fun _ => (l.px.get x).detailPrev with | some d => d.voice | none => false

/-- The lane sees no other lane as eligible and holds a witness for fewer than both (R504, third case). -/
def Lane.aloneUnwitnessed (l : Lane) : Bool :=
  (l.eligibleVoices.all fun e => e.1 == l.id) && decide ((l.id.others.filter l.witness).length < 2)

/-- The lane becomes the voice (R503): NET-004, and Address Claimed from the next boundary (R505). A lane that R504 would stop at once does not become it (DEDUCED: that case leaves the lane silent). -/
def Lane.voiceTakeover (l : Lane) : Lane :=
  if !l.can.voice && l.topVoice && l.voicesSeen.isEmpty && !l.can.heard && l.cfg.laneVoiceQuiet ≤ l.can.quiet + 1 && !l.aloneUnwitnessed then
    let l := ({ l with can := { l.can with voice := true, voiceAt := l.tick.count, waits := [], resps := [] } }).raise .net004 .none
      (match l.can.lastVoice with | some x => x.code | none => 3)
    (List.finRange 2).foldl (fun l c =>
      if l.isobus c ∧ !(l.canCtl c).mute then
        let a := l.nodeAddr c
        let wait := if 128 ≤ a ∧ a ≤ 247 then 10000 else 0
        l.modCan c fun x =>
          { x with addr := a, waitTo := l.tick.count + 1 + wait, inConns := [], outConns := [], gmiNext := 0, speedNext := 0, dm1Next := 0
                   queue := x.queue ++ [{ src := a, dst := 255, msg := .claim (l.ownName c) }] }
      else l) l
  else l

/-- The lane stops being the voice (R504). -/
def Lane.voiceLoss (l : Lane) : Lane :=
  if !l.can.voice then l
  else
    let stop (l : Lane) : Lane := { l with can := { l.can with voice := false, waits := [] } }
    let mine := (l.eligibleVoices).find? fun e => e.1 == l.id
    match mine with
    | none => stop l
    | some me =>
      let higher := l.voicesSeen.any fun x => l.eligibleVoices.any fun e => e.1 == x && l.voiceRank e < l.voiceRank me
      if higher then stop l
      else if l.aloneUnwitnessed then (stop l).raise .net006 .none 0
      else l

/-- The close of the tick for the voice (R503, R504). -/
def Lane.closeVoice (l : Lane) : Lane :=
  let q := if voiceState l.start.state then (if l.can.heard then 0 else satInc 1000000 l.can.quiet) else 0
  let seen := match l.voicesSeen with | x :: _ => some x | [] => if l.can.voice then some l.id else l.can.lastVoice
  ({ l with can := { l.can with quiet := q, heard := false, lastVoice := seen } }).voiceLoss

/-- The addresses in use of a lane that is not the voice follow the voice's detailed state (R502). -/
def Lane.followAddr (l : Lane) (d : Detail) : Lane :=
  if d.voice && !l.can.voice then (l.modCan 0 fun x => { x with addr := d.addr0 }).modCan 1 fun x => { x with addr := d.addr1 } else l

/-- What was queued goes out at the boundary. -/
def Lane.canBoundary (l : Lane) : Lane :=
  { l with can := { l.can with ctl := l.can.ctl.mapFin fun _ x => { x with sent := x.queue, queue := [], delivered := [] } } }

/-! ## Address claim (R502) -/

/-- The lowest address from 128 to 247 that no other NAME has claimed. -/
def CanCtl.freeAddr (x : CanCtl) : Option Nat := ((List.range 120).map (· + 128)).find? fun a => !(x.names.any fun e => e.1 == a)

/-- A received Address Claimed (R502, R514). -/
def Lane.addressClaimed (l : Lane) (c : CanId) (src name : Nat) : Lane :=
  if !l.isobus c then l.heardFrom c src
  else
    let own := l.ownName c
    if name = own then l.heardFrom c src
    else
      let l := l.modCan c fun x => { x with names := putNode src name (x.names.filter fun e => e.2 != name) }
      let l := match l.can.session with
        | some s =>
          if s.src ≠ src then l
          else if (s.name.getD name) ≠ name then { l with can := { l.can with session := none } }
          else { l with can := { l.can with session := some { s with name := some name } } }
        | none => l
      let l := l.heardFrom c src
      let x := l.canCtl c
      if x.addr ≠ src ∨ !l.can.voice ∨ src = 254 then l
      else if own < name then l.modCan c fun x => { x with queue := x.queue ++ [{ src := src, dst := 255, msg := .claim own }] }
      else
        match x.freeAddr with
        | some a =>
          l.modCan c fun x =>
            { x with addr := a, waitTo := l.tick.count + 1 + 10000, queue := x.queue ++ [{ src := a, dst := 255, msg := .claim own }] }
        | none =>
          (l.modCan c fun x =>
            { x with addr := 254, mute := true, queue := x.queue ++ [{ src := 254, dst := 255, msg := .cannotClaim own }] }).raise .net003 .none c.val

/-! ## Fault summaries and diagnostic messages (R509) -/

/-- The fault summary the lane carries in its link frames. -/
def Lane.faultSummary (l : Lane) : List FaultSum :=
  l.col.held.foldl (fun xs h =>
    let cls := h.r.ev.cls.code.val
    let code := h.r.ev.num
    let one : FaultSum :=
      { cls := cls, code := code, occ := b2n (!h.acked), active := h.r.level != .l0 && !h.recovered, past := h.recovered && !h.acked }
    if xs.any fun x => x.cls == cls && x.code == code then
      xs.map fun x => if x.cls = cls ∧ x.code = code then
        { x with occ := min 126 (x.occ + one.occ), active := x.active || one.active, past := x.past || one.past } else x
    else xs ++ [one]) []

/-- The summaries of the lanes the voice counts, with its own, merged by code. -/
def Lane.allFaults (l : Lane) : List FaultSum :=
  (l.counted.flatMap fun x => (l.px.get x).faults).foldl (fun xs y =>
    if xs.any fun x => x.cls == y.cls && x.code == y.code then
      xs.map fun x => if x.cls = y.cls ∧ x.code = y.code then
        { x with occ := max x.occ y.occ, active := x.active || y.active, past := x.past || y.past } else x
    else xs ++ [y]) l.faultSummary

/-- The DTC of a code (R509). -/
def FaultSum.dtc (x : FaultSum) : Dtc :=
  { spn := 520192 + 256 * x.cls + x.code % 256, fmi := if x.code < 256 then 31 else 14, occ := min 126 x.occ }

/-- DM1: red lamp, amber lamp, DTCs. -/
def Lane.dm1Msg (l : Lane) : CanMsg :=
  let ds := (l.allFaults.filter (·.active)).map FaultSum.dtc
  .dm1 (l.col.stopS.isSome || l.service ≤ 1) (!ds.isEmpty) ds

/-- DM2: the recovered events not acknowledged. -/
def Lane.dm2Msg (l : Lane) : CanMsg := .dm2 ((l.allFaults.filter (·.past)).map FaultSum.dtc)

/-- DM1 is due every second (R506): 40,000 ticks. -/
def Lane.sendDm1 (l : Lane) (c : CanId) : Lane :=
  if l.talks c ∧ (l.canCtl c).dm1Next ≤ l.tick.count then
    (l.canSendAll c l.dm1Msg).modCan c fun x => { x with dm1Next := l.tick.count + 40000 }
  else l

/-- A received DM3 or DM11 is negatively acknowledged by the voice (R509). -/
def Lane.refuseClear (l : Lane) (c : CanId) (src pgn : Nat) : Lane :=
  let l := l.heardFrom c src
  if l.talks c ∧ (pgn = 0xFECC ∨ pgn = 0xFED3) then l.canSend c src (.nack pgn) else l

/-! ## Guidance and speed (R506 to R508, R379) -/

/-- Guidance Machine Info (R508): curvature of STEER.FRONT in 1/m with 32 fraction bits, not available without STEER.FRONT or a wheelbase, limit and reset request. -/
def Lane.gmiMsg (l : Lane) : CanMsg :=
  .guidance (if l.cfg.steerFront < 12 ∧ l.cfg.steerWheelbase ≠ 0 then some (l.kappaOf (l.sup.getD l.cfg.steerFront {}).b) else none) (l.chas.clipped.getD l.cfg.steerFront false) l.can.resetDue

/-- Every 100 ms the voice sends Guidance Machine Info. -/
def Lane.sendGmi (l : Lane) (c : CanId) : Lane :=
  if l.talks c ∧ (l.canCtl c).gmiNext ≤ l.tick.count then
    (l.canSend c 255 l.gmiMsg).modCan c fun x => { x with gmiNext := l.tick.count + 4000 }
  else l

/-- Distance in mm of the summed speeds, km/h with 16 fraction bits per tick. -/
def distanceMm (s : Nat) : Nat := s * 25 / (3600 * 65536)

/-- Every 100 ms the voice of a PRIME node sends Wheel-Based Speed and Distance. -/
def Lane.sendSpeed (l : Lane) (c : CanId) : Lane :=
  if l.talks c ∧ l.cfg.laneImageRole = 0 ∧ (l.canCtl c).speedNext ≤ l.tick.count then
    (l.canSend c 255 (.wheelSpeed (l.chas.speed.map fun v => absI v) (distanceMm l.can.distance))).modCan c fun x =>
      { x with speedNext := l.tick.count + 4000 }
  else l

/-- The curvature of a command in 1/m with 32 fraction bits. -/
def GuidanceCmd.kappa (g : GuidanceCmd) : Int := roundDiv (((g.raw : Int) - 32128) * 2 ^ 32) 4000

/-- A received Guidance System Command (R383, R507). -/
def Lane.guidance (l : Lane) (c : CanId) (src dst : Nat) (g : GuidanceCmd) : Lane :=
  let l := l.heardFrom c src
  if l.isobus c ∧ dst = (l.canCtl c).addr ∧ g.status = 1 ∧ g.raw ≤ 0xFAFF then
    { l with chas := { l.chas with guide := some (g.kappa, l.tick.count), guideOut := false } }
  else l

/-- A received Ground-Based Speed and Distance message, km/h (R379). -/
def Lane.groundSpeed (l : Lane) (c : CanId) (src : Nat) (v : Q) : Lane :=
  let l := l.heardFrom c src
  if l.isobus c then { l with chas := { l.chas with can := some (v, l.tick.count) } } else l

/-! ## Requests (R506) -/

/-- A received Request, answered by the voice for the PGNs of Table 19.3. -/
def Lane.canRequest (l : Lane) (c : CanId) (src dst pgn : Nat) : Lane :=
  let l := l.heardFrom c src
  if dst ≠ 255 ∧ dst ≠ (l.canCtl c).addr then l
  else if l.speaks c && l.isobus c && pgn == 0xEE00 then
    l.canSend c 255 (if (l.canCtl c).mute then .cannotClaim (l.ownName c) else .claim (l.ownName c))
  else if !l.talks c then l
  else if pgn = 0xFECA then l.canSendAll c l.dm1Msg
  else if pgn = 0xFECB then l.canSendAll c l.dm2Msg
  else if pgn = 0xFEDA then l.canSendAll c (.software l.release Config.stepping)
  else if pgn = 0xFDC5 then l.canSendAll c (.ecuIdent Config.ordering Config.serial)
  else if pgn = 0xFECC ∨ pgn = 0xFED3 then l.canSend c src (.nack pgn)
  else if pgn = 0xAC00 then l.canSend c 255 l.gmiMsg
  else if pgn = 0xFE48 ∧ l.cfg.laneImageRole = 0 then
    l.canSend c 255 (.wheelSpeed (l.chas.speed.map fun v => absI v) (distanceMm l.can.distance))
  else l

/-! ## Transport protocol (R501) -/

/-- A TP.DT packet of an outbound connection, counted from 1. -/
def OutConn.packet (o : OutConn) (k : Nat) : List Byte := tpPacket o.data k

/-- A message sent to an address: in one frame, or by a connection of ISO 11783-3 (R510). -/
def Lane.sendService (l : Lane) (c : CanId) (dst : Nat) (bytes : List Byte) : Lane :=
  if !l.talks c then l
  else if bytes.length ≤ 8 then l.canSend c dst (.service bytes)
  else
    let n := packetCount bytes.length
    let l := l.modCan c fun x => { x with outConns := { dst := dst, pgn := 0xEF00, data := bytes } :: x.outConns.filter fun o => o.dst != dst }
    l.canSend c dst (.tpCm ([16] ++ leBytes 2 bytes.length ++ [byteOf n, 0xFF] ++ leBytes 3 0xEF00))

/-- A received TP.CM frame. -/
def Lane.tpConnect (l : Lane) (c : CanId) (src dst : Nat) (d : List Byte) : Lane :=
  let b (i : Nat) : Nat := (d.getD i 0).toNat
  let x := l.canCtl c
  let pgn := leNat (slice d 5 3)
  let mine : Bool := dst == x.addr
  match b 0 with
  | 16 =>
    if !mine then l
    else if x.inConns.any fun i => i.src == src && !i.bam && i.pgn != pgn then
      if l.talks c then l.canSend c src (.tpCm ([255, 1, 255, 255, 255] ++ slice d 5 3)) else l
    else if 1785 < leNat (slice d 1 2) then
      if l.talks c then l.canSend c src (.tpCm ([255, 2, 255, 255, 255] ++ slice d 5 3)) else l
    else
      let l := l.modCan c fun x =>
        { x with inConns := { src := src, bam := false, pgn := pgn, size := leNat (slice d 1 2), packets := b 3 } ::
          x.inConns.filter fun i => !(i.src == src && !i.bam) }
      if l.talks c then l.canSend c src (.tpCm ([17, d.getD 3 0, 1, 255, 255] ++ slice d 5 3)) else l
  | 32 =>
    if dst ≠ 255 ∨ 1785 < leNat (slice d 1 2) then l
    else l.modCan c fun x =>
      { x with inConns := { src := src, bam := true, pgn := pgn, size := leNat (slice d 1 2), packets := b 3 } :: x.inConns.filter fun i => !(i.src == src && i.bam) }
  | 17 =>
    if !mine then l
    else match x.outConns.find? fun o => o.dst == src with
      | some o =>
        if l.talks c then
          let n := packetCount o.data.length
          ((List.range (b 1)).map (· + b 2)).foldl (fun l k => if 1 ≤ k ∧ k ≤ n then l.canSend c src (.tpDt (o.packet k)) else l) l
        else l
      | none => l
  | 19 => if mine then l.modCan c fun x => { x with outConns := x.outConns.filter fun o => o.dst != src } else l
  | 255 =>
    if mine then l.modCan c fun x =>
      { x with inConns := x.inConns.filter fun i => !(i.src == src && !i.bam && i.pgn == pgn), outConns := x.outConns.filter fun o => o.dst != src }
    else l
  | _ => l

/-- A received TP.DT frame. -/
def Lane.tpData (l : Lane) (c : CanId) (src dst : Nat) (d : List Byte) : Lane :=
  let x := l.canCtl c
  let bam : Bool := dst == 255
  if !bam ∧ dst ≠ x.addr then l
  else
    match x.inConns.find? fun i => i.src == src && i.bam == bam with
    | none => l
    | some i =>
      let others := x.inConns.filter fun j => !(j.src == src && j.bam == bam)
      if (d.getD 0 0).toNat ≠ i.got + 1 then
        if bam then l.modCan c fun x => { x with inConns := others }
        else if l.talks c then l.canSend c src (.tpCm ([17, byteOf (i.packets - i.got), byteOf (i.got + 1), 255, 255] ++ leBytes 3 i.pgn)) else l
      else
        let i := { i with got := i.got + 1, data := i.data ++ slice d 1 7 }
        if i.got < i.packets then l.modCan c fun x => { x with inConns := i :: others }
        else
          let l := l.modCan c fun x =>
            { x with inConns := others, delivered := x.delivered ++ [{ src := src, pgn := i.pgn, data := i.data.take i.size }] }
          if !bam ∧ l.talks c then l.canSend c src (.tpCm ([19] ++ leBytes 2 i.size ++ [byteOf i.packets, 255] ++ leBytes 3 i.pgn)) else l

/-- A received TP.CM or TP.DT frame (R501). -/
def Lane.transport (l : Lane) (c : CanId) (src dst : Nat) (isData : Bool) (d : List Byte) : Lane :=
  let l := l.heardFrom c src
  if !l.isobus c then l else if isData then l.tpData c src dst d else l.tpConnect c src dst d

end Sys2Proof.Machine
end

