-- ==== Sys2Proof/Machine/GatherParse.lean ====
section
/-! DEFINITION. Reading and checking of a gather image, steps 1 to 8 of Table 4.6: header, records, sections, values, required objects, mirrors (R92 to R102). -/

namespace Sys2Proof.Machine

/-- A rejection of an image: the number of its CFG event and its context value (Tables 4.6 and 4.11). -/
structure Reject where
  /-- Code number: 1 to 10 for CFG-001 to CFG-010. -/
  code : Nat
  /-- Context value. -/
  ctx : Nat
deriving DecidableEq, Repr

/-- The image header (R92, Table 4.1). -/
structure Header where
  /-- Magic. -/
  magic : Nat
  /-- Format version, major part. -/
  major : Nat
  /-- Minor part. -/
  minor : Nat
  /-- Image length in bytes. -/
  length : Nat
  /-- Seal. -/
  sealVal : Nat
  /-- Predecessor seal. -/
  predecessor : Nat
  /-- Node role. -/
  role : Nat
  /-- Expected node ID. -/
  node : Nat
  /-- Lane mask. -/
  mask : Nat
  /-- Flags. -/
  flags : Nat
  /-- Header check. -/
  check : Nat
deriving DecidableEq, Repr

/-- The header fields of 64 bytes. -/
def headerOf (b : List Byte) : Header :=
  { magic := beNat (slice b 0 4), major := beNat (slice b 4 1), minor := beNat (slice b 5 1), length := beNat (slice b 6 4)
    sealVal := beNat (slice b 10 4), predecessor := beNat (slice b 14 4), role := beNat (slice b 18 1), node := beNat (slice b 19 1)
    mask := beNat (slice b 20 1), flags := beNat (slice b 21 1), check := beNat (slice b 60 4) }

/-- A record of the body with its byte offset in the image (R95). -/
structure RawRec where
  /-- Offset of its first byte. -/
  off : Nat
  /-- Object ID. -/
  id : Nat
  /-- Value bytes. -/
  val : List Byte
deriving DecidableEq, Repr

/-- The records of a body, each with the lane of the section it stands in, none in the common part; or the byte offset of the first that breaks the structure (R95, R96). -/
def parseRecs : Nat → Nat → Option Nat → Option Nat → List Byte → Except Nat (List (Option Nat × RawRec))
  | 0, off, _, _, bs => if bs.isEmpty then .ok [] else .error off
  | k + 1, off, sect, last, bs =>
    if bs.isEmpty then .ok []
    else
      let id := beNat (bs.take 4)
      let n := beNat (slice bs 4 2)
      let v := slice bs 6 n
      let rest := bs.drop (6 + n)
      if bs.length < 6 + n then .error off
      else if id = 0x020000F0 then
        let s := beNat v
        let later : Bool := match sect with | some p => decide (p < s) | none => true
        if n = 1 ∧ s < 3 ∧ later then parseRecs k (off + 6 + n) (some s) none rest else .error off
      else if (match last with | some p => decide (id ≤ p) | none => false) then .error off
      else (parseRecs k (off + 6 + n) sect (some id) rest).map fun rs => (sect, { off := off, id := id, val := v }) :: rs

/-- The raw elements of a value (R97, Table 4.3). -/
def elemsOf (ty : VTy) : Nat → List Byte → List Int
  | 0, _ => []
  | k + 1, bs =>
    let v := beNat (bs.take ty.size)
    (if ty.signed then toSigned (8 * ty.size) v else (v : Int)) :: elemsOf ty k (bs.drop ty.size)

/-- The elements of a record of a known object. -/
def RawRec.elems (r : RawRec) : List Int :=
  match objDef? r.id with | some o => elemsOf o.ty (r.val.length / o.ty.size) r.val | none => []

/-- A record put into a list that ascends by object ID, in place of one with the same ID. -/
def insertRec (r : Nat × List Int) : Cfg → Cfg
  | [] => [r]
  | x :: xs => if r.1 < x.1 then r :: x :: xs else if r.1 = x.1 then r :: xs else x :: insertRec r xs

/-- Objects replaced or added in a configuration. -/
def Cfg.over (c : Cfg) (rs : List (Nat × List Int)) : Cfg := rs.foldl (fun c r => insertRec r c) c

/-- The configuration of a lane: the common records with those of its section in their place (R100). -/
def laneCfg (rs : List (Option Nat × RawRec)) (lane : Nat) : Cfg :=
  let common := rs.filterMap fun (r : Option Nat × RawRec) => if r.1.isNone then some (r.2.id, r.2.elems) else none
  let own := rs.filterMap fun (r : Option Nat × RawRec) => if r.1 == some lane then some (r.2.id, r.2.elems) else none
  Cfg.over common own

/-! ## Step 6: values and required objects -/

/-- Whether a lane has hardware for the owner of an expectation object: an axis or a sensor instance (R110). -/
def Cfg.ownerHw (c : Cfg) (id lane : Nat) : Bool :=
  let inst := id / 0x10000 % 0x100
  let entries := match id / 0x1000000 with
    | 0x10 => c.axisLegs inst
    | 0x20 => c.sensorSteerCh
    | _ => c.sensorBrakeCh inst
  entries.getD lane 255 != 255

/-- An expectation ADDR object. -/
def isAddr (id : Nat) : Bool :=
  let b := id / 0x1000000
  let f := id % 0x10000
  (b == 0x10 || ((b == 0x20 || b == 0x21) && id / 0x10000 % 0x100 != 0)) && (f == 0x33 || f == 0x43 || f == 0x53)

/-- An entry of an array with entries for A, B, C that is ignored (R97, R110). -/
def Cfg.ignored (c : Cfg) (mask id lane : Nat) : Bool := !mask.testBit lane || (isAddr id && !c.ownerHw id lane)

/-- Whether a raw element lies in the range of an object. -/
def ObjDef.inRange (o : ObjDef) (x : Int) : Bool :=
  (if o.only.isEmpty then (decide (o.lo ≤ x) && decide (x ≤ o.hi)) || o.also.contains x else o.only.contains x) && !(o.nonzero && x == 0)

/-- Strictly ascending elements. -/
def ascends : List Int → Bool
  | [] => true
  | [_] => true
  | x :: y :: r => decide (x < y) && ascends (y :: r)

/-- The ascending order of these objects is judged in step 10, by R250, R295 and R393. -/
def ascendLater (base : Nat) : Bool := base == 0x18000001 || base == 0x16000103 || base == 0x16000104 || base == 0x17000020

/-- A local signal number of Table 18.1. -/
def localSignal (n : Nat) : Bool := (1 ≤ n && n ≤ 5) || (0x10 ≤ n && n ≤ 0x1B) || (0x20 ≤ n && n ≤ 0x2B)

/-- A signal identifier of R477. -/
def signalId (x : Nat) : Bool :=
  decide (x < 2 ^ 25) && decide (1 ≤ x / 2 ^ 19) && decide (x / 2 ^ 19 ≤ 62) && localSignal (x % 2 ^ 19)

/-- The largest AGPL that may be claimed for a function (Table 16.1): 4 d, 5 e. -/
def agplMax (k : Nat) : Nat := if k = 2 ∨ k = 3 ∨ k = 5 then 4 else 5

/-- The expectations of an owner that the image may carry: the object IDs of their KIND fields, in ascending order (R109). -/
def expectations : List Nat :=
  ((List.range 12).flatMap fun n => (List.range 3).map fun s => 0x10000030 + 0x10000 * n + 0x10 * s) ++
  ((List.range 3).map fun s => 0x20010030 + 0x10 * s) ++
  ((List.range 7).flatMap fun i => (List.range 3).map fun s => 0x21010030 + 0x10000 * i + 0x10 * s)

/-- The ranges that the parameter tables give in words, of one value by itself: a DIRCH other than the channel, a TAGREF that names an expectation, an AGPL that Table 16.1 allows, local signals, signal identifiers, readable status objects (R97). -/
def wordRange (base k : Nat) (x : Nat) : Bool :=
  match base with
  | 0x13000015 => x != k
  | 0x13000040 => x == 0 || expectations.contains x
  | 0x31000001 => decide (x ≤ agplMax k)
  | 0x40000010 => localSignal x
  | 0x40000100 => x == 0 || signalId x
  | 0x50000001 => x == 0 || (statusSize x).isSome
  | _ => true

/-- The length, type and range of a record (R97). -/
def Cfg.recOk (c : Cfg) (mask : Nat) (r : RawRec) : Bool :=
  match objDef? r.id with
  | none => false
  | some o =>
    let n := r.val.length
    let k := n / o.ty.size
    let xs := r.elems
    n % o.ty.size == 0 && (if o.fixed then k == o.cnt else decide (1 ≤ k) && decide (k ≤ o.cnt)) &&
      ((List.range xs.length).all fun i => (o.fixed && o.cnt == 3 && c.ignored mask r.id i) ||
        (o.inRange (xs.getD i 0) && wordRange o.base (r.id / 0x10000 % 0x100) (xs.getD i 0).toNat)) &&
      (!o.ascending || ascendLater o.base || ascends xs)

/-- The KIND of an expectation. -/
def Cfg.expKind (c : Cfg) (e : Nat) : Nat := c.nat e 0

/-- The SOURCE bits of an expectation. -/
def Cfg.expSource (c : Cfg) (e : Nat) : Nat := c.nat (e + 4) 0

/-- Whether Table 4.8 allows a kind for an owner and slot. -/
def Cfg.kindAllowed (c : Cfg) (e : Nat) : Bool :=
  let k := c.expKind e
  let inst := e / 0x10000 % 0x100
  let slot := (e % 0x10000 - 0x30) / 0x10
  k == 0 ||
  match e / 0x1000000 with
  | 0x10 =>
    if slot = 0 then
      (match c.kind inst with
       | .steer => k == 1 | .feel => k == 2 | .pump => k == 3 | .valve => k == 4 | _ => false)
    else c.motor inst && decide (8 ≤ k) && decide (k ≤ 10)
  | 0x20 => k == 5 || k == 7
  | _ => k == 6 || k == 7

/-- An expectation that gives a lane of the mask an address another one gives it already: its ADDR object (R109). -/
def Cfg.addrClash (c : Cfg) (mask : Nat) : Option Nat :=
  let used (lane : Nat) : List (Nat × Int) := expectations.filterMap fun e =>
    if c.expKind e ≠ 0 ∧ c.ownerHw e lane then some (e + 3, (c.arr (e + 3) []).getD lane 0) else none
  let clash (lane : Nat) : List Nat :=
    let u := used lane
    (List.range u.length).filterMap fun i =>
      match u[i]? with
      | some x => if (u.take i).any fun y => y.2 == x.2 then some x.1 else none
      | none => none
  ((List.range 3).filter fun i => mask.testBit i).flatMap clash |>.head?

/-- Values whose range depends on other records (R97, R109, R430 and the parameter tables): the first object at fault. -/
def Cfg.relationBad (c : Cfg) (mask : Nat) : Option Nat :=
  let bad : List (Bool × Nat) :=
    (expectations.map fun e => (!c.kindAllowed e, e)) ++
    ((List.range 12).map fun n =>
      (c.motor n && (c.rec? (0x10000006 + 0x10000 * n)).isSome && (c.rec? (0x10000005 + 0x10000 * n)).isSome &&
        decide (c.axisIpeak n * c.axisIpeak n < 2 * (c.axisIcont n * c.axisIcont n)), 0x10000006 + 0x10000 * n)) ++
    ((List.range 12).map fun n =>
      (c.motor n && decide (4 < c.axisPwmPeriod n), 0x10000010 + 0x10000 * n)) ++
    ((List.range 16).flatMap fun i =>
      [(decide (c.feedbackAinMax i < c.feedbackAinMin i), 0x13000074 + 0x10000 * i)])
  match bad.find? (·.1) with
  | some x => some x.2
  | none => c.addrClash mask

/-- The curves that an image names. -/
def Cfg.namedCurves (c : Cfg) : List Nat :=
  ([c.steerRatioCurve, c.steerGuideKmaxCurve, c.steerGuideKrateCurve, c.brakePedalCurve, c.brakeTrailerCurve] ++
   ((List.range 12).map fun n => c.axisLoopPrsFfcurve n) ++ ((List.range 12).map fun n => c.axisFollowCurve n)).filter (· != 255)

/-- A SOURCE bit of an axis's slot 0 expectation supplies the value. -/
def Cfg.axisFromTag (c : Cfg) (n bit : Nat) : Bool :=
  c.axisTagKind n 0 != 0 && (c.expSource (0x10000030 + 0x10000 * n)).testBit bit

/-- A SOURCE bit of a channel's expectation supplies the value. -/
def Cfg.chanFromTag (c : Cfg) (i bit : Nat) : Bool :=
  c.feedbackTagref i != 0 && c.expKind (c.feedbackTagref i) != 0 && (c.expSource (c.feedbackTagref i)).testBit bit

/-- Whether the requirement of an object binds (R98). -/
def Cfg.binds (c : Cfg) (q : Req) (id : Nat) : Bool :=
  let i := id / 0x10000 % 0x100
  match q with
  | .no => false
  | .always => true
  | .motor =>
    c.motor i &&
    !(match id - 0x10000 * i with
      | 0x10000005 | 0x10000006 => c.axisFromTag i 5
      | 0x17000001 => c.axisFromTag i 0
      | 0x17000002 => c.axisFromTag i 1
      | 0x17000003 => c.axisFromTag i 2
      | 0x17000004 => c.axisFromTag i 3
      | 0x17000005 => c.axisFromTag i 4
      | _ => false)
  | .valve => c.kind i == .valve && !c.axisFromTag i 6
  | .steer => c.kind i == .steer
  | .quad => decide (i < 4) && (c.feedbackMode i == 1 || c.feedbackMode i == 2) && !c.chanFromTag i 7
  | .tone => decide (i < 4) && c.feedbackMode i == 3 && !c.chanFromTag i 8
  | .tagKind => c.expKind (id - 3) != 0
  | .legUsed => c.legFunction i != 0
  | .wheelCh => (List.range 3).any fun k => c.laneImageLanemask.testBit k && (c.sensorBrakeCh i).getD k 255 != 255
  | .curve => c.namedCurves.contains i
  | .sched =>
    (match (id % 0x10000 - 0x105) / 0x100 with
     | 0 => c.motor i && !c.axisLoopCurAuto i
     | 1 | 2 => c.kind i == .steer
     | 3 => c.kind i == .valve && c.axisLoopPrsCh i != 255
     | _ => c.kind i == .pump)
  | .partNode => c.nat (id - 3) 0 != 0
  | .isobus => c.canMode i == 1
  | .nodeId => c.laneImageNodeid != 0

/-- The object IDs of a row. -/
def ObjDef.ids (o : ObjDef) : List Nat :=
  (List.range o.n).flatMap fun k => (List.range o.reps).map fun j => o.base % 0x10000 + o.base / 0x1000000 * 0x1000000 + (o.i0 + k) * 0x10000 + o.stride * j

/-- The objects that some requirement may bind, in ascending order of their blocks. -/
def requirable : List (Req × Nat) :=
  [0x02, 0x10, 0x12, 0x13, 0x15, 0x16, 0x17, 0x18, 0x20, 0x21, 0x40, 0x41].flatMap fun b =>
    (objsOfBlock b).flatMap fun o => if o.req = .no then [] else o.ids.map fun i => (o.req, i)

/-- The objects whose lack a rule of their own gives CFG-009 and not the CFG-006 of R98 (DEDUCED: log 171): AXIS[n].LOOP.MECH.J and MECH.LOADMAX (R284), FABRIC.TOPO.ORDER (R474). -/
def lackedLater (id : Nat) : Bool :=
  (id / 0x1000000 == 0x15 && (id % 0x10000 == 0x50 || id % 0x10000 == 0x53)) || id == 0x40000002

/-- The required objects with no record, lowest object ID first (R98). -/
def Cfg.missing (c : Cfg) : Option Nat :=
  (requirable.filterMap fun x => if (c.rec? x.2).isNone && !lackedLater x.2 && c.binds x.1 x.2 then some x.2 else none).foldl
    (fun m i => match m with | some j => some (min i j) | none => some i) none

/-! ## Steps 1 to 8 -/

/-- An image that passed steps 1 to 8 on a lane. -/
structure Parsed where
  /-- Its header. -/
  head : Header
  /-- Its records. -/
  recs : List (Option Nat × RawRec)
deriving DecidableEq, Repr

/-- The mirror records and the lane mask (R94, Table 4.2): the object at fault. The reserved bits [7:3] of the mask are ignored (R6). -/
def mirrorBad (h : Header) (c : Cfg) (lane : LaneId) : Option Nat :=
  if c.laneImageRole ≠ h.role then some 0x02000010
  else if c.laneImageNodeid ≠ h.node then some 0x02000011
  else if c.laneImageLanemask % 8 ≠ h.mask % 8 then some 0x02000012
  else if (c.rec? 0x02000013).isSome ≠ h.flags.testBit 0 then some 0x02000013
  else if h.flags.testBit 0 ∧ c.nat 0x02000013 0 ≠ h.predecessor then some 0x02000013
  else if !h.mask.testBit lane.code ∨ countTrue ((List.range 3).map fun i => h.mask.testBit i) < 2 then some 0x02000012
  else none

/-- Steps 1 to 8 of Table 4.6 on the bytes of an area, with the identification the NOR flash answers. -/
def gatherImage (lane : LaneId) (flashId : Nat) (read : Nat → Nat → List Byte) : Except Reject Parsed :=
  let hb := read 0 64
  let h := headerOf hb
  if flashId % 2 ^ 24 = 0 ∨ flashId % 2 ^ 24 = 2 ^ 24 - 1 then .error ⟨1, flashId % 2 ^ 24⟩
  else if h.magic ≠ 0x47544852 then .error ⟨2, 1⟩
  else if crc32c (hb.take 60) ≠ h.check then .error ⟨2, 2⟩
  else if h.major ≠ 1 ∨ Config.formatMinor % 256 < h.minor then .error ⟨2, 3⟩
  else if h.length < 64 ∨ 1048576 < h.length then .error ⟨3, h.length⟩
  else
    let body := read 64 (h.length - 64)
    let s := crc32c body
    if s ≠ h.sealVal then .error ⟨4, s⟩
    else match parseRecs body.length 64 none none body with
    | .error off => .error ⟨5, off⟩
    | .ok rs =>
      let common := laneCfg rs 3
      let own := laneCfg rs lane.code
      match rs.find? fun r => !common.recOk h.mask r.2 with
      | some r => .error ⟨6, r.2.id⟩
      | none =>
        match own.relationBad h.mask with
        | some i => .error ⟨6, i⟩
        | none =>
          match own.missing with
          | some i => .error ⟨6, i⟩
          | none =>
            match rs.find? fun r => r.1.isSome && !(match objDef? r.2.id with | some o => o.sect | none => false) with
            | some r => .error ⟨7, r.2.id⟩
            | none =>
              match mirrorBad h own lane with
              | some i => .error ⟨8, i⟩
              | none => .ok { head := h, recs := rs }

end Sys2Proof.Machine
end

