-- ==== Sys2Proof/Machine/Loops.lean ====
section
/-! DEFINITION. The loop engine: chains, control laws, current limit, winding temperature, gain scheduling, saturation, ratios, engine time (chapter 9). -/

namespace Sys2Proof.Machine

/-! ## Scheduling (R249 to R252) -/

/-- The lane's own scheduling variables of an axis, codes 1 to 5 (Table 9.3). -/
def Lane.ownVars (l : Lane) (n : AxisId) : List Q :=
  let front : Q := if h : l.cfg.steerFront < 12 then roundDiv (l.measured ⟨l.cfg.steerFront, h⟩) 1000 else 0
  [l.speed, front, l.rackForce1 n, l.bus.v, (l.loop.get n).temp]

/-- The variables the loops of an axis are scheduled on in this tick: the own ones of a holder, else the holder's of the tick before (R252). DESIGN CHOICE: where the shadow section of tick n−1 did not arrive, the variables last used stay (log entry 145). -/
def Lane.schedVars (l : Lane) (n : AxisId) : List Q :=
  if l.commands n then l.ownVars n
  else match l.holderShadow n with
    | some h => if h.schedX.isEmpty then l.ownVars n else h.schedX
    | none => if (l.loop.get n).vars.isEmpty then l.ownVars n else (l.loop.get n).vars

/-- A variable by its code of Table 9.3. -/
def varOf (vars : List Q) (code : Nat) : Q := if code = 0 then 0 else vars.getD (code - 1) 0

/-- The interval of a clamped variable in its breakpoints, with its weight in 16 fraction bits (R251). -/
def weightOf : List Int → Nat → Int → Nat × Int
  | x0 :: x1 :: xs, i, x =>
    if x ≤ x0 then (i, 0)
    else if x < x1 ∨ xs = [] then (i, if x1 ≤ x then 65536 else roundDiv ((x - x0) * 65536) (x1 - x0))
    else weightOf (x1 :: xs) (i + 1) x
  | _, i, _ => (i, 0)

/-- A gain from its grid (R251). -/
def gridGain (nx : Nat) (k : List Int) (ix iy : Nat) (fx fy : Int) : Q :=
  let at_ (i j : Nat) : Int := k.getD (i + nx * j) (k.getLastD 0)
  let gx : Int := 65536 - fx
  let gy : Int := 65536 - fy
  let i1 := if fx = 0 then ix else ix + 1
  let j1 := if fy = 0 then iy else iy + 1
  sat48 (roundDiv (gx * gy * at_ ix iy + fx * gy * at_ i1 iy + gx * fy * at_ ix j1 + fx * fy * at_ i1 j1) (2 ^ 32))

/-- KP and KI of a loop of an axis in this tick: 0 CUR, 1 VEL, 2 POS, 3 PRS, 4 SPD (R249, R251). -/
def Lane.gains (l : Lane) (n : AxisId) (k : Nat) : Q × Q :=
  let c := l.cfg
  let i := n.val
  let vs := (l.loop.get n).vars
  let xb := c.axisSchedXbp i k
  let (ix, fx) := weightOf xb 0 (varOf vs (c.axisSchedXvar i k))
  let (iy, fy) := weightOf (c.axisSchedYbp i k) 0 (varOf vs (c.axisSchedYvar i k))
  let g (t : List Int) : Q := if t.isEmpty then 0 else gridGain xb.length t ix iy fx fy
  (g (c.axisSchedKp i k), g (c.axisSchedKi i k))

/-! ## One loop (R237, R238, R253, R254) -/

/-- What one evaluation of a loop gives. -/
structure LoopOut where
  /-- Integrator. -/
  i : Q
  /-- Output after its limit. -/
  out : Q
  /-- Saturation sign. -/
  sat : Int
deriving DecidableEq, Repr

/-- An evaluation: gains, error, feed-forward, integrator, ticks since the last evaluation, output limits, signs whose increments are dropped. -/
def evalLoop (kp ki e ff i : Q) (dt : Nat) (lo hi : Q) (drop : List Int) : LoopOut :=
  let inc := sat48 (roundDiv (ki * e * (dt : Int)) (65536 * 40000))
  let kept := if signI inc ≠ 0 ∧ drop.contains (signI inc) then 0 else inc
  let raw (x : Q) : Q := addQ (addQ (mulQ kp e) x) ff
  let i1 := clampI lo hi (addQ i kept)
  let sat (x : Q) : Int := if hi < raw x then 1 else if raw x < lo then -1 else 0
  let s := sat i1
  let i2 := if s ≠ 0 ∧ signI kept = s then clampI lo hi i else i1
  { i := i2, out := clampI lo hi (satQ (raw i2)), sat := s }

/-- A shadow integrator moved towards the holder's (R138). -/
def trackI (t : Q) (own holder : Q) : Q := addQ own (mulQ t (holder - own))

/-- The ticks since the last evaluation, at most the divisor (R238). -/
def ageOf (age D : Nat) : Nat := max 1 (min age D)

/-! ## Winding temperature and current limit (R246 to R248) -/

/-- The ambient temperature of a winding, Q16.16 °C, and whether its channel is stale (R247). -/
def Lane.ambient (l : Lane) (n : AxisId) : Q × Bool :=
  let c := l.cfg
  let ch := c.axisLoopThermTambCh n.val
  if 15 < ch then (c.axisLoopThermTamb n.val * 65536, false)
  else if (l.fbk.getD ch {}).isStale then (c.axisLoopThermTamb n.val * 65536, true)
  else (l.chQ ch, false)

/-- √2 × ICONT (R248). -/
def Cfg.icont2 (c : Cfg) (n : Nat) : Q := roundDiv (c.axisIcont n * 1414213562) 1000000000

/-- The own set limit of a winding temperature (R248). -/
def Cfg.setLimitOf (c : Cfg) (n : Nat) (T : Q) : Q :=
  let a := c.axisLoopThermTstart n * 65536
  let b := c.axisLoopThermTend n * 65536
  if T ≤ a then c.axisIpeak n else if b ≤ T then c.icont2 n else lerp a (c.axisIpeak n) b (c.icont2 n) T

/-- One tick of a winding's temperature model (R247, R248). -/
def Lane.thermalTick (l : Lane) (n : AxisId) : Lane :=
  let c := l.cfg
  let i := n.val
  let s := l.sup.get n
  let p := l.loop.get n
  let ic := maxI 1 (c.axisIcont i)
  let target := roundDiv ((c.axisLoopThermRise i : Int) * (s.id * s.id + s.iq * s.iq) * 2 ^ 48) (2 * ic * ic)
  let theta := p.theta + roundDiv (target - p.theta) (maxI 1 (c.axisLoopThermTau i) * 40000)
  let (amb, stale) := l.ambient n
  let T := amb + roundDiv theta (2 ^ 32)
  let tenth := roundDiv (T * 10) 65536
  let over1 := c.axisLoopThermTstart i * 65536 < T
  let over2 := c.axisLoopThermTmax i * 65536 < T
  let l := l.modLoop n fun q => { q with theta := theta, temp := T, setLimit := c.setLimitOf i T, thm1 := decide over1, thm2 := decide over2
                                         thm3 := q.thm3 || stale }
  let l := if over1 ∧ !p.thm1 then l.raise .thm001 (.axis i) tenth else l
  let l := if over2 ∧ !p.thm2 then l.raise .thm002 (.axis i) tenth else l
  if stale ∧ !p.thm3 then l.raise .thm003 (.axis i) (c.axisLoopThermTambCh i) else l

/-- The set limit that another lane carries of its winding, Q16.16 A. -/
def Lane.peerLimit (l : Lane) (x : LaneId) (n : AxisId) : Option Q :=
  match (l.px.get x).detailPrev with
  | some d => (d.motors.get n).map fun m => roundDiv ((m.limit : Int) * 65536) 100
  | none => none

/-- The thermal limit of the axis (R246): the own set limit, or twice the lower one after a FOLLOW. DESIGN CHOICE: where the follower's detailed state of tick n−1 did not arrive, twice the own one (log entry 145). -/
def Lane.thermalLimit (l : Lane) (n : AxisId) : Q :=
  let own := (l.loop.get n).setLimit
  if (l.ax n).gaveFollow then
    match (l.ax n).follower.bind fun x => l.peerLimit x n with
    | some y => 2 * minI own y
    | none => 2 * own
  else own

/-- The regeneration limit is in force on this lane (R363): no CHOPPER axis or one at STOP, an own PWR-017 not recovered, or another lane's. -/
def Lane.regenOn (l : Lane) : Bool :=
  let chop := allAxes.find? fun n => l.cfg.kind n.val == .chopper
  (match chop with | none => true | some n => l.axisLevel n == 0) ||
  (l.col.held.any fun h => h.r.ev == .pwr017 && !h.recovered) ||
  l.id.others.any fun x => (l.px.get x).chopFault

/-- ILIM of R246 without the regeneration limit, and its source. -/
def Lane.currentLimit (l : Lane) (n : AxisId) : Q × Nat :=
  let ip := l.cfg.axisIpeak n.val
  let ip := if l.endLearn n && (l.job.el.stage == 1 || l.job.el.stage == 2) then roundDiv (ip * (l.cfg.jobEndIpct : Int)) 100 else ip
  let hold := l.holdLimit n
  let th := l.thermalLimit n
  if th < ip ∧ th < hold then (th, 2) else if hold < ip then (hold, 1) else (ip, 0)

/-- The largest q-current beside a d-current within a vector limit. -/
def besides (lim id : Q) : Q := if absI lim ≤ absI id then 0 else (isqrtBig (lim * lim - id * id).toNat : Int)

/-- The range of the whole-axis q-current beside a d-current: the regeneration limit acts where q opposes ω (R246, R363). -/
def Lane.qRange (l : Lane) (n : AxisId) (id : Q) : Q × Q :=
  let (lim, _) := l.currentLimit n
  let q := besides lim id
  let rl := minI lim (roundDiv (l.cfg.axisIpeak n.val * (l.cfg.laneBusRegenpct : Int)) 100)
  let qr := if l.bus.regen then besides rl id else q
  let w := (l.comm.get n).w
  (if 0 < w then -qr else -q, if w < 0 then qr else q)

/-! ## What a job drives -/

/-- BRIDGE_TEST holds the axis in its alignment, or at no current (R533): its d-current. -/
def Lane.bridgeJob (l : Lane) (n : AxisId) : Option Q :=
  if l.job.run = some 5 ∧ l.job.axis = n.val then
    some (if (l.job.st.getD 5 {}).state = 1 ∧ l.job.bt.stage = 2 then l.cfg.jobBridgeIalign else 0)
  else none

/-- The coil current demand of VALVE_CHAR (R532): the own step of the lane that drives, the holder's on any other. -/
def Lane.valveJob (l : Lane) (n : AxisId) : Option Q :=
  if l.job.run = some 4 ∧ l.job.axis = n.val then
    let k : Option Nat :=
      if l.commands n then (if (l.job.st.getD 4 {}).state = 1 ∧ !l.job.vc.done then some l.job.vc.k else none)
      else (l.holderOf n).bind fun h => (l.px.get h).jobs.point
    match k with
    | some k => some (roundDiv ((k : Int) * (l.cfg.axisCoilImax n.val : Int) * 65536) (1000 * maxI 1 ((l.cfg.jobValvePoints : Int) - 1)))
    | none => some 0
  else none

/-! ## Outer and middle loops -/

/-- The position loop (R239, R275). -/
def Lane.positionLoop (l : Lane) (n : AxisId) : Lane :=
  let c := l.cfg
  let i := n.val
  let p := l.loop.get n
  let s := l.sup.get n
  let D := c.axisLoopPosDiv i
  if !l.evaluates i D then l
  else
    let (kp, ki) := l.gains n 2
    let v := c.axisLoopPosVlim i
    let e := roundDiv (roundDiv s.b 65536 - l.measured n) 1000
    let ff := mulQ (c.axisLoopPosKffV i) (roundDiv s.vff (65536 * 1000))
    let i0 := if s.preload then clampI (-v) v (p.velSet - mulQ kp e - ff) else p.iPos
    let up := p.upPosNext
    let r := evalLoop kp (if s.preload then 0 else ki) e ff i0 (ageOf p.agePos D) (-v) v [up, s.obSign]
    let ip := match if l.commands n then none else l.holderShadow n with
      | some h => trackI (c.axisShadowTrack i) r.i h.iPos
      | none => r.i
    (l.modLoop n fun p => { p with iPos := ip, velSet := r.out, satPos := r.sat, upPos := up, upPosNext := 0, agePos := 0 }).modSup n fun s =>
      { s with preload := false }

/-- The middle loop evaluated with its own range (R240, R243): error, feed-forward, code, divisor. -/
def Lane.middleLoop (l : Lane) (n : AxisId) (k D : Nat) (e ff : Q) (lo hi : Q) : Lane :=
  let c := l.cfg
  let p := l.loop.get n
  let s := l.sup.get n
  let (kp, ki) := l.gains n k
  let up := p.upMidNext
  let r := evalLoop kp ki e ff p.iMid (ageOf p.ageMid D) lo hi [up, s.obSign]
  let im := match if l.commands n then none else l.holderShadow n with
    | some h => trackI (c.axisShadowTrack n.val) r.i h.iMid
    | none => r.i
  l.modLoop n fun p =>
    { p with iMid := im, midOut := r.out, satMid := r.sat, upMid := up, upMidNext := 0, ageMid := 0, kp := kp, ki := ki
             upPosNext := if r.sat ≠ 0 then r.sat else if up ≠ 0 then up else p.upPosNext }

/-- The velocity loop of a STEER axis (R240). -/
def Lane.velocityLoop (l : Lane) (n : AxisId) (lo hi : Q) : Lane :=
  let c := l.cfg
  let i := n.val
  let p := l.loop.get n
  let l := l.modLoop n fun q => { q with midSet := p.velSet }
  if !l.evaluates i (c.axisLoopVelDiv i) then l
  else
    let v := sat48 (roundDiv (l.chSpeed (c.axisLoopVelCh i) * c.axisLoopVelScale i) 65536)
    let ff := mulQ (c.axisLoopVelKffA i) (roundDiv ((l.prof.get n).a) (65536 * 1000))
    l.middleLoop n 1 (c.axisLoopVelDiv i) (p.velSet - v) ff lo hi

/-- The speed loop of a PUMP axis in RUN, and the references of its start (R240, R307, R308). -/
def Lane.speedLoop (l : Lane) (n : AxisId) (lo hi : Q) : Lane :=
  let c := l.cfg
  let i := n.val
  let x := l.comm.get n
  if !x.pumpOn ∨ x.phase = 0 ∨ x.phase = 5 then l.modLoop n fun q => { q with iMid := 0, midOut := 0, midSet := 0, satMid := 0, upMidNext := 0 }
  else if x.phase = 1 then l.modLoop n fun q => { q with iMid := 0, midOut := 0, midSet := 0, satMid := 0 }
  else if x.phase = 2 ∨ x.phase = 3 then l.modLoop n fun q => { q with midOut := c.axisCommStartIramp i, midSet := x.wr, satMid := 0 }
  else
    let target := interp (c.axisCommPumpCx i) (c.axisCommPumpCy i) (l.pumpInput n)
    let slew := roundDiv ((c.axisCommPumpSlew i : Int) * 65536) 40000
    let set := x.pumpSet + clampI (-slew) slew (target - x.pumpSet)
    let l := l.modComm n fun y => { y with pumpSet := set }
    let l := l.modLoop n fun q => { q with midSet := set }
    if l.evaluates i (c.axisLoopSpdDiv i) then l.middleLoop n 4 (c.axisLoopSpdDiv i) (set - x.rpm) 0 lo hi else l

/-- The torque conversion of the FEEL axis (R240), evaluated every tick: saturated where its q output is limited (R246), with the SAT_UP of its current loop (R254). -/
def Lane.torqueLoop (l : Lane) (n : AxisId) (lo hi : Q) : Lane :=
  let c := l.cfg
  let t := if c.steerOverrideFeel = n.val then l.feelTorque else 0
  let k := 3 * (c.axisCommPolepairs n.val : Int) * c.axisCommPsi n.val
  let q := if k = 0 then 0 else sat48 (roundDiv (t * 2000 * 65536) k)
  l.modLoop n fun p =>
    { p with midSet := t, midOut := q, satMid := if hi < q then 1 else if q < lo then -1 else 0, upMid := p.upMidNext, upMidNext := 0 }

/-! ## Current loop of a motor axis -/

/-- The set references of R161: d and q of this lane's set, from the whole-axis references. -/
def Lane.setRefs (l : Lane) (n : AxisId) (idW iqW : Q) : Q × Q :=
  let a := l.ax n
  if l.commands n then (if a.gaveFollow then (roundDiv idW 2, roundDiv iqW 2) else (idW, iqW))
  else if a.role = .follower ∧ a.followLoaded then
    match l.holderOf n with
    | some h => (match l.entryPrev h n with | some e => if e.valid then (roundDiv e.sec 2, roundDiv e.prim 2) else (0, 0) | none => (0, 0))
    | none => (0, 0)
  else (0, 0)

/-- The voltage limit of the tick (R242). -/
def Lane.voltLimit (l : Lane) (n : AxisId) : Q := roundDiv (mulQ (l.cfg.axisLoopCurVlim n.val) l.bus.v * 577350269) 1000000000

/-- The gains of the current loop: KP_d, KI_d, KP_q, KI_q (R241). -/
def Lane.currentGains (l : Lane) (n : AxisId) : Q × Q × Q × Q :=
  let c := l.cfg
  let i := n.val
  let Ld := c.axisCommLd i
  let Lq := c.axisCommLq i
  if c.axisLoopCurAuto i then
    let bw : Int := c.axisLoopCurBw i
    let kp (x : Int) : Q := roundDiv (x * twoPi * bw) (e15 * 1000000)
    let ki := roundDiv (c.axisCommRes i * twoPi * bw) (e15 * 1000)
    (kp Ld, ki, kp Lq, ki)
  else
    let (kp, ki) := l.gains n 0
    (sat48 (roundDiv (kp * Ld) (maxI 1 Lq)), ki, kp, ki)

/-- The d current loop: its integrator takes the increment unless it has the saturation sign of the current loop, which is that of v_q (R253). -/
def evalD (kp ki e ff i lim : Q) (sat : Int) : LoopOut :=
  let inc := sat48 (roundDiv (ki * e) (65536 * 40000))
  let i1 := if signI inc ≠ 0 ∧ signI inc = sat then clampI (-lim) lim i else clampI (-lim) lim (addQ i inc)
  { i := i1, out := clampI (-lim) lim (satQ (addQ (addQ (mulQ kp e) i1) ff)), sat := sat }

/-- The d and q current loops on the set references (R241, R242, R253): v_d is limited first; the excess of v_q is the saturation of the loop, and both integrators drop increments of its sign. DEDUCED: v_q is judged beside the v_d that takes its increment. -/
def Lane.currentLoop (l : Lane) (n : AxisId) (dSet qSet : Q) : Lane :=
  let c := l.cfg
  let i := n.val
  let s := l.sup.get n
  let p := l.loop.get n
  let x := l.comm.get n
  let (kpd, kid, kpq, kiq) := l.currentGains n
  let lim := l.voltLimit n
  let wl (y : Int) : Q := if c.axisLoopCurDecouple i then sat48 (roundDiv (x.w * y) (1000000 * 2 ^ 32)) else 0
  let dLoop (sat : Int) : LoopOut := evalD kpd kid (dSet - s.id) (-(wl (c.axisCommLq i * s.iq))) p.iD lim sat
  let qLoop (d : LoopOut) : LoopOut :=
    let ql := besides lim d.out
    evalLoop kpq kiq (qSet - s.iq) (wl (c.axisCommLd i * s.id + c.axisCommPsi i * 65536 * 1000)) p.iQ 1 (-ql) ql []
  let sat := (qLoop (dLoop 0)).sat
  let d := dLoop sat
  let q : LoopOut := { qLoop d with sat := sat }
  (l.modLoop n fun p => { p with iD := d.i, iQ := q.i, vd := d.out, vq := q.out, satIn := q.sat, ageIn := 0
                                 upMidNext := if q.sat ≠ 0 then q.sat else p.upMidNext }).modComm n fun y =>
    { y with dSet := dSet, qSet := qSet }

/-- The current loop of HALLPASS: on the current of the leg whose low side is fully on (R313). -/
def Lane.hallpassLoop (l : Lane) (n : AxisId) (qSet : Q) : Lane :=
  let x := l.comm.get n
  let p := l.loop.get n
  let i := match hallPattern x.hall with
    | some (_, low, _) => absI (if low = 0 then x.iu else if low = 1 then x.iv else x.iw)
    | none => 0
  let (_, _, kp, ki) := l.currentGains n
  let q := evalLoop kp ki (qSet - i) 0 p.iQ 1 0 (maxI 0 l.bus.v) []
  (l.modLoop n fun p => { p with iQ := q.i, vq := q.out, vd := 0, satIn := q.sat, upMidNext := if q.sat ≠ 0 then q.sat else p.upMidNext }).modComm n
    fun y => { y with dSet := 0, qSet := qSet }

/-! ## Ratios (R294, R322, R313) -/

/-- A ratio of 2^20 limited to 0 to 1. -/
def ratioClamp (x : Int) : Nat := (clampI 0 (2 ^ 20) x).toNat

/-- The α-β voltages of a motor axis at the output angle (R294). -/
def Lane.alphaBeta (l : Lane) (n : AxisId) : Q × Q :=
  let x := l.comm.get n
  let p := l.loop.get n
  let lead := roundDiv (x.w * 75 * e15) (2 * 1000000 * twoPi)
  let th : Int := x.angle + lead + roundDiv (x.advance) 360
  let co := cosTurn th
  let si := sinTurn th
  (mulTrig p.vd co - mulTrig p.vq si, mulTrig p.vd si + mulTrig p.vq co)

/-- The leg ratios of α-β voltages on a bus voltage (R294). -/
def ratiosOf (ab : Q × Q) (v : Q) : List Nat :=
  let h := roundDiv (ab.2 * 866025404) 1000000000
  let vs := [ab.1, -(roundDiv ab.1 2) + h, -(roundDiv ab.1 2) - h]
  let hi := maxOf (vs.headD 0) vs
  let lo := vs.foldl minI (vs.headD 0)
  if v ≤ 0 then [2 ^ 19, 2 ^ 19, 2 ^ 19]
  else vs.map fun y => ratioClamp (2 ^ 19 + roundDiv ((2 * y - hi - lo) * 2 ^ 19) v)

/-- The ratios of a valve's or the chopper's duty (R322). -/
def Lane.dutyRatios (l : Lane) (n : AxisId) (d : Q) : List Nat :=
  match l.cfg.legsOf l.id n.val with
  | [_, _] => [ratioClamp (8 * (65536 + d)), ratioClamp (8 * (65536 - d))]
  | _ => [ratioClamp (16 * d)]

/-! ## The axes -/

/-- The forced state of a motor axis's set computed in this tick (R303, R307, R364): 0 none, 1 all off, 2 all low sides on. -/
def Lane.forcedFor (l : Lane) (n : AxisId) : Nat :=
  let x := l.comm.get n
  if (l.pwm.get n).vov1 then 2
  else match x.recatch with
    | some (_, sh) => if sh then 2 else 1
    | none => if l.cfg.kind n.val = .pump ∧ (!x.pumpOn ∨ x.phase = 0 ∨ x.phase = 5) then 1 else 0

/-- The d and q references, current loop and ratios of a motor axis, from its computed middle output (R161, R246, R277, R294, R305). DESIGN CHOICE: the regeneration limit narrows the range of i_q alone, and i_d keeps to the current limit (log 145). -/
def Lane.driveStage (l : Lane) (n : AxisId) : Lane :=
  let c := l.cfg
  let i := n.val
  let hp := c.hallpass i
  let x := l.comm.get n
  let (adv, idc) := if hp then (0, 0) else l.phaseAdvance n
  let (lim, _) := l.currentLimit n
  let idW := if c.kind i = .pump ∧ x.phase = 1 then c.axisCommStartIalign i
    else if c.kind i = .pump ∧ (!x.pumpOn ∨ x.phase = 2 ∨ x.phase = 3 ∨ x.phase = 5) then 0 else idc
  let idW := clampI (-lim) lim idW
  let (lo, hi) := l.qRange n idW
  let job := l.bridgeJob n
  let idW := match job with | some d => clampI (-lim) lim d | none => idW
  let computed := if job.isSome then 0 else satQ (clampI lo hi (l.loop.get n).midOut)
  let l := l.outputBlend n computed
  -- the blended reference keeps to the whole-axis limit as well (R160)
  let iqW := clampI lo hi (l.sup.get n).driven
  let (dS, qS) := l.setRefs n idW iqW
  let forced := l.forcedFor n
  let l := l.modComm n fun y => { y with advance := adv, idRef := idW }
  -- a forced set carries no reference, and its current loop is evaluated all the same (R232, R303)
  let (dS, qS) := if forced ≠ 0 then (0, 0) else (dS, qS)
  let l := if hp then l.hallpassLoop n qS else l.currentLoop n dS qS
  let ab := l.alphaBeta n
  let ratios :=
    if forced ≠ 0 then []
    else if hp then [ratioClamp (if l.bus.v ≤ 0 then 0 else roundDiv ((l.loop.get n).vq * 2 ^ 20) l.bus.v)]
    else ratiosOf ab l.bus.v
  let l := l.modLoop n fun p => { p with vab := if forced ≠ 0 || hp then (0, 0) else ab }
  let l := l.modPwm n fun w => { w with ratios := ratios, forcedCalc := forced }
  { l with out := l.out.modify n fun o => { o with prim := iqW, sec := satQ idW } }

/-- The chain of a motor axis in one tick (R232, R235). -/
def Lane.motorChain (l : Lane) (n : AxisId) : Lane :=
  let c := l.cfg
  let i := n.val
  let (lim, src) := l.currentLimit n
  let rl := roundDiv (c.axisIpeak i * (c.laneBusRegenpct : Int)) 100
  let idW := if c.hallpass i then 0 else clampI (-lim) lim (l.phaseAdvance n).2
  let (lo, hi) := l.qRange n idW
  let l := match c.kind i with
    | .steer => (l.positionLoop n).velocityLoop n lo hi
    | .feel => l.torqueLoop n lo hi
    | _ => l.speedLoop n lo hi
  let against := signI (l.loop.get n).midOut * signI (l.comm.get n).w < 0
  let l := l.modLoop n fun p =>
    if l.bus.regen ∧ against ∧ rl < lim then { p with ilim := rl, ilimSrc := 3 } else { p with ilim := lim, ilimSrc := src }
  l.driveStage n

/-- The pressure demand or coil current demand of a valve (R243, R389). -/
def Lane.valveDemand (l : Lane) (n : AxisId) : Lane :=
  let c := l.cfg
  let i := n.val
  let imax := roundDiv ((c.axisCoilImax i : Int) * 65536) 1000
  let pref := l.prefOf i
  -- a VALVE_CHAR record replaces the points of the curve that PRS.FFCURVE names (R535); without one FF is 0
  let ff := if c.axisLoopPrsFfcurve i = 255 then 0 else match l.gat.valveCurve.get n with
    | some t => interp t.1 t.2 pref
    | none => (c.curve (c.axisLoopPrsFfcurve i) pref).getD 0
  let l := l.modLoop n fun p => { p with midSet := pref }
  match l.valveJob n with
  | some d => l.modLoop n fun p => { p with midOut := d, satMid := 0 }
  | none =>
  if 15 < c.axisLoopPrsCh i then
    let x := if i = c.brakePark then (if l.chas.park then roundDiv ((c.brakeParkIrel : Int) * 65536) 1000 else 0) else ff
    l.modLoop n fun p => { p with midOut := clampI 0 imax x, satMid := 0 }
  else if l.evaluates i (c.axisLoopPrsDiv i) then l.middleLoop n 3 (c.axisLoopPrsDiv i) (pref - l.pressure i) ff 0 imax
  else l

/-- The ripple of a valve in this tick (R245). -/
def Lane.ripple (l : Lane) (n : AxisId) : Q :=
  let c := l.cfg
  let a := roundDiv ((c.axisLoopRippleAmp n.val : Int) * 65536) 1000
  if (l.loop.get n).rippleTick / max 1 (c.axisLoopRippleHalf n.val) % 2 = 0 then a else -a

/-- The PWM period of an axis in ticks. -/
def Cfg.period (c : Cfg) (n : Nat) : Nat := max 1 (c.axisPwmPeriod n)

/-- The coil samples of a valve at this boundary: the valley sample, and the peak sample (R321). -/
def Lane.coilSamples (l : Lane) (e : ElecIn) (n : AxisId) : Lane :=
  match l.cfg.startLeg l.id n.val with
  | none => l
  | some leg =>
    let P := l.cfg.period n.val
    let pos := (((l.bus.phase : Int) - 1 - l.cfg.axisLoopPhase n.val) % (P : Int)).toNat
    let cur := e.cur.getD leg 0
    l.modLoop n fun p =>
      let p := if pos = 0 then { p with valley := cur } else if 2 * pos = P then { p with peak := cur } else p
      let p := if P = 1 then { p with peak := e.peak.getD leg 0 } else p
      { p with coilMean := roundDiv (p.valley + p.peak) 2 }

/-- The valve current loop (R244), with its duty. -/
def Lane.valveLoop (l : Lane) (n : AxisId) : Lane :=
  let c := l.cfg
  let i := n.val
  let P := c.period i
  let p := l.loop.get n
  let imax := roundDiv ((c.axisCoilImax i : Int) * 65536) 1000
  let l := l.outputBlend n (satQ p.midOut)
  let o := (l.sup.get n).driven
  let l := { l with out := l.out.modify n fun x => { x with prim := o, sec := 0 } }
  if !l.evaluates i P then l
  else
    let set := if l.commands n then clampI 0 imax (o + l.ripple n) else 0
    let R : Int := c.axisCoilRes i
    let kp := roundDiv ((c.axisCoilInd i : Int) * 65536 * twoPi * (c.axisLoopValveBw i : Int)) (e15 * 10000)
    let ki := roundDiv (R * 65536 * twoPi * (c.axisLoopValveBw i : Int)) (e15 * 1000)
    let v := maxI 0 l.bus.v
    let lo : Q := if (c.legsOf l.id i).length = 2 then -v else 0
    let r := evalLoop kp ki (set - p.coilMean) (roundDiv (R * set) 1000) p.iQ (ageOf p.ageIn P) lo v []
    let d := if v = 0 then 0 else roundDiv (r.out * 65536) v
    let l := l.modLoop n fun q => { q with iQ := r.i, vq := r.out, satIn := r.sat, ageIn := 0
                                           upMidNext := if r.sat ≠ 0 then r.sat else q.upMidNext }
    l.modPwm n fun w => { w with ratios := l.dutyRatios n d }

/-- The chopper's duty from this lane's own bus voltage (R361). -/
def Lane.chopperDuty (l : Lane) (n : AxisId) : Lane :=
  let c := l.cfg
  let v := l.bus.v
  let on := if l.bus.chopOn then !(decide (v < c.laneBusVchopOn - c.laneBusHyst)) else decide (c.laneBusVchopOn < v)
  let span := maxI 1 (c.laneBusVchopFull - c.laneBusVchopOn)
  let d := if on then clampI 0 65536 (roundDiv ((v - c.laneBusVchopOn) * 65536) span) else 0
  let l := { l with bus := { l.bus with chopOn := on } }
  let l := l.outputBlend n d
  let o := (l.sup.get n).driven
  let l := l.modPwm n fun w => { w with ratios := l.dutyRatios n o }
  { l with out := l.out.modify n fun x => { x with prim := o, sec := 0 } }

/-- The chain of one axis in a tick (R235): loops from the outermost inwards, commutation, ratios. -/
def Lane.axisStage (l : Lane) (n : AxisId) : Lane :=
  if !l.serves n then
    (l.modPwm n fun w => { w with ratios := [], forcedCalc := 0 }).modComm n fun y => { y with dSet := 0, qSet := 0 }
  else
    let l := l.modLoop n fun p => { p with vars := l.schedVars n }
    let l := if (l.bridgeJob n).isSome then l.modComm n fun y => { y with angle := 0, w := 0 } else l
    match l.cfg.kind n.val with
    | .steer | .feel | .pump => l.motorChain n
    | .valve => (l.valveDemand n).valveLoop n
    | .chopper => l.chopperDuty n
    | .none => l

/-- One axis of step 2. While an output blend runs, the increments dropped are those with the sign of computed(n) − o(n) of this very tick: computed(n) is what the chain gives with none dropped (R278; DEDUCED: log 169). -/
def Lane.axisChain (l : Lane) (n : AxisId) : Lane :=
  let s := l.sup.get n
  let l := l.modSup n fun s => { s with obSign := 0 }
  if l.commands n && (s.obDue || s.ob.isSome) then
    let sign := ((l.axisStage n).sup.get n).obSign
    (l.modSup n fun s => { s with obSign := sign }).axisStage n
  else l.axisStage n

/-- What the engine gives for the own checks and the published flags of an axis (R121, R136, R267, R303). -/
def Lane.outFlags (l : Lane) (n : AxisId) : Lane :=
  let s := l.sup.get n
  let re := match (l.comm.get n).recatch with | some (k, _) => decide (1 ≤ k) | none => false
  { l with out := l.out.modify n fun o =>
      { o with recatch := re, blend := s.blend, mirage := s.mirage && l.lastRule n, checksFail := s.mirage || !l.serves n } }

/-- The ages and the voltages of every axis moved on by one boundary; a forced set has no loop voltage in force. -/
def Lane.loopBoundary (l : Lane) : Lane :=
  { l with loop := l.loop.mapFin fun n p =>
      let off := (l.pwm.get n).forcedCalc != 0
      { p with agePos := satInc 64 p.agePos, ageMid := satInc 64 p.ageMid, ageIn := satInc 64 p.ageIn
               rippleTick := p.rippleTick + 1
               vq2 := p.vq1, vd2 := p.vd1, vq1 := if off then 0 else p.vq, vd1 := if off then 0 else p.vd, vab2 := p.vab1, vab1 := p.vab } }

/-! ## Engine time (R256, R257) -/

/-- A loop has a grid larger than 1 × 1. -/
def Cfg.wideGrid (c : Cfg) (n k : Nat) : Bool := 1 < (c.axisSchedXbp n k).length || 1 < (c.axisSchedYbp n k).length

/-- The clocks an axis costs in a tick of a loop phase (Table 9.5). -/
def Cfg.axisCost (c : Cfg) (phase n : Nat) : Nat :=
  let ev (D : Nat) : Bool := ((phase : Int) - c.axisLoopPhase n) % (max 1 D : Nat) == 0
  let loop (k D cost : Nat) : Nat := if ev D then cost + (if c.wideGrid n k then 60 else 0) else 0
  let cur : Nat := 300 + 220 + (if !c.axisLoopCurAuto n && c.wideGrid n 0 then 60 else 0)
  20 + match c.kind n with
  | .none => 0
  | .steer => cur + 110 + loop 2 (c.axisLoopPosDiv n) 70 + loop 1 (c.axisLoopVelDiv n) 80
  | .feel => cur + 40
  | .pump => cur + loop 4 (c.axisLoopSpdDiv n) 120
  | .valve => 30 + (if c.axisLoopPrsCh n < 16 then loop 3 (c.axisLoopPrsDiv n) 80 else 0) + (if ev (c.period n) then 90 else 0)
  | .chopper => 40

/-- The engine time of the axes named, in clocks (R256). -/
def Cfg.engineCost (c : Cfg) (phase : Nat) (axes : List AxisId) : Nat :=
  (axes.map fun n => c.axisCost phase n.val).foldl (· + ·) 200

/-- Engine time of this tick (R256, Table 9.9). -/
def Lane.engineTick (l : Lane) : Lane :=
  let t := l.cfg.engineCost l.bus.phase (allAxes.filter l.serves)
  { l with bus := { l.bus with engine := t, engineMax := max t l.bus.engineMax } }

/-- LOOP.SAT of an axis (Table 9.9). -/
def LoopPart.satWord (p : LoopPart) : Nat :=
  let s (x : Int) : Nat := if 0 < x then 1 else if x < 0 then 2 else 0
  s p.satIn + 4 * s p.satMid + 16 * s p.satPos + 64 * s p.upMid + 256 * s p.upPos

end Sys2Proof.Machine
end

