-- ==== Sys2Proof/Machine/GatherCheck.lean ====
section
/-! DEFINITION. The cross-object checks of a gather image, step 10 of Table 4.6, and the computed reaction times (R15, R16, R28, R41, R151 to R159 and the rules that name CFG-009). -/

namespace Sys2Proof.Machine

/-- A check: whether it fails, and the object ID of its context value. -/
abbrev Check := Bool × Nat

/-- An object ID with an instance byte. -/
def inst (base i : Nat) : Nat := base + 0x10000 * i

/-- The entries of AXIS[n].LEGS on the lanes of the mask that name hardware. -/
def Cfg.legLanes (c : Cfg) (n : Nat) : Nat :=
  countTrue ((List.range 3).map fun i => c.laneImageLanemask.testBit i && (c.axisLegs n).getD i 255 != 255)

/-- The axes of a lane that the checks on motor data bind: those its image serves and its tags left available. -/
def Cfg.motorsOn (c : Cfg) (lane : LaneId) (absent : Nat → Bool) : List Nat :=
  (List.range 12).filter fun n => c.motor n && (c.startLeg lane n).isSome && !absent n

/-- R16, R157, R159: axes. -/
def Cfg.axisChecks (c : Cfg) : List Check :=
  let motors := (List.range 12).filter fun n => c.motor n
  let choppers := (List.range 12).filter fun n => c.kind n == .chopper
  [(decide (5 < motors.length), inst 0x10000001 (motors.getD 5 0))] ++
  [(decide (1 < choppers.length), inst 0x10000001 (choppers.getD 1 0))] ++
  ((List.range 12).map fun n => (c.hasAxis n && decide (c.legLanes n < 2), inst 0x10000002 n)) ++
  ((List.range 12).map fun n => (!c.motor n && c.axisShare n == 1, inst 0x10000004 n))

/-- A leg starts a complete triad. -/
def Cfg.triadAt (c : Cfg) (x : Nat) : Bool :=
  decide (x < 15) && x % 3 == 0 && c.legFunction x == 1 && c.legFunction (x + 1) == 1 && c.legFunction (x + 2) == 1

/-- R28, R151, R152: legs of a lane. -/
def Cfg.legChecks (c : Cfg) (lane : LaneId) : List Check :=
  ((List.range 5).flatMap fun k =>
    let x := 3 * k
    [1, 2].map fun d => (c.triadAt x && c.legGateHssupply (x + d) != c.legGateHssupply x, inst 0x12000010 (x + d))) ++
  ((List.range 16).flatMap fun i =>
    let f := c.legFunction i
    let place := match f with
      | 1 => !c.triadAt (i / 3 * 3)
      | 2 => c.legFunction (i / 2 * 2) != 2 || c.legFunction (i / 2 * 2 + 1) != 2
      | 5 => i != 15
      | _ => false
    let served := ((List.range 12).filter fun n => (c.legsOf lane n).contains i).length
    [(place, inst 0x11000001 i), (f != 0 && served != 1, inst 0x11000001 i)]) ++
  ((List.range 12).map fun n =>
    (match c.startLeg lane n, c.kind n with
     | none, _ => false
     | some _, .none => false
     | some x, .valve => (match c.legFunction x with | 2 => x % 2 != 0 | 3 | 4 => false | _ => true)
     | some x, .chopper => x != 15 || c.legFunction 15 != 5
     | some x, _ => !c.triadAt x, inst 0x10000002 n))

/-- R41 and R474's check of TICK.SYNC.ORDER: entries before the first FREE. -/
def Cfg.orderChecks (c : Cfg) : List Check :=
  let o := (c.tickSyncOrder.map Int.toNat).takeWhile (· != 0)
  let rep := (List.range o.length).any fun i => (o.take i).contains (o.getD i 0)
  [(rep || (o.contains 1 && c.tickSyncPinDir == 1), 0x01000010),
   (c.laneImageNodeid == 0 && o.contains 2, 0x01000010)]

/-- R192, R195: feedback channels. -/
def Cfg.feedbackChecks (c : Cfg) : List Check :=
  ([6, 7].map fun i =>
    (
      decide ((c.feedbackSsiPeriod i * 25 - 2) * c.feedbackSsiClk i < (c.feedbackSsiBits i + 1) * 1000 + c.feedbackSsiTmono i * c.feedbackSsiClk i),
     inst 0x13000064 i)) ++
  ((List.range 16).map fun i =>
    let p := c.feedbackPass i
    (p != 0 && (!(decide (i < 4) && (c.feedbackMode i == 1 || c.feedbackMode i == 2 || c.feedbackMode i == 3)) ||
      (List.range i).any fun j => c.feedbackPass j == p), inst 0x13000030 i))

/-- R228: STEPIN.AXIS and STEPIN.SIZE over the lanes of the mask. -/
def Cfg.stepChecks (c : Cfg) (others : List (LaneId × Cfg)) : List Check :=
  [(others.any (fun d => d.2.stepinAxis != c.stepinAxis) || (c.stepinAxis != 255 && c.kind c.stepinAxis != .steer), 0x42000001),
   (others.any (fun d => d.2.stepinSize != c.stepinSize), 0x42000002)]

/-- R229, R234, R249, R250, R258, R284: profiles, loops, grids, over every axis index of the image. -/
def Cfg.loopChecks (c : Cfg) : List Check :=
  (List.range 12).flatMap fun n =>
      let d := c.axisProfileDhard n
      let grids : List Nat := match c.kind n with
        | .steer => [1, 2]
        | .pump => [4]
        | .valve => if c.axisLoopPrsCh n ≠ 255 then [3] else []
        | _ => []
      let grids := if c.motor n && !c.axisLoopCurAuto n then 0 :: grids else grids
      let usable (v : Nat) : Bool := v == 0 || v == 1 || v == 2 || v == 4 || (v == 3 && c.kind n == .steer) || (v == 5 && c.motor n)
      let one (v : Nat) (bp : List Int) : Bool := v == 0 && bp.length != 1
      [(decide (d < c.axisProfileDmax n) || decide (d < c.axisProfileAmax n) || decide (d < c.axisProfileDstop n), inst 0x14000005 n),
       (c.axisLoopPosDiv n % max 1 (c.axisLoopVelDiv n) != 0, inst 0x15000002 n),
       (c.kind n == .valve && c.axisLoopRippleAmp n != 0 && c.axisLoopRippleHalf n % max 1 (c.axisPwmPeriod n) != 0, inst 0x15000034 n)] ++
      (grids.flatMap fun k =>
        let nx := (c.axisSchedXbp n k).length
        let ny := (c.axisSchedYbp n k).length
        let f := inst 0x16000000 n + 0x100 * k
        let ki := c.rec? (f + 0x106)
        [(!usable (c.axisSchedXvar n k), f + 0x101), (!usable (c.axisSchedYvar n k), f + 0x102),
         (!ascends (c.axisSchedXbp n k) || one (c.axisSchedXvar n k) (c.axisSchedXbp n k), f + 0x103),
         (!ascends (c.axisSchedYbp n k) || one (c.axisSchedYvar n k) (c.axisSchedYbp n k), f + 0x104),
         ((c.axisSchedKp n k).length != nx * ny, f + 0x105),
         ((match ki with | some v => v.length != nx * ny | none => false), f + 0x106)]) ++
        [(!(decide (c.axisLoopThermTstart n < c.axisLoopThermTend n) && decide (c.axisLoopThermTend n ≤ c.axisLoopThermTmax n)), inst 0x15000044 n),
         (c.motor n && (c.rec? (inst 0x15000050 n)).isNone, inst 0x15000050 n),
         (c.motor n && (c.rec? (inst 0x15000053 n)).isNone, inst 0x15000053 n),
         (decide (c.axisLoopMirThi n ≤ c.axisLoopMirTlo n), inst 0x1500005D n)]

/-- The mode of an axis's angle channel matches Table 11.2. -/
def Cfg.angleModeOk (c : Cfg) (n : Nat) : Bool :=
  let ch := c.axisCommAngleCh n
  let m := c.feedbackMode ch
  match c.axisCommSource n with
  | 0 => decide (ch < 4) && m == 2
  | 1 => decide (4 ≤ ch) && decide (ch < 6) && m != 0
  | 2 => decide (6 ≤ ch) && decide (ch < 8) && m != 0
  | 3 => decide (ch < 4) && m == 4
  | _ => true

/-- Under RESOLVER, p is a whole multiple of RES.POLERATIO. -/
def Cfg.poleRatioOk (c : Cfg) (n : Nat) : Bool :=
  c.axisCommSource n != 1 || c.axisCommPolepairs n % max 1 (c.feedbackResPoleratio (c.axisCommAngleCh n)) == 0

/-- Under ENCODER, COMM.INIT.CH names a channel in HALL mode. -/
def Cfg.initChOk (c : Cfg) (n : Nat) : Bool :=
  c.axisCommSource n != 0 || (decide (c.axisCommInitCh n < 4) && c.feedbackMode (c.axisCommInitCh n) == 4)

/-- The pole pairs or the pole ratio of an axis's angle channel come from a tag, of which another lane's copy is not known here. -/
def Cfg.ratioFromTag (c : Cfg) (n : Nat) : Bool := c.axisFromTag n 0 || c.chanFromTag (c.axisCommAngleCh n) 9

/-- R290, R295, R306: commutation, the channels on every lane of the mask that serves the axis. -/
def Cfg.commChecks (c : Cfg) (on : List Nat) (others : List (LaneId × Cfg)) : List Check :=
  (List.range 12).flatMap fun n =>
    let src := c.axisCommSource n
    let here := on.contains n
    let far := others.filter fun d => d.2.motor n && (d.2.startLeg d.1 n).isSome
    let fe := c.axisCommPaFe n
    [((here && !c.angleModeOk n) || far.any fun d => !d.2.angleModeOk n, inst 0x17000011 n),
     ((here && !c.poleRatioOk n) || far.any fun d => !d.2.ratioFromTag n && !d.2.poleRatioOk n, inst 0x17000001 n),
     (src == 2 && c.axisCommCpt n == 0, inst 0x17000013 n),
     ((here && !c.initChOk n) || far.any fun d => !d.2.initChOk n, inst 0x17000012 n),
     (src == 4 && c.kind n != .pump, inst 0x17000010 n),
     (c.axisCommHallpass n && c.kind n != .pump, inst 0x17000060 n),
     (decide (c.axisCommStartWhand n ≤ c.axisCommObsWmin n), inst 0x17000055 n),
     (decide (c.axisCommCarryWmin n ≤ c.axisCommObsWmin n), inst 0x17000037 n),
     ((c.axisCommPaAngle n).length != fe.length || (c.axisCommPaId n).length != fe.length || fe.getD 0 0 != 0 || !ascends fe, inst 0x17000020 n),
     (decide (c.axisCommPumpOn n ≤ c.axisCommPumpOff n), inst 0x17000044 n)]

/-- The gain of a shunt amplifier. -/
def gainOf : Nat → Int | 0 => 5 | 1 => 10 | 2 => 20 | _ => 40

/-- R349, R354, R367, R368: gates and bus. -/
def Cfg.gateChecks (c : Cfg) (lane : LaneId) (noTag : Nat → Bool) : List Check :=
  ((List.range 16).flatMap fun i =>
    let f := c.legFunction i
    let axis := (c.axisOfLeg lane i).map (·.val)
    let ocp := c.legGateOcp i
    let hf := c.legGateHardFactor i
    let boot := (f == 1 || f == 2 || f == 3) && decide (c.legGateHssupply i < 2)
    let period := match axis with | some n => c.axisPwmPeriod n | none => 1
    let limits : List Check := match axis with
      | none => []
      | some n =>
        -- a value whose tag was not accepted is not used (R98)
        let has (bit : Nat) : Bool := !(noTag n && c.axisFromTag n bit)
        if c.motor n then
          [(has 5 && decide (ocp < c.axisIpeak n), inst 0x12000022 i),
           (has 2 && has 4 && decide (hf * ocp * c.axisCommLd n ≤ 1000 * c.axisCommPsi n * 65536 * 65536), inst 0x12000023 i)]
        else if c.kind n = .valve then [(has 6 && decide (ocp * 1000 < (c.axisCoilImax n : Int) * 65536), inst 0x12000022 i)] else []
    [(boot && (decide (c.legGateTref i < 2 * c.legPwmDtl i + 200) || decide (period * 2500 < c.legGateTref i)), inst 0x12000012 i),
     (boot && decide (681574 < c.legGateBootUv i), inst 0x12000011 i),
     (f != 0 && decide (2 * 65536 * 65536 * 1000000 < hf * ocp * (c.legGateShunt i : Int) * gainOf (c.legGateGain i)), inst 0x12000023 i),
     (decide (c.legGateStepR i < c.legGateStepmin i) || decide (c.legGateStepmax i < c.legGateStepR i), inst 0x12000002 i),
     (decide (c.legGateStepF i < c.legGateStepmin i) || decide (c.legGateStepmax i < c.legGateStepF i), inst 0x12000003 i)] ++ limits) ++
  [(decide (c.laneBusVchopOn ≤ c.laneBusHyst), 0x02000200),
   (decide (c.laneBusVchopFull ≤ c.laneBusVchopOn), 0x02000201),
   (decide (c.laneBusVov1 < c.laneBusVchopFull), 0x02000203),
   (decide (c.laneBusVov2 ≤ c.laneBusVov1) || decide (70 * 65536 < c.laneBusVov2), 0x02000204)]

/-- The channel mode a sensor instance requires (Table 14.1). -/
def Cfg.sensorModeOk (c : Cfg) (i ch : Nat) : Bool :=
  if 4 ≤ i then decide (ch < 4) && c.feedbackMode ch == 3
  else if i = 0 then decide (6 ≤ ch) && c.feedbackMode ch != 0
  else decide (8 ≤ ch) && c.feedbackMode ch != 0

/-- The object ID of a sensor instance's CH. -/
def sensorChId (i : Nat) : Nat := if i = 0 then 0x20010001 else inst 0x21000001 i

/-- R393: steering and braking. -/
def Cfg.chassisChecks (c : Cfg) (lanes : List (LaneId × Cfg)) : List Check :=
  let valves := [(c.brakeValveLeft, 0x21000001), (c.brakeValveRight, 0x21000002), (c.brakeValveTrailer, 0x21000003), (c.brakePark, 0x21000004)]
  let bad (k : Nat) : Bool :=
    let x := c.curveX k
    decide (x.length < 2) || !ascends x || (c.curveY k).length != x.length
  ((List.range 8).map fun i =>
    (lanes.any fun d => match d.2.sensorCh d.1 i with | some ch => !d.2.sensorModeOk i ch | none => false, sensorChId i)) ++
  (c.namedCurves.map fun k => (bad k, inst 0x18000001 k)) ++
  [(c.steerRatioCurve != 255 && (c.curveY c.steerRatioCurve).any fun y => decide (y ≤ 0), inst 0x18000002 c.steerRatioCurve)] ++
  (valves.map fun (v : Nat × Nat) => (v.1 != 255 && c.kind v.1 != .valve, v.2)) ++
  [(c.brakePark != 255 && c.axisLoopPrsCh c.brakePark != 255, 0x21000004)] ++
  ((valves.take 3).map fun (v : Nat × Nat) => (v.1 != 255 && c.axisLoopPrsCh v.1 == 255 && c.axisLoopPrsFfcurve v.1 == 255, v.2)) ++
  [(decide (c.brakeSlipMax ≤ c.brakeSlipHyst), 0x21000031)] ++
  ((List.range 12).flatMap fun n =>
    let lead := c.axisFollowLead n
    [(decide (c.axisFollowVzero n ≤ c.axisFollowVcut n), inst 0x10000092 n),
     (decide (lead < 12) && c.axisFollowLead lead != 255, inst 0x10000090 n)])

/-- The axes that follow another axis or the fabric lead. -/
def Cfg.followers (c : Cfg) : List Nat := (List.range 12).filter fun n => c.kind n == .steer && c.axisFollowLead n != 255

/-- The input instances of a safety function (Table 16.1). -/
def safetyInputs : Nat → List Nat
  | 1 => [0, 4, 5, 6, 7] | 2 => [4, 5, 6, 7] | 3 => [0] | 4 => [1, 2, 4, 5, 6, 7] | 5 => [1, 2] | 6 => [3, 4, 5, 6, 7]
  | _ => [0, 1, 2, 3, 4, 5, 6, 7]

/-- The output axes of a safety function (Table 16.1). -/
def Cfg.safetyOutputs (c : Cfg) (k : Nat) : List Nat :=
  let a (n : Nat) : List Nat := if n < 12 then [n] else []
  let steers := (List.range 12).filter fun n => c.kind n == .steer
  match k with
  | 1 => a c.steerFront ++ c.followers
  | 2 => steers
  | 3 => steers.filter fun n => c.axisModeOverride n
  | 4 => a c.brakeValveLeft ++ a c.brakeValveRight ++ a c.brakePump
  | 5 => a c.brakeValveTrailer
  | 6 => a c.brakePark
  | _ => (List.range 12).filter fun n => c.hasAxis n

/-- The number of lanes of the mask that an entry list names (R97). -/
def Cfg.lanesNamed (c : Cfg) (xs : List Int) : Nat :=
  countTrue ((List.range 3).map fun i => c.laneImageLanemask.testBit i && xs.getD i 255 != 255)

/-- R438: what an AGPL requires of the wiring. -/
def Cfg.safetyChecks (c : Cfg) : List Check :=
  (List.range 7).map fun j =>
    let k := j + 1
    let g := c.safetyAgpl k
    let need := if g = 5 then 3 else 2
    let inputs := (safetyInputs k).all fun i => decide (need ≤ c.lanesNamed (if i = 0 then c.sensorSteerCh else c.sensorBrakeCh i))
    let outputs := (c.safetyOutputs k).all fun n => decide (need ≤ c.lanesNamed (c.axisLegs n))
    (decide (2 ≤ g) && (!(inputs && outputs) || (g == 5 && !(c.leaseRotateMode == 1 || c.leaseRotateMode == 2))), inst 0x31000001 k)

/-- The input delay t_in of an element on a channel, ticks (R434). -/
def Cfg.inputDelay (c : Cfg) (ch : Nat) : Nat :=
  if 8 ≤ ch then 1 + c.feedbackAinFilter ch else if 6 ≤ ch then c.feedbackSsiPeriod ch + 1 else 1

/-- The input delays of a function's elements on a lane. -/
def Cfg.inputDelays (c : Cfg) (lane : LaneId) (is_ : List Nat) : List Nat :=
  is_.filterMap fun i => (c.sensorCh lane i).map fun ch => c.inputDelay ch

/-- The reaction time of a safety function on a lane: the largest Path of its rows in Table 16.2 (R435, R439). -/
def Cfg.reaction (c : Cfg) (lane : LaneId) (k : Nat) : Nat :=
  let outs := (c.safetyOutputs k).filter fun n => (c.startLeg lane n).isSome
  let beyond (is_ : List Nat) (path : Nat → Nat → Nat) : Nat :=
    ((c.inputDelays lane is_).flatMap fun t => outs.map fun n => path t n).foldl max 0
  if outs.isEmpty then 0
  else match k with
    | 1 => beyond [0] fun t n =>
        let lead := c.axisFollowLead n
        t + (c.axisLoopPosDiv n - 1) + 1 + c.axisPwmPeriod n + (if lead < 12 ∧ n < lead then 1 else 0)
    | 2 => c.steerGuideTimeout + 1
    | 3 => beyond [0] fun t _ => t + c.steerOverrideTime
    | 4 | 5 => beyond [1, 2] fun t n => if c.kind n = .valve then t + (c.axisLoopPrsDiv n - 1) + 1 + c.axisPwmPeriod n else 0
    | 6 => beyond [3] fun t n => t + (c.axisPwmPeriod n - 1) + 1 + c.axisPwmPeriod n
    | _ =>
      let valves := outs.filter fun n => n == c.brakeValveLeft || n == c.brakeValveRight || n == c.brakeValveTrailer
      (valves.map fun n => c.axisLoopPrsDiv n).foldl max (c.leaseLen + c.leaseGuard + 1)

/-- R439: the reaction times against SAFETY[k].TMAX. -/
def Cfg.reactionChecks (c : Cfg) (lane : LaneId) : List Check :=
  (List.range 7).map fun j =>
    let t := c.safetyTmax (j + 1)
    (t != 0 && decide (t < c.reaction lane (j + 1)), inst 0x31000002 (j + 1))

/-- The number of links between two positions of the order, the shorter way round a ring. -/
def Cfg.linksApart (c : Cfg) (i j : Nat) : Nat :=
  let d := if i < j then j - i else i - j
  if c.fabricTopoKind = 1 then min d (c.fabricTopoOrder.length - d) else d

/-- R474, R491, R493: fabric, signals, commits. -/
def Cfg.fabricChecks (c : Cfg) : List Check :=
  let o := c.fabricTopoOrder.map Int.toNat
  let me := c.laneImageNodeid
  let bad := o.any (fun x => decide (x < 1) || decide (62 < x)) || ((List.range o.length).any fun i => (o.take i).contains (o.getD i 0)) || !o.contains me
  let sealN := c.fabricTopoSeal.length
  let pos (x : Nat) : Nat := o.findIdx (· == x)
  let sub (j loc : Nat) : Bool := decide (16 ≤ j) || c.fabricSubSig j == 0 || c.fabricSubSig j % 2 ^ 19 != loc
  let nodes := (List.range 2).flatMap fun k => ((List.range 16).map fun i => c.fabricCommitPartNode (k + 1) i).filter (· != 0)
  let distinct := nodes.foldl (fun (acc : List Nat) x => if acc.contains x then acc else acc ++ [x]) []
  [(me != 0 && bad, 0x40000002),
   (me != 0 && c.fabricTopoKind == 1 && decide (o.length < 3), 0x40000001),
   (me != 0 && decide (1 < sealN) && sealN != o.length, 0x40000003)] ++
  ((List.range 2).flatMap fun k => (List.range 16).map fun i =>
    let x := c.fabricCommitPartNode (k + 1) i
    let far := if c.fabricCommitMode (k + 1) = 0 then 3 else 8
    (x != 0 && (x == me || !o.contains x || decide (far < c.linksApart (pos me) (pos x))), inst 0x40000100 (k + 1) + 0x10 * i)) ++
  [(decide (7 < distinct.length), 0x40010100)] ++
  ((List.range 16).map fun j => (c.fabricSubSig j != 0 && c.fabricSubSig j / 2 ^ 19 == me, 0x40000100 + 0x10 * j)) ++
  [(c.fabricLeadSub != 255 && sub c.fabricLeadSub 1, 0x40000011),
   (c.fabricCarDemandSub != 255 && sub c.fabricCarDemandSub 3, 0x40000013)]

/-- The value of an object, or its default. -/
def Cfg.valueOf (c : Cfg) (id : Nat) : Option (List Int) := match c.rec? id with | some v => some v | none => objDefault id

/-- R497: CAN over the lanes of the mask. -/
def Cfg.canChecks (c : Cfg) (others : List (LaneId × Cfg)) : List Check :=
  let ids := (objsOfBlock 0x41).flatMap fun o => if o.base = 0x41000004 ∨ o.base = 0x41000005 then [] else o.ids
  [(c.canMode 0 == 1 && c.canMode 1 == 1, 0x41010001)] ++
  (ids.map fun i => (others.any fun d => d.2.valueOf i != c.valueOf i, i)) ++
  [(c.laneLowpower == 1 && c.canMode 0 == 0, 0x41000001)]

/-- A sum of fractions of ticks. -/
def addFrac (x : Nat × Nat) (n d : Nat) : Nat × Nat :=
  let a := x.1 * d + n * x.2
  let b := x.2 * d
  let g := max 1 (Nat.gcd a b)
  (a / g, b / g)

/-- The recorded bytes of a tick over the first slots, as a fraction (R546). -/
def Cfg.recordRate (c : Cfg) (upto : Nat) : Nat × Nat :=
  let used := (List.range upto).filter fun s => c.recordSource s != 0
  let lanes := ((List.range 3).filter fun l => used.any fun s => c.recordLane s == l).length
  used.foldl (fun x s => addFrac x ((statusSize (c.recordSource s)).getD 0) (max 1 (c.recordDiv s))) (8 * lanes, 1)

/-- R546: the recorder's rate. -/
def Cfg.recordChecks (c : Cfg) : List Check :=
  let beyond (k : Nat) : Bool := let r := c.recordRate k; decide (100 * r.2 < r.1)
  if beyond 256 then
    match (List.range 256).find? fun k => beyond (k + 1) with
    | some s => [(true, inst 0x50000001 s)]
    | none => [(true, 0x50000001)]
  else []

/-- Step 10 of Table 4.6: the object at fault of the first check that fails, in the order of the rules. -/
def Cfg.crossBad (c : Cfg) (lane : LaneId) (others : List (LaneId × Cfg)) (absent noTag : Nat → Bool) : Option Nat :=
  ((c.axisChecks ++ c.legChecks lane ++ c.orderChecks ++ c.feedbackChecks ++ c.stepChecks others ++ c.loopChecks ++
    c.commChecks (c.motorsOn lane absent) others ++ c.gateChecks lane noTag ++ c.chassisChecks ((lane, c) :: others) ++ c.safetyChecks ++ c.reactionChecks lane ++
    c.fabricChecks ++ c.canChecks others ++ c.recordChecks).find? (·.1)).map (·.2)

/-- The worst-case load of the lane cores, and the cycles of the engine's dearest phase (R51, R257). -/
def Cfg.loads (c : Cfg) (axes : List AxisId) : Config.CoreLoad × Nat :=
  (Config.coreLoad c (axes.map (·.val)), ((List.range 32).map fun p => c.engineCost p axes).foldl max 0)

/-- Step 11 of Table 4.6: the load that rejects, with the axes that add load (R51, R257). -/
def Cfg.loadBad (c : Cfg) (axes : List AxisId) : Option Nat :=
  let (w, e) := c.loads axes
  if (if c.tickBudget = 1 then 95 else 75) < w.load ∨ !w.tickFits ∨ !w.boundaryFits then some w.load
  else if 4400 < e then some (0x100 + (roundDiv ((e : Int) * 100) 4400).toNat)
  else none

end Sys2Proof.Machine
end

