-- ==== Sys2Proof/Machine/Gate.lean ====
section
/-! DEFINITION. PWM legs and gate drive: time bases, duties, reloads, event lines, interlocks, supplies, trips, identification, holds, chopper and bus overvoltage (chapters 12 and 13). -/

namespace Sys2Proof.Machine

/-- A leg by its number. -/
def legOf (i : Nat) : Option LegId := if h : i < 16 then some ⟨i, h⟩ else none

/-- Every leg of an axis on this lane changed. -/
def Lane.modLegs (l : Lane) (n : AxisId) (f : Nat → Leg → Leg) : Lane :=
  (l.cfg.legsOf l.id n.val).foldl (fun l i => match legOf i with | some k => l.modLeg k (f i) | none => l) l

/-- The time base of an axis runs (R317). -/
def Lane.baseRuns (l : Lane) (n : AxisId) : Bool :=
  l.serves n && !l.start.halted && (l.start.state == .operate || (l.pwm.get n).job)

/-- A valley of an axis falls on the boundary of this tick (R318). -/
def Lane.valleyNow (l : Lane) (n : AxisId) : Bool :=
  let k : Int := if l.cfg.kind n.val = .valve then 1 else 0
  ((l.bus.phase : Int) - l.cfg.axisLoopPhase n.val - k) % (l.cfg.period n.val : Int) == 0

/-- The duty of a ratio in the form of the leg's DUTYMODE (R322). -/
def Cfg.dutyForm (c : Cfg) (leg P ratio : Nat) : Nat :=
  if c.legPwmDutymode leg = 1 then ratio * P * 160000 / 2 ^ 20 else ratio

/-! ## Writes (R329, R330) -/

/-- Duties and a forced state written to the shadow registers of an axis. -/
def Lane.writeShadow (l : Lane) (n : AxisId) (ratios : List Nat) (forced : Nat) : Lane :=
  let P := l.cfg.period n.val
  let ls := l.cfg.legsOf l.id n.val
  let l := l.modPwm n fun w => { w with forcedNext := forced, hallShadow := if ratios.isEmpty then w.hallShadow else ratios.headD 0 }
  if ratios.isEmpty then l
  else l.modLegs n fun i x => { x with shadow := l.cfg.dutyForm i P (ratios.getD (ls.idxOf i) (ratios.headD 0)) }

/-- PWR-041 under the rule of R331: at the first count after gather, then at most once in 40,000 ticks. -/
def Lane.noteLate (l : Lane) (leg : Nat) : Lane :=
  let due : Bool := match l.bus.lateAt with | some t => decide (t + 40000 ≤ l.tick.count) | none => true
  if due then { l.raise .pwr041 (.leg leg) (match legOf leg with | some k => ((l.leg.get k).late : Int) | none => 0) with
                bus := { l.bus with lateAt := some l.tick.count, lateNew := 0 } }
  else { l with bus := { l.bus with lateNew := satInc 65535 l.bus.lateNew } }

/-- PWR-042 under the same rule. -/
def Lane.noteClip (l : Lane) (leg : Nat) : Lane :=
  let due : Bool := match l.bus.clipAt with | some t => decide (t + 40000 ≤ l.tick.count) | none => true
  if due then { l.raise .pwr042 (.leg leg) (match legOf leg with | some k => ((l.leg.get k).mismatch : Int) | none => 0) with
                bus := { l.bus with clipAt := some l.tick.count, clipNew := 0 } }
  else { l with bus := { l.bus with clipNew := satInc 65535 l.bus.clipNew } }

/-- The output of the lane's innermost loop is loaded, by the decisions of step 4: the set or coil is the holder's, a follower's, whose loop runs for as long as its counter is non-zero, that of a lane which becomes follower at the boundary, or a job's in UNSEALED (R161, R232). -/
def Lane.setCarries (l : Lane) (n : AxisId) : Bool :=
  l.commands n || (l.ax n).role == .follower || (l.ax n).followLoaded

/-- Step 6 for one axis: the duties of the tick are written, in time or after the fence (R329); a tick without a ratio writes none (R255), and the output of a set that carries no current is not loaded (R232). -/
def Lane.dutyWrite (l : Lane) (late : Bool) (n : AxisId) : Lane :=
  let w := l.pwm.get n
  let w := { w with ratios := if l.setCarries n then w.ratios else [] }
  let l := match w.late with
    | some (r, f) => (l.writeShadow n r f).modPwm n fun w => { w with late := none }
    | none => l
  let none_ := l.col.datapath.isSome || !l.baseRuns n
  let l := l.modComm n fun y =>
    { y with limp := l.cfg.hallpass n.val && l.setCarries n && (none_ || ((l.pwm.get n).ratios.isEmpty && (l.pwm.get n).forcedCalc == 0)) }
  if none_ || (w.ratios.isEmpty && w.forcedCalc == 0 && w.forcedNext == 0) then l
  else if late then
    let l := l.modPwm n fun w => { w with late := some (w.ratios, w.forcedCalc) }
    if w.ratios.isEmpty then l
    else (l.cfg.legsOf l.id n.val).foldl (fun l i =>
      match legOf i with
      | some k => (l.modLeg k fun x => { x with late := satInc 65535 x.late }).noteLate i
      | none => l) l
  else l.writeShadow n w.ratios w.forcedCalc

/-! ## Boundary (R317, R318, R348) -/

/-- A nominal position of a tick of `len` clocks, in 1/16 clock after its boundary: `num / den` nominal units (R319). -/
def place16 (len : Nat) (num den : Int) : Int := roundDiv (num * (len : Int) * 16) (den * 10000)

/-- Four bits in reverse order (Table 12.2). -/
def bitRev4 (k : Nat) : Nat := 8 * (k % 2) + 4 * (k / 2 % 2) + 2 * (k / 4 % 2) + k / 8 % 2

/-- The clock at which an edge falls under dither (R327). -/
def ditherEdge (k e16 : Nat) : Nat := e16 / 16 + (if bitRev4 k < e16 % 16 then 1 else 0)

/-- The spans of a tick of `len` clocks in which a ratio of 2^20 has the driven output on, in the tick at a place in its period (R323, R324). -/
def ratioSpans (P pos dither len ratio : Nat) : List (Nat × Nat) :=
  let d : Int := 2 ^ 20
  let edge (num : Int) : Nat :=
    let rel := num * P * 5000 - (pos : Int) * 10000 * d
    if rel ≤ 0 then 0 else if 10000 * d ≤ rel then len else min len (ditherEdge dither (place16 len rel d).toNat)
  let a := edge (d - ratio)
  let b := edge (d + ratio)
  if a < b then [(a, b)] else []

/-- The clock of the tick at which its peak falls (R319). -/
def peakAt (P pos len : Nat) : Option Nat :=
  if P = 1 then some (len / 2) else if 2 * pos = P then some 0 else none

/-- The spans of a tick in which an ABSOLUTE leg has the driven output on: what is left of its last pulse, and the pulse of the peak (R325, R327). -/
def absSpans (P pos dither len pulse on16 : Nat) : List (Nat × Nat) :=
  let rest := min len (ditherEdge dither pulse)
  match peakAt P pos len with
  | none => if rest = 0 then [] else [(0, rest)]
  | some pk =>
    let stop := min len (pk + ditherEdge dither on16)
    let next := if on16 = 0 ∨ stop ≤ pk then [] else [(pk, stop)]
    if rest = 0 then next else if pk ≤ rest then [(0, max rest stop)] else (0, rest) :: next

/-- The clocks of the tick that no span of an ascending list covers. -/
def gaps (len : Nat) : Nat → List (Nat × Nat) → List (Nat × Nat)
  | a, [] => if a < len then [(a, len)] else []
  | a, (b, c) :: r => (if a < b then [(a, b)] else []) ++ gaps len c r

/-- Both gates of a leg have a use under its function (Table 6.1). -/
def Cfg.bridgeLeg (c : Cfg) (i : Nat) : Bool := c.legFunction i == 1 || c.legFunction i == 2 || c.legFunction i == 3

/-- The commanded spans of the high-side and the low-side output of a leg in a tick of `len` clocks, before dead time (Table 6.1, R322, R326, R328, R340, R355, R358). -/
def Lane.commanded (l : Lane) (n : AxisId) (i len : Nat) (x : Leg) : List (Nat × Nat) × List (Nat × Nat) :=
  let c := l.cfg
  let w := l.pwm.get n
  let all := [((0 : Nat), len)]
  let held := if w.holdAt < len then [(w.holdAt, len)] else []
  let P := c.period n.val
  let on := if c.legPwmDutymode i = 1 then absSpans P w.pos w.dither len x.pulse x.duty else ratioSpans P w.pos w.dither len x.duty
  if x.interlock = 2 then ([], [])
  else if w.hold = 1 then ([], held)
  else if w.hold = 2 then (held, [])
  else if w.tripOff || !w.started || x.interlock != 0 || w.forced = 1 then ([], [])
  else if w.forced = 2 then ([], all)
  else if x.off then ([], [])
  else if c.bridgeLeg i then (on, gaps len 0 on)
  else ([], on)

/-- The clocks a list of spans covers. -/
def spanSum (s : List (Nat × Nat)) : Nat := (s.map fun x => x.2 - x.1).foldl (· + ·) 0

/-- How long an output has been on at the end of a tick. -/
def onFor (len old : Nat) (s : List (Nat × Nat)) : Nat :=
  match s.getLast? with
  | some (a, b) => if b < len then 0 else min 65535 (if a = 0 then old + len else len - a)
  | none => 0

/-- An output on at a clock of the tick, its rising edge delayed by the dead time (R328). -/
def delayedOn (dead held t : Nat) (s : List (Nat × Nat)) : Bool :=
  s.any fun x => decide (x.1 + (if x.1 = 0 then dead - held else dead) ≤ t) && decide (t < x.2)

/-- The clocks of a tick of `len` clocks at which an output changes: its spans after dead time, and how long it had been commanded on at the boundary. -/
def outEdges (dead held len : Nat) (s : List (Nat × Nat)) : List Nat :=
  (if dead < held && !(s.any fun x => x.1 == 0) then [0] else []) ++
  s.flatMap fun x =>
    let rise := x.1 + (if x.1 = 0 then dead - held else dead)
    if x.2 ≤ rise then []
    else (if x.1 = 0 ∧ held ≠ 0 ∧ dead ≤ held then [] else [rise]) ++ (if x.2 < len then [x.2] else [])

/-- The dead times of a leg's high-side and low-side outputs (R328). -/
def Cfg.deadTimes (c : Cfg) (i : Nat) : Nat × Nat := if c.bridgeLeg i then (c.legPwmDth i, c.legPwmDtl i) else (0, 0)

/-- The commanded edges of a leg's two outputs in a tick, as its driver gets them (R343, R351). -/
def Lane.legEdges (l : Lane) (n : AxisId) (i len : Nat) (x : Leg) : List Nat :=
  let (hi, lo) := l.commanded n i len x
  let (dh, dl) := l.cfg.deadTimes i
  outEdges dh x.hiFor len hi ++ outEdges dl x.loFor len lo

/-- The clocks since the last commanded edge of a leg at a clock of the tick. -/
def Lane.sinceEdge (l : Lane) (n : AxisId) (i len t : Nat) (x : Leg) : Nat :=
  match (l.legEdges n i len x).filter (· ≤ t) with
  | [] => min 65535 (x.edgeAge + t)
  | e :: es => t - es.foldl max e

/-- The levels of a leg's two outputs at a clock of the present tick: commands after dead time, whatever the gate enable. -/
def Lane.legLevels (l : Lane) (n : AxisId) (i : LegId) (t : Nat) : Bool × Bool :=
  let x := l.leg.get i
  let (hi, lo) := l.commanded n i.val l.tickLen x
  let (dh, dl) := l.cfg.deadTimes i.val
  (l.cfg.bridgeLeg i.val && delayedOn dh x.hiFor t hi, l.cfg.legFunction i.val != 0 && delayedOn dl x.loFor t lo)

/-- A leg at the end of a tick of `len` clocks: its low-side time, how long its outputs have been on, its last edge, and its ABSOLUTE pulse (R325, R328, R348, R351). -/
def Lane.legTick (l : Lane) (n : AxisId) (i len : Nat) (x : Leg) : Leg :=
  let w := l.pwm.get n
  let P := l.cfg.period n.val
  let (hi, lo) := l.commanded n i len x
  let abs := l.cfg.legPwmDutymode i == 1 && w.started && !x.off
  let left := x.pulse - 16 * len
  let pulse := match peakAt P w.pos len with | some pk => max left (x.duty - 16 * (len - pk)) | none => left
  let clip := if P = 1 then decide (16 * (len / 2) < x.pulse) else decide (2 * (w.pos + 1) = P) && decide (0 < pulse)
  { x with low := if w.started then x.low + spanSum lo else x.low, hiFor := onFor len x.hiFor hi, loFor := onFor len x.loFor lo
           pulse := if abs then pulse else 0, clip := x.clip || (abs && clip), edgeAge := l.sinceEdge n i len len x }

/-! ## Event lines (R332) -/

/-- The axis or leg of a line's source, where the line is on. -/
def Cfg.lineOn (c : Cfg) (k : Nat) : Bool := let s := bitsN (c.lanePwmEvSource k) 15 12; 1 ≤ s && s ≤ 4

/-- The legs whose shunts an extra conversion takes (Table 12.3). -/
def Lane.lineLegs (l : Lane) (k : Nat) : List Nat :=
  let s := l.cfg.lanePwmEvSource k
  let i := bitsN s 7 0
  if bitsN s 15 12 ≤ 2 then l.cfg.legsOf l.id i else if i < 16 then [i] else []

/-- The repeated count of the channel that drives a PASS output (R332). -/
def Lane.passCount (l : Lane) (k : Nat) : Int :=
  match (List.range 4).find? (fun c => l.cfg.feedbackPass c == k + 1 && l.cfg.feedbackMode c != 0) with
  | some c => (l.fbk.getD c {}).pos
  | none => 0

/-- The occurrences of an event line's source in a tick of `len` clocks (R332): the valley and the peak of a time base that runs, the commanded rising and falling edges of a leg's driven output, after dither and before dead time. -/
def Lane.lineEvents (l : Lane) (k len : Nat) : Nat :=
  let s := l.cfg.lanePwmEvSource k
  let i := bitsN s 7 0
  match bitsN s 15 12, (if h : i < 12 then some (⟨i, h⟩ : AxisId) else none), (legOf i).bind fun j => (l.cfg.axisOfLeg l.id i).map fun n => (j, n) with
  | 1, some n, _ => let w := l.pwm.get n; b2n (l.baseRuns n && w.started && w.pos == 0)
  | 2, some n, _ => let w := l.pwm.get n; b2n (l.baseRuns n && w.started && (peakAt (l.cfg.period n.val) w.pos len).isSome)
  | 3, _, some (j, n) =>
    let x := l.leg.get j
    let (hi, lo) := l.commanded n i len x
    let (on, was) := if l.cfg.bridgeLeg i then (hi, x.hiFor) else (lo, x.loFor)
    if l.baseRuns n then (on.filter fun s => s.1 != 0 || was == 0).length else 0
  | 4, _, some (j, n) =>
    let x := l.leg.get j
    let (hi, lo) := l.commanded n i len x
    let (on, was) := if l.cfg.bridgeLeg i then (hi, x.hiFor) else (lo, x.loFor)
    if l.baseRuns n then b2n (was != 0 && !(on.any fun s => s.1 == 0)) + (on.filter fun s => s.2 < len).length else 0
  | _, _, _ => 0

/-- One occurrence of an event line's source, with the conversions a firing would take (R332). -/
def Lane.lineOccurs (l : Lane) (k : Fin 8) (samples : List Q) : Lane :=
  let c := l.cfg
  if !c.lineOn k.val then l
  else
    let e := l.evLine.get k
    let e := { e with now := e.now + 1 }
    if e.occ + 1 < c.lanePwmEvPrescale k.val then { l with evLine := l.evLine.set k { e with occ := e.occ + 1 } }
    else
      let d := c.lanePwmEvDest k.val
      let e := { e with occ := 0, count := if bitN d 1 then (e.count + 1) % 2 ^ 32 else e.count, irq := e.irq || bitN d 2
                        cap0 := if bitN d 3 then l.passCount 0 else e.cap0, cap1 := if bitN d 3 then l.passCount 1 else e.cap1 }
      let ls := l.lineLegs k.val
      let l := { l with evLine := l.evLine.set k e }
      if bitN d 0 then
        ls.foldl (fun l i => match legOf i with
          | some j => l.modLeg j fun x => { x with evSample := samples.getD (ls.idxOf i) x.evSample }
          | none => l) l
      else l

/-- EVENT_LINE_FIRE: an occurrence of the line's source in the present tick, which has as many as its valleys, peaks and edges make (R332). -/
def Lane.lineFires (l : Lane) (k : Fin 8) (samples : List Q) : Lane :=
  if (l.evLine.get k).now < l.lineEvents k.val l.tickLen then l.lineOccurs k samples else l

/-- At the end of a tick of `len` clocks the occurrences that no row brought are taken, with conversions that are free values (R332; log 168). -/
def Lane.lineClose (l : Lane) (len : Nat) : Lane :=
  (List.finRange 8).foldl (fun (l : Lane) k =>
    let due := if l.cfg.lineOn k.val then l.lineEvents k.val len - (l.evLine.get k).now else 0
    let l := (List.range due).foldl (fun (l : Lane) j => l.lineOccurs k ((l.lineLegs k.val).map fun i => Config.lineSample l.tick.count (32 * i + j))) l
    { l with evLine := l.evLine.modify k fun e => { e with now := 0 } }) l

/-! ## The time bases at a boundary -/

/-- A time base stopped (R317). -/
def PwmPart.stop (w : PwmPart) : PwmPart :=
  { w with running := false, vov1 := false, started := false, dither := 0, pos := 0, lenNow := 0, forced := 0, forcedNext := 0, ratios := [], late := none }

/-- A leg commanded off while its time base is stopped (R317). -/
def Leg.stop (x : Leg) : Leg := { x with off := true, duty := 0, shadow := 0, refreshing := false, low := 0, pulse := 0, clip := false }

/-- Some part of the chopper's on-interval in a tick of `len` clocks lasts at least 80 clocks (R362). -/
def Lane.chopParts (l : Lane) (len : Nat) : Bool :=
  match allAxes.find? fun n => l.cfg.kind n.val == .chopper with
  | some n => l.baseRuns n && ((l.commanded n 15 len (l.leg.getD 15 {})).2.any fun s => decide (s.1 + 80 ≤ s.2))
  | none => false

/-- The time bases at a boundary that ends a tick of `len` clocks: they stop with their axis, and count the period (R317, R318, R355). -/
def Lane.pwmBoundary (l : Lane) (len : Nat) : Lane :=
  let l := l.lineClose len
  let l := { l with bus := { l.bus with chopConv := l.chopParts len } }
  allAxes.foldl (fun l n =>
    if !l.cfg.hasAxis n.val then l
    else
      let a := l.ax n
      let l := l.modPwm n fun w =>
        let off := w.tripOff && (w.identDue || a.absent || a.leaving || a.role == .holder || a.role == .follower)
        { w with applied := false, tripTick := satInc 65535 w.tripTick, tripOff := off, trip := if off then w.trip else none, holdAt := 0 }
      let l := l.modLegs n fun i x => l.legTick n i len x
      if !l.baseRuns n then
        (l.modPwm n PwmPart.stop).modLegs n fun _ x => x.stop
      else
        l.modPwm n fun w => { w with running := true, pos := if w.started then w.pos + 1 else 0, lenNow := if w.started then w.lenNow + len else 0 }) l

/-! ## Reload and valley -/

/-- A leg whose high side is fed from a bootstrap, and whose function uses it (R346, R348). -/
def Cfg.refreshes (c : Cfg) (i : Nat) : Bool := c.bridgeLeg i && c.legGateHssupply i != 2

/-- The refresh count of a leg at a valley, and whether the period that begins is a refresh period: none where its switches stay off from this valley (R348, R350). -/
def Lane.refreshAt (l : Lane) (n : AxisId) (i : Nat) (x : Leg) : Leg :=
  let c := l.cfg
  let w := l.pwm.get n
  if !c.refreshes i then { x with low := 0, refreshing := false }
  else
    let cnt := if !w.started then x.refresh else if x.low < c.legGateTref i then satInc 255 x.refresh else 0
    let off := w.forcedNext == 1 || w.tripOff || w.hold == 2 || x.off
    if c.legGateRefreshMax i ≤ cnt ∧ !off then { x with refresh := 0, refreshing := true, low := 0 }
    else { x with refresh := cnt, refreshing := false, low := 0 }

/-- The duty a leg takes into force, after the refresh limit (R326 step 1, R348). -/
def Lane.limitDuty (l : Lane) (n : AxisId) (i : Nat) (x : Leg) (want : Nat) : Nat :=
  let P := l.cfg.period n.val
  let t := l.cfg.legGateTref i
  if !x.refreshing then want
  else if l.cfg.legPwmDutymode i = 1 then min want ((P * 10000 - t) * 16)
  else min want (2 ^ 20 - t * 2 ^ 20 / (P * 10000))

/-- One adaptive step moved by its last measurement (R344, R345): the step, the run of calls beyond one bound, and whether it reached 400 periods. -/
def adaptStep (lo hi tsw tol step : Nat) (run : Int) (t : Option Nat) : Nat × Int × Bool :=
  match t with
  | none => (step, run, false)
  | some t =>
    if tsw + tol < t then (if step < hi then (step + 1, 0, false) else let r := maxI 0 run + 1; (step, minI 65535 r, r == 400))
    else if t + tol < tsw then (if lo < step then (step - 1, 0, false) else let r := minI 0 run - 1; (step, maxI (-65535) r, r == -400))
    else (step, 0, false)

/-- The drive steps of a leg under ADAPT at a valley (R343 to R345). -/
def Lane.adaptSteps (l : Lane) (k : LegId) (m : LegMeas) : Lane :=
  let c := l.cfg
  let i := k.val
  let x := l.leg.get k
  let seen (t : Option Nat) : Option Nat := t.filter fun v => v ≤ c.legGateTswWin i
  let rise := seen m.rise
  let fall := seen m.fall
  let go (s : Nat) (r : Int) (t : Option Nat) := adaptStep (c.legGateStepmin i) (c.legGateStepmax i) (c.legGateTsw i) (c.legGateTswTol i) s r t
  let (sr, rr, er) := go x.stepR x.boundR rise
  let (sf, rf, ef) := go x.stepF x.boundF fall
  let l := { l with leg := l.leg.set k { x with tswR := rise.getD x.tswR, tswF := fall.getD x.tswF, stepR := sr, stepF := sf, boundR := rr, boundF := rf
                                                raisedR := x.raisedR || er, raisedF := x.raisedF || ef } }
  let l := if er && !x.raisedR then l.raise .pwr050 (.leg i) 0 else l
  if ef && !x.raisedF then l.raise .pwr050 (.leg i) 1 else l

/-- A HIGH hold ends: all off, PWR-052 (R358). -/
def Lane.endHold (l : Lane) (n : AxisId) (leg mv : Nat) : Lane :=
  (l.modPwm n fun w => { w with hold := 0, tripOff := true }).raise .pwr052 (.leg leg) mv

/-- A voltage below LEG[ll].GATE.BOOT_UV. -/
def Cfg.underBoot (c : Cfg) (i mv : Nat) : Bool := decide ((mv : Int) * 65536 < c.legGateBootUv i * 1000)

/-- A high-side supply comes into undervoltage (Table 13.1, R358): once for each episode. -/
def Lane.supplyLow (l : Lane) (k : LegId) (mv : Nat) : Lane :=
  let c := l.cfg
  let i := k.val
  let x := l.leg.get k
  let fallBack := c.legGateHssupply i == 1 && !x.iso
  let held := match c.axisOfLeg l.id i with | some n => (l.pwm.get n).hold == 2 | none => false
  if fallBack then (l.modLeg k fun x => { x with uv := false, iso := true }).raise .pwr016 (.leg i) mv
  else
    let l := l.modLeg k fun x => { x with uv := true }
    match c.axisOfLeg l.id i with
    | some n => if held then l.endHold n i mv else if x.uv then l else l.raise .pwr015 (.leg i) mv
    | none => if x.uv then l else l.raise .pwr015 (.leg i) mv

/-- What a valley brings to a leg: the drive steps, and the high-side supply as measured there (R343 to R346). -/
def Lane.adaptLeg (l : Lane) (i : Nat) (m : Option LegMeas) : Lane :=
  match legOf i, m with
  | some k, some m =>
    let c := l.cfg
    let low := c.underBoot i m.vhs
    let l := l.modLeg k fun x => { x with vhs := m.vhs, uv := x.uv && low }
    let l := if c.legGateStrength i = 1 then l else l.adaptSteps k m
    if low && c.bridgeLeg i then l.supplyLow k m.vhs else l
  | _, _ => l

/-- The HALLPASS pattern put on the legs of an axis (R312): the switched leg at the duty in force, one low side on, one leg off. -/
def Lane.hallApply (l : Lane) (n : AxisId) : Lane :=
  let x := l.comm.get n
  let ls := l.cfg.legsOf l.id n.val
  match hallPattern x.hall with
  | none => l.modLegs n fun _ y => { y with off := true }
  | some (sw, low, _) =>
    l.modLegs n fun i y =>
      let k := ls.idxOf i
      if k = sw then { y with off := false, duty := l.limitDuty n i y (l.cfg.dutyForm i (l.cfg.period n.val) (l.pwm.get n).hallDuty) }
      else if k = low then { y with off := false, duty := 0 }
      else { y with off := true, duty := 0 }

/-- The duty of HALLPASS comes into force at a reload: the ratio last loaded, or the limp duty where the tick loaded none (R313). -/
def Lane.hallLoad (l : Lane) (n : AxisId) : Lane :=
  let duty := if (l.comm.get n).limp then ratioClamp (16 * l.cfg.axisCommHallpassLimpduty n.val) else (l.pwm.get n).hallShadow
  l.modPwm n fun w => { w with hallDuty := duty }

/-- A change of the Hall state in HALLPASS: the pattern follows at once, where the time base runs (R312). -/
def Lane.hallCommutate (l : Lane) (n : AxisId) : Lane :=
  if l.cfg.hallpass n.val then
    let l := l.readHall n
    if (l.pwm.get n).started && l.baseRuns n then l.hallApply n else l
  else l

/-- A reload point of an axis: at a valley the period, the dither, the steps and the refresh begin anew; the shadow comes into force (R320, R326, R327). -/
def Lane.reload (l : Lane) (n : AxisId) (ms : List LegMeas) : Lane :=
  let c := l.cfg
  let w := l.pwm.get n
  let valley := l.valleyNow n
  let valve := c.kind n.val == .valve
  if !w.running ∨ !l.baseRuns n ∨ w.applied ∨ (!w.started ∧ !valley) ∨ (valve ∧ !valley) then l
  else
    let ls := c.legsOf l.id n.val
    let l :=
      if valley then
        let l := l.modLegs n fun i x => { l.refreshAt n i { x with off := x.off && c.hallpass n.val } with interlock := 0, off := false }
        let l := ls.foldl (fun l i => l.adaptLeg i ms[ls.idxOf i]?) l
        l.modPwm n fun w =>
          { w with dither := if w.started then (w.dither + 1) % 16 else 0, length := if w.started then w.lenNow else w.length
                   lenNow := 0, pos := 0, started := true }
      else l
    let l := l.modPwm n fun w => { w with forced := w.forcedNext, applied := true }
    let l := l.modLegs n fun i x => { x with duty := l.limitDuty n i x x.shadow }
    if c.hallpass n.val then ((l.readHall n).hallLoad n).hallApply n else l

/-! ## Interlocks -/

/-- Both commanded outputs of a leg are on (R333). -/
def Lane.shootThrough (l : Lane) (i : LegId) (clocks : Nat) : Lane :=
  if l.cfg.legFunction i.val = 0 then l
  else (l.modLeg i fun x => { x with interlock := 1, shoot := satInc 65535 x.shoot }).raise .pwr040 (.leg i.val) clocks

/-- The gate driver sees both of its inputs on (R340). -/
def Lane.driverInterlock (l : Lane) (i : LegId) (clocks : Nat) : Lane :=
  if l.cfg.legFunction i.val = 0 then l
  else (l.modLeg i fun x => { x with interlock := 2 }).raise .pwr051 (.leg i.val) clocks

/-- An ABSOLUTE pulse was still on at the next peak: one MISMATCH (R325, R331). -/
def Lane.pulseClip (l : Lane) (i : LegId) : Lane :=
  if (l.leg.get i).clip then (l.modLeg i fun x => { x with clip := false, mismatch := satInc 65535 x.mismatch }).noteClip i.val else l

/-! ## High-side supply (R346, R358) -/

/-- A high-side supply is supervised in this tick (R346): its high side is commanded on for 1 µs, or a valley falls in the tick. -/
def Lane.supplySeen (l : Lane) (i : LegId) : Bool :=
  match l.cfg.axisOfLeg l.id i.val with
  | some n => l.valleyNow n && l.baseRuns n || ((l.commanded n i.val l.tickLen (l.leg.get i)).1.any fun s => decide (s.1 + 400 ≤ s.2))
  | none => false

/-- A high-side supply is in undervoltage for 1 µs (R346). -/
def Lane.supplyUv (l : Lane) (i : LegId) (mv : Nat) : Lane :=
  if l.cfg.bridgeLeg i.val && l.cfg.underBoot i.val mv && l.supplySeen i then l.supplyLow i mv else l

/-! ## Trips (R351 to R359) -/

/-- The code of a detector in STATUS TRIP. -/
def Trip.code : Trip → Nat | .soft _ => 1 | .hard _ => 2 | .desat .. => 3

/-- The value a trip's event carries in [15:0]. -/
def Trip.val : Trip → Nat | .soft a | .hard a => a % 65536 | .desat b _ => b2n b

/-- The event of a trip. -/
def tripEv : Trip → Ev | .soft _ => .pwr010 | .hard _ => .pwr011 | .desat .. => .pwr013

/-- The event of a single leg's trip. -/
def isTripEv (ev : Ev) : Bool := ev == .pwr010 || ev == .pwr011 || ev == .pwr013

/-- A leg is blanked at a clock of the tick: within GATE.TBLANK of the last commanded edge of either output (R351). -/
def Lane.blanked (l : Lane) (n : AxisId) (i : LegId) (t : Nat) : Bool :=
  decide (l.sinceEdge n i.val l.tickLen t (l.leg.get i) < l.cfg.legGateTblank i.val)

/-- The detector is armed and its quantity lies beyond its threshold at a clock of the tick (R351, R352, Table 13.2). -/
def Lane.tripReal (l : Lane) (n : AxisId) (i : LegId) (t : Nat) : Trip → Bool
  | .soft a => !l.blanked n i t && decide (l.cfg.legGateOcp i.val * 10 < (a : Int) * 65536)
  | .hard a => decide (mulQ (l.cfg.legGateHardFactor i.val) (l.cfg.legGateOcp i.val) * 10 < (a : Int) * 65536)
  | .desat low mv =>
    let (hs, ls) := l.legLevels n i t
    !l.blanked n i t && (if low then ls else hs) && decide (l.cfg.legGateDesat i.val * 1000 < (mv : Int) * 65536)

/-- The records of a leg's trip, no older than a number of ticks, changed wherever they stand: held, in the history queue, and in the journal. -/
def Lane.mapTrip (l : Lane) (leg age : Nat) (f : Rec → Rec) : Lane :=
  let hit (x : Rec) : Bool := isTripEv x.ev && x.inst == (Subject.leg leg).inst && !x.recovered &&
    decide ((l.tick.count + 2 ^ 32 - x.count) % 2 ^ 32 ≤ age)
  let g (x : Rec) : Rec := if hit x then f x else x
  { l with
    col := { l.col with
      held := l.col.held.map fun h => { h with r := g h.r }, news := l.col.news.map fun h => { h with r := g h.r }
      slot0 := l.col.slot0.map g, ring := l.col.ring.map g, toJournal := l.col.toJournal.map g }
    nvm := { l.nvm with events := l.nvm.events.map g } }

/-- Trips on two legs of a triad are one phase-to-phase short (R359): PWR-012 stands in place of the event of the leg that tripped before, where that is still to be collected or already recorded; `first` is the leg that counts as the first. -/
def Lane.phaseShort (l : Lane) (before first second age : Nat) : Lane :=
  let ctx := ctxOf (.leg first) second
  if l.col.raised.any (fun r => isTripEv r.ev && r.subj == .leg before) then
    let g (r : Raise) : Raise := if isTripEv r.ev && r.subj == .leg before then { r with ev := .pwr012, subj := .leg first, ctx := ctx } else r
    { l with col := { l.col with raised := l.col.raised.map g } }
  else l.mapTrip before age fun x => { x with ev := .pwr012, inst := (Subject.leg first).inst, ctx := ctx }

/-- A trip on a leg at a clock of the tick (R355, R358, R359). -/
def Lane.trip (l : Lane) (i : LegId) (t : Nat) (x : Trip) : Lane :=
  let c := l.cfg
  let l := { l with now := t }
  match c.axisOfLeg l.id i.val with
  | none => l
  | some n =>
    let w := l.pwm.get n
    if !l.tripReal n i t x then l
    else if w.hold ≠ 0 then
      match x with
      | .hard a =>
        ((l.modPwm n fun w => { w with hold := 0, tripOff := true }).modLeg i fun y => { y with trip := 2, tripVal := a }).raise .pwr011
          (.leg i.val) (x.val + 65536 * (l.leg.get i).ident : Nat)
      | _ => l
    else
      match w.trip with
      | some (j, _) =>
        if w.tripOff ∧ j ≠ i.val ∧ c.legFunction i.val = 1 ∧ w.tripTick < c.period n.val then
          let lower := w.tripTick == 0 && w.tripClk == t && decide (i.val < j)
          let l := l.modPwm n fun w => { w with identDue := false, trip := none }
          let l := l.modLegs n fun k y => if k = i.val ∨ k = j then { y with trip := 4, ident := 0 } else y
          if lower then l.phaseShort j i.val j (w.tripTick + 1) else l.phaseShort j j i.val (w.tripTick + 1)
        else l
      | none =>
        if w.tripOff then l
        else
          let triad := c.legFunction i.val == 1
          let l := l.modPwm n fun w => { w with tripOff := true, trip := some (i.val, x.code), tripTick := 0, tripClk := t, identDue := triad }
          (l.modLeg i fun y => { y with trip := x.code, tripVal := x.val, ident := 0 }).raise (tripEv x) (.leg i.val) x.val

/-- The result of identification (Table 13.3): 1 NONE, 2 HIGH failed, 3 LOW failed; `pins` gives each leg's node: 1 at the bus, 2 at ground, else free. -/
def identResult (fell : Bool) (pins : List Nat) : Nat :=
  if !fell then 1
  else match pins.filter (fun p => p == 1 || p == 2) with
    | [1] => 2
    | [2] => 3
    | _ => 1

/-- The context of a trip's event with the identification code in [23:16] (R356, Table 13.9). -/
def identCtx (code : Nat) (ctx : Word) : Word :=
  if ctx.toNat / 65536 % 256 = 0 then BitVec.ofNat 32 (ctx.toNat + code * 65536) else ctx

/-- Identification of a failed transistor completes (R356, R357): its result appears in the trip's event, recorded or not. -/
def Lane.identified (l : Lane) (n : AxisId) (fell : Bool) (pins : List Nat) : Lane :=
  let w := l.pwm.get n
  match w.identDue, w.trip with
  | true, some (j, _) =>
    let r := identResult fell pins
    let auto := l.cfg.axisShortPost n.val == 1
    let hold : Nat := if !auto then 0 else if r = 2 then 2 else if r = 3 then 1 else 0
    let g (x : Raise) : Raise := if isTripEv x.ev && x.subj == .leg j then { x with ctx := identCtx r x.ctx } else x
    let l := { l with col := { l.col with raised := l.col.raised.map g } }
    let l := l.mapTrip j (w.tripTick + 1) fun x => { x with ctx := identCtx r x.ctx }
    let l := match legOf j with | some k => l.modLeg k fun x => { x with ident := r } | none => l
    let l := l.modPwm n fun w => { w with identDue := false, trip := none, hold := hold, holdAt := if hold = 0 then 0 else l.now }
    if hold = 0 then l else l.raise .pwr014 (.leg j) hold
  | _, _ => l

/-! ## Chopper and bus (R360 to R365) -/

/-- The bus voltage of the boundary, and the chopper conversion (R360, R362). -/
def Lane.sampleBus (l : Lane) (e : ElecIn) : Lane :=
  { l with bus := { l.bus with v1 := l.bus.v, v := e.vbus, ichop := (if l.bus.chopConv then e.chop else none).getD l.bus.ichop } }

/-- The chopper check of a holder over the tick before (R362). -/
def Lane.chopperCheck (l : Lane) (e : ElecIn) : Lane :=
  match allAxes.find? fun n => l.cfg.kind n.val == .chopper with
  | none => l
  | some n =>
    if (l.ax n).role ≠ .holder then { l with bus := { l.bus with chopCount := 0, chopRaised := false } }
    else
      let d := (l.leg.getD 15 {}).duty
      let cnt :=
        if l.bus.v < l.bus.v1 then 0
        else match (if l.bus.chopConv then e.chop else none) with
          | some x => if l.cfg.laneBusChopImin ≤ x then 0 else if 0 < d then satInc 7 l.bus.chopCount else l.bus.chopCount
          | none => l.bus.chopCount
      { l with bus := { l.bus with chopCount := cnt, chopRaised := l.bus.chopRaised && cnt != 0, chopV := if cnt = 4 then l.bus.v else l.bus.chopV } }

/-- PWR-017: the chopper check count has reached 4 (R362). -/
def Lane.chopperFault (l : Lane) : Lane :=
  match allAxes.find? fun n => l.cfg.kind n.val == .chopper with
  | none => l
  | some n =>
    if (l.ax n).role = .holder ∧ 4 ≤ l.bus.chopCount ∧ !l.bus.chopRaised then
      let l := l.raise .pwr017 (.axis n.val) (roundDiv (l.bus.chopV * 1000) 65536)
      { l with bus := { l.bus with chopRaised := true } }
    else l

/-- LOW shorts at a boundary above VOV1, and their end (R364): taken before this boundary's own samples, so on the voltages and currents of the tick before. -/
def Lane.vov1 (l : Lane) : Lane :=
  let c := l.cfg
  let high := decide (c.laneBusVov1 < l.bus.v)
  let low := decide (l.bus.v < c.laneBusVov1 - c.laneBusHyst)
  let l := allAxes.foldl (fun l n =>
    if !c.motor n.val || !l.serves n then l
    else
      let s := l.sup.get n
      let p := l.loop.get n
      let regen := l.drives n && decide (p.vd2 * s.id + p.vq2 * s.iq < 0)
      if high && regen && !(l.pwm.get n).vov1 then l.modPwm n fun w => { w with vov1 := true }
      else if low && (l.pwm.get n).vov1 then (l.modPwm n fun w => { w with vov1 := false }).blendFrom n 0
      else l) l
  let any := allAxes.any fun n => (l.pwm.get n).vov1
  if any ∧ !l.bus.vov1Raised then
    { l.raise .pwr018 .none (roundDiv (l.bus.v * 1000) 65536) with bus := { l.bus with vov1Raised := true } }
  else if low then { l with bus := { l.bus with vov1Raised := false } }
  else l

/-- V_bus exceeds VOV2: every gate output off, holds included (R365). -/
def Lane.overvoltage (l : Lane) (v : Q) : Lane :=
  if l.cfg.laneBusVov2 < v ∧ !l.bus.vov2 then
    let l := { l with bus := { l.bus with vov2 := true }, pwm := l.pwm.mapFin fun _ w => { w with hold := 0 } }
    l.raise .pwr019 .none (roundDiv (v * 1000) 65536)
  else l

/-- l_VG below or above 10.0 V (R570). -/
def Lane.gateSupply (l : Lane) (low : Bool) : Lane := { l with bus := { l.bus with gateLow := low } }

/-- A debug halt, where BENCH was high at the last reset release: the outputs hold the levels of its clock (R334, R335). -/
def Lane.debugHalt (l : Lane) : Lane :=
  if l.start.bench && !l.start.halted then
    let level (i : LegId) : Bool × Bool := match l.cfg.axisOfLeg l.id i.val with | some n => l.legLevels n i l.now | none => (false, false)
    { l with
      start := { l.start with halted := true, haltSeen := true }
      leg := l.leg.mapFin fun i x => { x with haltHs := (level i).1, haltLs := (level i).2 } }
  else l

/-- Debug halt ends: every time base restarts at its next valley with dither phase 0 (R336). -/
def Lane.debugHaltEnd (l : Lane) : Lane :=
  if l.start.halted then
    let l := { l with start := { l.start with halted := false }
                      pwm := l.pwm.mapFin fun _ w => { w with started := false, dither := 0, pos := 0, lenNow := 0 } }
    { l with leg := l.leg.mapFin fun _ x => { x with off := true } }
  else l

/-- Whether the gate driver lets the commanded outputs of an axis through: held off by hardware, by ABSENT, or by a zero counter; a hold passes in SAFE, its way into it included (R117, R153, R355, R358, R365, R570). -/
def Lane.gatesFree (l : Lane) (n : AxisId) : Bool :=
  let w := l.pwm.get n
  !l.bus.vov2 && !l.bus.gateLow && (w.hold != 0 || (!w.tripOff && !(l.ax n).absent && (l.ax n).counter != 0))

/-- The legs that are pulsed low for pre-charge: under BOOT or BOOT+ISO, of an axis that is not ABSENT, in ARMED until the lane is READY, and in OPERATE while it is STANDBY (R69, R140, R153). -/
def Lane.precharged (l : Lane) (i : Nat) : Bool :=
  l.cfg.refreshes i &&
    match l.cfg.axisOfLeg l.id i with
    | some n =>
      !(l.ax n).absent &&
        ((l.start.state == .armed && !l.start.ready) ||
         (l.start.state == .operate && (l.ax n).role == .standby && (l.ax n).counter == 0))
    | none => false

/-- A low-side pre-charge pulse stands at a clock of the tick: 2.00 µs once every 4 ticks, here from the boundary of the ticks whose loop phase is a multiple of 4 (R69; DESIGN CHOICE: the manual places the pulse nowhere in the 4 ticks). -/
def Lane.prechargePulse (l : Lane) (i t : Nat) : Bool := l.precharged i && l.bus.phase % 4 == 0 && decide (t < 800)

/-- What a leg's two gate outputs do at a clock. -/
structure GateOut where
  /-- The high-side gate is driven on. -/
  hs : Bool := false
  /-- The low-side gate is driven on. -/
  ls : Bool := false
  /-- A sub-threshold pulse of 100 ns at 0.25 A, clamped at 1.2 V, is allowed on it: the gate probe, or a test of SELFTEST (R62, R140). -/
  probe : Bool := false
deriving DecidableEq, Repr

/-- The pulses that a leg whose outputs are not free may still get: pre-charge, and the gate probe where the lane is STANDBY (R69, R140, R153); none while a detector, the interlock, VOV2 or a low l_VG holds the gates off. -/
def Lane.idlePulse (l : Lane) (i : LegId) (t : Nat) : GateOut :=
  match l.cfg.axisOfLeg l.id i.val with
  | none => {}
  | some n =>
    if l.bus.vov2 || l.bus.gateLow || (l.pwm.get n).tripOff || (l.leg.get i).interlock == 2 then {}
    else
      { ls := l.prechargePulse i.val t
        probe := l.start.state == .operate && l.lease.marver.probe == some i &&
          !(l.ax n).absent && (l.ax n).role == .standby && (l.ax n).counter == 0 }

/-- The gate outputs of a leg at a clock t of the present tick (Table 3.1, Table 6.1, R326, R328, R335). -/
def Lane.gateOut (l : Lane) (i : LegId) (t : Nat) : GateOut :=
  let x := l.leg.get i
  match l.start.state with
  | .selftest => { probe := true }
  | .armed => l.idlePulse i t
  | .operate | .unsealed | .safe =>
    (match l.cfg.axisOfLeg l.id i.val with
     | none => {}
     | some n =>
       if !l.gatesFree n || (l.start.state == .safe && (l.pwm.get n).hold == 0) then l.idlePulse i t
       else
         let (hs, ls) := if l.start.halted && (l.pwm.get n).hold == 0 then (x.haltHs, x.haltLs) else l.legLevels n i t
         { hs := hs, ls := ls })
  | _ => {}

/-- STATUS.LANE[l].BUS.STATE (Table 13.8). -/
def Lane.busState (l : Lane) : Nat :=
  b2n l.bus.chopOn + 2 * b2n l.bus.regen + 4 * b2n (allAxes.any fun n => (l.pwm.get n).vov1) + 8 * b2n l.bus.vov2 + 16 * l.bus.chopCount

/-- STATUS.AXIS[n].PWM.STATE (Table 12.6). -/
def Lane.pwmState (l : Lane) (n : AxisId) : Nat :=
  let w := l.pwm.get n
  w.dither + 16 * b2n (w.started && l.baseRuns n) + 32 * b2n (w.started && decide (2 * (w.pos * 10000 + 8400) < l.cfg.period n.val * 10000)) + 64 * w.forced

/-- The legs as a gather leaves them (R342, R558): steps from the image, counts at 0. -/
def Cfg.freshLeg (c : Cfg) (i : Nat) : Leg := { stepR := c.legGateStepR i, stepF := c.legGateStepF i }

end Sys2Proof.Machine
end

