-- ==== Sys2Proof/Machine/Power.lean ====
section
/-! DEFINITION. Resets, boot, self-test, arming, power-down, supply supervision, health list, controlled stop (chapters 3, 15, 21 and 22). -/

namespace Sys2Proof.Machine

/-! ## Resets (R552 to R557) -/

/-- A lane whose registers have lost their content: what it keeps is its non-volatile content, its pins and its supply (Table 21.3). -/
def Lane.blank (l : Lane) (st : LState) (cause : ResetKind) : Lane :=
  { id := l.id, nvm := l.nvm
    sup22 := { vsup := l.sup22.vsup, vg := l.sup22.vg, tj := l.sup22.tj, isOpen := l.sup22.isOpen }
    start := { state := st, cause := cause, resets := l.start.resets, ign := l.start.ign, wake := l.start.wake, workshop := l.start.workshop
               benchPin := l.start.benchPin, supplyUp := l.start.supplyUp, resetnLow := l.start.resetnLow, brown := l.start.brown
               cfgFloat := l.start.resetnLow }
    bus := { gateLow := l.bus.gateLow } }

/-- A lane restarts from BOOT (R552); latched faults, with the absences they cause, survive a FAULT RESTART alone, and none is unacknowledged then (R414, R416, Table 21.3). A FAULT RESTART and a LANE RESTART write the records still waiting before they begin, the RECOVERED records among them (R418; DEDUCED: log 170). -/
def Lane.reset (l : Lane) (k : ResetKind) : Lane :=
  -- before a restart that the lane makes itself, the records still waiting reach the journal (R418)
  let l := if k = .faultRestart ∨ k = .laneRestart then l.writeRecords l.col.toJournal.length else l
  let kept := if k = .faultRestart then l.col.held.filter (·.latched) else []
  let b := l.blank .boot k
  { b with
    start := { b.start with latchKept := !kept.isEmpty, brown := false, resets := l.start.resets + 1 }
    nvm := { b.nvm with latches := b.nvm.latches.write kept }
    col := { b.col with held := kept.map fun h => { h with acked := true } }
    lease := { b.lease with ax := b.lease.ax.mapFin fun n a => { a with absentFault := kept.any fun h => h.r.level == .l2 && h.axes.contains n.val } } }

/-- A lane goes to OFF: its registers lose their content, its drive inhibit is asserted (R58, R391). -/
def Lane.goOff (l : Lane) : Lane := l.blank .off l.start.cause

/-- A brown-out: OFF, with departure markers from hold-up in this tick and the 2 after it (R133, R568). A lane that l_RESETN holds in OFF loses its supply the same way. -/
def Lane.brownOut (l : Lane) : Lane :=
  if l.start.state = .off ∧ !l.start.supplyUp then l
  else
    let o := l.goOff
    { o with start := { o.start with supplyUp := false, brown := true, departing := 3 }
             tick := { count := l.tick.count } }

/-- The supply rises through the power-on threshold (R568, Table 21.1). -/
def Lane.powerOn (l : Lane) : Lane :=
  if l.start.state = .off ∧ !l.start.supplyUp then
    let l1 := { l with start := { l.start with supplyUp := true }, sup22 := { l.sup22 with isOpen := false } }
    if l.start.resetnLow then l1 else l1.reset (if l.start.brown then .brownOut else .powerOn)
  else l

/-- A low on l_RESETN for a number of nanoseconds (R553). -/
def Lane.resetnDown (l : Lane) (ns : Nat) : Lane :=
  if ns < 10000 then l
  else
    let o := { l with start := { l.start with resetnLow := true } }.goOff
    { o with start := { o.start with cfgFloat := true } }

/-- l_RESETN is released (R553). -/
def Lane.resetnUp (l : Lane) : Lane :=
  if l.start.resetnLow then
    let l := { l with start := { l.start with resetnLow := false } }
    if l.start.supplyUp then l.reset .resetn else { l with start := { l.start with cfgFloat := false } }
  else l

/-- The independent timer of the collector sends departure markers for 2 ticks, after which it resets the lane (R408). -/
def Lane.watchdog (l : Lane) : Lane :=
  if 40 ≤ l.start.notClosed ∧ !l.start.wdReset then { l with start := { l.start with departing := 3, wdReset := true } } else l

/-- The reset that follows the departure markers of the independent timer, at the boundary after the last of them (R408). -/
def Lane.watchdogReset (l : Lane) : Lane := if l.start.wdReset ∧ l.start.departing = 0 then l.reset .watchdog else l

/-- A debug reset request (R555). -/
def Lane.debugReset (l : Lane) : Lane := if l.start.bench then l.reset .debugReset else l

/-! ## Boot and self-test -/

/-- MEM-004 for an item that fell back (R556, R563). -/
def Lane.fellBack (l : Lane) (lost : Bool) (item : Nat) : Lane :=
  if lost then { l.raise .mem004 .none item with gat := { l.gat with fellBack := true } } else l

/-- At reset release the boot code samples BENCH and reads the journal (R59, R556). -/
def Lane.bootStart (l : Lane) : Lane :=
  if l.start.state ≠ .boot ∨ l.start.booted then l
  else
    let l := { l with start := { l.start with bench := l.start.benchPin, booted := true, slot := (l.nvm.slotRec.read {}).slot % 2 } }
    let l := l.fellBack l.nvm.confirmed.lost 2
    let l := l.fellBack l.nvm.slotRec.lost 3
    let l := l.fellBack l.nvm.areas.lost 4
    let l := l.fellBack l.nvm.key.lost 5
    let l := l.fellBack (l.nvm.recoveries.lost || l.nvm.ignition.lost) 6
    let l := l.fellBack l.nvm.latches.lost 7
    let l := l.fellBack (l.nvm.job.lost || l.nvm.regather.lost) 21
    let l := l.nvm.cals.foldl (fun l c => l.fellBack c.lost 1) l
    allAxes.foldl (fun l n => l.fellBack (l.nvm.theta.get n).lost 1) l

/-- The signature check of the chosen slot completes (R59, R60). -/
def Lane.signatureDone (l : Lane) : Lane :=
  if l.start.state ≠ .boot ∨ !l.start.booted ∨ l.start.bootHeld then l
  else if packageValid l.nvm.bootKey (l.slotMem l.start.slot) then
    let l :=
      if l.start.triedOther then
        let l := l.raise .mem001 .none ((1 - l.start.slot : Nat) : Int)
        { l with nvm := { l.nvm with slotRec := l.nvm.slotRec.write { l.nvm.slotRec.read {} with slot := l.start.slot } } }
      else l
    l.goto .selftest
  else if !l.start.triedOther then { l with start := { l.start with slot := 1 - l.start.slot, triedOther := true } }
  else
    let l := { l with start := { l.start with bootHeld := true } }
    ((l.raise .mem002 .none 0).collect).writeJournal

/-- A failed self-test puts the lane into SAFE (R62, Table 3.2). -/
def Lane.selftestFailed (l : Lane) (ev : Ev) (s : Subject) (v : Int) : Lane :=
  let l := (l.raise ev s v).collect
  l.toSafe (if l.col.news.any fun h => h.r.level == .l4 then .l4 else .l3)

/-- The self-tests complete (R62). -/
def Lane.selftestDone (l : Lane) (r : SelfTest) : Lane :=
  if l.start.state ≠ .selftest then l
  else match r with
  | .pass => let l := l.goto .gather; { l with gat := { l.gat with imageState := 1, idPower := true } }
  | .logic t => l.selftestFailed .cor001 .none t
  | .memory a => l.selftestFailed .mem003 .none a
  | .offState g => l.selftestFailed .pwr001 (.leg g) 0
  | .selfTrip g h => l.selftestFailed .pwr002 (.leg g) (b2i h)
  | .adcReference d => l.selftestFailed .sup001 .none d

/-! ## ALIGN and ARMED -/

/-- The old and the new seal that a REGATHER job names (R65, R543): a lane that switched shows the old seal of its checkpoint beside the seal it has now. -/
def Lane.jobSeals (l : Lane) : List (Word × Word) :=
  (match l.nvm.regather.read none with | some k => [(k.oldSeal, l.gat.sealVal)] | none => []) ++
  l.id.others.filterMap fun x =>
    match (l.px.get x).jobs.oldSeal, (l.peerOf x).sealSeen with
    | some o, some s => some (o, s)
    | _, _ => none

/-- Two seals count as equal: they are, or a REGATHER job names them (R65). -/
def Lane.sealsEqual (l : Lane) (x y : Word) : Bool :=
  x == y || l.jobSeals.any fun (p : Word × Word) => (x == p.1 && y == p.2) || (x == p.2 && y == p.1)

/-- The other lanes in ALIGN, ARMED or OPERATE that this lane reaches, with the seals they show (R64). -/
def Lane.sealsSeen (l : Lane) : List (LaneId × Word) :=
  l.id.others.filterMap fun x =>
    let p := l.peerOf x
    match p.marker, p.sealSeen with
    | some m, some s => if m.state == .align || m.state == .armed || m.state == .operate then some (x, s) else none
    | _, _ => none

/-- What the seals of a lane in ALIGN give (R65). -/
structure SealView where
  /-- A lane with an equal seal is reached. -/
  equal : Bool
  /-- Two lanes share a seal that differs from the own one. -/
  outvoted : Bool
  /-- CFG-020 is due: outvoted, or one lane alone reached, with another seal. -/
  differs : Bool
deriving DecidableEq, Repr

/-- The seals compared (R65). -/
def Lane.sealJudge (l : Lane) : SealView :=
  let seen := l.sealsSeen
  let own := l.gat.sealVal
  let out := match seen with
    | [a, b] => !l.sealsEqual own a.2 && !l.sealsEqual own b.2 && l.sealsEqual a.2 b.2
    | _ => false
  let alone := match seen with | [a] => !l.sealsEqual own a.2 | _ => false
  { equal := seen.any fun s => l.sealsEqual own s.2, outvoted := out, differs := out || alone }

/-- The identity digest of an owner on the lane, as its gather gave it (R114): axes 0 to 11, then the sensor instances. -/
def Lane.digestOf (l : Lane) (k : Nat) : Option IdDigest := l.gat.ids.getD k none

/-- What the other lanes show for an owner. -/
def Lane.digestsSeen (l : Lane) (k : Nat) : List IdDigest :=
  l.id.others.filterMap fun x => match (l.peerOf x).digests with | some t => t.getD k none | none => none

/-- Another lane reports for a slot of an owner the connection index that this lane reports (R114). -/
def Lane.indexShared (l : Lane) (k : Nat) : Bool :=
  match l.digestOf k with
  | some d => (l.digestsSeen k).any fun e => (List.zip d.2 e.2).any fun (p : Option Nat × Option Nat) => p.1.isSome && p.1 == p.2
  | none => false

/-- The digests disagree on an axis, or a connection index of this lane is reported by another lane too (R66, R114). -/
def Lane.digestBad (l : Lane) (n : AxisId) : Bool :=
  match l.digestOf n.val with
  | none => false
  | some d =>
    l.indexShared n.val ||
    (match (l.digestsSeen n.val).map (·.1) with
     | [a, b] => d.1 != a && d.1 != b
     | [a] => d.1 != a
     | _ => false)

/-- A sensor instance whose connection index another lane reports for the same slot is unavailable on the lane: CFG-021 (R114). Table 3.6 gives the event the axis index; for a sensor instance no table names its value. -/
def Lane.sensorIndices (l : Lane) : Lane :=
  (List.finRange 8).foldl (fun (l : Lane) i =>
    if l.indexShared (12 + i.val) ∧ !l.gat.sensorBad.get i then
      (({ l with gat := { l.gat with sensorBad := l.gat.sensorBad.set i true } }).raise .cfg021 .none (Config.unnamedCause (16 + i.val)))
    else l) l

/-- One tick in ALIGN (R64 to R67): seals and digests as they have arrived. A lane that has left ALIGN judges no digests any more (DEDUCED: R64 places the exchange and the comparison in ALIGN). -/
def Lane.alignTick (l : Lane) : Lane :=
  if l.start.state ≠ .align then l
  else
    let v := l.sealJudge
    let l := if v.differs ∧ !l.start.cfg020 then l.raise .cfg020 .none l.gat.sealVal.toNat else l
    let reached := l.sealsSeen.map (·.1)
    let have_ := !reached.isEmpty && reached.all fun x => (l.peerOf x).digests.isSome
    let l :=
      if have_ then
        allAxes.foldl (fun l n =>
          if l.digestBad n && !(l.ax n).absentHw then
            (l.raise .cfg021 .none n.val).modAx n fun a => { a with absentHw := true, role := .absent }
          else { l with gat := { l.gat with agreed := l.gat.agreed.set n (l.cfg.hasAxis n.val && !(l.ax n).absentHw) } }) l.sensorIndices
      else l
    { l with start := { l.start with cfg020 := v.differs, equalSeal := v.equal, outvoted := v.outvoted, digestsDone := have_ } }

/-- The exit conditions of ALIGN (R67). -/
def Lane.alignReady (l : Lane) : Bool :=
  (match l.tick.alignErr with | some e => decide (absI e ≤ 80) | none => false) &&
  l.start.equalSeal && l.start.digestsDone && l.start.discovered

/-- The lane leaves ALIGN for ARMED (R67); legs under BOOT+ISO take their bootstrap again (R346). -/
def Lane.alignExit (l : Lane) : Lane :=
  if l.start.state = .align ∧ l.alignReady then
    let l := l.goto .armed
    { l with start := { l.start with ready := false, readyPrev := false }
             leg := l.leg.mapFin fun _ x => { x with iso := false, uv := false } }
  else l

/-- STATUS.LANE[l].WAIT (Table 3.5). -/
def Lane.waitCode (l : Lane) : Nat :=
  match l.start.state with
  | .align =>
    if !(match l.tick.alignErr with | some e => decide (absI e ≤ 80) | none => false) then 1
    else if l.start.outvoted then 3
    else if !l.start.equalSeal then 2
    else if !l.start.digestsDone then 4
    else if !l.start.discovered then 5 else 0
  | .armed => if l.start.ready then 7 else 6
  | _ => 0

/-- TIM-008 (R68). -/
def Lane.alignTimeout (l : Lane) : Lane :=
  if l.start.state = .align ∧ 4800 ≤ l.start.inState ∧ !l.start.tim008 then
    let l := l.raise .tim008 .none l.waitCode
    { l with start := { l.start with tim008 := true } }
  else l

/-- 2,000 ticks in ALIGN without discovery: it no longer blocks the lane (R67). -/
def Lane.discoveryTimeout (l : Lane) : Lane :=
  if l.start.state = .align ∧ 2000 ≤ l.start.inState then { l with start := { l.start with discovered := true } } else l

/-- The end of pre-charge (R69): the bootstraps that were pulsed are checked at their voltages in mV, L00 first, then READY. -/
def Lane.prechargeEnd (l : Lane) (mv : List Nat) : Lane :=
  if l.start.state = .armed ∧ !l.start.ready ∧ l.cfg.lanePrechargeTime ≤ l.start.inState then
    let pulsed (i : LegId) : Bool := match l.cfg.axisOfLeg l.id i.val with | some n => !(l.ax n).absent | none => false
    let l := allLegs.foldl (fun l i =>
      let v := mv.getD i.val 0
      if l.cfg.refreshes i.val && pulsed i && decide ((v : Int) * 65536 < l.cfg.legGateBootUv i.val * 1000) then
        let l := l.raise .pwr003 (.leg i.val) v
        match l.cfg.axisOfLeg l.id i.val with
        | some n => l.modAx n fun a => { a with absentFault := true, role := .absent }
        | none => l
      else l) l
    { l with start := { l.start with ready := true } }
  else l

/-- Some partner showed ARMED and READY in the tick before, some showed OPERATE (R70). -/
def Lane.partners (l : Lane) : Bool × Bool :=
  let m (f : Marker → Bool) : Bool := l.id.others.any fun x => match (l.peerOf x).markerPrev with | some k => f k | none => false
  (m fun k => k.state == .armed && k.ready, m fun k => k.state == .operate)

/-- The epoch a late joiner takes for an axis (R561). -/
def Lane.lateEpoch (l : Lane) (n : AxisId) : Half :=
  let es := l.id.others.filterMap fun x => match l.entryPrev x n with | some e => if e.valid then some e else none | none => none
  match es.find? (·.role == .holder) with
  | some e => e.epoch
  | none =>
    match es with
    | [] => (l.ax n).epoch
    | e :: r => r.foldl (fun b x => if x.epoch ≠ b ∧ (x.epoch - b).toNat ≤ 32767 then x.epoch else b) e.epoch

/-- The holder of an axis that a late joiner sees. -/
def Lane.lateHolder (l : Lane) (n : AxisId) : Option LaneId :=
  l.id.others.find? fun x => match l.entryPrev x n with | some e => e.valid && e.role == .holder | none => false

/-- The lowest-lettered lane in OPERATE, from which a late joiner takes its loop phase (R233). -/
def Lane.phaseLead (l : Lane) : Option LaneId :=
  l.id.others.find? fun x => match (l.peerOf x).markerPrev with | some m => m.state == .operate | none => false

/-- The loop phase of a late joiner in its first tick in OPERATE, by the detailed state of tick n−1 of the lowest-lettered lane in OPERATE (R233); where that state did not arrive, one tick more from the state before it, and with neither its own counter stays (DESIGN CHOICE: the manual names no case without that state; log 165). -/
def Lane.joinPhase (l : Lane) : Lane :=
  if l.start.state = .operate ∧ l.start.inState = 0 ∧ l.start.entry = 2 then
    match l.phaseLead.bind fun x => (l.px.get x).detail with
    | some d => { l with bus := { l.bus with phase := (d.phase + 1) % 32 } }
    | none => l
  else l

/-- Entry into OPERATE (R70, R71, R72, R233, R423, R561): roles STANDBY, by node start or late join. DESIGN CHOICE: a late joiner that sees no holder of an axis knows no last holder, so its line starts at AXIS[n].SUCCESSION (log 173). -/
def Lane.operateEntry (l : Lane) : Lane :=
  let (ready, running) := l.partners
  if l.start.state ≠ .armed ∨ !l.start.readyPrev ∨ !(ready || running) then l
  else
    let node := !running
    let phase := if node then 0
      else match l.phaseLead.bind fun x => (l.px.get x).detailPrev with | some d => (d.phase + 2) % 32 | none => l.bus.phase
    let l := l.goto .operate
    let stop := l.id.others.any fun x => match (l.peerOf x).markerPrev with | some m => m.state == .operate && m.stop | none => false
    let l := { l with
      start := { l.start with time := l.start.ticks, entry := if node then 1 else 2 }
      bus := { l.bus with phase := phase }
      lease := { l.lease with firstTick := node, stopped := false }
      col := { l.col with opTicks := 0, stopS := if stop then some (l.tick.count - 1) else none, stopCause := if stop then 6 else 0 } }
    let l := l.mapAx fun n a =>
      if l.cfg.hasAxis n.val && !a.absent then
        { a with role := .standby, counter := 0, fresh := !node, heldBy := if node then none else l.lateHolder n
                 epoch := if node then a.epoch else l.lateEpoch n, lastRenew := l.tick.count, heldSince := l.tick.count }
      else { a with role := .absent }
    let l := { l with sup := l.sup.mapFin fun n s =>
      { s with mode := if l.cfg.kind n.val == AxisKind.feel then 4 else l.cfg.axisModeStart n.val, b := roundDiv (l.measured n * 65536) 1 } }
    let l := { l with prof := l.prof.mapFin fun n p => { p.atRest with x := l.measured n * 65536 } }
    if stop then l.raise .col010 .none 6 else l

/-! ## Ignition, power-down, wake -/

/-- Wake demand (R78). -/
def Lane.wakeDemand (l : Lane) : Bool := l.start.ign || l.start.wake

/-- Another lane showed OPERATE in the tick before. -/
def Lane.sawOperate (l : Lane) (x : LaneId) : Bool := match (l.peerOf x).markerPrev with | some m => m.state == .operate | none => false

/-- The counts of wake demand and standstill in a tick (R78 to R80, R559), with the pins as filtered. For R79 every lane, this one included, counts by what the marker of the tick before showed, so that lanes which see the same markers reach the same tick P; a tick without a valid marker of a lane starts that lane's count again (DESIGN CHOICE: the manual does not say). A lane that follows the flag of R80 sees it one tick after P. -/
def Lane.wakeTick (l : Lane) : Lane :=
  let d := l.wakeDemand
  let ops := l.id.others.filter l.sawOperate
  let differs (x : LaneId) : Bool :=
    l.start.state == .operate && l.sawOperate x && (match (l.peerOf x).markerPrev with | some m => (m.ign || m.wake) != d | none => false)
  let quietP := l.start.quietPeer.mapL fun x q =>
    match (l.peerOf x).markerPrev with
    | some m => if !m.ign && !m.wake && m.standstill then satInc 200001 q else 0
    | none => 0
  let anyOp := l.start.state == .operate || !ops.isEmpty
  let flag := l.id.others.any fun x => match (l.peerOf x).markerPrev with | some m => m.powerDown && m.state == .operate | none => false
  let s := l.start
  let follows := s.state != .operate && s.sinceP.isNone && flag
  { l with start := { s with
      wakeRun := s.wakeRun.mapL fun x k => if differs x then satInc 65535 k else 0
      opr001 := s.opr001.mapL fun x b => b && differs x
      quietOwn := if s.shown then satInc 200001 s.quietOwn else 0
      shown := !d && s.still
      quietPeer := quietP
      quietAlone := if anyOp || d then 0 else satInc 200001 s.quietAlone
      ignOff := if s.ign then 0 else satInc 40 s.ignOff
      sinceP := if follows then some 1 else s.sinceP.map (satInc 1000000) } }

/-- The lanes whose wake demand has disagreed for 40 ticks, not yet recorded for this episode (R78, R585). -/
def Lane.wakeDue (l : Lane) : List LaneId :=
  l.id.others.filter fun x => decide (40 ≤ l.start.wakeRun.get x) && !l.start.opr001.get x

/-- OPR-001 (R78, R585); its context value carries IGN in bit 0 and WAKE in bit 1 (DESIGN CHOICE: Table 3.6 names the two bits and gives no order). -/
def Lane.wakeDisagree (l : Lane) : Lane :=
  if l.wakeDue = [] then l
  else
    let due := l.wakeDue
    let l := l.raise .opr001 .none (b2i l.start.ign + 2 * b2i l.start.wake)
    { l with start := { l.start with opr001 := l.start.opr001.mapL fun x b => b || due.contains x } }

/-- Power-down tick P (R79, R80). -/
def Lane.powerDown (l : Lane) : Lane :=
  let ops := l.id.others.filter l.sawOperate
  let quiet := b2n (decide (200000 ≤ l.start.quietOwn)) + (ops.filter fun x => 200000 ≤ l.start.quietPeer.get x).length
  if l.start.state = .operate ∧ l.start.sinceP.isNone ∧ (2 ≤ quiet ∨ (ops = [] ∧ quiet = 1)) then
    let l := { l with
      start := { l.start with sinceP := some 0, operateAtP := (PerLane.fill false).mapL fun x _ => decide (x = l.id) || ops.contains x }
      chas := { l.chas with holdP := some (l.prefOf l.cfg.brakeValveLeft, l.prefOf l.cfg.brakeValveRight, l.prefOf l.cfg.brakeValveTrailer), park := false } }
    allAxes.foldl (fun l n => if l.cfg.kind n.val = .steer ∧ l.commands n then l.holdSteer n else l) l.driveInhibit
  else l

/-- A low-power state entered: counters clear, holds end, ALIVE freezes (R80, R409); in SLEEP the disconnect is open (R569). -/
def Lane.lowPower (l : Lane) (st : LState) : Lane :=
  let l := (l.goto st).clearCounters
  { l with
    pwm := l.pwm.mapFin fun _ w => { w.stop with hold := 0 }
    leg := l.leg.mapFin fun _ x => x.stop
    start := { l.start with drvinh := false, ready := false, listenTicks := 0 }
    sup22 := { l.sup22 with isOpen := l.sup22.isOpen || st == .sleep, holdup := l.sup22.holdup && st != .sleep }
    gat := { l.gat with idPower := false }
    col := { l.col with frozen := true } }

/-- The listening lane of R82. -/
def Lane.listens (l : Lane) : Bool :=
  l.cfg.laneLowpower == 1 &&
  (let want := LaneId.ofMod l.cfg.laneListenLane
   let first := if l.start.operateAtP.get want then some want else LaneId.all.find? fun x => l.start.operateAtP.get x
   first == some l.id)

/-- Everything waiting is written to the journal, θ of every motor axis included (R80, R247). -/
def Lane.flushJournal (l : Lane) : Lane :=
  let recs := l.col.toJournal
  let n := { l.nvm with
    events := (let e := l.nvm.events ++ recs; e.drop (e.length - 4096)), eventNext := (l.nvm.eventNext + recs.length) % 4096
    theta := l.nvm.theta.mapFin fun i x => if l.cfg.motor i.val then x.write (l.loop.get i).theta else x }
  { l with col := { l.col with toJournal := [] }, nvm := n }

/-- LANE.PARK_WAIT after P has expired (R80 to R82). -/
def Lane.parkWaitEnd (l : Lane) : Lane :=
  match l.start.sinceP with
  | some k =>
    if l.cfg.laneParkWait ≤ k ∧ l.start.state.code ≥ 3 ∧ l.start.state ≠ .sleep ∧ l.start.state ≠ .listen then
      let listen := l.start.state == .operate && l.listens
      let l := { l with lease := { l.lease with stopped := true } }
      (l.flushJournal).lowPower (if listen then .listen else .sleep)
    else l
  | none => l

/-- A lane that sees no lane in OPERATE sleeps after 5 s without wake demand (R80). -/
def Lane.sleepTimeout (l : Lane) : Lane :=
  let alone : Bool := match l.start.state with
    | .gather | .align | .armed | .stopped | .safe | .unsealed => true
    | _ => false
  if 200000 ≤ l.start.quietAlone ∧ alone then (l.flushJournal).lowPower .sleep
  else l

/-- LANE.LISTEN.MAXTIME expires (R82). -/
def Lane.listenTimeout (l : Lane) : Lane :=
  if l.start.state = .listen ∧ l.cfg.laneListenMaxtime ≠ 0 ∧ l.cfg.laneListenMaxtime * 40000 ≤ l.start.listenTicks then l.lowPower .sleep else l

/-- The lane wakes on a condition of R83. -/
def Lane.wakes (l : Lane) (w : WakeBy) : Bool :=
  match l.start.state, w with
  | .sleep, .demand | .listen, .demand => l.wakeDemand
  | .listen, .frame id => (id &&& l.cfg.laneWakeMask) == (l.cfg.laneWakeId &&& l.cfg.laneWakeMask)
  | .sleep, .dominant => l.cfg.laneWakeCan
  | .sleep, .linkPattern | .listen, .linkPattern => true
  | _, _ => false

/-- A wake condition (R83). -/
def Lane.wakeUp (l : Lane) (w : WakeBy) : Lane :=
  if l.wakes w then
    let r := l.reset .wake
    { r with start := { r.start with wakePattern := true }, sup22 := { r.sup22 with isOpen := false } }
  else l

/-- The ignition flag and the ignition cycle at a close (R559). -/
def Lane.ignitionClose (l : Lane) : Lane :=
  let g := l.nvm.ignition.read {}
  if 3 ≤ l.start.state.code ∧ l.start.state ≠ .sleep ∧ l.start.state ≠ .listen then
    if l.start.ign ∧ g.flag then
      { l with nvm := { l.nvm with recoveries := l.nvm.recoveries.write {}, ignition := l.nvm.ignition.write { flag := false, cycles := g.cycles + 1 } } }
    else if !g.flag ∧ l.chas.still ∧ 40 ≤ l.start.ignOff then
      { l with nvm := { l.nvm with ignition := l.nvm.ignition.write { g with flag := true } } }
    else l
  else l

/-! ## Supply (chapter 22) -/

/-- The disconnect opens on overvoltage (R569); a lane that l_RESETN holds in OFF raises nothing. -/
def Lane.disconnectOpen (l : Lane) (v : Q) : Lane :=
  if l.sup22.isOpen ∨ (l.start.state = .off ∧ !l.start.supplyUp) then l
  else if l.start.state = .off then { l with sup22 := { l.sup22 with isOpen := true } }
  else { l.raise .sup002 .none (roundDiv (v * 1000) 65536) with sup22 := { l.sup22 with isOpen := true, holdup := true, vsup := v } }

/-- Still open after 40 µs: treated as a brown-out (R569). -/
def Lane.holdupExpiry (l : Lane) : Lane := if l.sup22.isOpen ∧ l.start.state ≠ .sleep ∧ (l.start.state ≠ .off ∨ l.start.supplyUp) then l.brownOut else l

/-- The disconnect re-closes (R569): the lane runs on, or resets with kind BROWN-OUT. -/
def Lane.disconnectClose (l : Lane) : Lane :=
  if l.sup22.isOpen ∧ l.start.state ≠ .sleep then
    let l := { l with sup22 := { l.sup22 with isOpen := false, holdup := false } }
    if l.start.state = .off ∧ l.start.brown then
      let l := { l with start := { l.start with supplyUp := true } }
      if l.start.resetnLow then l else l.reset .brownOut
    else l
  else l

/-- The supply and temperature of a boundary (R570, R578, Table 22.9). -/
def Lane.supplyTick (l : Lane) (i : SupIn) : Lane :=
  let s := l.sup22
  let low := decide (i.vg < 688128)
  let hot := if 1450 < i.tj then true else if i.tj < 1400 then false else s.hot
  let too := decide (1600 < i.tj)
  let bad := decide (50 < absI i.refDev)
  let run := decide (2 ≤ l.start.state.code) && l.start.state != .sleep
  let m := { s with vsup := i.vsup, vg := i.vg, tj := i.tj }
  -- the monitors run from SELFTEST on: what holds as they begin is an occurrence of its own (R570, R578); the reference is the self-test's in SELFTEST (R62)
  if !run then { l with sup22 := { m with lim0 := false, lim1 := false, vgLow := false, hot := false, tooHot := false, refBad := false } }
  else
    let l := { l with sup22 := { m with lim0 := i.lim0, lim1 := i.lim1, vgLow := low, hot := hot, tooHot := too, refBad := bad && l.start.state != .selftest } }
    let l := if i.lim0 && !s.lim0 then l.raise .sup003 .none 0 else l
    let l := if i.lim1 && !s.lim1 then l.raise .sup003 .none 1 else l
    let l := if low && !s.vgLow then l.raise .sup004 .none (roundDiv (i.vg * 1000) 65536) else l
    let l := if bad && !s.refBad && l.start.state != .selftest then l.raise .sup020 .none i.refDev else l
    let l := if hot && !s.hot then l.raise .thm010 .none i.tj else l
    if too && !s.tooHot then l.raise .thm011 .none i.tj else l

/-! ## Health list and ALIVE (R407 to R409) -/

/-- An event raised unless it was raised in the same tick already. -/
def Lane.raiseOnce (l : Lane) (ev : Ev) (v : Int) : Lane :=
  if l.col.raised.any fun r => r.ev == ev then l else l.raise ev .none v

/-- An event of Table 2.4, whose context is the whole word, raised unless it was raised in the same tick already. -/
def Lane.raiseWordOnce (l : Lane) (ev : Ev) (v : Int) : Lane :=
  if l.col.raised.any fun r => r.ev == ev then l else l.raiseWord ev v

/-- l_ALIVE toggles in this state (Table 3.1). -/
def aliveState : LState → Bool
  | .gather | .align | .armed | .operate | .stopped | .unsealed => true
  | _ => false

/-- The collector closes ticks in this state: those in which l_ALIVE toggles, and SAFE (R402, R412). -/
def closesTicks (s : LState) : Bool := aliveState s || s == .safe

/-- The health list of step 5 and the ALIVE toggle (R407, R409). -/
def Lane.healthCheck (l : Lane) : Lane :=
  let t := l.tick
  let lock := l.col.lockstep
  let dev := decide (100 < absI t.deviation)
  let l := match lock with | some a => l.raiseOnce .cor003 a | none => l
  let l := if 0 < t.overFence then l.raiseWordOnce .tim003 t.overFence else l
  let l := if 0 < t.overPublish then l.raiseWordOnce .tim005 t.overPublish else l
  let l := match l.col.datapath with | some w => l.raiseOnce .cor010 w | none => l
  let l := match l.col.parity with | some r => l.raiseOnce .col001 r | none => l
  let l := if dev then l.raiseWordOnce .tim007 t.deviation else l
  let pass := lock.isNone && t.overFence == 0 && t.overPublish == 0 && l.col.datapath.isNone && l.col.parity.isNone && !dev && !l.unackedHigh
  let l := if dev then { l with col := { l.col with frozen := true } } else l
  if !aliveState l.start.state ∨ l.col.frozen then { l with col := { l.col with skipped := false } }
  else { l with col := { l.col with alive := if pass then !l.col.alive else l.col.alive, skipped := !pass } }

/-- A tick loss (R120): every counter clears, TIM-007, SAFE at once (R402). -/
def Lane.tickLoss (l : Lane) (deviation : Int) : Lane :=
  if 100 < absI deviation ∧ closesTicks l.start.state then
    let l := { l with tick := { l.tick with deviation := deviation }, col := { l.col with frozen := true } }
    ((l.raiseWord .tim007 deviation).clearCounters).enterSafe .l3
  else l

/-- The cores have not closed a tick by the next boundary (R408): the command comes in the tick after, and the event names the tick that was not closed. -/
def Lane.tickNotClosed (l : Lane) : Lane :=
  if !l.start.closed ∧ closesTicks l.start.state then
    (l.raise .cor002 .none ((l.tick.count : Int) - 1)).enterSafe .l3
  else l

/-- A parity or ECC error in the collector's registers (R406). -/
def Lane.collectorError (l : Lane) (register : Nat) : Lane :=
  if !closesTicks l.start.state then l
  else
    let l := { l with col := { l.col with parity := some register } }
    let l := l.raise .col001 .none register
    if l.cfg.faultCollectorDirect then l.enterSafe .l3 else l

/-! ## Controlled stop (R421 to R425) -/

/-- An operator input has fewer than two valid elements, or a lasting pair disagreement (Table 15.6, cause 3). -/
def Lane.inputLost (l : Lane) : Bool :=
  [(0 : Fin 8), 1, 2].any fun i =>
    2 ≤ l.cfg.sensorLanes i.val &&
    (let s := l.chas.sensors.get i
     let others := l.id.others.filter fun x =>
       l.counts x && (match (l.px.get x).detail with | some d => (d.elems.get i).isSome | none => false)
     (b2n (!s.failed) + others.length < 2) || (s.pair && decide (l.cfg.faultStopDisagree ≤ s.pairTicks)))

/-- The causes of Table 15.6 this lane sees, lowest first. -/
def Lane.stopCauses (l : Lane) : List Nat :=
  let flag (f : Marker → Bool) : Bool := l.id.others.any fun x => match (l.peerOf x).marker with | some m => f m | none => false
  let c1 : Bool := decide (l.service ≤ 1)
  let c2 : Bool := l.cfg.axes.any fun n => l.axisLevel n == 1
  let c3 : Bool := decide (2 ≤ l.col.opTicks) && l.inputLost
  let c4 : Bool := l.cfg.axes.any l.orphaned
  let c5 : Bool := flag fun m => m.nodeStop
  let c6 : Bool := flag fun m => m.stop && m.state == .operate
  [(c1, 1), (c2, 2), (c3, 3), (c4, 4), (c5, 5), (c6, 6)].filterMap fun (x : Bool × Nat) => if x.1 then some x.2 else none

/-- The controlled stop starts, or reaches standstill, at the close of a tick (R421, R424). -/
def Lane.stopClose (l : Lane) : Lane :=
  if l.start.state ≠ .operate then l
  else
    let seen := l.col.nodeStopSeen || l.id.others.any fun x => match (l.peerOf x).marker with | some m => m.nodeStop | none => false
    let l := { l with col := { l.col with opTicks := satInc 65535 l.col.opTicks, nodeStopSeen := seen } }
    match l.col.stopS, l.stopCauses with
    | none, c :: cs =>
      -- the flag of a stop in progress seen in the first tick in OPERATE: s is the tick before (R423)
      if l.col.opTicks = 1 ∧ (c :: cs).contains 6 then
        let l := l.raise .col010 .none 6
        { l with col := { l.col with stopS := some (l.tick.count - 1), stopCause := 6 } }
      else
        let l := l.raise .col010 .none c
        { l with col := { l.col with stopS := some l.tick.count, stopCause := c } }
    | _, _ => l

/-- Standstill reached in a stop: the park release ends and every STEER axis changes to HOLD (R424, R389). -/
def Lane.stopStands (l : Lane) : Lane :=
  if l.col.stopStill.isSome then l
  else
    let l := { l with col := { l.col with stopStill := some l.tick.count }, chas := { l.chas with park := false, parkDecel := false, opr025 := false } }
    allAxes.foldl (fun l n =>
      if l.cfg.kind n.val = .steer ∧ l.commands n then l.modSup n fun s => { s with reqs := s.reqs ++ [{ mode := 3, prio := 2 }] } else l) l

/-- The stop sees vehicle standstill (R424). -/
def Lane.stopStandstill (l : Lane) : Lane :=
  match l.col.stopS with
  | some s => if s < l.tick.count ∧ l.chas.still ∧ l.start.state = .operate then l.stopStands else l
  | none => l

/-- FAULT.STOP.TMAX after tick s (R424). -/
def Lane.stopTimeout (l : Lane) : Lane :=
  match l.col.stopS with
  | some s => if s + l.cfg.faultStopTmax * 40000 ≤ l.tick.count ∧ l.start.state = .operate then l.stopStands else l
  | none => l

/-- FAULT.STOP.THOLD after standstill: COL-011, SAFE, LOW holds on the motor triads (R425). -/
def Lane.stopHoldEnd (l : Lane) : Lane :=
  match l.col.stopStill with
  | some t =>
    if t + l.cfg.faultStopThold * 40000 ≤ l.tick.count ∧ l.start.state = .operate ∧ l.start.sinceP.isNone ∧ !(l.col.raised.any fun r => r.ev == .col011) then
      let l := l.raise .col011 .none ((l.tick.count - t) / 40000 : Nat)
      { l with
        pwm := l.pwm.mapFin fun n w =>
          if l.cfg.motor n.val && !(l.ax n).absent && !w.tripOff then { w with hold := 1, holdAt := 0 } else w }
    else l
  | none => l

/-! ## Commons -/

/-- The commons fails (R13, R399). -/
def Lane.commonsLost (l : Lane) : Lane :=
  if l.col.commonsUp ∧ 1 ≤ l.start.state.code ∧ l.start.state ≠ .sleep ∧ l.start.state ≠ .listen then
    let l := l.push { ev := .sup030, ctx := ctxOf .none 0, commons := true }
    { l with col := { l.col with commonsUp := false } }
  else { l with col := { l.col with commonsUp := false } }

/-- STATUS.LANE[l].STOP (Table 15.11). -/
def Lane.stopStatus (l : Lane) : Nat :=
  b2n l.col.stopS.isSome + 2 * l.col.stopCause + 16 * b2n l.col.stopStill.isSome + 32 * b2n l.col.nodeStopSeen

end Sys2Proof.Machine
end

