-- ==== Sys2Proof/Machine/Marver.lean ====
section
/-! DEFINITION. The marver: the continuous self-test of a lane in OPERATE (R142 to R144, R176, Tables 5.4 and 5.10). -/

namespace Sys2Proof.Machine

/-- The legs of the axes this lane is STANDBY for, in leg order (R142). -/
def Lane.marverLegs (l : Lane) : List Nat :=
  (List.range 16).filter fun i =>
    match l.cfg.axisOfLeg l.id i with | some n => l.roleOf n == .standby | none => false

/-- A channel counts quadrature steps (R173). -/
def Cfg.quad (c : Cfg) (ch : Nat) : Bool := decide (ch < 4) && (c.feedbackMode ch == 1 || c.feedbackMode ch == 2)

/-- UNCERT of a channel; 0 of one that counts no quadrature steps. -/
def Lane.uncertOf (l : Lane) (ch : Nat) : Nat := if l.cfg.quad ch then (l.fbk.getD ch {}).uncert else 0

/-- The measured position of an axis whose position channel is a quadrature channel in working order, with the widening its UNCERT gives (R176). -/
def Lane.quadPos (l : Lane) (n : AxisId) : Option (Int × Int) :=
  let c := l.cfg
  let ch := c.axisLoopPosCh n.val
  if c.motor n.val && !(l.ax n).absent && c.owns n.val ch && c.quad ch && !l.chanFailed ch then
    some (l.measured n, (l.uncertOf ch : Int) * absI (c.axisLoopPosScale n.val))
  else none

/-- The widening of a sensor instance on a quadrature channel (R176). -/
def Lane.sensorWiden (l : Lane) (i : Fin 8) : Q :=
  match l.cfg.sensorCh l.id i.val with
  | some ch => (l.uncertOf ch : Int) * absI (if i.val = 0 then l.cfg.sensorSteerScale else l.cfg.sensorBrakeScale i.val)
  | none => 0

/-- What this lane carries for R176. -/
def Lane.quadShare (l : Lane) : QuadShare := { axes := Tab.ofFn l.quadPos, sensors := Tab.ofFn l.sensorWiden }

/-- The items of a test group on this lane, in ascending order (Table 5.4); group 8 takes the sensor instances, then the quadrature position channels as items 8 + n. -/
def Lane.marverItems (l : Lane) (g : Nat) : List Nat :=
  match g with
  | 1 | 3 | 4 => l.marverLegs
  | 2 => l.marverLegs.filter fun i => l.cfg.refreshes i
  | 5 => [0]
  | 6 => [4, 5].filter fun c => l.cfg.feedbackMode c != 0
  | 7 => (List.range 3).filter fun k => l.id.others.any fun x => l.id.link x == k
  | 8 =>
    ((List.range 8).filter fun i => !(l.chas.sensors.getD i {}).failed && (l.cfg.sensorCh l.id i).isSome) ++
    ((List.finRange 12).filter fun n => (l.quadPos n).isSome).map fun n => 8 + n.val
  | _ => []

/-- The next item at or after a place in the cycle, with the group it stands in; none at the end of the cycle. -/
def Lane.marverNext (l : Lane) : Nat → Nat → Nat → Option (Nat × Nat)
  | 0, _, _ => none
  | k + 1, g, i =>
    match (l.marverItems g).find? fun x => i ≤ x with
    | some x => some (g, x)
    | none => if g < 8 then l.marverNext k (g + 1) 0 else none

/-- The axes an item of group 8 serves: an operator's or wheel's sensor serves the axes that follow its demand. -/
def Cfg.sensorAxes (c : Cfg) (i : Nat) : List Nat :=
  (allAxes.filter fun n =>
    match c.kind n.val with | .steer | .feel => decide (i = 0) | .valve => decide (i ≠ 0) | _ => false).map (·.val)

/-- Values compared within a band that the UNCERT of each widens (R143, R176): no failure, an outlier among three lanes, or two lanes that disagree. -/
def crossOut (band : Int) (own : Int × Int) (others : List (Int × Int)) : Option Level :=
  let band := band + own.2 + (others.map (·.2)).foldl (· + ·) 0
  match others with
  | [x, y] => if band < absI (own.1 - roundDiv (median2 [own.1, x.1, y.1]) 2) then some .l2 else none
  | [x] => if band < absI (own.1 - x.1) then some .l0 else none
  | _ => none

/-- The outcome of group 8 on a sensor: no failure, an outlier among three lanes, or two lanes that disagree (R143). -/
def Lane.marverCross (l : Lane) (i : Fin 8) : Option Level :=
  let own := (l.chas.sensors.get i).prev.getD (l.chas.sensors.get i).value
  let others := l.id.others.filterMap fun x =>
    if l.counts x then
      (match (l.px.get x).detail with
       | some d => (d.elems.get i).map fun v => (v, match (l.px.get x).quads with | some q => q.sensors.get i | none => 0)
       | none => none)
    else none
  crossOut (l.cfg.sensorBand i.val) (own, l.sensorWiden i) others

/-- The outcome of group 8 on a quadrature position channel: its cross-check band is LOOP.XCHK.BAND of its axis (R176; DESIGN CHOICE: the manual names no other band for such a channel). -/
def Lane.quadCross (l : Lane) (n : AxisId) : Option Level :=
  match l.quadPos n with
  | none => none
  | some own =>
    crossOut ((l.cfg.axisLoopXchkBand n.val : Int) * 65536) own (l.id.others.filterMap fun x =>
      if l.counts x then (match (l.px.get x).quads with | some q => q.axes.get n | none => none) else none)

/-- An event of the marver tied to the axes its item serves: its instance is the axis where the item serves one, and none where it serves several or none (R143, R150). -/
def Lane.raiseMarver (l : Lane) (ev : Ev) (v : Int) (lv : Level) (axes : List Nat) : Lane :=
  l.raiseFor ev (match axes with | [n] => .axis n | _ => .none) v lv axes

/-- The test of an item: the event its second consecutive failure raises, or none where it passes (Tables 5.4 and 5.10). -/
def Lane.marverTest (l : Lane) (g i : Nat) (m : MarverIn) : Option (Lane → Lane) :=
  match g with
  | 1 =>
    let e := l.lease.marver.learnt.getD i 0
    if absI e < 4 * absI (m.value - e) then some fun l => l.raise .pwr020 (.leg i) (roundDiv ((m.value - e) * 100) e) else none
  | 2 => if m.value * 65536 < l.cfg.legGateBootUv i * 1000 then some fun l => l.raise .pwr021 (.leg i) m.value else none
  | 3 => if 400 < absI m.value then some fun l => l.raise .pwr022 (.leg i) m.value else none
  | 4 => if m.soft && m.hard then none else some fun l => l.raise .pwr023 (.leg i) (b2i m.soft)
  | 5 => if 50 < absI m.value then some fun l => l.raise .sup020 .none m.value else none
  | 6 =>
    if 10 < absI (m.value - 100) then
      some fun l => l.raiseMarver .fbk020 m.value .l2 (l.cfg.owners i)
    else none
  | 7 => if m.echoed then none else some fun l => l.raise .lnk020 .none i
  | 8 =>
    if h : i < 8 then
      match l.marverCross ⟨i, h⟩ with
      | some lv => some fun l => l.raiseMarver .fbk021 (sensorCode i) lv (l.cfg.sensorAxes i)
      | none => none
    else if h : i - 8 < 12 then
      match l.quadCross ⟨i - 8, h⟩ with
      | some lv => some fun l => l.raiseMarver .fbk021 (Config.unnamedCause (24 + (i - 8))) lv [i - 8]
      | none => none
    else none
  | _ => none

/-- The failing groups without one of them. -/
def clearGroup (f g : Nat) : Nat := if f.testBit (g - 1) then f - 2 ^ (g - 1) else f

/-- The marver moved to an item: a group that ends shows whether one of its items failed twice, and a group passed over because it has no item shows no failure (Table 5.7, byte 44). -/
def Marver.enter (m : Marver) (g i : Nat) : Marver :=
  if g = m.group then { m with item := i }
  else
    let f := ((List.range 9).filter fun k => m.group ≤ k && decide (k < g)).foldl clearGroup m.failing
    { m with group := g, item := i, failing := if m.bad then f + 2 ^ (m.group - 1) else f, bad := false, retry := false }

/-- The end of a cycle (R144). -/
def Marver.finish (m : Marver) : Marver :=
  let m := m.enter 9 0
  { m with group := 1, item := 0, count := (m.count + 1) % 65536, time := min 65535 (m.ticks / 40), ticks := 0, late := false }

/-- One slice of the marver (R142, R143): a failure is repeated in the next slice, and its second raises the event. -/
def Lane.marverSlice (l : Lane) (x : MarverIn) : Lane :=
  let put (l : Lane) (m : Marver) : Lane := { l with lease := { l.lease with marver := m } }
  let m := l.lease.marver
  match l.marverNext 9 m.group m.item with
  | none => put l m.finish
  | some (g, i) =>
    let m := if g = m.group ∧ i = m.item then m else { m.enter g i with retry := false }
    let m := if h : g = 1 ∧ i < 16 then { m with probe := some ⟨i, h.2⟩ } else m
    match l.marverTest g i x with
    | none => put l { m with item := i + 1, retry := false }
    | some ev =>
      if m.retry then
        put (ev l) { m with item := i + 1, retry := false, bad := true
                            failing := if m.failing.testBit (g - 1) then m.failing else m.failing + 2 ^ (g - 1) }
      else put l { m with retry := true }

/-- The marver in a tick: its cycle time counts, and a slice runs where best-effort work has one (R142, R144). -/
def Lane.marverTick (l : Lane) (x : Option MarverIn) : Lane :=
  if l.start.state ≠ .operate then l
  else
    let m := l.lease.marver
    let l := { l with lease := { l.lease with marver := { m with ticks := satInc (2 ^ 32 - 1) m.ticks, probe := none } } }
    match x with | some i => l.marverSlice i | none => l

/-- LSE-008: a cycle has not ended 4.0 s after it began (R144). -/
def Lane.marverTimeout (l : Lane) : Lane :=
  let m := l.lease.marver
  if l.start.state = .operate ∧ 160000 ≤ m.ticks ∧ !m.late then
    let l := l.raise .lse008 .none (m.ticks / 40 : Nat)
    { l with lease := { l.lease with marver := { m with late := true } } }
  else l

end Sys2Proof.Machine
end

