-- ==== Sys2Proof/Machine/Gather.lean ====
section
/-! DEFINITION. The end of GATHER: identity memories, calibration, the gathered configuration, and the state the lane goes to (R63, R88, R89, R104 to R114, R535, R557, R558). -/

namespace Sys2Proof.Machine

/-! ## Identity memories -/

/-- A calibration area of 96 bytes, tag bytes 96 to 191, of a tag of a kind is valid (R112, R535). -/
def calValid (kind : Nat) (a : List Byte) : Bool :=
  beNat (slice a 0 2) != 0 && crc16 (a.take 94) == beNat (slice a 94 2) &&
    (kind != 6 || decide (65536 ≤ toSigned 32 (beNat (slice a 12 4)) - toSigned 32 (beNat (slice a 8 4))))

/-- The journal copy of a calibration for a tag (R112). -/
def Nvm.calCopy (m : Nvm) (t : TagBytes) : Option (List Byte) :=
  (m.cals.filterMap NvItem.read?).findSome? fun c => if c.key = slice t 4 23 then some c.data else none

/-- The objects a tag's values replace, with the values (R108, R111, R168, Table 4.7). -/
def Cfg.tagValues (c : Cfg) (e : Nat) (t : TagBytes) : List (Nat × Int) :=
  let src := c.expSource e
  let u (off n : Nat) : Int := (beNat (slice t off n) : Nat)
  let q (off den : Nat) : Int := roundDiv (u off 2 * 65536) den
  let n := e / 0x10000 % 0x100
  let motor := e / 0x1000000 = 0x10 ∧ e % 0x10000 = 0x30 ∧ c.motor n
  let valve := e / 0x1000000 = 0x10 ∧ e % 0x10000 = 0x30 ∧ c.kind n = .valve
  let pick (b : Nat) (xs : List (Nat × Int)) : List (Nat × Int) := if src.testBit b then xs else []
  (if motor then
    pick 0 [(inst 0x17000001 n, u 28 1)] ++ pick 1 [(inst 0x17000002 n, q 30 10)] ++ pick 2 [(inst 0x17000003 n, q 32 10)] ++
    pick 3 [(inst 0x17000004 n, q 34 10)] ++ pick 4 [(inst 0x17000005 n, q 36 100)] ++
    pick 5 [(inst 0x10000005 n, q 40 100), (inst 0x10000006 n, q 38 100)] ++
    pick 10 [(inst 0x17000015 n, (u 70 2 + 256 * u 26 1 * u 27 1) % 65536)]
   else []) ++
  (if valve then pick 6 [(inst 0x10000007 n, u 42 2), (inst 0x10000008 n, u 44 2), (inst 0x10000009 n, u 46 2)] else []) ++
  (List.range 16).flatMap fun ch =>
    if c.feedbackTagref ch ≠ e then []
    else
      pick 7 (if ch < 4 ∧ (c.feedbackMode ch = 1 ∨ c.feedbackMode ch = 2) then [(inst 0x13000005 ch, u 64 2)] else []) ++
      pick 8 (if ch < 4 ∧ c.feedbackMode ch = 3 then [(inst 0x13000010 ch, u 66 2), (inst 0x13000011 ch, u 68 1)] else []) ++
      pick 9 (if ch = 4 ∨ ch = 5 then [(inst 0x13000051 ch, u 69 1)] else []) ++
      pick 11 (if 8 ≤ ch then [(inst 0x13000071 ch, toSigned 32 (beNat (slice t 72 4))), (inst 0x13000072 ch, toSigned 32 (beNat (slice t 76 4)))] else [])

/-- What reading an expectation's tag gives (R110). -/
structure TagResult where
  /-- KIND object ID of the expectation. -/
  exp : Nat
  /-- The accepted tag's bytes 0 to 191, with the calibration area in use. -/
  tag : Option TagBytes := none
  /-- The area in use is valid. -/
  cal : Bool := false
  /-- It came from the journal copy. -/
  journal : Bool := false
  /-- The event raised. -/
  ev : Option Ev := none
  /-- Bytes 0 to 191 of the accepted tag as its memory holds them (R114). -/
  own : List Byte := []
deriving DecidableEq, Repr

/-- One expectation judged on a lane: the first condition that holds decides (R110, R112). -/
def Cfg.judgeTag (c : Cfg) (lane : LaneId) (m : Nvm) (bus : IdBus) (e : Nat) : TagResult :=
  let addr := ((c.arr (e + 3) []).getD lane.code 0).toNat
  match (bus.find? (·.1 == addr)).map (·.2) with
  | none => { exp := e, ev := some .cfg012 }
  | some raw =>
    let t := raw.take 192
    let maker := c.nat (e + 1) 0
    let model := (c.arr (e + 2) (List.replicate 16 32)).map fun x => byteOf x.toNat
    let vals := c.tagValues e t
    let range := vals.all fun (v : Nat × Int) => match objDef? v.1 with | some o => o.inRange v.2 | none => false
    let n := e / 0x10000 % 0x100
    let icont :=
      match vals.find? (·.1 == inst 0x10000006 n), vals.find? (·.1 == inst 0x10000005 n) with
      | some a, some b => decide (2 * (a.2 * a.2) ≤ b.2 * b.2)
      | _, _ => true
    if slice t 0 2 ≠ beBytes 2 0x5A54 ∨ slice t 2 1 ≠ [1] ∨ crc16 (t.take 94) ≠ beNat (slice t 94 2) ∨ t.length < 192 then
      { exp := e, ev := some .cfg013 }
    else if beNat (slice t 3 1) ≠ c.expKind e ∨ (maker ≠ 0 ∧ beNat (slice t 4 2) ≠ maker) ∨ slice t 6 16 ≠ model then
      { exp := e, ev := some .cfg014 }
    else if !range ∨ !icont then { exp := e, ev := some .cfg015 }
    else
      let kind := c.expKind e
      let area := slice t 96 96
      let copy := (m.calCopy t).filter fun a => calValid kind a
      if calValid kind area then { exp := e, tag := some t, cal := true, own := t }
      else match copy with
        | some a => { exp := e, tag := some (t.take 96 ++ a), cal := true, journal := true, ev := some .cfg017, own := t }
        | none => if c.bool (e + 5) false then { exp := e, ev := some .cfg016 } else { exp := e, tag := some t, own := t }

/-- The tags of a lane, in the order of their expectations' object IDs (R110). -/
def Cfg.judgeTags (c : Cfg) (lane : LaneId) (m : Nvm) (bus : IdBus) : List TagResult :=
  (expectations.filter fun e => c.expKind e != 0 && c.ownerHw e lane.code).map (c.judgeTag lane m bus)

/-- An owner is unavailable on the lane: one of its tags was not accepted (R110). -/
def unavailable (ts : List TagResult) (owner : Nat) : Bool :=
  ts.any fun t => t.tag.isNone && t.exp / 0x10000 == owner

/-- The accepted tag of an expectation with its validity. -/
def tagOf (ts : List TagResult) (e : Nat) : Option TagResult := ts.find? fun t => t.exp == e && t.tag.isSome

/-- The KIND objects of the owners of tags in slot 0: the axes, then STEER[1] and BRAKE[1] to BRAKE[7] (R109). -/
def tagOwners : List Nat :=
  ((List.range 12).map fun n => inst 0x10000030 n) ++ [0x20010030] ++ (List.range 7).map fun i => inst 0x21000030 (i + 1)

/-- The connection index of a tag (Table 4.7). -/
def tagIndex (t : List Byte) : Nat := (t.getD 26 0).toNat

/-- The identity digest of an owner with the connection index of each slot (R114), over the bytes its memories hold. -/
def idDigest (ts : List TagResult) (owner : Nat) : IdDigest :=
  let slots := (List.range 3).map fun s => (tagOf ts (owner + 0x10 * s)).map (·.own)
  let body := slots.flatMap fun (x : Option (List Byte)) => match x with | some t => t.take 26 ++ slice t 27 67 ++ slice t 96 8 | none => []
  (BitVec.ofNat 32 (crc32c body), slots.map fun (x : Option (List Byte)) => x.map tagIndex)

/-- STATUS.AXIS[n].TAG[l] [6:0] after a gather (Table 4.10). -/
def tagStatOf (ts : List TagResult) (n : Nat) : Nat :=
  let slots := (List.range 3).map fun s => tagOf ts (inst 0x10000030 n + 0x10 * s)
  let has (f : TagResult → Bool) : Nat := b2n (slots.any fun x => match x with | some r => f r | none => false)
  let acc := (List.range 3).foldl (fun m s => m + 2 ^ s * b2n (slots.getD s none).isSome) 0
  let idx := match slots.getD 0 none with | some r => tagIndex r.own % 4 | none => 0
  acc + 8 * has (fun r => r.cal && !r.journal) + 16 * has (·.journal) + 32 * idx

/-! ## Calibration records (R535, Table 20.5) -/

/-- A signed 32-bit field of a tag. -/
def tagI32 (t : TagBytes) (off : Nat) : Int := toSigned 32 (beNat (slice t off 4))

/-- The origin C of a CENTRE_FIND record for an axis, pu (R222, R535). -/
def centreOrigin (ts : List TagResult) (n : Nat) : Int :=
  let slot (s : Nat) : Option TagResult := tagOf ts (inst 0x10000030 n + 0x10 * s)
  match [1, 2].findSome? fun s => (slot s).filter fun r => (r.tag.map fun t => (t.getD 3 0).toNat) == some 8 with
  | some r => if r.cal then tagI32 (r.tag.getD []) 112 else 0
  | none => match slot 0 with | some r => if r.cal then tagI32 (r.tag.getD []) 148 else 0 | none => 0

/-- The origin an axis starts with at gather: that of its record, but for a STEER axis whose position channel does not hold its position through power loss, an incremental one, whose origin comes only from a CENTRE_FIND that completes later (R535). -/
def Cfg.startOrigin (c : Cfg) (ts : List TagResult) (n : Nat) : Int :=
  if c.kind n = .steer ∧ c.axisLoopPosCh n < 4 then 0 else centreOrigin ts n

/-- The BRIDGE_TEST offset of an axis (R289). -/
def bridgeOffset (ts : List TagResult) (n : Nat) : Option Int :=
  match tagOf ts (inst 0x10000030 n) with
  | some r =>
    let t := r.tag.getD []
    if r.cal ∧ (t.getD 106 0).toNat % 64 = 0x3F then some (beNat (slice t 104 2) : Nat) else none
  | none => none

/-- The points of a VALVE_CHAR record. -/
def valvePoints (ts : List TagResult) (n : Nat) : Option (List Int × List Int) :=
  match tagOf ts (inst 0x10000030 n) with
  | some r =>
    let t := r.tag.getD []
    let k := (t.getD 104 0).toNat
    if r.cal ∧ 2 ≤ k ∧ k ≤ 8 then
      some ((List.range k).map fun i => tagI32 t (106 + 8 * i), (List.range k).map fun i => tagI32 t (110 + 8 * i))
    else none
  | none => none

/-- The SCALE and OFFSET a pedal record with CALREQ 1 gives (R535). -/
def Cfg.pedalCal (c : Cfg) (ts : List TagResult) : List (Nat × List Int) :=
  [1, 2].flatMap fun i =>
    let e := inst 0x21000030 i
    match tagOf ts e with
    | some r =>
      let t := r.tag.getD []
      let rel := tagI32 t 104
      let full := tagI32 t 108
      if r.cal ∧ c.bool (e + 5) false ∧ c.expKind e = 6 then
        let s := divQ (ofIntQ 100) (full - rel)
        [(inst 0x21000004 i, [s]), (inst 0x21000005 i, [-(mulQ rel s)])]
      else []
    | none => []

/-! ## The gather -/

/-- Everything a gather of an area gives: the image, the tags and the configuration, or a rejection (R104). -/
structure Gathered where
  /-- The image. -/
  img : Parsed
  /-- The tag results. -/
  tags : List TagResult
  /-- The configuration in use. -/
  cfg : Cfg
  /-- The load R51 judged, percent. -/
  load : Nat := 0
  /-- The engine cycles R257 judged. -/
  engine : Nat := 0
deriving DecidableEq, Repr

/-- An axis is ABSENT on the lane by its LEGS entry or its tags (R110, R156). -/
def Cfg.absentOn (c : Cfg) (lane : LaneId) (ts : List TagResult) (n : Nat) : Bool :=
  !c.hasAxis n || (c.startLeg lane n).isNone || unavailable ts (0x1000 + n)

/-- A rejected image, with the tag results of step 9 where the checks came that far (R104). -/
structure Rejected where
  /-- The failing check. -/
  why : Reject
  /-- The tag results. -/
  tags : List TagResult := []
deriving DecidableEq, Repr

/-- The checks of Table 4.6 on one area (R88, R104). -/
def Lane.gatherArea (l : Lane) (area : Nat) (bus : IdBus) : Except Rejected Gathered :=
  match gatherImage l.id l.nvm.flashId (fun off n => l.nvm.flash.readList (0x100000 * area + off) n) with
  | .error r => .error { why := r }
  | .ok img =>
    let c := laneCfg img.recs l.id.code
    let ts := c.judgeTags l.id l.nvm bus
    let good := ts.filter fun t => t.tag.isSome && !unavailable ts (t.exp / 0x10000)
    let c2 := c.over ((good.flatMap fun t => c.tagValues t.exp (t.tag.getD [])).map fun (v : Nat × Int) => (v.1, [v.2]))
    let others := ((List.range 3).filter fun i => img.head.mask.testBit i && i != l.id.code).map fun i => (LaneId.ofMod i, laneCfg img.recs i)
    let absent := c2.absentOn l.id ts
    match c2.crossBad l.id others absent fun n => unavailable ts (0x1000 + n) with
    | some i => .error { why := ⟨9, i⟩, tags := ts }
    | none =>
      match c2.loadBad (allAxes.filter fun n => !absent n.val) with
      | some x => .error { why := ⟨10, x⟩, tags := ts }
      | none =>
        let off := (List.range 12).filterMap fun n =>
          if c2.motor n && c2.axisCommOffsetCal n then (bridgeOffset ts n).map fun o => (inst 0x17000015 n, [o]) else none
        let dark := (List.range 16).filterMap fun ch =>
          let e := c2.feedbackTagref ch
          if e ≠ 0 ∧ unavailable ts (e / 0x10000) then some (inst 0x13000001 ch, [(0 : Int)]) else none
        let (w, e) := c2.loads (allAxes.filter fun n => !absent n.val)
        .ok { img := img, tags := ts, cfg := ((c2.over off).over (c2.pedalCal ts)).over dark, load := w.load, engine := e }

/-- The CFG event of a code number (Table 4.11). -/
def cfgEvent : Nat → Ev
  | 1 => .cfg001 | 2 => .cfg002 | 3 => .cfg003 | 4 => .cfg004 | 5 => .cfg005 | 6 => .cfg006 | 7 => .cfg007 | 8 => .cfg008
  | 9 => .cfg009 | _ => .cfg010

/-- The start value of θ: its last write in the journal, else THERM.RISE (R247, R556). -/
def Lane.startTheta (l : Lane) (n : AxisId) : Int :=
  (l.nvm.theta.get n).read ((l.cfg.axisLoopThermRise n.val : Int) * 2 ^ 48)

/-- The parts of a lane re-formed at a gather (R557, R558). -/
def Lane.freshParts (l : Lane) (origin : AxisId → Int) : Lane :=
  let c := l.cfg
  let l := { l with
    -- an absence that an L2 fault has made outlasts a FAULT RESTART and its gather, until the fault recovers (R401, R414)
    lease := { ax := Tab.ofFn fun n => { absentFault := (l.ax n).absentFault } }
    out := Tab.fill 12 {}
    prof := Tab.ofFn fun n => { c.freshProfile n.val with origin := origin n * 65536 }
    swNeg := Tab.fill 12 {}, swPos := Tab.fill 12 {}, stepIn := {}
    loop := Tab.ofFn fun n => { theta := l.startTheta n }
    sup := Tab.ofFn fun n => { mode := if c.kind n.val = AxisKind.feel then 4 else c.axisModeStart n.val }
    comm := Tab.fill 12 {}, pwm := Tab.fill 12 {}
    leg := Tab.ofFn fun i => c.freshLeg i.val
    evLine := Tab.fill 8 {}
    bus := { gateLow := l.bus.gateLow }
    chas := {}, detailOut := {}, shadowOut := Tab.fill 12 {} }
  l.freshFeedback

/-- The events of the tags of a gather (R110, R112). -/
def Lane.raiseTags (l : Lane) (ts : List TagResult) : Lane :=
  ts.foldl (fun l t => match t.ev with | some e => l.raiseWord e t.exp | none => l) l

/-- An accepted image taken into use (R63, R102, R535). -/
def Lane.takeImage (l : Lane) (g : Gathered) (raised : Bool) : Lane :=
  let c := g.cfg
  let ts := g.tags
  let slots (n : Nat) : List (Option TagResult) := (List.range 3).map fun s => tagOf ts (inst 0x10000030 n + 0x10 * s)
  let rec_ := if g.img.head.flags.testBit 0 then some (BitVec.ofNat 32 g.img.head.predecessor) else none
  let l := { l with gat :=
    { imageState := 2, cause := 0, sealVal := BitVec.ofNat 32 g.img.head.sealVal, cfg := c, fellBack := l.gat.fellBack || raised
      predecessor := rec_, idPower := l.gat.idPower
      tagStat := Tab.ofFn fun n => tagStatOf ts n.val
      ids := tagOwners.map fun o =>
        let k := o / 0x10000
        let up : Bool := if k / 0x100 = 0x10 then !c.absentOn l.id ts (k % 0x100) else c.ownerHw o l.id.code && !unavailable ts k
        if up then some (idDigest ts o) else none
      tags := Tab.ofFn fun n => (slots n.val).map fun (r : Option TagResult) => r.bind (·.tag)
      calJournal := Tab.ofFn fun n => (slots n.val).map fun (r : Option TagResult) => match r with | some t => t.journal | none => false
      sensorBad := Tab.ofFn fun i => unavailable ts (if i.val = 0 then 0x2001 else 0x2100 + i.val)
      sensorTags := Tab.ofFn fun i => (tagOf ts (if i.val = 0 then 0x20010030 else inst 0x21000030 i.val)).bind (·.tag)
      valveCurve := Tab.ofFn fun n => if c.kind n.val = AxisKind.valve then valvePoints ts n.val else none
      engineCalc := g.engine
      treact := Tab.ofFn fun k => c.reaction l.id (k.val + 1) } }
  let l := l.freshParts fun n => c.startOrigin ts n.val
  let l := { l with tick := { l.tick with loadMax := 0, loadCalc := g.load } }
  let l := l.mapAx fun n a => { a with absentHw := c.absentOn l.id ts n.val }
  let l := l.raiseTags ts
  let l := { l with can := { l.can with
    ctl := l.can.ctl.mapFin fun _ x => { err := x.err, tec := x.tec, rec_ := x.rec_, names := x.names }
    resetDue := false, distance := 0 }, job := { l.job with params := [] } }
  (l.startSources.freshFab).freshCar

/-- What a REGATHER leaves unchanged for a lane (R543). -/
def sameFrame (x y : Cfg) : Bool :=
  let ids := ((x ++ y).map (·.1)).filter fun i => let b := i / 0x1000000; b == 0x01 || b == 0x03 || b == 0x40
  ids.all (fun i => x.valueOf i == y.valueOf i) &&
  ((List.range 12).all fun n =>
    x.axisKind n == y.axisKind n && x.axisLegs n == y.axisLegs n && x.axisShare n == y.axisShare n && x.axisPwmPeriod n == y.axisPwmPeriod n &&
    x.axisLoopPhase n == y.axisLoopPhase n && x.axisLoopPosDiv n == y.axisLoopPosDiv n && x.axisLoopVelDiv n == y.axisLoopVelDiv n &&
    x.axisLoopPrsDiv n == y.axisLoopPrsDiv n && x.axisLoopSpdDiv n == y.axisLoopSpdDiv n) &&
  ((List.range 16).all fun i => x.legFunction i == y.legFunction i)

/-- A pending image keeps what R543 asks, compared against the image in the other area. -/
def Lane.regatherKeeps (l : Lane) (g : Gathered) (other : Nat) : Bool :=
  match gatherImage l.id l.nvm.flashId (fun off n => l.nvm.flash.readList (0x100000 * other + off) n) with
  | .error _ => false
  | .ok o =>
    o.head.mask % 8 == g.img.head.mask % 8 && o.head.role == g.img.head.role && o.head.node == g.img.head.node &&
    ((List.range 3).filter fun i => o.head.mask.testBit i).all fun i => sameFrame (laneCfg o.recs i) (laneCfg g.img.recs i)

/-- Reading and checking completes (R63, R89, R104, R543). -/
def Lane.gatherDone (l : Lane) (bus : IdBus) : Lane :=
  if l.start.state ≠ .gather ∨ l.gat.imageState ≠ 1 then l
  else
    let ar := l.nvm.areas.read {}
    let leave (l : Lane) : Lane :=
      let l := { l with gat := { l.gat with idPower := false } }
      if l.nvm.confirmed.read? = some l.gat.sealVal then
        let l := ((l.goto .align).alignSources).fabAlign
        { l with start := { l.start with discovered := false, digestsDone := false, equalSeal := false, outvoted := false, cfg020 := false, tim008 := false } }
      else l.goto .unsealed
    let active (l : Lane) : Lane :=
      match l.gatherArea ar.active bus with
      | .ok g => leave (l.takeImage g false)
      | .error r =>
        let l := (l.raiseTags r.tags).raiseWord (cfgEvent r.why.code) r.why.ctx
        { l with gat := { imageState := 3, cause := r.why.code, fellBack := l.gat.fellBack, idPower := l.gat.idPower } }
    let rg := (l.nvm.regather.read none).isSome
    let reject (l : Lane) (code : Nat) : Lane :=
      let l := { l with
        nvm := { l.nvm with areas := l.nvm.areas.write { active := ar.active, pending := false } }
        job := if rg then { l.job with rg := { l.job.rg with back := some 18 } } else l.job }
      active (l.raiseWord .cfg011 code)
    if !ar.pending then active l
    else match l.gatherArea (1 - ar.active) bus with
      | .ok g =>
        if rg && !l.regatherKeeps g ar.active then reject l (Config.unnamedCause 2)
        else
          let l := { l with nvm := { l.nvm with
            areas := l.nvm.areas.write { active := 1 - ar.active, pending := false }
            confirmed := if rg then l.nvm.confirmed.write (BitVec.ofNat 32 g.img.head.sealVal) else l.nvm.confirmed } }
          leave (l.takeImage g false)
      | .error r => reject (l.raiseTags r.tags) r.why.code

/-- STATUS.LANE[l].IMAGE.STATE (Table 4.10). -/
def Lane.imageStatus (l : Lane) : Nat :=
  let ar := l.nvm.areas.read {}
  l.gat.imageState % 4 + 4 * b2n l.nvm.confirmed.read?.isSome + 8 * b2n ar.pending + 16 * (ar.active % 2)

/-- STATUS.AXIS[n].TAG[l] (Table 4.10). -/
def Lane.tagStatus (l : Lane) (n : AxisId) : Nat := l.gat.tagStat.get n + 128 * b2n (l.gat.agreed.get n)

/-- A seal confirm command (R77, R103): the seal is written and the lane gathers again, or CFG-022. -/
def Lane.sealConfirm (l : Lane) (offered : Word) : Lane × Bool :=
  if l.start.state = .unsealed ∧ offered = l.gat.sealVal then
    let l := { l with nvm := { l.nvm with confirmed := l.nvm.confirmed.write offered } }
    let l := l.goto .gather
    ({ l with gat := { l.gat with imageState := 1, idPower := true } }, true)
  else (l.raiseWord .cfg022 offered.toNat, false)

end Sys2Proof.Machine
end

