-- ==== Sys2Proof/Machine/Serve.lean ====
section
/-! DEFINITION. Service messages and sessions (chapter 19, R510 to R517), image writing (R90), journal reading, acknowledgement. -/

namespace Sys2Proof.Machine

/-! ## Requests and responses -/

/-- The lane serves service requests in its state, while its cores run (R512). -/
def Lane.serves_ (l : Lane) : Bool :=
  !l.start.halted && (l.start.state != .safe || l.start.closed) &&
  match l.start.state with
  | .gather | .align | .armed | .operate | .stopped | .safe | .unsealed => true
  | _ => false

/-- A request names a lane (Table 19.4). -/
def SvcHdr.names (h : SvcHdr) (c : Cfg) (x : LaneId) : Bool := h.target == x.code || (h.target == 3 && c.maskHas x)

/-- The bytes of a response (Table 19.4). -/
def respBytes (h : SvcHdr) (code lane result : Nat) (data : List Byte) : List Byte :=
  [byteOf (code + 128), byteOf (lane % 4 + 4 * (h.tag % 64)), byteOf result, 0] ++ data

/-- A response of this lane: sent by the voice, else carried to it over the links (R512). -/
def Lane.respond (l : Lane) (h : SvcHdr) (code result : Nat) (data : List Byte) : Lane :=
  let bytes := respBytes h code l.id.code result data
  if l.can.voice then l.sendService h.can h.src bytes
  else { l with can := { l.can with resps := l.can.resps ++ [{ can := h.can, dst := h.src, data := bytes }] } }

/-- The voice's part in a request: LANE_ABSENT at once for a target without a valid marker for 8 ticks, else it awaits the response (R512). -/
def Lane.relay (l : Lane) (h : SvcHdr) (code : Nat) : Lane :=
  if !l.can.voice then l
  else
    l.id.others.foldl (fun l x =>
      if !h.names l.cfg x then l
      else if 8 ≤ (l.peerOf x).silent then l.sendService h.can h.src (respBytes h code x.code 7 [])
      else { l with can := { l.can with waits := l.can.waits ++ [{ h := h, code := code, lane := x, at_ := l.tick.count }] } }) l

/-- A response of another lane reaches the voice (R512). -/
def Lane.relayed (l : Lane) (from_ : LaneId) (r : SvcResp) : Lane :=
  if !l.can.voice then l
  else
    let code := (r.data.getD 0 0).toNat
    let tag := (r.data.getD 1 0).toNat / 4
    let waits := l.can.waits.filter fun w => !(w.lane == from_ && w.h.src == r.dst && w.code + 128 == code && w.h.tag % 64 == tag)
    ({ l with can := { l.can with waits := waits } }).sendService r.can r.dst r.data

/-- No response has reached the voice within 402 ticks: BUSY (R512). -/
def Lane.responseTimeout (l : Lane) : Lane :=
  let late := l.can.waits.filter fun w => w.at_ + 402 ≤ l.tick.count
  let l := { l with can := { l.can with waits := l.can.waits.filter fun w => l.tick.count < w.at_ + 402 } }
  late.foldl (fun l w => l.sendService w.h.can w.h.src (respBytes w.h w.code w.lane.code 5 [])) l

/-- A session is open for the requester (R514). -/
def Lane.inSession (l : Lane) (h : SvcHdr) : Bool := match l.can.session with | some s => s.src == h.src | none => false

/-- An accepted message from the session's address starts its idle time again (R514). -/
def Lane.touch (l : Lane) (h : SvcHdr) : Lane :=
  match l.can.session with
  | some s => if s.src = h.src then { l with can := { l.can with session := some { s with idle := 0 } } } else l
  | none => l

/-- What a service gives: the lane, the result of Table 19.6, the response data from byte 4. -/
abbrev Served := Lane × Nat × List Byte

/-- A service request that this lane receives (R510 to R512): executed and answered where it names this lane. -/
def Lane.serve (l : Lane) (h : SvcHdr) (code : Nat) (needS needW : Bool) (f : Lane → Served) : Lane :=
  let l := l.heardFrom h.can h.src
  if !l.isobus h.can ∨ h.dst ≠ (l.canCtl h.can).addr then l
  else
    let l := l.relay h code
    if !l.serves_ ∨ !h.names l.cfg l.id then l
    else if needS ∧ !l.inSession h then l.respond h code 2 []
    else if needW ∧ !l.start.workshop then l.respond h code 3 []
    else
      let (l, res, data) := f l
      (l.touch h).respond h code res data

/-- A refusal with the result or event number that refuses (Table 19.6). -/
def refused (l : Lane) (v : Nat) : Served := (l, 4, [byteOf v])

/-! ## Sessions (R513 to R515) -/

/-- The lane is locked out (R514). -/
def Lane.lockedOut (l : Lane) : Bool := l.can.locked.isSome

/-- The 16 random bytes of a challenge (R513): free values, one draw each. -/
def drawChallenge (draw : Nat) : List Byte := (List.range 16).map (Config.randomByte draw)

/-- A SESSION CHALLENGE, answered by the voice (R513, R514). -/
def Lane.challenge (l : Lane) (h : SvcHdr) : Lane :=
  let l := l.heardFrom h.can h.src
  if !l.isobus h.can ∨ h.dst ≠ (l.canCtl h.can).addr ∨ !l.can.voice then l
  else if l.lockedOut then l.respond h 0x10 8 []
  else
    match l.can.session with
    | some s =>
      if s.src ≠ h.src then l.respond h 0x10 5 []
      else
        let b := drawChallenge l.can.draws
        let l := { l with can := { l.can with
          draws := l.can.draws + 1, session := none, chal := some { src := h.src, bytes := b, at_ := l.tick.count } } }
        l.respond h 0x10 0 b
    | none =>
      let b := drawChallenge l.can.draws
      let l := { l with can := { l.can with draws := l.can.draws + 1, chal := some { src := h.src, bytes := b, at_ := l.tick.count } } }
      l.respond h 0x10 0 b

/-- A challenge recorded; a session of the same address ends (R514). -/
def Lane.putChallenge (l : Lane) (c : Challenge) : Lane :=
  let s := match l.can.session with | some s => if s.src = c.src then none else some s | none => none
  { l with can := { l.can with chal := some { c with at_ := l.tick.count, used := false }, session := s } }

/-- A challenge of the voice reaches another lane over the links (R513): a session of the same address ends; a lane locked out, or with a session of another address, does not take it (R514). -/
def Lane.takeChallenge (l : Lane) (c : Challenge) : Lane :=
  if l.lockedOut || (match l.can.session with | some s => s.src != c.src | none => false) then l
  else match l.can.chal with
  | some d => if d.bytes = c.bytes ∧ d.src = c.src then l else l.putChallenge c
  | none => l.putChallenge c

/-- The node session key (R515). -/
def Lane.sessionKey (l : Lane) : List Byte := l.nvm.key.read Config.initialKey

/-- The correct response to a challenge for a requester's address (R513); NAME is that of the node (R502; DEDUCED). -/
def Lane.macOf (l : Lane) (c : Challenge) (name : Nat) : List Byte :=
  (hmacSha256 l.sessionKey (c.bytes ++ [byteOf c.src] ++ leBytes 8 name)).take 16

/-- A wrong response counted (R514). -/
def Lane.wrongResponse (l : Lane) (h : SvcHdr) : Served :=
  if l.can.wrong + 1 < 3 then ({ l with can := { l.can with wrong := l.can.wrong + 1 } }, 4, [byteOf (l.can.wrong + 1)])
  else (({ l with can := { l.can with wrong := 0, locked := some l.tick.count } }).raise .net005 .none h.src, 8, [])

/-- A SESSION RESPONSE judged by this lane (R514). -/
def Lane.judgeResponse (l : Lane) (h : SvcHdr) (resp : List Byte) : Served :=
  match l.can.chal with
  | none => (l, 2, [])
  | some c =>
    if c.src ≠ h.src ∨ c.used ∨ c.at_ + 40000 ≤ l.tick.count then (l, 2, [])
    else
      let l := { l with can := { l.can with chal := some { c with used := true } } }
      if resp = l.macOf c (l.ownName h.can) then
        let s : Session := { src := h.src, name := getNode h.src (l.canCtl h.can).names, challenge := c.bytes }
        ({ l with can := { l.can with session := some s, wrong := 0 } }, 0, [])
      else l.wrongResponse h

/-- A SESSION RESPONSE (R514). -/
def Lane.sessionResponse (l : Lane) (h : SvcHdr) (resp : List Byte) : Lane :=
  l.serve h 0x11 false false fun l => if resp.length ≠ 16 then (l, 6, []) else l.judgeResponse h resp

/-- A SESSION CLOSE (R514). -/
def Lane.sessionClose (l : Lane) (h : SvcHdr) : Lane :=
  l.serve h 0x12 true false fun l => ({ l with can := { l.can with session := none } }, 0, [])

/-- A KEY CHANGE (R515). -/
def Lane.keyChange (l : Lane) (h : SvcHdr) (data : List Byte) : Lane :=
  l.serve h 0x13 true true fun l =>
    if data.length ≠ 32 then (l, 6, [])
    else
      let mask := hmacSha256 l.sessionKey ((l.can.session.elim [] (·.challenge)) ++ [0x4B])
      let key := List.zipWith (fun (x y : Byte) => x ^^^ y) data mask
      ({ l with nvm := { l.nvm with key := l.nvm.key.write key } }, 0, [])

/-- A challenge expires 40,000 ticks after it was given (R513). -/
def Lane.challengeExpiry (l : Lane) : Lane :=
  match l.can.chal with
  | some c => if c.at_ + 40000 ≤ l.tick.count then { l with can := { l.can with chal := none } } else l
  | none => l

/-- A session ends after LANE.SESSION.IDLE ticks (R514). -/
def Lane.sessionIdle (l : Lane) : Lane :=
  match l.can.session with
  | some s => if l.cfg.laneSessionIdle ≤ s.idle then { l with can := { l.can with session := none } } else l
  | none => l

/-- The lockout of 400,000 ticks ends (R514). -/
def Lane.lockoutEnd (l : Lane) : Lane :=
  match l.can.locked with
  | some t => if t + 400000 ≤ l.tick.count then { l with can := { l.can with locked := none } } else l
  | none => l

/-! ## Profile and mode requests -/

/-- A profile request, by service message or from a steering function or a job (R202, R511). -/
def Lane.profileRequest (l : Lane) (h : Option SvcHdr) (axis : Nat) (r : ProfReq) : Lane :=
  let ask (l : Lane) (n : AxisId) : Lane := l.request n r .outside
  match h with
  | none => if hn : axis < 12 then ask l ⟨axis, hn⟩ else l
  | some h =>
    l.serve h 0x09 true true fun l =>
      if hn : axis < 12 then
        (let n : AxisId := ⟨axis, hn⟩
         if l.cfg.kind axis != .steer then (l, 1, [])
         else
          let res := l.judgeReq n r .outside
          (ask l n, if res = 0 then 0 else 4, [byteOf res]))
      else (l, 1, [])

/-- A control mode request (R270, R384, R511); priority 3, a service access or a guidance request. -/
def Lane.modeService (l : Lane) (h : Option SvcHdr) (axis mode : Nat) : Lane :=
  let r : ModeReq := { mode := mode, prio := 3 }
  match h with
  | none => if hn : axis < 12 then l.modeRequestAll ⟨axis, hn⟩ r else l
  | some h =>
    l.serve h 0x0A true true fun l =>
      if hn : axis < 12 then
        (let n : AxisId := ⟨axis, hn⟩
         if !l.cfg.hasAxis axis then (l, 1, [])
         else
          let res := l.judgeMode n r
          (l.modeRequestAll n r, if res = 0 then 0 else 4, [byteOf res]))
      else (l, 1, [])

/-! ## Seal, health, acknowledgement, journal -/

/-- A SEAL CONFIRM service message (R77, R511). -/
def Lane.sealService (l : Lane) (h : SvcHdr) (offered : Word) : Lane :=
  l.serve h 0x04 true true fun l =>
    let (l, ok) := l.sealConfirm offered
    if ok then (l, 0, []) else refused l 22

/-- A HEALTH REPORT service message (R147). -/
def Lane.healthService (l : Lane) (h : SvcHdr) : Lane := l.serve h 0x05 false false fun l => (l, 0, l.healthReport)

/-- An ACKNOWLEDGE service message (R410, R511). -/
def Lane.ackService (l : Lane) (h : SvcHdr) (laneMask classMask : Nat) : Lane :=
  l.serve h 0x06 true false fun l =>
    if h.target ≠ 3 then refused l 0
    else if laneMask.testBit l.id.code then (l.acknowledge classMask, 0, []) else (l, 0, [])

/-- A JOURNAL READ service message: records from an index counted from the oldest (R511). -/
def Lane.journalRead (l : Lane) (h : SvcHdr) (first count : Nat) : Lane :=
  l.serve h 0x08 false false fun l =>
    if count = 0 ∨ 100 < count then refused l 0
    else (l, 0, ((l.nvm.events.drop first).take count).flatMap Rec.bytes)

/-! ## Image writing (R90) -/

/-- The area an image write goes to: the one that is not active. -/
def Lane.writeArea (l : Lane) : Nat := 1 - (l.nvm.areas.read {}).active % 2

/-- An image write refused, interrupted or unequal: CFG-019, and the journal is unchanged. -/
def Lane.imageFails (l : Lane) (area : Nat) : Lane := ({ l with can := { l.can with img := none } }).raiseWord .cfg019 area

/-- An IMAGE WRITE block (R90, R511). DESIGN CHOICE: a write turned away with NO_SESSION, NO_WORKSHOP or LENGTH writes nothing and raises no CFG-019 (log 172). -/
def Lane.imageWrite (l : Lane) (h : SvcHdr) (offset : Nat) (last : Bool) (data : List Byte) : Lane :=
  l.serve h 0x07 true true fun l =>
    let area := l.writeArea
    let base := area * 0x100000
    let fail (l : Lane) : Served := refused (l.imageFails area) 19
    if data.isEmpty ∨ 1776 < data.length then (l, 6, [])
    else if l.start.state = .gather ∧ l.gat.imageState = 1 then fail l
    else if 0x100000 < offset + data.length then fail l
    else
      let prog (l : Lane) (m : Mem) (old : List Byte) : Served :=
        ({ l with
            nvm := { l.nvm with flash := m.program (base + offset) data }
            can := { l.can with img := some { area := area, next := offset + data.length, data := old ++ data, last := last } } }, 0, [])
      if offset = 0 then prog l (l.nvm.flash.erase base (base + 0x100000)) []
      else
        match l.can.img with
        | some w => if w.area = area ∧ w.next = offset ∧ !w.last then prog l l.nvm.flash w.data else fail l
        | none => fail l

/-- The read-back after the last block completes (R90): `ok` where the flash held what was programmed. -/
def Lane.imageVerify (l : Lane) (ok : Bool) : Lane :=
  match l.can.img with
  | some w =>
    if !w.last then l
    else if ok ∧ l.nvm.flash.readList (w.area * 0x100000) w.data.length = w.data then
      { l with
        can := { l.can with img := none }
        nvm := { l.nvm with areas := l.nvm.areas.write { l.nvm.areas.read {} with pending := true } } }
    else l.imageFails w.area
  | none => l

/-- WORKSHOP released during an image write interrupts it (R517). -/
def Lane.imageGuard (l : Lane) : Lane :=
  match l.can.img with
  | some w => if l.start.workshop then l else l.imageFails w.area
  | none => l

end Sys2Proof.Machine
end

