-- ==== Sys2Proof/Machine/Jobs.lean ====
section
/-! DEFINITION. Jobs: commands, states and causes, CENTRE_FIND, calibration and test jobs, tag writes (chapter 20, R219 to R222, R523 to R535). -/

namespace Sys2Proof.Machine

/-! ## States -/

/-- A job is between RUNNING and CANCELLING. -/
def JobSt.busy (s : JobSt) : Bool := decide (1 ≤ s.state) && decide (s.state ≤ 5)

/-- A job's state on the lane. -/
def Lane.jobSt (l : Lane) (j : Nat) : JobSt := l.job.st.getD j {}

/-- One job's state changed. -/
def Lane.modJob (l : Lane) (j : Nat) (f : JobSt → JobSt) : Lane :=
  if h : j < 10 then { l with job := { l.job with st := l.job.st.modify ⟨j, h⟩ f } } else l

/-- A job goes to a state with a cause, which the journal keeps (Table 21.3, item 21). -/
def Lane.jobTo (l : Lane) (j st cause : Nat) : Lane :=
  let l := l.modJob j fun s => { s with state := st, cause := cause }
  let ks := (List.range 10).filterMap fun i =>
    let s := l.jobSt i
    if s.state = 0 then none else some ({ job := i, state := s.state, cause := s.cause, axis := if l.job.run = some i then l.job.axis else 0xFF } : JobCkpt)
  { l with nvm := { l.nvm with job := l.nvm.job.write ks } }

/-- A JOB event (R551): job number, subject axis, value. -/
def Lane.raiseJob (l : Lane) (ev : Ev) (j : Nat) (v : Int) : Lane :=
  let axis := if l.job.run = some j then l.job.axis % 256 else 0xFF
  l.push { ev := ev, subj := .job j, ctx := BitVec.ofNat 32 (j % 256 * 2 ^ 24 + axis * 2 ^ 16 + toField 16 v) }

/-- The subject axis of the running job. -/
def Lane.jobAxis (l : Lane) : Option AxisId := if h : l.job.axis < 12 then some ⟨l.job.axis, h⟩ else none

/-- A job that drives an axis (Table 20.1). -/
def drivingJob (j : Nat) : Bool := j == 1 || j == 2 || j == 4 || j == 5

/-- A job moves its axis through the profile. -/
def motionJob (j : Nat) : Bool := j == 1 || j == 2

/-- What the job drives stops: the profile at DSTOP (R526), where no stop is already due. -/
def Lane.stopJob (l : Lane) : Lane :=
  match l.job.run, l.jobAxis with
  | some j, some n => if motionJob j ∧ l.commands n ∧ (l.prof.get n).moving ∧ (l.prof.get n).stopNext = 0 then l.request n .stop .job else l
  | _, _ => l

/-- Every output the job drives goes to zero at once (R76). -/
def Lane.dropJob (l : Lane) : Lane :=
  match l.jobAxis with
  | some n => (l.modPwm n fun w => { w with job := false }).modProf n fun p => { p.atRest with reqs := [], stopC := 0, stopNext := 0 }
  | none => l

/-- The job lets go of its axis: the mode takes the set-point back with a blend. -/
def Lane.releaseJob (l : Lane) : Lane :=
  let l := match l.job.run, l.jobAxis with
    | some j, some n =>
      let l := if motionJob j then
          ((l.stopJob).modProf n fun p => { p with jobOwns := false }).modSup n fun s => { s with entered := true }
        else l
      l.modPwm n fun w => { w with job := false }
    | _, _ => l
  { l with gat := { l.gat with idPower := l.gat.idPower && l.start.state == .gather }
           job := { l.job with run := none, axis := 0xFF, writes := [], partner := false, partnerSusp := none } }

/-- The FW_LOAD checkpoint cleared (R539). -/
def Lane.clearSlotCkpt (l : Lane) : Lane :=
  { l with nvm := { l.nvm with slotRec := l.nvm.slotRec.write { l.nvm.slotRec.read {} with oldSlot := none } } }

/-- A job fails with a cause (R551; JOB-020 for CENTRE_FIND). -/
def Lane.failJob (l : Lane) (j cause : Nat) : Lane :=
  let l := if j = 1 then l.raise .job020 (.axis l.job.axis) cause else l.raiseJob .job001 j cause
  let l := if j = 7 then l.clearSlotCkpt else l
  let l := l.jobTo j 7 cause
  if l.job.run = some j then l.releaseJob else l

/-- A job is done (JOB-003). -/
def Lane.doneJob (l : Lane) (j : Nat) : Lane :=
  let l := (l.raiseJob .job003 j 0).jobTo j 6 0
  if l.job.run = some j then l.releaseJob else l

/-- A job begins to suspend with a cause; in UNSEALED a lapsed condition drops its outputs (R527, R76). -/
def Lane.suspendJob (l : Lane) (j cause : Nat) (drop : Bool) : Lane :=
  let l := l.jobTo j 2 cause
  if l.job.run = some j then (if drop && l.start.state != .operate then l.dropJob else l.stopJob) else l

/-- A job is suspended (JOB-002; JOB-021 for CENTRE_FIND). -/
def Lane.suspended (l : Lane) (j : Nat) : Lane :=
  let cause := (l.jobSt j).cause
  let l := if j = 1 then l.raise .job021 (.axis l.job.axis) cause else l.raiseJob .job002 j cause
  let l := match l.jobAxis with
    | some n => if l.job.run = some j then l.modPwm n fun w => { w with job := false } else l
    | none => l
  l.jobTo j 3 cause

/-- Every output the job drives is at rest (R526). -/
def Lane.jobQuiet (l : Lane) (j : Nat) : Bool :=
  match l.jobAxis with
  | some n => !motionJob j || (l.prof.get n).phase == .rest || (l.prof.get n).phase == .passive
  | none => true

/-! ## What the other lanes show -/

/-- The step of VALVE_CHAR that this lane drives. -/
def Lane.valvePoint (l : Lane) : Option Nat :=
  match l.jobAxis with
  | some n => if l.job.run = some 4 ∧ l.commands n ∧ (l.jobSt 4).state = 1 ∧ !l.job.vc.done then some l.job.vc.k else none
  | none => none

/-- The lane's part of its job is done. -/
def Lane.partDone (l : Lane) : Bool :=
  match l.job.run with
  | some 4 => l.job.vc.done
  | some 7 => l.job.fw.passed
  | some _ => l.job.written
  | none => false

/-- What a lane carries of its jobs (R524). -/
def Lane.jobShare (l : Lane) : JobShare :=
  { run := l.job.run, axis := l.job.axis, st := l.job.st, refused := l.job.refused, phase := l.job.cf.phase, c := l.job.cf.c
    point := l.valvePoint, part := l.partDone, switched := l.job.fw.switched || l.job.rg.switched, standAt := l.job.fw.standAt
    oldSeal := (l.nvm.regather.read none).map (·.oldSeal) }

/-- A job is SUSPENDING or SUSPENDED. -/
def suspendedSt (s : JobSt) : Bool := s.state == 2 || s.state == 3

/-- Another lane's jobs arrive: its refusal, failure or suspension counts from the next tick (R219, R524). A lane that stays suspended while this one has resumed, as one that refused RESUME does, suspends it again from its second share on (DEDUCED: the first may have left before the command; log 167). -/
def Lane.jobHeard (l : Lane) (x : LaneId) (s : JobShare) : Lane :=
  let o := (l.px.get x).jobs
  let stays := s.run == some 1 && l.job.run == some 1 && suspendedSt (s.st.getD 1 {}) && ((l.jobSt 1).state == 1 || (l.jobSt 1).state == 4)
  let s := { s with partAt := if !s.part then 0 else if o.part then o.partAt else l.tick.count, behind := if stays then satInc 255 o.behind else 0 }
  let l := { l with px := l.px.set x { l.px.get x with jobs := s } }
  match l.job.run with
  | none => l
  | some j =>
    if l.start.state ≠ .operate then l
    else
      let was := o.st.getD j {}
      let is_ := s.st.getD j {}
      let fails := s.refused == some j || (was.busy && is_.state == 7)
      let susp := j == 1 && suspendedSt is_ && (!suspendedSt was || decide (2 ≤ s.behind))
      { l with job := { l.job with
          partner := l.job.partner || fails
          partnerSusp := if susp then some is_.cause else l.job.partnerSusp } }

/-- The jobs of the other lanes that run the same node job. -/
def Lane.jobPeers (l : Lane) (j : Nat) : List (LaneId × JobShare) :=
  if l.start.state ≠ .operate then []
  else l.id.others.filterMap fun x =>
    let s := (l.px.get x).jobs
    if l.counts x ∧ s.run = some j then some (x, s) else none

/-! ## START (R74, R523 to R525) -/

/-- The states in which Table 20.1 and R74 allow a job. -/
def jobState (j : Nat) : LState → Bool
  | .operate => j != 5
  | .unsealed => j != 6 && j != 8
  | .stopped => j == 9
  | _ => false

/-- The subject of Table 20.1. -/
def Lane.subjectOk (l : Lane) (j axis : Nat) : Bool :=
  let c := l.cfg
  let sw (ch : Nat) : Bool := decide (8 ≤ ch) && decide (ch ≤ 15)
  match j with
  | 1 => c.kind axis == .steer && sw (c.axisProfileLimitNegCh axis) && sw (c.axisProfileLimitPosCh axis)
  | 2 => c.kind axis == .steer
  | 3 => (c.sensorCh l.id 1).isSome && (c.sensorCh l.id 2).isSome
  | 4 => c.kind axis == .valve && decide (c.axisLoopPrsCh axis ≤ 15)
  | 5 => c.motor axis
  | 6 => axis == 0xFF || c.hasAxis axis
  | _ => true

/-- The lane is ABSENT for the subject axis, so it does not run the job (R524). -/
def Lane.subjectAbsent (l : Lane) (j axis : Nat) : Bool :=
  (drivingJob j || (j == 6 && axis != 0xFF)) && (if h : axis < 12 then (l.ax ⟨axis, h⟩).absent else false)

/-- The vehicle speed this lane measures lies below 2 km/h (R525). -/
def Lane.jobSpeed (l : Lane) : Bool := match l.chas.speed with | some v => decide (absI v < 131072) | none => false

/-- The pending image that REGATHER asks for (R542). -/
def Lane.regatherReady (l : Lane) : Bool :=
  let ar := l.nvm.areas.read {}
  let h := headerOf (l.nvm.flash.readList (0x100000 * (1 - ar.active % 2)) 64)
  ar.pending && h.flags.testBit 0 && l.nvm.confirmed.read? == some (BitVec.ofNat 32 h.predecessor) && h.sealVal == l.cfg.jobSeal

/-- Another lane's motion job runs on the axis, as R219 refuses it in UNSEALED. DEDUCED: the tick marker has no field for a job (Table 1.11); a lane whose marker arrived in the tick before is taken to run what its last job section showed (log 167). -/
def Lane.otherMotion (l : Lane) (axis : Nat) : Bool :=
  l.id.others.any fun x =>
    let s := (l.px.get x).jobs
    (l.peerOf x).silent == 0 && s.axis == axis && (match s.run with | some k => motionJob k | none => false)

/-- The cause that refuses START, or RESUME of the running job (R525, R527); `all` where the command names every lane. The standstill switch of R540 needs no FULL, which the lane at another level denies it, and a lane that has switched holds no pending image any more (DEDUCED). -/
def Lane.startRefusal (l : Lane) (j axis : Nat) (all resume : Bool) : Option Nat :=
  let st := l.start.state
  if !jobState j st || (st == .operate && j != 9 && !all && !resume) || !l.subjectOk j axis || l.subjectAbsent j axis ||
     (!resume && (l.jobSt j).busy) || (j == 1 && st == .unsealed && l.otherMotion axis) then some 21
  else if (j ≤ 6 ∨ st = .unsealed) ∧ !l.jobSpeed then some 9
  else if !resume ∧ l.job.run.isSome then some 20
  else if st = .operate ∧ 6 ≤ j ∧ j ≤ 8 ∧ !(resume && j == 7 && l.job.fw.stand) ∧ l.service < 3 then some 10
  else if j = 8 ∧ !(resume && l.job.rg.switched) ∧ !l.regatherReady then some 18
  else if j = 9 ∧ !l.col.commonsUp then some 22
  else none

/-- The axes of ROTATE_TEST. -/
def Lane.rotateSubjects (l : Lane) (axis : Nat) : List Nat :=
  if axis = 0xFF then (List.range 12).filter fun n => l.cfg.hasAxis n && l.cfg.axisRotate n else [axis]

/-- A job starts. -/
def Lane.startJob (l : Lane) (j axis : Nat) : Lane :=
  let l := l.modJob j fun s => { s with ticks := 0 }
  if j = 9 then l.jobTo 9 1 0
  else
    let l := { l with job := { l.job with
      run := some j, axis := if j = 3 ∨ 7 ≤ j then 0xFF else axis, partner := false, partnerSusp := none, writes := [], written := false
      cf := { phase := 1, from_ := if h : axis < 12 then l.measured ⟨axis, h⟩ else 0 }, el := {}, pl := {}, vc := {}, bt := {}, rt := { axes := l.rotateSubjects axis, due := true }
      fw := {}, rg := {} } }
    let l := match l.jobAxis with
      | some n =>
        let l : Lane := if l.start.state = LState.unsealed ∧ drivingJob j then
            let x := l.measured n * 65536
            ((l.modProf n fun p => { p.atRest with x := x }).modSup n fun s => { s with b := x, d := x }).modPwm n fun w => { w with job := true }
          else l
        if motionJob j then l.modProf n fun p => { p.takeUp with jobOwns := true } else l
      | none => l
    (l.modJob 1 fun s => s).jobTo j 1 0

/-! ## Job commands (R526) -/

/-- The answer to a job command: state and cause. -/
def Lane.jobAnswer (l : Lane) (j : Nat) : List Byte := [byteOf (l.jobSt j).state, byteOf (l.jobSt j).cause]

/-- A job command served (Table 19.5). -/
def Lane.jobService (l : Lane) (h : SvcHdr) (open_ : Bool) (j : Nat) (f : Lane → Served) : Lane :=
  l.serve h 0x03 (!open_) (!open_) fun l => if j = 0 ∨ 9 < j then (l, 1, []) else f l

/-- The parameters of a job as START takes them: a written value replaces the image's (R529). -/
def Lane.takeParams (l : Lane) (j : Nat) : Lane :=
  { l with gat := { l.gat with cfg := l.gat.cfg.over (l.job.params.filter fun p => p.1 / 0x10000 == 0x6000 + j) } }

/-- JOB COMMAND START. -/
def Lane.jobStart (l : Lane) (h : SvcHdr) (j axis : Nat) : Lane :=
  l.jobService h false j fun l =>
    let t := l.takeParams j
    match t.startRefusal j axis (h.target == 3) false with
    | some c =>
      let flag := l.start.state == .operate && j != 9 && !l.subjectAbsent j axis
      refused { l with job := { l.job with refused := if flag then some j else l.job.refused } } c
    | none => let l := t.startJob j axis; (l, 0, l.jobAnswer j)

/-- A switch whose restart has not begun is stopped (R527): the lane, still in OPERATE, yields no further. -/
def Lane.cancelSwitch (l : Lane) : Lane :=
  if l.start.state = .operate ∧ (l.job.fw.switching ∨ l.job.rg.switching) then
    { l with
      lease := { l.lease with yieldPlan := [], stopping := false }
      start := { l.start with restart := false }
      job := { l.job with fw := { l.job.fw with switching := false }, rg := { l.job.rg with switching := false } } }
  else l

/-- JOB COMMAND SUSPEND. -/
def Lane.jobSuspend (l : Lane) (h : SvcHdr) (j : Nat) : Lane :=
  l.jobService h false j fun l =>
    if (l.jobSt j).state ≠ 1 then refused l 21
    else let l := (l.suspendJob j (Config.unnamedCause 0) false).cancelSwitch; (l, 0, l.jobAnswer j)

/-- The conditions R540 sets on the RESUME that starts the standstill switch. -/
def Lane.standReady (l : Lane) : Bool :=
  l.chas.still &&
  (l.counted.all fun x => match (l.peerOf x).lastMarker with | some m => m.standstill | none => false) &&
  (match l.inUse 3 with | some v => decide (32768 ≤ v) | none => false)

/-- The lane's switches of the axis of CENTRE_FIND or END_LEARN are out of CHATTER (R221, R530). -/
def Lane.noChatter (l : Lane) : Bool :=
  match l.jobAxis with | some n => !(l.swNeg.get n).chatter && !(l.swPos.get n).chatter | none => true

/-- JOB COMMAND RESUME. -/
def Lane.jobResume (l : Lane) (h : SvcHdr) (j : Nat) : Lane :=
  l.jobService h false j fun l =>
    if (l.jobSt j).state ≠ 3 then refused l 21
    else
      match l.startRefusal j (if j = 9 then 0xFF else l.job.axis) true true with
      | some c => refused l c
      | none =>
        if ((j = 1 ∨ j = 2) ∧ !l.noChatter) ∨ (j = 7 ∧ l.job.fw.stand ∧ !l.standReady) then refused l 21
        else let l := l.jobTo j 4 0; (l, 0, l.jobAnswer j)

/-- JOB COMMAND CANCEL. -/
def Lane.jobCancel (l : Lane) (h : SvcHdr) (j : Nat) : Lane :=
  l.jobService h false j fun l =>
    if !([1, 2, 3, 4].contains (l.jobSt j).state) then refused l 21
    else
      let l := (l.jobTo j 5 11)
      let l := if l.job.run = some j then l.stopJob else l
      let l := if j = 8 then { l with job := { l.job with rg := { l.job.rg with back := some 11 } } } else l
      (l, 0, l.jobAnswer j)

/-- JOB COMMAND STATUS. -/
def Lane.jobStatus (l : Lane) (h : SvcHdr) (j : Nat) : Lane :=
  l.jobService h true j fun l => (l, 0, l.jobAnswer j)

/-! ## Tag writes (R113, R222, R535, Table 20.5) -/

/-- Bytes put into a list at an offset. -/
def putBytes (xs : List Byte) (off : Nat) (bs : List Byte) : List Byte := xs.take off ++ bs ++ xs.drop (off + bs.length)

/-- The calibration area a job writes: the area as it was read, with count, job, seal, the fields at their tag bytes, and the check. -/
def calRecord (old : List Byte) (job : Nat) (sealVal : Word) (fields : List (Nat × List Byte)) : List Byte :=
  let n := beNat (slice old 0 2)
  let cnt := if n = 65535 then 1 else n + 1
  let a := putBytes (old ++ List.replicate (96 - old.length) 0) 0 (beBytes 2 cnt ++ beBytes 2 job ++ beBytes 4 sealVal.toNat)
  let a := fields.foldl (fun a f => putBytes a (f.1 - 96) f.2) a
  let body := a.take 94
  body ++ beBytes 2 (crc16 body)

/-- A signed 32-bit field. -/
def i32Bytes (v : Int) : List Byte := beBytes 4 (toField 32 v)

/-- The accepted tag of an owner. -/
def Lane.tagOfOwner (l : Lane) (o : Sum (Nat × Nat) Nat) : Option TagBytes :=
  match o with
  | .inl (n, s) => (l.gat.tags.getD n []).getD s none
  | .inr i => l.gat.sensorTags.getD i none

/-- The tag a job's record goes to; none where the lane accepted no tag for that owner. -/
def Lane.tagWrite (l : Lane) (j : Nat) (o : Sum (Nat × Nat) Nat) (fields : List (Nat × List Byte)) : Option TagWrite :=
  (l.tagOfOwner o).map fun t => { owner := o, data := calRecord (slice t 96 96) j (l.nvm.confirmed.read 0) fields }

/-- The slot of an axis that CENTRE_FIND writes: that of a limit-switch set, else the actuator's (R222). -/
def Lane.centreSlot (l : Lane) (n : Nat) : Nat :=
  ([1, 2].find? fun s => l.cfg.expKind (inst 0x10000030 n + 0x10 * s) == 8).getD 0

/-- The writes of a job begin, with l_IDPWR on until the last is done (R106). A record whose tag the lane has not accepted cannot be written, and the job fails as for a failed write (R222; DEDUCED, log entry 111). -/
def Lane.beginWrites (l : Lane) (ws : List (Option TagWrite)) : Lane :=
  if ws.all (·.isSome) then
    { l with job := { l.job with writes := ws.filterMap (fun w => w), written := false }, gat := { l.gat with idPower := true } }
  else match l.job.run with
    | some j => l.failJob j 7
    | none => l

/-- The record of a tag write taken into the tag as the lane holds it, and into the journal copy (R112, R535). -/
def Lane.keepCal (l : Lane) (w : TagWrite) : Lane :=
  match l.tagOfOwner w.owner with
  | none => l
  | some t =>
    let t1 := t.take 96 ++ w.data
    let key := slice t 4 23
    let g := match w.owner with
      | .inl (n, s) =>
        if h : n < 12 then { l.gat with
          tags := l.gat.tags.modify ⟨n, h⟩ fun ts => ts.set s (some t1)
          calJournal := l.gat.calJournal.modify ⟨n, h⟩ fun js => js.set s false } else l.gat
      | .inr i => if h : i < 8 then { l.gat with sensorTags := l.gat.sensorTags.set ⟨i, h⟩ (some t1) } else l.gat
    let copy : CalCopy := { key := key, data := w.data }
    let has (c : NvItem CalCopy) : Bool := match c.read? with | some x => x.key == key | none => false
    let cals := if l.nvm.cals.any has then l.nvm.cals.map fun c => if has c then c.write copy else c
      else l.nvm.cals ++ [({} : NvItem CalCopy).write copy]
    { l with gat := g, nvm := { l.nvm with cals := cals } }

/-- A calibration tag write and its read-back complete (R113): `ok` where the read-back agreed. -/
def Lane.tagWriteDone (l : Lane) (ok : Bool) : Lane :=
  match l.job.run, l.job.writes with
  | some j, w :: ws =>
    let l := { l with gat := { l.gat with idPower := ok && !ws.isEmpty } }
    if !ok then (if (l.jobSt j).busy then l.failJob j 7 else l)
    else
      let l := l.keepCal w
      { l with job := { l.job with writes := ws, written := ws.isEmpty, writtenAt := l.tick.count, toldAt := none } }
  | _, _ => l

/-! ## CENTRE_FIND (R219 to R222) -/

/-- The switch that CENTRE_FIND seeks first, or second (R220). -/
def Lane.cfSwitch (l : Lane) (n : AxisId) (first : Bool) : Switch :=
  if first == (l.cfg.axisProfileCentreFirst n.val == 0) then l.swNeg.get n else l.swPos.get n

/-- The direction that leads away from the first switch. -/
def Lane.cfSign (l : Lane) (n : AxisId) : Int := if l.cfg.axisProfileCentreFirst n.val = 0 then 1 else -1

/-- One CENTRE_FIND record changed. -/
def Lane.modCf (l : Lane) (f : CentreFind → CentreFind) : Lane := { l with job := { l.job with cf := f l.job.cf } }

/-- A JOG at CENTRE.VSEEK, away from the first switch or towards it. -/
def Lane.cfJog (l : Lane) (n : AxisId) (dir : Int) : Lane :=
  l.request n (.jog (dir * l.cfSign n * (l.cfg.axisProfileCentreVseek n.val : Int))) .job

/-- A stage entered, with the position it starts from. -/
def Lane.cfStage (l : Lane) (n : AxisId) (phase stage : Nat) : Lane :=
  let m := l.measured n
  l.modCf fun c => { c with phase := phase, stage := stage, from_ := if stage = 0 then m else c.from_, released := c.released && stage != 0 }

/-- A tripped position in whole pu. -/
def Switch.tripPu (s : Switch) : Int := roundDiv s.tripPos 65536

/-- This lane records its own switch positions (R219, R220): each from a trip that began in the phase which seeks the switch, after the switch was released (R221). -/
def Lane.cfRecord (l : Lane) (n : AxisId) : Lane :=
  let cf := l.job.cf
  let a := l.cfSwitch n true
  let b := l.cfSwitch n false
  let l := l.modCf fun c =>
    { c with free1 := c.free1 || (c.phase == 2 && !a.tripped), free2 := c.free2 || (c.phase == 3 && !b.tripped) }
  let l := if (cf.phase = 2 ∧ cf.stage < 2 ∨ cf.phase = 3) ∧ cf.free1 ∧ cf.p1.isNone ∧ a.deb ∧ !a.chatter ∧ (cf.stage = 1 ∨ !l.commands n) then
      l.modCf fun c => { c with p1 := some a.tripPu } else l
  if (cf.phase = 3 ∨ cf.phase = 4) ∧ cf.free2 ∧ cf.p2.isNone ∧ b.deb ∧ !b.chatter ∧ (cf.stage = 1 ∨ !l.commands n) then
    l.modCf fun c => { c with p2 := some b.tripPu } else l

/-- The travel of the phase exceeds CENTRE.TRAVEL. -/
def Lane.cfFar (l : Lane) (n : AxisId) : Bool :=
  decide ((l.cfg.axisProfileCentreTravel n.val : Int) * 65536 < absI (l.measured n - l.job.cf.from_))

/-- The profile of the job stands, with nothing asked of it. -/
def Lane.cfRest (l : Lane) (n : AxisId) : Bool := (l.prof.get n).phase == .rest && (l.prof.get n).reqs.isEmpty

/-- Phase 4: the span and C of this lane (Table 8.4); the cause where it fails. -/
def Lane.cfCheck (l : Lane) (n : AxisId) : Lane × Option Nat :=
  let c := l.cfg
  let i := n.val
  match l.job.cf.p1, l.job.cf.p2 with
  | some p1, some p2 =>
    let span : Int := c.axisProfileCentreSpan i
    if span ≠ 0 ∧ (c.axisProfileCentreSpantol i : Int) < absI (absI (p2 - p1) - span) then (l, some 4)
    else
      let C := roundDiv (p1 + p2) 2 + c.axisProfileCentreShift i
      (l.modCf fun f => { f with c := some C }, none)
  | _, _ => (l, some 4)

/-- Whether every lane's C lies within CENTRE.AGREE of the holder's: none while one is still to come. -/
def Lane.cfAgree (l : Lane) (n : AxisId) : Option Bool :=
  let cs := (l.jobPeers 1).map fun p => p.2.c
  match l.job.cf.c with
  | none => none
  | some c =>
    if cs.any (·.isNone) then none
    else some ((cs.filterMap fun x => x).all fun x => decide (absI (x - c) ≤ (l.cfg.axisProfileCentreAgree n.val : Int)))

/-- The writes of CENTRE_FIND at the end of phase 5 (R222). -/
def Lane.cfWrites (l : Lane) (n : AxisId) : Lane :=
  let s := l.centreSlot n.val
  let off := if s = 0 then 140 else 104
  let f (x : Option Int) : List Byte := i32Bytes (x.getD 0)
  l.beginWrites [l.tagWrite 1 (.inl (n.val, s)) [(off, f l.job.cf.p1), (off + 4, f l.job.cf.p2), (off + 8, f l.job.cf.c)]]

/-- A phase of Table 8.4 on the lane that drives (CENTRE_FIND_PHASE). -/
def Lane.cfDrive (l : Lane) (n : AxisId) : Lane :=
  let cf := l.job.cf
  let a := l.cfSwitch n true
  let b := l.cfSwitch n false
  let rest := l.cfRest n
  match cf.phase, cf.stage with
  | 1, 0 => if a.tripped then (l.cfJog n 1).cfStage n 1 1 else l.cfStage n 2 0
  | 1, 1 =>
    if b.tripped then l.failJob 1 2 else if l.cfFar n then l.failJob 1 3
    else if !a.tripped then (l.request n (.jog 0) .job).cfStage n 1 2 else l
  | 1, _ => if rest then l.cfStage n 2 0 else l
  | 2, 0 => if a.tripped then (l.cfJog n 1).cfStage n 2 3 else (l.cfJog n (-1)).cfStage n 2 1
  | 2, 1 =>
    if b.tripped then l.failJob 1 2 else if cf.p1.isSome ∧ a.tripped then l.cfStage n 2 2 else if l.cfFar n then l.failJob 1 3 else l
  | 2, 2 => if rest then l.cfStage n 3 0 else l
  | 2, 3 => if b.tripped then l.failJob 1 2 else if l.cfFar n then l.failJob 1 3 else if !a.tripped then (l.request n (.jog 0) .job).cfStage n 2 4 else l
  | 2, _ => if rest then l.cfStage n 2 0 else l
  | 3, 0 => if b.tripped then (l.cfJog n (-1)).cfStage n 3 3 else (l.cfJog n 1).cfStage n 3 1
  | 3, 1 =>
    if cf.released ∧ a.tripped then l.failJob 1 2 else if cf.p2.isSome ∧ b.tripped then l.cfStage n 3 2 else if l.cfFar n then l.failJob 1 3
    else l.modCf fun c => { c with released := c.released || !a.tripped }
  | 3, 2 => if rest then l.cfStage n 4 0 else l
  | 3, 3 =>
    if cf.released ∧ a.tripped then l.failJob 1 2 else if l.cfFar n then l.failJob 1 3
    else if !b.tripped then (l.request n (.jog 0) .job).cfStage n 3 4
    else l.modCf fun c => { c with released := c.released || !a.tripped }
  | 3, _ => if rest then l.cfStage n 3 0 else l
  | 4, _ =>
    let (l, bad) := if cf.c.isSome then (l, none) else l.cfCheck n
    match bad with
    | some c => l.failJob 1 c
    | none => match l.cfAgree n with
      | none => l
      | some false => l.failJob 1 5
      | some true => l.cfStage n 5 0
  | 5, 0 => (l.request n (.move (cf.c.getD 0)) .job).cfStage n 5 1
  | 5, _ => if rest then (l.cfStage n 6 0).cfWrites n else l
  | _, _ => l

/-- A phase on a lane that does not drive: it follows the holder's, checks its own span, and writes with it. -/
def Lane.cfFollow (l : Lane) (n : AxisId) : Lane :=
  match (l.holderOf n).map fun h => (l.px.get h).jobs with
  | none => l
  | some s =>
    if s.run ≠ some 1 then l
    else
      let old := l.job.cf.phase
      let l := l.modCf fun c => { c with phase := s.phase, stage := if s.phase = old then c.stage else 0 }
      if s.phase = 4 ∧ l.job.cf.c.isNone then
        (let (l, bad) := l.cfCheck n
         match bad with | some c => l.failJob 1 c | none => l)
      else if s.phase = 6 ∧ old ≠ 6 then l.cfWrites n
      else l

/-- One tick of CENTRE_FIND. -/
def Lane.cfTick (l : Lane) (n : AxisId) : Lane :=
  let h := (l.ax n).heldBy
  let moved := l.job.cf.seen.isSome && l.job.cf.seen != h && l.start.state == .operate
  let l := l.modCf fun c => { c with seen := h }
  let l := if moved && l.commands n && l.job.cf.phase ≤ 5 then l.cfStage n l.job.cf.phase 0 else l
  let l := l.cfRecord n
  if l.commands n then l.cfDrive n else l.cfFollow n

/-- The C by which the set-point of an axis is re-expressed: the holder's, whose set-point a standby takes, else the own. -/
def Lane.holderC (l : Lane) (n : AxisId) (C : Int) : Int :=
  if l.commands n then C else ((l.holderOf n).bind fun h => (l.px.get h).jobs.c).getD C

/-- The position origin of an axis shifted by the lane's C, and the set-point re-expressed; what the holder carried of it before its shift is re-expressed too (R222, R204). -/
def Lane.shiftOrigin (l : Lane) (n : AxisId) (C : Int) : Lane :=
  let H := l.holderC n C
  let l := l.modProf n fun p =>
    { p with origin := p.origin + C * 65536, x := p.x - fx H, target := p.target - fx H, x0 := p.x0 - fx H, shifted := some (l.tick.count, H) }
  let l := l.modSup n fun s => { s with b := s.b - fx H, d := s.d - fx H }
  { l with
    px := l.px.mapL fun _ p => { p with prof := p.prof.modify n fun s => s.map fun s =>
      { s with target := s.target - fx H, x0 := s.x0 - fx H, stepX := s.stepX - fx H } }
    swNeg := l.swNeg.modify n fun s => { s with tripPos := s.tripPos - C * 65536 }
    swPos := l.swPos.modify n fun s => { s with tripPos := s.tripPos - C * 65536 }
    chas := { l.chas with xOff := l.chas.xOff.modify n fun o => o.map fun v => v - C * 65536 } }

/-- A CENTRE_FIND on an axis completes: the uncertainty of its QUAD channels ends (R174). -/
def Lane.clearUncert (l : Lane) (n : AxisId) : Lane :=
  { l with fbk := l.fbk.mapFin fun i ch =>
      if l.cfg.feedbackMode i.val = 1 ∧ i.val < 4 ∧ l.cfg.owns n.val i.val then { ch with uncert := 0, uncertFlag := false } else ch }

/-- In the tick after every tag write has succeeded, the lane shifts its origin by its C, and the job is done (R222). With other lanes in the job a write counts from the tick whose link frame told them of it, which is that of the write where the frame's last section is still to come, so all lanes shift in the same tick (DEDUCED, log entry 144). -/
def Lane.centreShift (l : Lane) : Lane :=
  match l.jobAxis with
  | some n =>
    if l.job.run = some 1 ∧ (l.jobSt 1).state = 1 ∧ l.job.cf.phase = 6 ∧ l.job.written ∧ l.job.writtenAt < l.tick.count ∧
        ((l.jobPeers 1).isEmpty ∨ l.job.toldAt.any (· < l.tick.count)) ∧
        (l.jobPeers 1).all (fun p => p.2.part && decide (p.2.partAt < l.tick.count)) then
      ((l.shiftOrigin n (l.job.cf.c.getD 0)).clearUncert n).doneJob 1
    else l
  | none => l

/-! ## END_LEARN (R530) -/

/-- One END_LEARN record changed. -/
def Lane.modEl (l : Lane) (f : EndLearn → EndLearn) : Lane := { l with job := { l.job with el := f l.job.el } }

/-- One tick of END_LEARN. -/
def Lane.elTick (l : Lane) (n : AxisId) : Lane :=
  let e := l.job.el
  let own := l.commands n
  let v : Int := l.cfg.jobEndVseek
  let ask (r : ProfReq) : Lane := if own ∧ !e.asked then (l.request n r .job).modEl fun e => { e with asked := true } else l
  let still := l.chSpeed (l.cfg.axisLoopPosCh n.val) == 0
  let count (l : Lane) : Lane := l.modEl fun e => { e with asked := e.asked && own, zero := if still then satInc 100000 e.zero else 0 }
  match e.stage with
  | 1 => count (ask (.jog (-v)))
  | 2 => count (ask (.jog v))
  | 3 =>
    let l := ask (.move 0)
    if (!own ∨ e.asked) ∧ l.cfRest n then
      let pct : Int := l.cfg.jobEndIpct
      let i := roundDiv (l.cfg.axisIpeak n.val * pct) 65536
      (l.modEl fun e => { e with stage := 4 }).beginWrites [l.tagWrite 2 (.inl (n.val, 0))
        [(128, i32Bytes e.neg), (132, i32Bytes e.pos), (136, beBytes 2 (toField 16 i))]]
    else l
  | _ => if l.job.written then l.doneJob 2 else l

/-- The reported speed has stayed at 0 for 400 ticks (R530). -/
def Lane.endStop (l : Lane) : Lane :=
  match l.jobAxis with
  | some n =>
    let e := l.job.el
    if l.job.run ≠ some 2 ∨ (l.jobSt 2).state ≠ 1 ∨ e.zero < 400 then l
    else
      let p := roundDiv (l.measured n) 65536
      let m : Int := l.cfg.steerAngleMax
      match e.stage with
      | 1 => l.modEl fun e => { e with neg := p, stage := 2, asked := false, zero := 0 }
      | 2 =>
        let l := l.modEl fun e => { e with pos := p, stage := 3, asked := false, zero := 0 }
        if e.neg < -m ∧ m < p then l else l.failJob 2 19
      | _ => l
  | none => l

/-! ## PEDAL_LEARN (R531) -/

/-- The conversion of a sensor element in this tick, in volts. -/
def Lane.pedalVolts (l : Lane) (i : Nat) : Option Q :=
  match l.cfg.sensorCh l.id i with
  | some ch => (l.fbk.getD ch {}).conv.headD none
  | none => none

/-- A span widened by a conversion. -/
def widen (r : Option (Q × Q)) (v : Option Q) : Option (Q × Q) :=
  match r, v with
  | some (a, b), some x => some (minI a x, maxI b x)
  | none, some x => some (x, x)
  | r, none => r

/-- One tick of PEDAL_LEARN. -/
def Lane.plTick (l : Lane) : Lane :=
  let p := l.job.pl
  if p.writing then (if l.job.written then l.doneJob 3 else l)
  else { l with job := { l.job with pl :=
    { p with ticks := p.ticks + 1, r1 := widen p.r1 (l.pedalVolts 1), r2 := widen p.r2 (l.pedalVolts 2) } } }

/-- PEDAL.TIME expires (R531). -/
def Lane.pedalEnd (l : Lane) : Lane :=
  let p := l.job.pl
  if l.job.run ≠ some 3 ∨ (l.jobSt 3).state ≠ 1 ∨ p.writing ∨ p.ticks < l.cfg.jobPedalTime then l
  else
    let short (r : Option (Q × Q)) : Bool := match r with | some (a, b) => decide (b - a < 65536) | none => true
    if short p.r1 || short p.r2 then l.failJob 3 19
    else
      let w (i : Nat) (r : Option (Q × Q)) : Option TagWrite :=
        r.bind fun ab => l.tagWrite 3 (.inr i) [(104, i32Bytes ab.1), (108, i32Bytes ab.2)]
      ({ l with job := { l.job with pl := { p with writing := true } } }).beginWrites [w 1 p.r1, w 2 p.r2]

/-! ## VALVE_CHAR (R532) -/

/-- Pressures ascend strictly from the first point above 1 bar. -/
def pressuresAscend : List Q → Bool
  | a :: b :: r => (decide (a ≤ 65536) || decide (a < b)) && pressuresAscend (b :: r)
  | _ => true

/-- One tick of VALVE_CHAR: it counts the step it drives, and yields the axis once the own coil is done. -/
def Lane.vcTick (l : Lane) (n : AxisId) : Lane :=
  let v := l.job.vc
  if !v.done then (if l.commands n then { l with job := { l.job with vc := { v with ticks := v.ticks + 1 } } } else l)
  else
    let all := (l.jobPeers 4).all fun p => p.2.part
    if all then (if l.job.written then l.doneJob 4 else l)
    else if (l.ax n).role = .holder ∧ l.lease.yieldPlan.isEmpty then
      { l with lease := { l.lease with yieldPlan := [n.val], rotating := true } }
    else l

/-- VALVE.SETTLE expires: the pressure of the step is recorded (R532). -/
def Lane.valveStep (l : Lane) : Lane :=
  match l.jobAxis with
  | some n =>
    let v := l.job.vc
    if l.job.run ≠ some 4 ∨ (l.jobSt 4).state ≠ 1 ∨ v.done ∨ !l.commands n ∨ v.ticks < l.cfg.jobValveSettle then l
    else
      let pts := v.pts ++ [(l.pressure n.val, (l.valveJob n).getD 0)]
      if v.k + 1 < l.cfg.jobValvePoints then { l with job := { l.job with vc := { v with k := v.k + 1, ticks := 0, pts := pts } } }
      else if !pressuresAscend (pts.map (·.1)) then l.failJob 4 19
      else
        let fields := (List.range pts.length).map fun i =>
          let p := pts.getD i (0, 0)
          (106 + 8 * i, i32Bytes p.1 ++ i32Bytes p.2)
        ({ l with job := { l.job with vc := { v with pts := pts, done := true } } }).beginWrites
          [l.tagWrite 4 (.inl (n.val, 0)) ((104, [byteOf pts.length]) :: fields)]
  | none => l

/-! ## BRIDGE_TEST (R533) -/

/-- One tick of BRIDGE_TEST; `mask` is the result of switching the transistors on one by one, where the test ends in this tick. -/
def Lane.btTick (l : Lane) (mask : Option Nat) : Lane :=
  let b := l.job.bt
  let put (b : BridgeTest) : Lane := { l with job := { l.job with bt := b } }
  match b.stage with
  | 1 => match mask with
    | some m => if m % 64 = 0x3F then put { b with mask := m % 64, stage := 2, ticks := 0 } else (put { b with mask := m % 64 }).failJob 5 19
    | none => l
  | 2 => put { b with ticks := b.ticks + 1 }
  | _ => if l.job.written then l.doneJob 5 else l

/-- The alignment of 4,000 ticks ends: the negated sensed angle with offset 0 is the offset (R533, R288). -/
def Lane.bridgeEnd (l : Lane) : Lane :=
  match l.jobAxis with
  | some n =>
    let b := l.job.bt
    if l.job.run ≠ some 5 ∨ (l.jobSt 5).state ≠ 1 ∨ b.stage ≠ 2 ∨ b.ticks < 4000 then l
    else
      let off := toField 16 ((l.cfg.axisCommOffset n.val : Int) - (l.sensorAngle n).1)
      ({ l with job := { l.job with bt := { b with stage := 3, offset := off } } }).beginWrites
        [l.tagWrite 5 (.inl (n.val, 0)) [(104, beBytes 2 off), (106, [byteOf b.mask])]]
  | none => l

/-! ## ROTATE_TEST (R534) -/

/-- One ROTATE_TEST record changed. -/
def Lane.modRt (l : Lane) (f : RotateTest → RotateTest) : Lane := { l with job := { l.job with rt := f l.job.rt } }

/-- An event of L1 or above was recorded on the axis at the last close. -/
def Lane.axisEvent (l : Lane) (n : Nat) : Bool :=
  l.col.news.any fun h => h.r.level != .l0 && (h.axes.contains n || h.subj == Subject.axis n)

/-- One tick of ROTATE_TEST. -/
def Lane.rtTick (l : Lane) : Lane :=
  match l.job.rt.axes with
  | [] => l.doneJob 6
  | i :: _ =>
    if h : i < 12 then
      let n : AxisId := ⟨i, h⟩
      let by_ := (l.ax n).heldBy
      let r := l.job.rt
      let l := if r.orig.isNone then l.modRt fun r => { r with orig := by_, seen := by_, due := true } else l
      let moved := r.orig.isSome && r.seen != by_
      let l := if moved then l.modRt fun r => { r with seen := by_, moves := r.moves + 1, held := 0, due := false }
        else l.modRt fun r => { r with held := if r.due then 0 else r.held + 1 }
      if (moved && decide (1 < (l.ax n).handoverGap)) || l.axisEvent i || (decide (3 ≤ l.job.rt.moves) && l.job.rt.orig != by_) then l.failJob 6 19
      else if l.job.rt.due ∧ (l.ax n).role = .holder ∧ l.lease.yieldPlan.isEmpty then
        { l with lease := { l.lease with yieldPlan := [i], rotating := true } }
      else l
    else l.doneJob 6

/-- A holder has held the axis for 40,000 ticks (R534): the next handover, the next axis, or the end. -/
def Lane.rotateHoldEnd (l : Lane) : Lane :=
  let r := l.job.rt
  if l.job.run ≠ some 6 ∨ (l.jobSt 6).state ≠ 1 ∨ r.due ∨ r.held < 40000 then l
  else if r.moves < 3 then l.modRt fun r => { r with due := true }
  else if r.seen ≠ r.orig then l.failJob 6 19
  else
    let rest := r.axes.drop 1
    if rest.isEmpty then l.doneJob 6 else l.modRt fun _ => { axes := rest, due := true }

end Sys2Proof.Machine
end

