-- ==== Sys2Proof/Machine/Update.lean ====
section
/-! DEFINITION. Live firmware update, REGATHER, protocol level, job flow of a tick, restart and job parameters (chapter 20, R74 to R76, R529, R536 to R545, R554). -/

namespace Sys2Proof.Machine

/-! ## Staging (R536) -/

/-- The slot the lane is not running. -/
def Lane.otherSlot (l : Lane) : Nat := 1 - l.start.slot % 2

/-- The slot record of the journal. -/
def Lane.slotRec (l : Lane) : SlotRec := l.nvm.slotRec.read {}

/-- The slot record written. -/
def Lane.putSlotRec (l : Lane) (r : SlotRec) : Lane := { l with nvm := { l.nvm with slotRec := l.nvm.slotRec.write r } }

/-- The content of a slot replaced. -/
def Lane.putSlot (l : Lane) (slot : Nat) (m : Mem) : Lane :=
  { l with nvm := if slot = 0 then { l.nvm with slot0 := m } else { l.nvm with slot1 := m } }

/-- One FW_LOAD record changed. -/
def Lane.modFw (l : Lane) (f : FwLoad → FwLoad) : Lane := { l with job := { l.job with fw := f l.job.fw } }

/-- A part of a package staged into the slot the lane is not running; offset 0 erases the slot (R536). -/
def Lane.stage (l : Lane) (offset : Nat) (data : List Byte) : Lane :=
  let slot := l.otherSlot
  let l := if offset = 0 ∧ l.slotRec.staged ≠ 0 then l.putSlotRec { l.slotRec with staged := 0, stagedProto := 0 } else l
  let m := Mem.writeList (if offset = 0 then [] else l.slotMem slot) offset data
  let next := offset + data.length
  (l.putSlot slot m).modFw fun f => { f with
    next := next, asked := none, complete := decide (128 ≤ next) && decide (packageLen m ≤ next), passed := false }

/-- FW_LOAD is staging: RUNNING, its package not complete. -/
def Lane.staging (l : Lane) : Bool := l.job.run == some 7 && (l.jobSt 7).state == 1 && !l.job.fw.complete

/-- A write of JOB[7].BLOCK (R536). -/
def Lane.fwBlockWrite (l : Lane) (h : SvcHdr) (offset : Nat) (data : List Byte) : Lane :=
  l.serve h 0x02 true true fun l =>
    if data.isEmpty ∨ 1773 < data.length then (l, 6, [])
    else if h.target = 3 ∧ l.staging ∧ l.cfg.jobSource = 0 ∧ (offset = 0 ∨ offset = l.job.fw.next) ∧ offset + data.length ≤ slotSize then
      (l.stage offset data, 0, [])
    else refused l 21

/-- The payload of a BLOCK REQUEST (Table 20.7). -/
def blockRequestBytes (release offset len : Nat) : List Byte :=
  [1, 1, 0, 0] ++ beBytes 4 release ++ beBytes 4 offset ++ beBytes 2 len ++ [0, 0]

/-- The payload of a BLOCK DATA (Table 20.7). -/
def blockDataBytes (release offset : Nat) (data : List Byte) : List Byte :=
  [2, 1, 0, 0] ++ beBytes 4 release ++ beBytes 4 offset ++ beBytes 2 data.length ++ [0, 0] ++ data

/-- The slot that holds a release asked for: the running one, else the staged one (R536). -/
def Lane.slotOf (l : Lane) (release : Nat) : Option Nat :=
  let run := l.start.slot % 2
  if release = 0 ∨ release = l.release then some run
  else if l.slotRec.staged = release ∧ packageRelease (l.slotMem (1 - run)) = release then some (1 - run)
  else none

/-- A received BLOCK REQUEST is answered (R536). -/
def Lane.blockRequest (l : Lane) (f : FabFrame) : Lane :=
  let p := f.payload
  let release := beNat (slice p 4 4)
  let offset := beNat (slice p 8 4)
  let len := beNat (slice p 12 2)
  if !l.serves_ ∨ p.getD 1 0 ≠ 1 then l
  else match l.slotOf release with
  | some s =>
    let m := l.slotMem s
    let total := packageLen m
    let n := if 880 < len ∨ slotSize < total then 0 else min len (total - offset)
    l.fabSend 4 f.src (blockDataBytes (packageRelease m) offset (m.readList offset n))
  | none => l.fabSend 4 f.src (blockDataBytes release offset [])

/-- A received BLOCK DATA (R536). -/
def Lane.blockData (l : Lane) (f : FabFrame) : Lane :=
  let p := f.payload
  let offset := beNat (slice p 8 4)
  let len := beNat (slice p 12 2)
  if !l.staging || p.getD 1 0 != 1 || l.cfg.jobSource != f.src || l.job.fw.asked != some offset then l
  else if len = 0 ∨ slotSize < offset + len then l.failJob 7 15
  else l.stage offset (slice p 16 len)

/-- The signature check of a staged package completes (R537). -/
def Lane.stagedCheck (l : Lane) : Lane :=
  if l.job.run ≠ some 7 ∨ !(l.jobSt 7).busy ∨ !l.job.fw.complete ∨ l.job.fw.passed then l
  else if packageValid l.nvm.bootKey (l.slotMem l.otherSlot) then
    let m := l.slotMem l.otherSlot
    (l.putSlotRec { l.slotRec with staged := packageRelease m, stagedProto := packageLevel m }).modFw fun f => { f with passed := true }
  else l.failJob 7 14

/-! ## Protocol level (R538) -/

/-- The protocol level another lane shows. -/
def Lane.peerLevel (l : Lane) (x : LaneId) : Option Nat :=
  let p := l.px.get x
  (p.detail.orElse fun _ => p.detailPrev).map (·.level)

/-- The protocol levels of the lanes in OPERATE, as this lane sees them. -/
def Lane.levels (l : Lane) : List Nat :=
  (if l.start.state = LState.operate then [l.protocol] else []) ++ l.counted.filterMap l.peerLevel

/-- The old level of a running FW_LOAD checkpoint. -/
def Lane.oldLevel (l : Lane) : Option Nat := l.slotRec.oldSlot.map fun s => packageLevel (l.slotMem s)

/-- The node level (R538). -/
def Lane.nodeLevel (l : Lane) : Nat :=
  let vs := l.levels
  match vs.find? fun v => decide (2 ≤ (vs.filter (· == v)).length) with
  | some v => v
  | none => l.oldLevel.getD (vs.foldl min (vs.headD l.protocol))

/-- Each tick: a lane in OPERATE whose level differs is ABSENT for every axis and gives no endorsement (R538). -/
def Lane.levelTick (l : Lane) : Lane :=
  let odd := l.start.state == .operate && l.protocol != l.nodeLevel
  if odd then
    let l := if l.job.odd then l else l.raiseJob .job011 7 l.protocol
    let l := { l with job := { l.job with odd := true }, lease := { l.lease with nonEndorsing := true } }
    l.mapAx fun _ a => if a.absent ∨ a.leaving then a else a.leave
  else if l.job.odd then
    ({ l with job := { l.job with odd := false }, lease := { l.lease with nonEndorsing := false } }).returnAxes
  else l

/-! ## Restarts -/

/-- The lane yields what it holds, enters STOPPED and restarts; with nothing to yield outside OPERATE it restarts at the close of the tick (R554). -/
def Lane.leaveAndRestart (l : Lane) : Lane :=
  if l.start.state = .operate then
    { l with
      lease := { l.lease with yieldPlan := l.held.map (·.val), rotating := false, stopping := true }
      start := { l.start with restart := true } }
  else { l with start := { l.start with restartNow := true } }

/-- The checkpoint of FW_LOAD is written, the new slot recorded, and the lane restarts (R539). -/
def Lane.fwRestart (l : Lane) : Lane :=
  let r := l.slotRec
  let cur := l.start.slot % 2
  let r := if l.job.fw.switched then r else
    { r with slot := 1 - cur, oldSlot := some cur, order := l.cfg.jobOrder, joinMax := l.cfg.jobJoinmax }
  (l.putSlotRec r).reset .laneRestart

/-- The checkpoint of REGATHER is written and the lane restarts; in a rollback it restores the old area and seal first (R543, R545). -/
def Lane.rgRestart (l : Lane) : Lane :=
  match l.job.rg.back, l.nvm.regather.read none with
  | some c, some k =>
    let l := { l with nvm := { l.nvm with
      areas := l.nvm.areas.write { active := k.area, pending := false }
      confirmed := l.nvm.confirmed.write k.oldSeal
      regather := l.nvm.regather.write none } }
    (((l.raiseJob .job012 8 c).failJob 8 c).collect).reset .laneRestart
  | _, _ =>
    let k : RegCkpt := { area := (l.nvm.areas.read {}).active, oldSeal := l.nvm.confirmed.read 0, ticks := l.job.rg.ticks, fresh := true }
    ({ l with nvm := { l.nvm with regather := l.nvm.regather.write (some k) } }).reset .laneRestart

/-- The restart a lane in STOPPED makes once its last counter has reached zero, by the job that asked for it. -/
def Lane.restartStep (l : Lane) : Lane :=
  if l.job.fw.switching ∧ l.job.run = some 7 ∧ (l.jobSt 7).busy then l.fwRestart
  else if l.job.rg.switching ∧ l.job.run = some 8 ∧ (l.jobSt 8).busy then l.rgRestart
  else l.reset .laneRestart

/-- In STOPPED after yielding, at the close of the tick in which the last counter reaches zero (R554). -/
def Lane.restartAfterYield (l : Lane) : Lane :=
  if l.start.state = .stopped ∧ l.start.restart ∧ allAxes.all (fun n => (l.ax n).counter == 0) then l.restartStep else l

/-- A write of 1 to JOB.RESTART (R554). -/
def Lane.jobRestart (l : Lane) (h : SvcHdr) (value : Nat) : Lane :=
  l.serve h 0x02 true true fun l =>
    if value ≠ 1 then refused l (Config.unnamedCause 4)
    else if l.start.state = .operate ∧ l.service < 3 then refused l 10
    else (l.leaveAndRestart, 0, [])

/-! ## FW_LOAD (R539 to R541) -/

/-- Every axis of the node has a LEGS entry for all three lanes (R539). -/
def Lane.legsOnAll (l : Lane) : Bool := l.cfg.axes.all fun n => LaneId.all.all fun x => (l.cfg.startLeg x n.val).isSome

/-- The order of the switches: from JOB[7].ORDER, cyclic, the lanes of the mask. -/
def Lane.fwOrder (l : Lane) : List LaneId :=
  let o := if l.slotRec.oldSlot.isSome then l.slotRec.order else l.cfg.jobOrder
  [LaneId.ofMod o, LaneId.ofMod (o + 1), LaneId.ofMod (o + 2)].filter l.cfg.maskHas

/-- A lane has switched, as this lane sees it. -/
def Lane.fwSwitched (l : Lane) (x : LaneId) : Bool := if x = l.id then l.job.fw.switched else (l.px.get x).jobs.switched

/-- Every lane running FW_LOAD has passed the check (R537). -/
def Lane.allPassed (l : Lane) : Bool := l.job.fw.passed && (l.jobPeers 7).all fun p => p.2.part

/-- The next lane in order begins its switch (R539). -/
def Lane.fwLaneSwitch (l : Lane) : Lane :=
  if l.job.run ≠ some 7 ∨ (l.jobSt 7).state ≠ 1 ∨ !l.allPassed ∨ l.job.fw.switching ∨ l.job.fw.switched ∨ l.job.fw.stand then l
  else if l.start.state = .unsealed then l.fwRestart
  else if l.start.state = .operate ∧ l.service = 3 ∧ l.legsOnAll ∧ (l.fwOrder.find? fun x => !l.fwSwitched x) = some l.id then
    (l.modFw fun f => { f with switching := true }).leaveAndRestart
  else l

/-- The old slot recorded and the switch given up with JOB-010 (R539, R541). -/
def Lane.fwBack (l : Lane) (cause : Nat) : Lane :=
  match l.slotRec.oldSlot with
  | some o =>
    let l := (l.raiseJob .job010 7 (l.release % 65536)).putSlotRec { l.slotRec with slot := o, oldSlot := none }
    (l.failJob 7 cause).leaveAndRestart
  | none => (l.raiseJob .job010 7 (l.slotRec.staged % 65536)).failJob 7 cause

/-- A switched lane is not in OPERATE within JOINMAX ticks of its restart (R539). -/
def Lane.fwJoinTimeout (l : Lane) : Lane :=
  let r := l.slotRec
  if l.job.run = some 7 ∧ (l.jobSt 7).busy ∧ r.oldSlot.isSome ∧ !l.job.fw.switched ∧ l.start.booted ∧ r.joinMax ≤ l.start.ticks then l.fwBack 16
  else l

/-- The standstill switch was not made in time (R541). -/
def Lane.fwSwitchTimeout (l : Lane) : Lane :=
  if l.job.run = some 7 ∧ (l.jobSt 7).busy ∧ l.job.fw.stand ∧ 24000000 ≤ l.job.fw.sinceFirst.getD 0 then l.fwBack 17
  else l

/-- The boundary of the standstill switch: the lane restarts into the new slot (R540). -/
def Lane.standstillSwitch (l : Lane) : Lane :=
  match l.job.fw.standAt with
  | some t => if l.job.run = some 7 ∧ (l.jobSt 7).state = 1 ∧ l.start.state = .operate ∧ t ≤ l.tick.count + 1 then l.fwRestart else l
  | none => l

/-- The switch boundary that the first lane of the order in OPERATE names, in the own numbering (R540, R34). -/
def Lane.standBoundary (l : Lane) : Option Nat :=
  match l.fwOrder.find? fun x => if x = l.id then l.start.state == .operate else l.counts x with
  | none => none
  | some x =>
    if x = l.id then some (l.tick.count + 8)
    else match (l.px.get x).jobs.standAt, (l.peerOf x).diff with
      | some t, some d => if (l.tick.count : Int) < (t : Int) - d then some ((t : Int) - d).toNat else none
      | _, _ => none

/-- The job waits for the standstill switch: a switched lane shows another level, or an axis has legs on two lanes only (R540). -/
def Lane.needsStand (l : Lane) : Bool :=
  let odd (x : LaneId) : Bool :=
    l.fwSwitched x && (match (if x = l.id then some l.protocol else l.peerLevel x) with | some v => v != l.nodeLevel | none => false)
  l.start.state == .operate && l.allPassed && (!l.legsOnAll || (l.fwOrder.any odd))

/-- One tick of FW_LOAD in RUNNING. -/
def Lane.fwTick (l : Lane) : Lane :=
  let f := l.job.fw
  if !f.complete then
    if l.cfg.jobSource ≠ 0 ∧ f.asked.isNone then
      (l.fabSend 3 l.cfg.jobSource (blockRequestBytes 0 f.next 880)).modFw fun f => { f with asked := some f.next }
    else l
  else
    let l := if l.start.state = .unsealed ∧ l.slotRec.oldSlot.isSome ∧ l.slotRec.oldSlot ≠ some (l.start.slot % 2) then
        l.modFw fun f => { f with switched := true } else l
    let done := if l.start.state = .unsealed then l.job.fw.switched else l.start.state == .operate && l.fwOrder.all l.fwSwitched
    if done then (l.clearSlotCkpt).doneJob 7
    else if !f.stand && l.needsStand then
      ((l.modFw fun f => { f with stand := true }).modJob 7 fun s => { s with cause := 23 }).suspended 7
    else if f.stand && f.standAt.isNone then l.modFw fun f => { f with standAt := l.standBoundary }
    else l

/-- The ticks since the first switched lane entered OPERATE (R541). -/
def Lane.fwCount (l : Lane) : Lane :=
  if l.job.run = some 7 ∧ (l.jobSt 7).busy ∧ LaneId.all.any l.fwSwitched then
    l.modFw fun f => { f with sinceFirst := some (f.sinceFirst.getD 0 + 1) }
  else l

/-! ## REGATHER (R543 to R545) -/

/-- One REGATHER record changed. -/
def Lane.modRg (l : Lane) (f : Regather → Regather) : Lane := { l with job := { l.job with rg := f l.job.rg } }

/-- The lanes of the mask in the order A, B, C. -/
def Lane.rgOrder (l : Lane) : List LaneId := LaneId.all.filter l.cfg.maskHas

/-- A lane has switched, as this lane sees it. -/
def Lane.rgSwitched (l : Lane) (x : LaneId) : Bool := if x = l.id then l.job.rg.switched else (l.px.get x).jobs.switched

/-- A rollback begins with a cause (R545). -/
def Lane.rgBegin (l : Lane) (cause : Nat) : Lane := (l.modRg fun r => { r with back := some cause }).jobTo 8 5 cause

/-- A lane begins its switch, or in a rollback its switch back, at FULL in the order of R543 or its reverse (R543, R545). -/
def Lane.regatherSwitch (l : Lane) : Lane :=
  let r := l.job.rg
  if l.job.run ≠ some 8 ∨ r.switching ∨ l.start.state ≠ .operate ∨ l.service ≠ 3 then l
  else
    let go := (l.modRg fun r => { r with switching := true }).leaveAndRestart
    match r.back with
    | none => if (l.jobSt 8).state = 1 ∧ (l.rgOrder.find? fun x => !l.rgSwitched x) = some l.id then go else l
    | some _ => if (l.rgOrder.reverse.find? l.rgSwitched) = some l.id then go else l

/-- REGATHER is not DONE within 24,000,000 ticks of START (R545). -/
def Lane.regatherTimeout (l : Lane) : Lane :=
  if l.job.run = some 8 ∧ (l.jobSt 8).busy ∧ 24000000 ≤ l.job.rg.ticks ∧ l.job.rg.back.isNone then l.rgBegin 17 else l

/-- The REGATHER checkpoint cleared (R544). -/
def Lane.clearRegather (l : Lane) : Lane := { l with nvm := { l.nvm with regather := l.nvm.regather.write none } }

/-- One tick of REGATHER, in every state of Table 20.2 between RUNNING and CANCELLING. -/
def Lane.rgTick (l : Lane) : Lane :=
  let l := l.modRg fun r => { r with ticks := r.ticks + 1 }
  let r := l.job.rg
  match r.back with
  | some c =>
    if r.switched then l
    else
      let l := l.cancelSwitch
      let ar := l.nvm.areas.read {}
      let l := { l with nvm := { l.nvm with areas := l.nvm.areas.write { ar with pending := false } } }
      ((l.clearRegather).raiseJob .job012 8 c).failJob 8 c
  | none =>
    if l.start.state ≠ .operate ∨ (l.jobSt 8).state ≠ 1 then l
    else if l.rgOrder.all l.rgSwitched then (l.clearRegather).doneJob 8
    else if !r.switched && !r.switching && decide (2 ≤ (l.counted.filter l.rgSwitched).length) then
      let l := l.modRg fun r => { r with yielded := true }
      if l.lease.yieldPlan.isEmpty then { l with lease := { l.lease with yieldPlan := l.held.map (·.val), rotating := false } } else l
    else l

/-! ## Jobs across a reset (R528) -/

/-- A job as the journal keeps it, taken up again at boot. -/
def Lane.bootJob (l : Lane) (k : JobCkpt) : Lane :=
  let put (l : Lane) (st : Nat) : Lane := l.modJob k.job fun s => { s with state := st, cause := k.cause }
  if k.state = 6 ∨ k.state = 7 then put l k.state
  else if k.state = 0 then l
  else if k.job = 7 ∧ l.slotRec.oldSlot.isSome then
    (put { l with job := { l.job with run := some 7, axis := 0xFF } } 1).modFw fun f => { f with complete := true, passed := true }
  else if k.job = 8 then
    match l.nvm.regather.read none with
    | some c =>
      if c.fresh ∧ l.start.cause = .laneRestart then
        let l := put { l with job := { l.job with run := some 8, axis := 0xFF } } 1
        let l := { l with nvm := { l.nvm with regather := l.nvm.regather.write (some { c with fresh := false }) } }
        l.modRg fun r => { r with ticks := c.ticks }
      else
        let l := { l with nvm := { l.nvm with
          areas := l.nvm.areas.write { active := c.area, pending := false }
          confirmed := l.nvm.confirmed.write c.oldSeal
          regather := l.nvm.regather.write none } }
        (l.raiseJob .job012 8 12).failJob 8 12
    | none =>
      let ar := l.nvm.areas.read {}
      let l := { l with nvm := { l.nvm with areas := l.nvm.areas.write { ar with pending := false } } }
      (l.raiseJob .job012 8 12).failJob 8 12
  else if k.job = 1 then (l.push { ev := .job020, ctx := BitVec.ofNat 32 (k.axis % 256 * 2 ^ 24 + 12) }).jobTo 1 7 12
  else l.failJob k.job 12

/-- The jobs of the journal at boot. -/
def Lane.bootJobs (l : Lane) : Lane := (l.nvm.job.read []).foldl Lane.bootJob l

/-- The jobs as the lane enters OPERATE: it has switched where it runs the new slot or carries the new seal (R539, R543). -/
def Lane.jobEntry (l : Lane) : Lane :=
  match l.job.run with
  | some 7 =>
    match l.slotRec.oldSlot with
    | some o => l.modFw fun f => { f with switched := o != l.start.slot % 2 }
    | none => l
  | some 8 =>
    match l.nvm.regather.read none with
    | some k => l.modRg fun r => { r with switched := l.gat.sealVal != k.oldSeal }
    | none => l
  | _ => l

/-! ## The flow of a job in a tick (R524, R526, R527, R74 to R76) -/

/-- A condition of a running job has lapsed, or a cause suspends it: the cause, and whether outputs drop at once. -/
def Lane.jobLapse (l : Lane) (j : Nat) : Option (Nat × Bool) :=
  let un := l.start.state == .unsealed
  if !l.start.workshop then some (8, true)
  else if (j ≤ 6 ∨ un) ∧ !l.jobSpeed then some (9, true)
  else if un ∧ l.can.session.isNone then some (Config.unnamedCause 1, true)
  else if !jobState j l.start.state && j != 7 && j != 8 then some (Config.unnamedCause 3, true)
  else if j = 6 ∧ l.service < 3 then some (10, false)
  else if j = 1 then
    if !l.noChatter then some (1, false)
    else match l.job.partnerSusp with
      | some c => some (c, false)
      | none =>
        match l.jobAxis with
        | some n =>
          let a := l.ax n
          if l.start.state == .operate && l.job.cf.seen.isSome && l.job.cf.seen != a.heldBy && a.handover != 1 then some (6, false) else none
        | none => none
  else if j = 2 ∧ !l.noChatter then some (1, false)
  else none

/-- A resumed job restarts its present phase (Table 20.2). -/
def Lane.restartPhase (l : Lane) (j : Nat) : Lane :=
  let l := match l.jobAxis with
    | some n => if l.start.state = LState.unsealed ∧ drivingJob j then l.modPwm n fun w => { w with job := true } else l
    | none => l
  match j, l.jobAxis with
  | 1, some n => if l.job.cf.phase ≤ 5 then (l.cfStage n l.job.cf.phase 0).modCf fun c =>
      { c with seen := none, free1 := c.free1 && c.phase != 2, free2 := c.free2 && c.phase != 3 } else l
  | 2, _ => l.modEl fun e => { e with asked := false, zero := 0 }
  | 4, _ => { l with job := { l.job with vc := { l.job.vc with ticks := 0 } } }
  | 5, _ => { l with job := { l.job with bt := { l.job.bt with ticks := 0 } } }
  | 6, _ => l.modRt fun r => { r with held := 0 }
  | 7, _ => l.modFw fun f => { f with asked := none, standAt := none }
  | _, _ => l

/-- The work of a job in RUNNING. -/
def Lane.runJob (l : Lane) (j : Nat) (bridge : Option Nat) : Lane :=
  match j, l.jobAxis with
  | 1, some n => l.cfTick n
  | 2, some n => l.elTick n
  | 3, _ => l.plTick
  | 4, some n => l.vcTick n
  | 5, _ => l.btTick bridge
  | 6, _ => l.rtTick
  | 7, _ => l.fwTick
  | _, _ => l

/-- The causes and transitions of one job in a tick: failing causes before suspending ones, these before RESUME (R526). -/
def Lane.flowJob (l : Lane) (j : Nat) (bridge : Option Nat) : Lane :=
  let st := (l.jobSt j).state
  let lapse := if st = 1 ∨ st = 4 then l.jobLapse j else none
  match st, lapse with
  | _, some (c, drop) =>
    let r := if st = 1 then l.runJob j bridge else l
    if (r.jobSt j).state = 7 then r
    else
      let l := { l with job := { l.job with partnerSusp := none } }
      (l.suspendJob j c drop).cancelSwitch
  | 1, none => l.runJob j bridge
  | 2, none => if l.jobQuiet j then l.suspended j else l
  | 4, none => (l.restartPhase j).jobTo j 1 0
  | 5, none => if j ≠ 8 ∧ l.jobQuiet j then (l.cancelSwitch).failJob j 11 else l
  | _, none => l

/-- A switch that entered CHATTER at this close suspends the CENTRE_FIND or END_LEARN that runs, in the same tick; the stop it asks for begins in the next (R221, Table 8.7). -/
def Lane.jobChatter (l : Lane) : Lane :=
  match l.job.run with
  | some j =>
    let st := (l.jobSt j).state
    if (j = 1 ∨ j = 2) ∧ (st = 1 ∨ st = 4) ∧ !l.noChatter then l.suspendJob j 1 false else l
  | none => l

/-- The jobs of a tick. -/
def Lane.jobTick (l : Lane) (bridge : Option Nat) : Lane :=
  let l := { l with job := { l.job with
    refused := none
    st := l.job.st.mapFin fun _ s => if s.busy then { s with ticks := s.ticks + 1 } else s } }
  let l := l.levelTick
  let l := if (l.jobSt 9).busy then (if !l.col.commonsUp then l.failJob 9 22 else l.flowJob 9 none) else l
  match l.job.run with
  | none => l
  | some 8 =>
    let l := if l.job.partner && l.job.rg.back.isNone then ({ l with job := { l.job with partner := false } }).rgBegin 13 else l
    let l := if l.job.rg.back.isNone then l.flowJob 8 none else l
    if l.job.run = some 8 then l.rgTick else l
  | some j => if l.job.partner then l.failJob j 13 else (l.flowJob j bridge).fwCount

/-! ## Driving in UNSEALED (R75, R76) -/

/-- R75 holds in this tick: a link delivered a marker and none received showed ARMED or OPERATE. -/
def Lane.aloneNow (l : Lane) : Bool :=
  l.anyLink && l.id.others.all fun x => match (l.peerOf x).marker with
    | some m => m.state != .armed && m.state != .operate
    | none => true

/-- The lease unit loads the counter of each axis the job drives while the conditions of R74 and R75 hold. -/
def Lane.unsealedLoad (l : Lane) : Lane :=
  match l.job.run, l.jobAxis with
  | some j, some n =>
    if l.start.state = .unsealed ∧ drivingJob j ∧ (l.jobSt j).busy ∧ (l.pwm.get n).job ∧ !(l.ax n).absent ∧ l.start.workshop ∧ l.jobSpeed ∧
        l.can.session.isSome ∧ l.aloneNow ∧ 8 ≤ l.start.aloneRun then
      l.modAx n fun a => { a with counter := l.cfg.leaseLen, forceZero := false }
    else l
  | _, _ => l

/-- At the close: the run of R75, and its lapse for a job that drives (R76). -/
def Lane.unsealedClose (l : Lane) : Lane :=
  let l := { l with start := { l.start with aloneRun := if l.aloneNow then satInc 9 l.start.aloneRun else 0 } }
  match l.job.run with
  | some j =>
    let st := (l.jobSt j).state
    if l.start.state = .unsealed ∧ drivingJob j ∧ (st = 1 ∨ st = 4) ∧ l.start.aloneRun < 9 then l.suspendJob j (Config.unnamedCause 1) true
    else l
  | none => l

/-! ## Job parameters (R511, R529) -/

/-- The job parameters that OBJECT WRITE reaches, with type and range (Table 20.4): true where a table marks them not writable. -/
def jobObject (id : Nat) : Option (Option ObjDef) :=
  if id = 0x60090010 then some none
  else if id / 0x1000000 = 0x60 then (objDef? id).map some
  else none

/-- A raw value allowed by an object's range. -/
def ObjDef.allows (o : ObjDef) (v : Int) : Bool :=
  o.also.contains v || (if o.only.isEmpty then decide (o.lo ≤ v) && decide (v ≤ o.hi) else o.only.contains v)

/-- An OBJECT WRITE of an object that has no row of its own (R511, R529). -/
def Lane.objectWrite (l : Lane) (h : SvcHdr) (known : Nat → Bool) (id : Nat) (value : List Byte) : Lane :=
  l.serve h 0x02 true true fun l =>
    if id = 0x60000001 then (l, 6, [])
    else match jobObject id with
    | some none => refused l 0
    | some (some o) =>
      if value.length ≠ o.ty.size then (l, 6, [])
      else
        let raw := leNat value
        let v : Int := if o.ty.signed then toSigned (8 * o.ty.size) raw else raw
        if !o.allows v then refused l (Config.unnamedCause 4)
        else
          let l := { l with job := { l.job with params := Cfg.over l.job.params [(id, [v])] } }
          let l := if id = 0x60090003 then { l with gat := { l.gat with cfg := l.gat.cfg.over [(id, [v])] } } else l
          (l, 0, [])
    | none => if known id then refused l 0 else (l, 1, [])

end Sys2Proof.Machine
end

