-- ==== Sys2Proof/Machine/Status.lean ====
section
/-! DEFINITION. The values of the status objects, as the lane that executes a read holds them (R26 and the status tables of the chapters). -/

namespace Sys2Proof.Machine

/-- A value in whole units from one with fraction bits. -/
def wholeOf (bits : Nat) (x : Int) : Int := satI32 (roundDiv x (2 ^ bits))

/-- A value with 32 fraction bits as Q16.16. -/
def q16Of (x : Int) : Int := satQ (roundDiv x 65536)

/-- What a lane shows of another lane's object for which it holds nothing received: no rule gives the value, and its reserved bits are 0 (R6, R26). -/
def Lane.foreign (l : Lane) (id : Nat) (d : StDef) : List Int := (List.range d.cnt).map fun i => d.clean (Config.foreignStatus id i l.tick.count)

/-- A value of which the lane holds the bits of a mask, and nothing of the others. -/
def heldBits (free : Int) (mask held : Nat) : Int := ((toField 64 free - (toField 64 free &&& mask) + (held &&& mask) : Nat) : Int)

/-- The lanes that have switched in a firmware update or a REGATHER, A to C. -/
def Lane.switchedMask (l : Lane) : Nat := LaneId.all.foldl (fun m x => if l.fwSwitched x || l.rgSwitched x then m + 2 ^ x.code else m) 0

/-- What a lane holds of another lane's object, from its last marker, its detailed state and the tail of its frames (R26). A lane whose link direction is down is shown as OFF (DESIGN CHOICE). -/
def Lane.heldOf (l : Lane) (x : LaneId) (id : Nat) (d : StDef) : List Int :=
  let p := l.peerOf x
  let m := p.lastMarker
  let t := (l.px.get x).detail.orElse fun _ => (l.px.get x).detailPrev
  let free := l.foreign id d
  let all (v : Option Int) : List Int := match v with | some v => [v] | none => free
  let part (mask : Nat) (v : Option Nat) : List Int :=
    match v with | some v => free.map fun w => d.clean (heldBits w mask v) | none => free
  match id % 0x10000 with
  | 0x0002 => [match m with | some k => if p.down then 0 else (k.state.code : Int) | none => 0]
  | 0x0010 => all (m.map fun k => (k.count : Int))
  | 0x0011 => part 0xFFFF (m.bind fun k => if k.synced then some k.fabLow else none)
  | 0x0013 => part 0x10 (m.map fun k => 16 * b2n k.synced)
  | 0x0024 => part 0x33 (m.map fun k => b2n k.ign + 2 * b2n k.wake + 16 * b2n k.ready + 32 * b2n k.powerDown)
  | 0x0030 => all (p.sealSeen.map fun w => (w.toNat : Int))
  | 0x0037 => all (t.map fun k => (k.level : Int))
  | 0x0050 => [p.health.toNat]
  | 0x0073 => all (t.map fun k => (k.phase : Int))
  | 0x0527 => part 0x1 (m.map fun k => b2n k.stop)
  | 0x0800 => part 0x10 (t.map fun k => 16 * b2n k.voice)
  | 0x0810 => part 0x10 (t.map fun k => 16 * b2n k.voice)
  | 0x0802 => all (t.map fun k => (k.addr0 : Int))
  | 0x0812 => all (t.map fun k => (k.addr1 : Int))
  | f =>
    if 0x901 ≤ f ∧ f ≤ 0x909 ∧ p.everUp then
      let j := f - 0x900
      let s := (l.px.get x).jobs.st.getD j {}
      part 0x0700FF07 (some (s.state % 8 + 256 * (s.cause % 256) + 2 ^ 24 * (if (j = 7 ∨ j = 8) ∧ s.state ≠ 0 then l.switchedMask else 0)))
    else free

/-- The commons as the status objects show it (Table 20.10). -/
def Commons.stateWord (c : Commons) (up : Bool) : Nat :=
  b2n (up && c.present) + 2 * b2n (up && c.present) + 4 * b2n (c.windows.any (·.isOpen)) + 8 * b2n c.moved

/-- The status objects of the node (block 0x70, instance 0). -/
def Lane.nodeStatus (l : Lane) (c : Commons) (f : Nat) : List Int :=
  match f with
  | 0x0001 => [l.service]
  | 0x0B00 => [c.stateWord l.col.commonsUp]
  | 0x0B01 => [let r := l.cfg.recordRate 256; if l.gat.imageState = 2 then ((40000 * r.1 / r.2 : Nat) : Int) else 0]
  | 0x0B02 => [c.wear]
  | 0x0B03 => [c.windows.length]
  | _ => []

/-- The status objects of a feedback channel (Table 7.6). -/
def Lane.fbkStatus (l : Lane) (c k : Nat) : List Int :=
  let ch := l.fbk.getD c {}
  match k with
  | 0 => [satI32 ch.lpos]
  | 1 => [satQ ch.v]
  | 2 => [satQ ch.vWin]
  | 3 => [satQ ch.vInt]
  | 4 => [l.chFlags c]
  | 5 => [min ch.fastSum 65535]
  | 6 => [min ch.dblSum 65535]
  | 7 => [min ch.uncertShown 65535]
  | 8 => [clampI (-32768) 32767 ch.refShown]
  | 9 => [satQ ch.ampSq]
  | _ => []

/-- The status objects of a leg (Tables 12.6 and 13.8). -/
def Lane.legStatus (l : Lane) (i k : Nat) : List Int :=
  let x := l.leg.getD i {}
  match k with
  | 0 => [x.duty]
  | 1 => [min x.late 65535]
  | 2 => [min x.mismatch 65535]
  | 3 => [min x.shoot 65535]
  | 4 => [satQ x.evSample]
  | 5 => [x.stepR % 16 + 16 * (x.stepF % 16)]
  | 6 => [x.tswR % 65536 + 65536 * (x.tswF % 65536)]
  | 7 => [b2n x.iso + 2 * b2n x.refreshing + 4 * b2n x.uv]
  | 8 => [min x.vhs 65535]
  | 9 => [x.trip % 8 + 8 * (x.ident % 4)]
  | _ => []

/-- The gate enables of the lane's legs: the counter of the axis each serves is not zero (R117). -/
def Lane.legEnable (l : Lane) : Nat :=
  (List.range 16).foldl (fun m i => match l.cfg.axisOfLeg l.id i with
    | some n => if (l.ax n).counter != 0 then m + 2 ^ i else m
    | none => m) 0

/-- The CHASSIS word (Table 14.7): an instance that the lane has no element of counts as failed (R373). -/
def Lane.chassisWord (l : Lane) : Nat :=
  let c := l.chas
  (List.range 8).foldl (fun m i => m + 2 ^ i * b2n (c.sensors.getD i {}).failed) 0 +
  256 * b2n c.speed.isSome + 512 * b2n c.still + 1024 * b2n c.canOk + 2048 * b2n (!l.start.drvinh) + 4096 * b2n c.park +
  8192 * b2n c.accLow + 16384 * b2n (c.sensors.xs.any (·.pair))

/-- The words of a fault queue slot (Table 15.3). -/
def Lane.queueSlot (l : Lane) (i : Nat) : List Int :=
  match (if i = 0 then l.col.slot0 else l.col.ring[i - 1]?) with
  | some r => (List.range 4).map fun k => (beNat (slice r.bytes (4 * k) 4) : Int)
  | none => [0, 0, 0, 0]

/-- The fabric status objects (Table 17.13). -/
def Lane.fabStatus (l : Lane) (f : Nat) : List Int :=
  let x := l.fab
  let up : Nat := match x.up with | some p => p.val | none => 2
  match f with
  | 0x700 =>
    let closed := l.cfg.ring && !x.links.isEmpty && x.links.all fun b => b
    [l.node + 64 * b2n closed + 128 * b2n l.timeMaster + 256 * b2n x.valid + 512 * b2n x.holdover + 1024 * up + 4096 * (l.cfg.divisor % 8)]
  | 0x701 => [x.master + 256 * (x.hops % 256)]
  | 0x702 => [x.epoch]
  | 0x703 => [match x.up with | some p => satI32 (x.ports.get p).offset | none => 0]
  | _ =>
    let q := x.ports.getD ((f - 0x710) / 16) {}
    match f % 16 with
    | 0 => [q.state]
    | 1 => [q.neighbour]
    | 2 => [q.serial]
    | 3 => [q.delay.getD 0]
    | 4 => [min q.load 65535]
    | 5 => [q.errors]
    | 6 => [q.drops]
    | _ => []

/-- The caravan status objects (Table 18.9). -/
def Lane.carStatus (l : Lane) (f : Nat) : List Int :=
  if f = 0x740 then [l.car.elected + 64 * b2n l.car.candidate + 128 * b2n l.car.coord]
  else
    let k := l.carClass ((f - 0x740) / 16)
    match f % 16 with
    | 0 => [k.last.getD 0]
    | 1 => [k.missing]
    | 2 => [k.answer % 4 + 256 * (k.reason % 256)]
    | 3 => [min k.fired 65535 + 65536 * min k.refused 65535]
    | _ => []

/-- The CAN status objects (Table 19.11). -/
def Lane.canStatus (l : Lane) (f : Nat) : List Int :=
  let c : CanId := if f / 16 % 2 = 0 then 0 else 1
  let x := l.canCtl c
  match f % 16 with
  | 0 => [l.cfg.canMode c.val % 4 + 4 * x.err + 16 * b2n (l.can.voice && l.cfg.canMode c.val != 0) + 32 * b2n (l.restricted c)]
  | 1 => [min x.tec 255 + 256 * min x.rec_ 255]
  | 2 => [x.addr]
  | _ => []

/-- A job's status word (Table 20.10). -/
def Lane.jobWord (l : Lane) (j : Nat) : Nat :=
  let s := l.jobSt j
  s.state % 8 + 256 * (s.cause % 256) + 65536 * (Config.jobProgress j s.state s.ticks % 256) +
  2 ^ 24 * (if (j = 7 ∨ j = 8) ∧ s.state ≠ 0 then l.switchedMask else 0)

/-- The status objects of a lane that repeat per line, slot, function, job or element. -/
def Lane.laneStatusMany (l : Lane) (f : Nat) : List Int :=
  if 0x100 ≤ f ∧ f < 0x200 then l.fbkStatus ((f - 0x100) / 16) (f % 16)
  else if 0x200 ≤ f ∧ f < 0x300 then l.legStatus ((f - 0x200) / 16) (f % 16)
  else if 0x300 ≤ f ∧ f < 0x308 then [(l.evLine.getD (f - 0x300) {}).count]
  else if 0x308 ≤ f ∧ f < 0x310 then let e := l.evLine.getD (f - 0x308) {}; [satI32 e.cap0, satI32 e.cap1]
  else if 0x500 ≤ f ∧ f < 0x520 then l.queueSlot (f - 0x500)
  else if 0x601 ≤ f ∧ f < 0x608 then [l.gat.treact.getD (f - 0x601) 0]
  else if 0x700 ≤ f ∧ f < 0x740 then l.fabStatus f
  else if 0x740 ≤ f ∧ f < 0x780 then l.carStatus f
  else if 0x780 ≤ f ∧ f < 0x790 then [satI32 ((l.car.subs.getD (f - 0x780) {}).use.getD 0)]
  else if 0x790 ≤ f ∧ f < 0x7A0 then [min (l.subAge (f - 0x790)) 65535]
  else if 0x800 ≤ f ∧ f < 0x820 then l.canStatus f
  else if 0x900 ≤ f ∧ f < 0x910 then [l.jobWord (f - 0x900)]
  else []

/-- The single status objects of a lane. -/
def Lane.laneStatus (l : Lane) (f : Nat) : List Int :=
  match f with
  | 0x0002 => [l.start.state.code]
  | 0x0010 => [l.tick.count]
  | 0x0011 => [l.fabTick]
  | 0x0012 => [l.tick.source]
  | 0x0013 => [l.syncState]
  | 0x0014 => [clampI (-4000) 4000 (l.sourceState.lastMeas.getD 0)]
  | 0x0015 => [clampI (-4000) 4000 l.tick.offset]
  | 0x0016 => [l.tick.corr]
  | 0x0017 => [min l.tick.load 100]
  | 0x0018 => [min l.tick.loadMax 100]
  | 0x0019 => [min l.tick.loadCalc 100]
  | 0x0020 => [l.start.cause.code]
  | 0x0021 => [l.start.slot]
  | 0x0022 => [l.start.time]
  | 0x0023 => [l.start.entry]
  | 0x0024 => [b2n l.start.ign + 2 * b2n l.start.wake + 4 * b2n l.start.workshop + 8 * b2n l.start.bench + 16 * b2n l.start.ready +
      32 * b2n l.start.sinceP.isSome]
  | 0x0025 => [l.waitCode]
  | 0x0026 => [(l.nvm.ignition.read {}).cycles]
  | 0x0027 => [b2n (l.nvm.ignition.read {}).flag + 2 * b2n l.gat.fellBack + 4 * b2n l.start.latchKept]
  | 0x0030 => [l.gat.sealVal.toNat]
  | 0x0031 => [(l.nvm.confirmed.read 0).toNat]
  | 0x0032 => [l.imageStatus]
  | 0x0033 => [l.gat.cause]
  | 0x0034 => [256 + Config.formatMinor % 256]
  | 0x0035 => [Config.stepping % 256]
  | 0x0036 => [l.release]
  | 0x0037 => [l.protocol]
  | 0x0050 => [l.healthWord.toNat]
  | 0x0051 => [l.lease.marver.count]
  | 0x0052 => [min l.lease.marver.time 65535]
  | 0x0053 => [l.witnessByte]
  | 0x0068 => [l.legEnable]
  | 0x0070 => [l.bus.engine]
  | 0x0071 => [l.bus.engineMax]
  | 0x0072 => [l.gat.engineCalc]
  | 0x0073 => [l.bus.phase]
  | 0x0074 => [b2n l.start.halted + 2 * b2n l.start.haltSeen]
  | 0x0075 => [satQ l.bus.v]
  | 0x0076 => [l.busState]
  | 0x0077 => [satQ l.bus.ichop]
  | 0x0400 => [satQ (l.chas.speed.getD 0)]
  | 0x0401 => [l.chassisWord]
  | 0x0402 => [satQ ((l.inUse 0).getD 0)]
  | 0x0403 => [satQ l.chas.pL, satQ l.chas.pR]
  | 0x0404 => (List.range 4).map fun i => satQ ((l.inUse (4 + i)).getD 0)
  | 0x0520 => [l.unackMask]
  | 0x0521 => [l.worstUnacked]
  | 0x0522 => [l.latchedMask]
  | 0x0523 => l.recoveries.cls.xs.map fun v => ((min v 255 : Nat) : Int)
  | 0x0524 => [min l.recoveries.total 255]
  | 0x0525 => [l.nvm.events.length + 65536 * (l.nvm.eventNext % 4096)]
  | 0x0526 => [b2n l.col.alive + 2 * b2n l.col.frozen + 4 * b2n l.col.skipped]
  | 0x0527 => [l.stopStatus]
  | 0x0820 => [match l.can.session with
      | some s => s.src % 256 + 256 + 512 * b2n l.can.locked.isSome
      | none => 512 * b2n l.can.locked.isSome]
  | 0x0910 => [l.slotRec.staged]
  | 0x0911 => [l.slotRec.stagedProto]
  | 0x0A00 => [l.sup22.tj]
  | 0x0A01 => [satQ l.sup22.vsup]
  | 0x0A02 => [satQ l.sup22.vg]
  | 0x0A03 => [b2n l.sup22.isOpen + 2 * b2n l.sup22.holdup + 4 * b2n l.sup22.lim0 + 8 * b2n l.sup22.lim1 + 16 * b2n l.sup22.vgLow]
  | _ => l.laneStatusMany f

/-- The role of an axis on a lane, as this lane sees it (Table 1.6). -/
def Lane.seenRole (l : Lane) (n : AxisId) (x : LaneId) : Nat :=
  if x = l.id then (l.roleOf n).code
  else if l.counts x then (match l.peerEntry x n with | some e => if e.valid then e.role.code else 0 | none => 0) else 0

/-- The COMM.STATE word of the own set (Table 11.8). -/
def Lane.commState (l : Lane) (n : AxisId) : Nat :=
  let x := l.comm.get n
  x.use % 8 + 8 * b2n (l.obsValid n) + 16 * b2n x.locked + 32 * (x.phase % 8) + 256 * b2n x.limp

/-- A status object of an axis that shows one value per lane: the own one, else what the lane holds of the other. -/
def Lane.axisPerLane (l : Lane) (n : AxisId) (f : Nat) : Option (LaneId × Int) :=
  let own (base : Nat) (v : Int) : Option (LaneId × Int) := (LaneId.ofNat? (f - base)).map fun x => (x, v)
  if 0x38 ≤ f ∧ f ≤ 0x3A then own 0x38 (l.tagStatus n)
  else if 0x40 ≤ f ∧ f ≤ 0x42 then own 0x40 (l.ax n).counter
  else if 0x61 ≤ f ∧ f ≤ 0x63 then own 0x61 (satQ (l.comm.get n).qSet)
  else if 0xA3 ≤ f ∧ f ≤ 0xA5 then own 0xA3 (clampI (-32768) 32767 (roundDiv ((l.loop.get n).temp * 10) 65536))
  else if 0xB1 ≤ f ∧ f ≤ 0xB3 then own 0xB1 (satQ (l.sup.get n).resE)
  else if 0xB4 ≤ f ∧ f ≤ 0xB6 then own 0xB4 (satQ (l.sup.get n).resM)
  else if 0xC0 ≤ f ∧ f ≤ 0xC2 then own 0xC0 (l.commState n)
  else if 0xC3 ≤ f ∧ f ≤ 0xC5 then own 0xC3 (l.comm.get n).angle
  else if 0xC6 ≤ f ∧ f ≤ 0xC8 then
    let x := l.comm.get n
    own 0xC6 (wrapTurn (roundDiv x.oTh 65536 - x.angle))
  else if 0xE4 ≤ f ∧ f ≤ 0xE6 then own 0xE4 (satI32 (l.car.share.get n))
  else none

/-- The q-current reference of another lane's set in this tick as the published entries show it (R161): the whole of a holder's, or half of it where its entry names the follower that it gave a FOLLOW in the tick before; for a follower half of the holder's output of the tick before, where its counter shows that it loaded it in that tick, else zero. That the follower received the holder's entry is presumed, and a holder's output that this lane did not receive shows as 0 (log entry 162). -/
def Lane.peerIref (l : Lane) (n : AxisId) (x : LaneId) : Option Int :=
  let share (e : PubEntry) : Q := if e.follower.isSome then roundDiv e.prim 2 else e.prim
  (l.peerEntry x n).map fun e =>
    match e.role with
    | .holder => if e.counter = 0 then 0 else satQ (share e)
    | .follower =>
      let held (y : LaneId) : Option Q := (l.entryPrev y n).bind fun h => if h.valid && h.role == .holder then some h.prim else none
      let lead := if (l.ax n).halved then some (l.ax n).primPrev else l.id.others.findSome? held
      if e.counter + 1 = l.cfg.leaseLen then satQ (roundDiv (lead.getD 0) 2) else 0
    | _ => 0

/-- What the lane holds of another lane's value in such an object: its counter, its set's reference and its angle, as received. -/
def Lane.axisOfPeer (l : Lane) (n : AxisId) (f : Nat) (x : LaneId) : Option Int :=
  if 0x40 ≤ f ∧ f ≤ 0x42 then (l.peerEntry x n).map fun e => (e.counter : Int)
  else if 0x61 ≤ f ∧ f ≤ 0x63 then l.peerIref n x
  else if 0xC3 ≤ f ∧ f ≤ 0xC5 then
    (((l.px.get x).detail.orElse fun _ => (l.px.get x).detailPrev).bind fun d => d.motors.get n).map fun m => (m.angle : Int)
  else none

/-- A follower set carried current in this tick (Table 6.4): the own set, or that of another lane as its reference is seen. -/
def Lane.followCarries (l : Lane) (n : AxisId) : Bool :=
  (l.roleOf n == .follower && ((l.comm.get n).qSet != 0 || (l.comm.get n).dSet != 0)) ||
  l.id.others.any fun y => l.counts y && (match l.peerEntry y n with | some e => e.role == .follower && e.counter != 0 | none => false) &&
    (match l.peerIref n y with | some v => v != 0 | none => false)

/-- The follower lane picked under R162: by this lane as holder, else as the holder's entry shows it. -/
def Lane.followShown (l : Lane) (n : AxisId) : Option LaneId :=
  if (l.ax n).role = .holder then (l.ax n).follower
  else (l.holderOf n).bind fun y => (l.peerEntry y n).bind fun e => if e.role == .holder then e.follower else none

/-- The status objects of an axis with one value. -/
def Lane.axisStatus (l : Lane) (n : AxisId) (f : Nat) : List Int :=
  let a := l.ax n
  let p := l.prof.get n
  let q := l.loop.get n
  let s := l.sup.get n
  let x := l.comm.get n
  match f with
  | 0x03 => [l.axisLevel n]
  | 0x04 => [LaneId.all.foldl (fun m y => m + 4 ^ y.code * l.seenRole n y) 0]
  | 0x05 => [a.epoch.toNat]
  | 0x43 => [min (l.silence n) 255]
  | 0x44 => [satQ (match l.holderOf n with
      | some y => (match l.peerEntry y n with | some e => (l.out.get n).prim - e.prim | none => 0)
      | none => 0)]
  | 0x45 => [min a.handoverGap 255 + 256 * (a.handover % 4)]
  | 0x46 => [if l.cfg.leaseRotateMode = 2 then
      ((l.cfg.leaseRotatePeriod * 40000 - (l.tick.count - a.heldSince)) / 40000 : Nat) else 0]
  | 0x60 => [b2n (l.cfg.axisShare n.val != 0) + 2 * b2n (l.followCarries n) + 4 * (match l.followShown n with | some y => y.code | none => 3)]
  | 0x64 => [min a.followChg 65535]
  | 0x80 => [wholeOf 32 p.x]
  | 0x81 => [wholeOf 32 p.v]
  | 0x82 => [wholeOf 32 p.a]
  | 0x83 => [wholeOf 32 p.target]
  | 0x84 => [wholeOf 32 p.remain]
  | 0x85 => [l.profileState n]
  | 0x86 => [p.lim.dmax]
  | 0x87 => [satQ (l.holdLimit n)]
  | 0x88 => [p.result % 8 + 8 * (p.request % 16)]
  | 0x89 => [satI32 (l.stepIn.sum - p.n0)]
  | 0xA0 => [q.satWord]
  | 0xA1 => [satQ q.ilim]
  | 0xA2 => [q.ilimSrc]
  | 0xA6 => [satQ q.midSet]
  | 0xA7 => [satQ q.vq]
  | 0xA8 => [satQ q.vd]
  | 0xA9 => [satQ q.kp]
  | 0xAA => [satQ q.ki]
  | 0xB0 => [l.modeStatus n]
  | 0xB7 => [satQ s.load]
  | 0xB8 => [satQ (l.rackForce n)]
  | 0xB9 => [wholeOf 32 s.b]
  | 0xBA => [satQ s.driven]
  | 0xBB => [satQ s.scale]
  | 0xC9 => [satQ x.advance]
  | 0xCA => [satQ x.idRef]
  | 0xCB => [satQ x.pumpSet]
  | 0xCC => [min x.fails 255 + 256 * min x.recatches 255]
  | 0xD0 => [l.pwmState n]
  | 0xD1 => [(l.pwm.get n).length]
  | 0xE0 => [(l.pwm.get n).hold % 4 + 4 * b2n (l.pwm.get n).vov1]
  | 0xE1 => [satQ (l.prefOf n.val)]
  | 0xE2 => [match (if n.val = l.cfg.brakeValveLeft then l.chas.capL else if n.val = l.cfg.brakeValveRight then l.chas.capR else none) with
      | some c => satQ c | none => -65536]
  | 0xE3 => [q16Of (l.chas.kappa.get n)]
  | _ => []

/-- The elements of a status object as the lane holds them; none where the ID names no status object. -/
def Lane.statusObject (l : Lane) (c : Commons) (id : Nat) : Option (List Int) :=
  (statusDef? id).map fun d =>
    let i := id / 0x10000 % 0x100
    let f := id % 0x10000
    match d.kind with
    | .node => l.nodeStatus c f
    | .lane =>
      if i = l.id.code then l.laneStatus f
      else match LaneId.ofNat? i with
        | some x => l.heldOf x id d
        | none => l.foreign id d
    | .axis =>
      if h : i < 12 then
        let n : AxisId := ⟨i, h⟩
        match l.axisPerLane n f with
        | some (x, v) => if x = l.id then [v] else (match l.axisOfPeer n f x with | some w => [w] | none => l.foreign id d)
        | none => l.axisStatus n f
      else []

/-- The bytes of a status object, least significant first. -/
def Lane.statusBytes (l : Lane) (c : Commons) (id : Nat) : Option (List Byte) :=
  match l.statusObject c id, statusDef? id with
  | some vs, some d => some (vs.flatMap fun v => leBytes d.size (toField (8 * d.size) v))
  | _, _ => none

/-- The bytes of a gather or job object as it stands on the lane: its record, or its default (R98, R529), reserved bits 0 (R6). -/
def Lane.paramBytes (l : Lane) (id : Nat) : Option (List Byte) :=
  match objDef? id with
  | none => none
  | some o =>
    let vs := match l.job.params.find? fun p => p.1 == id with
      | some p => some p.2
      | none => l.cfg.valueOf id
    let clean (x : Nat) : Nat := match o.keep with | some m => x &&& m | none => x
    some ((vs.getD []).flatMap fun v => leBytes o.ty.size (clean (toField (8 * o.ty.size) v)))

/-- An object ID names an object of this manual. -/
def knownObject (id : Nat) : Bool :=
  (objDef? id).isSome || (statusDef? id).isSome || id == 0x60000001 || id == 0x60070010 || id == 0x60090010

end Sys2Proof.Machine
end

