-- ==== Sys2Proof/Machine/Recorder.lean ====
section
/-! DEFINITION. The recorder of the commons: slots, ring, windows, export, wear (R546 to R549). -/

namespace Sys2Proof.Machine

/-- The ring area: 7 GiB. -/
def ringSize : Nat := 7 * 2 ^ 30

/-- The window area: 1 GiB. -/
def windowSize : Nat := 2 ^ 30

/-- The bytes of recorded ticks. -/
def ticksSize (ts : List RecTick) : Nat := (ts.map fun t => t.bytes.length).foldl (· + ·) 0

/-- The slots of a lane due at a tick count (R546). -/
def Lane.slotsDue (l : Lane) : List Nat :=
  (List.range 256).filter fun s => l.cfg.recordSource s != 0 && l.cfg.recordLane s == l.id.code && l.tick.count % max 1 (l.cfg.recordDiv s) == 0

/-- The tick a lane sends to the recorder at its close: count, values, CRC-16; none where no slot is due (R546). -/
def Lane.recordTick (l : Lane) (c : Commons) : Option RecTick :=
  let due := if l.gat.imageState = 2 then l.slotsDue else []
  if due.isEmpty then none
  else
    let body := beBytes 6 (l.tick.count % 2 ^ 48) ++ due.flatMap fun s => (l.statusBytes c (l.cfg.recordSource s)).getD []
    some { lane := l.id.code, count := l.tick.count, bytes := body ++ beBytes 2 (crc16 body) }

/-- Ring ticks dropped from the oldest until the ring fits its area. -/
def trimRing : Nat → List RecTick → Nat → Nat × List RecTick
  | _, [], base => (base, [])
  | used, t :: ts, base => if ringSize < used then trimRing (used - t.bytes.length) ts (base + t.bytes.length) else (base, t :: ts)

/-- A recorded tick enters the ring and every open window (R547). -/
def Commons.record (c : Commons) (t : RecTick) : Commons :=
  let used := c.used + t.bytes.length
  let (base, ring) := trimRing used (c.ring ++ [t]) c.base
  { c with
    base := base, ring := ring, used := used - (base - c.base)
    windows := c.windows.map fun w => if w.isOpen ∧ 0 < w.left then { w with ticks := w.ticks ++ [t] } else w }

/-- A tick of a lane's windows passes. -/
def Commons.count (c : Commons) (x : LaneId) : Commons :=
  { c with windows := c.windows.map fun w =>
      if w.isOpen ∧ w.lane = x.code ∧ 0 < w.left then { w with left := w.left - 1, len := w.len + 1 } else w }

/-- An event of a trigger class and level was recorded at the close (R547). -/
def Lane.triggers (l : Lane) : Bool :=
  l.col.news.any fun h =>
    l.cfg.laneRecTrigClasses.testBit h.r.ev.cls.code.val && decide (l.cfg.laneRecTrigLevel ≤ h.r.level.code)

/-- Windows dropped, oldest first, until the rest fits with a new one; a window being exported stays (R547). -/
def makeRoom (need : Nat) (kept : List Nat) : List RecWindow → List RecWindow
  | [] => []
  | w :: ws =>
    let total := ticksSize (w.ticks ++ ws.flatMap (·.ticks)) + need
    if total ≤ windowSize then w :: ws
    else if kept.contains w.num then w :: makeRoom (need + ticksSize w.ticks) kept ws else makeRoom need kept ws

/-- A window that grows beyond the window area overwrites the oldest that is neither open nor being exported (R547). -/
def Commons.fitWindows (c : Commons) (kept : List Nat) : Commons :=
  { c with windows := makeRoom 0 (kept ++ (c.windows.filter (·.isOpen)).map (·.num)) c.windows }

/-- A trigger opens a window with its pre-trigger span, or extends the open one (R547). -/
def Commons.trigger (c : Commons) (l : Lane) (kept : List Nat) : Commons :=
  let pre := l.cfg.laneRecPre
  let post := l.cfg.laneRecPost
  let most := 2 * (pre + post)
  if c.windows.any fun w => w.isOpen && decide (0 < w.left) then
    { c with windows := c.windows.map fun w => if w.isOpen ∧ 0 < w.left then { w with left := min post (most - w.len) } else w }
  else
    let own (t : RecTick) : Int := match LaneId.ofNat? t.lane with
      | some x => if x = l.id then (t.count : Int) else (t.count : Int) - ((l.peerOf x).diff.getD 0)
      | none => t.count
    let span := c.ring.filter fun t => decide ((l.tick.count : Int) - pre < own t) && decide (own t ≤ (l.tick.count : Int))
    let rest := makeRoom (ticksSize span) kept c.windows
    if ticksSize (rest.flatMap (·.ticks)) + ticksSize span ≤ windowSize then
      { c with
        windows := rest.map (fun w => { w with isOpen := false }) ++ [{ lane := l.id.code, len := pre, left := post, isOpen := true, ticks := span, num := c.nextNum }]
        nextNum := c.nextNum + 1 }
    else { c with windows := rest.map fun w => { w with isOpen := false } }

/-- The post-trigger span of a window has passed (R547). -/
def Commons.windowEnd (c : Commons) : Commons :=
  { c with windows := c.windows.map fun w => if w.isOpen ∧ w.left = 0 then { w with isOpen := false } else w }

/-- The close of a lane's tick at the recorder, while the lane reaches it. -/
def Commons.close (c : Commons) (l : Lane) (kept : List Nat) : Commons :=
  if !c.present || !l.col.commonsUp then c
  else
    let c := match l.recordTick c with | some t => (c.record t).fitWindows kept | none => c
    let c := c.count l.id
    if l.triggers then c.trigger l kept else c

/-- `n` bytes from an offset of recorded ticks; beyond their end the part gives no value. -/
def areaBytes (ts : List RecTick) (base at_ n : Nat) : List Byte :=
  let data := slice (ts.flatMap (·.bytes)) (at_ - base) n
  data ++ (List.range (n - data.length)).map fun i => Config.recorderByte (at_ + data.length + i)

/-- The window that the lane's job exports: the one it took at START (R548). -/
def Commons.windowOf (c : Commons) (l : Lane) : Option RecWindow :=
  match c.exporting.get l.id with
  | some k => c.windows.find? fun w => w.num == k
  | none => c.windows[l.cfg.jobWindow]?

/-- CURSOR moved on by 64 (R548). -/
def Lane.setCursor (l : Lane) (v : Nat) : Lane :=
  let p : List (Nat × List Int) := [(0x60090003, [((v % 2 ^ 32 : Nat) : Int)])]
  { l with gat := { l.gat with cfg := l.gat.cfg.over p }, job := { l.job with params := Cfg.over l.job.params p } }

/-- The 1,024 bytes at CURSOR, CURSOR after the read, and whether it had to move (R548); none where the area is not there. -/
def Commons.export_ (c : Commons) (l : Lane) : Option (List Byte × Nat × Bool) :=
  let cur := l.cfg.jobCursor
  if l.cfg.jobArea = 0 then
    let old := (c.base + 15) / 16
    let gone := decide (cur < old)
    let at_ := if gone then old else cur
    some (areaBytes c.ring c.base (16 * at_) 1024, at_ + 64, gone)
  else (c.windowOf l).map fun w => (areaBytes w.ticks 0 (16 * cur) 1024, cur + 64, false)

/-- A read of JOB[9].DATA (R548). -/
def Lane.recordExport (l : Lane) (c : Commons) (h : SvcHdr) : Lane :=
  l.serve h 0x01 false false fun l =>
    if (l.jobSt 9).state ≠ 1 ∨ !c.present ∨ !l.col.commonsUp then refused l 21
    else match c.export_ l with
      | some (data, next, _) => (l.setCursor next, 0, data)
      | none => refused l 21

/-- An OBJECT READ (R511, R26): status objects as the lane showed them at its last close, a parameter as it stands. -/
def Lane.objectRead (l : Lane) (view : Lane) (param : Option (List Byte)) (c : Commons) (h : SvcHdr) (id : Nat) : Lane :=
  l.serve h 0x01 false false fun l =>
    match view.statusBytes c id with
    | some v => (l, 0, v)
    | none => match param with
      | some v => (l, 0, v)
      | none => if knownObject id then refused l 0 else (l, 1, [])

/-- Mean erase count of the store: at 90 % of the rating each lane raises SUP-031 with lane field 3 (R549). -/
def Lane.wearNote (l : Lane) (c : Commons) : Lane :=
  if 27000 ≤ c.wear ∧ !c.worn.get l.id ∧ l.col.commonsUp then
    l.push { ev := .sup031, ctx := BitVec.ofNat 32 c.wear, commons := true } else l

end Sys2Proof.Machine
end

