-- ==== Sys2Proof/Machine/Recovery.lean ====
section
/-! DEFINITION. Anneal: the quiet ticks of a class, recovery, latching, FAULT RESTART and the return of axes (R411 to R416). -/

namespace Sys2Proof.Machine

/-- The number a subject carries. -/
def Subject.num : Subject → Nat
  | .none => 0
  | .axis n | .leg n | .channel n | .sensor n | .link n | .port n | .can n | .job n => n

/-- An instance of a sensor by the number its subject carries: STEER[1] 1, BRAKE[i] 128 + i. -/
def sensorIndex (k : Nat) : Nat := if k < 128 then 0 else k - 128

/-- An element lies beyond BAND from the value in use of its instance (R374). -/
def Lane.elemBeyond (l : Lane) (i : Nat) : Bool :=
  match l.inUse i with
  | some u => decide (l.cfg.sensorBand i < absI (l.elemValue i - u))
  | none => false

/-- A condition that the rule which raised a fault names as its cause holds in this tick (R411); an event that names a moment, not a condition, has none. -/
def Lane.causeHolds (l : Lane) (h : Held) : Bool :=
  let k := Subject.num h.subj
  let ch := l.fbk.getD k {}
  let q := l.loop.getD k {}
  let s := l.sup.getD k {}
  match h.r.ev with
  | .lnk001 => l.id.others.any fun x => l.id.link x == k && (l.peerOf x).down
  | .fbk001 => ch.fastOver
  | .fbk002 | .fbk007 => ch.dblOver
  | .fbk004 | .fbk006 => ch.mismatch
  | .fbk008 => ch.los
  | .fbk009 => ch.degraded
  | .fbk010 => decide (0 < ch.trackRun)
  | .fbk012 => decide (2 ≤ ch.ssiFails)
  | .fbk013 => decide (0 < ch.exclRun)
  | .pwr020 => l.lease.marver.failing.testBit 0
  | .pwr021 => l.lease.marver.failing.testBit 1
  | .pwr022 => l.lease.marver.failing.testBit 2
  | .pwr023 => l.lease.marver.failing.testBit 3
  | .fbk020 => l.lease.marver.failing.testBit 5
  | .fbk021 => l.lease.marver.failing.testBit 7
  | .fbk050 | .opr020 => l.elemBeyond (sensorIndex k)
  | .fbk052 => decide (0 < l.chas.xchkRun.getD k 0)
  | .thm001 => decide (l.cfg.axisLoopThermTstart k * 65536 < q.temp)
  | .thm002 => q.thm2
  | .pls001 => decide (0 < s.runE)
  | .pls002 => decide (0 < s.runM)
  | .pls010 => s.blend && decide (l.cfg.axisHandoverTmax k ≤ s.blendTick)
  | .pls011 => s.ob.isSome && decide (l.cfg.axisHandoverTmax k ≤ s.obTick)
  | .pls050 => decide (0 < l.chas.prsRun.getD k 0)
  | .pwr015 => (l.leg.getD k {}).uv
  | .pwr017 => decide (4 ≤ l.bus.chopCount)
  | .pwr018 => decide (l.cfg.laneBusVov1 < l.bus.v)
  | .pwr019 => l.bus.vov2
  | .pwr030 => decide (0 < (l.comm.getD k {}).sumRun)
  | .opr022 => (l.chas.sensors.getD (sensorIndex k) {}).lost
  | .col001 => l.col.parity.isSome
  | .fab035 => l.car.fell.xs.any fun b => b
  | .sup004 => l.sup22.vgLow
  | .sup020 => l.sup22.refBad || l.lease.marver.failing.testBit 4
  | .thm011 => l.sup22.tooHot
  | _ => false

/-- A cause of a fault of a class holds in this tick (R411); in SAFE none is evaluated. -/
def Lane.classCause (l : Lane) (i : Fin 16) : Bool :=
  l.start.state != .safe && l.col.held.any fun h =>
    h.r.ev.cls.code == i && h.r.level != .l0 && !h.recovered && l.causeHolds h

/-- The quiet ticks of each class at a close (R411). -/
def Lane.quietTick (l : Lane) : Lane :=
  { l with col := { l.col with quiet := l.col.quiet.mapFin fun i q =>
      let raised := l.col.news.any fun h => h.r.ev.cls.code == i && h.r.level != .l0
      if raised || l.classCause i then 0 else satInc (2 ^ 32) q } }

/-- The quiet ticks of a class, this one included (R411). -/
def Lane.quietNow (l : Lane) (i : Fin 16) : Nat :=
  let raised := l.col.raised.any fun r => r.ev.cls.code == i && l.ownLevel r != .l0
  if raised || l.classCause i then 0 else l.col.quiet.get i + 1

/-- A lane in SAFE restarts once every L3 and L4 fault it holds has recovered (R416). -/
def Lane.faultRestart (l : Lane) : Lane :=
  if l.start.state = .safe ∧ l.allHighRecovered then l.reset .faultRestart else l

/-- A recoverable class has been quiet for FAULT.ANNEAL.TIME ticks: its faults recover, or latch at the recovery limit (R411 to R416). -/
def Lane.anneal (l : Lane) (c : FaultClass) : Lane :=
  if l.recoverable c ∧ l.cfg.faultAnnealTime ≤ l.quietNow c.code then
    if l.recoveryLimit c then l.latchClass c
    else
      let l := l.recover c
      if l.start.state = .safe then l.faultRestart else l.returnAxes
  else l

end Sys2Proof.Machine
end

