-- ==== Sys2Proof/Machine/Tick.lean ====
section
/-! DEFINITION. The tick of one lane: the close of the tick that ends, the boundary, and the sampling and computing of the tick that begins (R21, Table 1.4). -/

namespace Sys2Proof.Machine

/-- The states in which the tick path samples and computes. -/
def pathState : LState → Bool
  | .gather | .align | .armed | .operate | .stopped | .safe | .unsealed => true
  | _ => false

/-! ## Publication -/

/-- The lane publishes its outputs, with its PREPARE where it coordinates (step 2, R485). -/
def Lane.publishAll (l : Lane) : Lane :=
  if l.lease.pubOut.isSome || !l.sendsPub then l else (l.publish).carSend

/-! ## Close -/

/-- Vehicle standstill counted at the close (R145). -/
def Lane.stillClose (l : Lane) : Lane :=
  let s := l.chas.still
  { l with
    start := { l.start with still := s }
    lease := { l.lease with stillRun := if s then satInc 1000000000 l.lease.stillRun else 0, rotated := l.lease.rotated && s } }

/-- A lane that has yielded what it held enters STOPPED (R130, R554). -/
def Lane.enterStopped (l : Lane) : Lane :=
  if l.start.state = .operate ∧ l.lease.stopping ∧ l.held.isEmpty then
    let l := l.goto .stopped
    { l with lease := { l.lease with stopping := false }, start := { l.start with drvinh := false } }
  else l

/-- Step 4: lease decisions, and what follows from a change of holder. -/
def Lane.leaseClose (l : Lane) : Lane :=
  let b := ({ l with now := 8000 }).noteOutputs
  let l := Lane.noteHandover b b.leaseStep
  l.unsealedLoad

/-- The loop phase this lane and another carried for the tick before, both in OPERATE, differ: TIM-009 (R233). -/
def Lane.phaseCheck (l : Lane) : Lane :=
  let differs (x : LaneId) : Bool :=
    match (l.peerOf x).markerPrev, (l.px.get x).detail with
    | some m, some d => m.state == .operate && l.counts x && d.phase != l.detailOut.phase
    | _, _ => false
  if l.start.state = .operate ∧ 1 ≤ l.start.inState ∧ l.id.others.any differs then l.raise .tim009 .none l.bus.phase else l

/-- The judgements of step 5. -/
def Lane.judgeClose (l : Lane) (x : TickIn) : Lane :=
  let l := { l with now := 8400 }
  let l := if pathState l.start.state then (l.marverTick x.marver).alignTick else l
  let l := l.closeSync
  let l := if pathState l.start.state then (l.feedbackClose).stepClose (l.clk + l.tickLen) else l
  let l := if pathState l.start.state then allAxes.foldl (fun l n => (l.chatterClose n true).chatterClose n false) l |>.jobChatter else l
  let l := (l.judgeSensors).judgeSubs
  let l := (l.noteFired).stopClose
  let l := (l.closePorts).chooseMaster
  (((l.ignitionClose).closeVoice).imageGuard).unsealedClose.phaseCheck

/-- Step 5 at the collector: health list, ALIVE, events, journal; nothing where the collector closes no tick. -/
def Lane.collectorClose (l : Lane) (x : TickIn) : Lane :=
  if x.collector then
    let l := { l with tick := { l.tick with deviation := x.deviation }, start := { l.start with notClosed := 0 } }
    let l := (((l.healthCheck).collect).writeJournal).quietTick
    { l with col := { l.col with parity := none } }
  else { l with start := { l.start with notClosed := l.start.notClosed + 1 }, col := { l.col with news := [] } }

/-! ## Boundary -/

/-- A marker becomes that of the present tick, which has the count given (R20, R34, R582): the tick count difference is fixed at the first one after either lane's reset. -/
def Peer.place (p : Peer) (m : Marker) (x : Int) (count : Nat) : Peer :=
  let afresh := match p.lastMarker with | some o => m.resets != o.resets | none => true
  { p with marker := some m, lastMarker := some m, everUp := true, down := false, boundary := x
           diff := if afresh then some ((m.count : Int) - count) else p.diff }

/-- What arrived in the tick that ended becomes that of the tick before (R20). -/
def Lane.shiftInbox (l : Lane) : Lane :=
  { l with
    peer := l.peer.mapL fun _ p =>
      let q := { p with markerPrev := p.marker, marker := none, pubPrev := p.pub, pub := none, ends := none
                        silent := if p.marker.isSome then 0 else satInc 8 p.silent }
      q
    px := l.px.mapL fun _ p => { p with shadowPrev := p.shadow, shadow := none, detailPrev := p.detail, detail := none, quads := none } }

/-- The detailed state of the tick that ended (Table 1.10). -/
def Lane.detail (l : Lane) : Detail :=
  { phase := l.bus.phase, voice := l.can.voice, override := min 255 l.chas.override, level := l.protocol
    addr0 := (l.canCtl 0).addr, addr1 := (l.canCtl 1).addr
    cand := nodeMask l.ownCands, refuse1 := (l.carClass 1).refuse, refuse2 := (l.carClass 2).refuse
    elems := l.chas.sensors.mapFin fun _ s => if s.failed then none else some s.value
    subs := l.car.subs.mapFin fun _ s => if s.failed then none else some s.cur
    motors := Tab.ofFn fun n =>
      if l.cfg.motor n.val && !(l.ax n).absent then
        let c := l.comm.get n
        some { angle := c.angle, rpm := roundDiv c.rpm 65536, limit := toField 16 (roundDiv ((l.loop.get n).setLimit * 100) 65536)
               flag := l.angleFlag n }
      else none }

/-- The shadow values of the tick that ended (R138). -/
def Lane.shadow (l : Lane) : Tab 12 Shadow :=
  Tab.ofFn fun n =>
    let p := l.prof.get n
    let q := l.loop.get n
    let s := l.sup.get n
    let share : Option Q := match l.car.firedAt.get n with
      | some (t, v) => if t = l.tick.count ∧ l.cfg.kind n.val = .valve then some v else none
      | none => none
    { x := p.x, v := p.v, remain := p.remain, iPos := q.iPos, iMid := q.iMid, iQ := q.iQ, iD := q.iD, mode := s.mode, override := s.override
      blend := if s.blend then some (s.b - s.d) else none, blendOver := s.blendOver, blendTick := s.blendTick, load := s.load, schedX := q.vars, share1 := share }

/-- The boundary: counters, time bases, the timer, queues, counts of ticks (R32, R233, R317). -/
def Lane.boundary (l : Lane) (x : TickIn) : Lane :=
  let len := l.tickLen
  let live := decide (3 ≤ l.start.state.code) && l.start.state != .sleep && l.start.state != .listen
  if !live then
    let l := { (l.shiftInbox).boundaryTick with start := { l.start with
      departing := l.start.departing - 1, ticks := l.start.ticks + 1, inState := l.start.inState + 1
      listenTicks := if l.start.state = .listen then l.start.listenTicks + 1 else 0 } }
    l
  else if l.start.halted then
    let l := (((l.shiftInbox).boundaryTick).boundaryLease).fabBoundary x.fabTx
    { l with bus := { l.bus with phase := (l.bus.phase + 1) % 32, chopConv := false }, col := { l.col with datapath := none, lockstep := none } }
  else
    let d := l.detail
    let sh := l.shadow
    let prof := l.prof.mapFin fun n p => 
      { p with carried := if l.commands n && decide ((l.ax n).heldSince ≠ l.tick.count) then some (l.profShare n) else none }
    -- how each set stood in the tick that ended (R296)
    let l := allAxes.foldl (fun y n => y.modComm n fun k => { k with set1 := l.setState n }) l
    let l := ((l.pwmBoundary len).shiftInbox).boundaryTick
    let l := l.boundaryLease
    let l := { l with detailOut := d, shadowOut := sh, bus := { l.bus with phase := (l.bus.phase + 1) % 32 } }
    let l := ((l.fabBoundary x.fabTx).canBoundary).loopBoundary
    { l with
      prof := prof
      bus := { l.bus with thetaTick := satInc 40000 l.bus.thetaTick }
      start := { l.start with
        ticks := l.start.ticks + 1, inState := l.start.inState + 1, readyPrev := l.start.ready, departing := l.start.departing - 1 }
      col := { l.col with datapath := none, lockstep := none }
      can := { l.can with session := l.can.session.map fun s => { s with idle := s.idle + 1 } } }

/-! ## Sample and compute -/

/-- The pins as sampled in the tick. -/
def Lane.samplePins (l : Lane) (x : TickIn) : Lane :=
  { l with start := { l.start with ign := x.ign, wake := x.wake, workshop := x.workshop, benchPin := x.bench } }

/-- Step 1: conversions, latched positions, sensors, switches. -/
def Lane.sample (l : Lane) (x : TickIn) : Lane :=
  let l := (l.sampleBus x.elec).chopperCheck x.elec
  let l := allAxes.foldl (fun l n => l.coilSamples x.elec n) l
  let l := (l.latchFeedback x.fbk).stepTick
  let l := (l.sampleSensors).subTick
  allAxes.foldl (fun l n => (l.sampleSwitches n).countDisagree n) l

/-- Step 1 in a debug halt: what converts and latches without the cores and the loop engine, V_bus and the feedback block (R360, R169, R335). -/
def Lane.sampleHalted (l : Lane) (x : TickIn) : Lane :=
  if pathState l.start.state then (({ l with bus := { l.bus with v1 := l.bus.v, v := x.elec.vbus } }).latchFeedback x.fbk).stepTick else l

/-- The functions of the chassis in step 2 (chapter 14). -/
def Lane.chassisTick (l : Lane) : Lane :=
  let l := (((l.formSpeed).canSpeed).stopStandstill).countOverride
  let l := { l with bus := { l.bus with regen := l.regenOn } }
  ((l.vov1).parkStep).brakeDemands

/-- One axis of step 2: measurement, models, loops, outputs. -/
def Lane.axisTick (l : Lane) (x : TickIn) (n : AxisId) : Lane :=
  let fresh := (l.loop.get n).rippleTick == 1 && (l.ax n).role == .holder
  let l := if l.cfg.motor n.val then (l.measureAxis x.elec n fresh).thermalTick n else l
  let l := (l.modelTick n).lossTick n
  let l := (l.axisChain n).outFlags n
  let m := (l.sup.get n).mode
  let l := (l.modelShift n).holdTick n (l.cfg.kind n.val == .steer && (m == 0 || m == 3))
  ((l.crossTick n).countPressure n).handLost n

/-- Step 2: set-points, axes, counts (R235). -/
def Lane.compute (l : Lane) (x : TickIn) : Lane :=
  let l := { l with now := 400, col := { l.col with datapath := x.datapath, lockstep := x.lockstep } }
  let l := match x.datapath with | some w => l.raise .cor010 .none w | none => l
  let l := ((l.joinPhase).useSensors).useSubs.chassisTick
  let l := allAxes.foldl Lane.steerAny l
  let l := allAxes.foldl (fun l n => l.axisTick x n) l
  ((l.countAcc).engineTick).elect

/-- What a lane does in every state from SELFTEST: wake demand, discovery, the distance driven. -/
def Lane.counts_ (l : Lane) : Lane :=
  let l := l.wakeTick
  let fab := (l.cfg.tickSyncOrder.contains 2) || l.node != 0
  { l with
    start := { l.start with discovered := l.start.discovered || !fab || (l.fab.running && l.fabDiscovered) }
    can := { l.can with distance := match l.chas.speed with | some v => l.can.distance + (absI v).toNat | none => l.can.distance } }

/-- The tick that begins, from its boundary to its samples; step 2 is due from then on. -/
def Lane.beginTick (l : Lane) (x : TickIn) : Lane :=
  let l := ((l.boundary x).samplePins x).watchdogReset
  match l.start.state with
  | .off => l
  | .boot | .sleep | .listen => l.wakeTick
  | _ =>
    if l.start.halted then (l.supplyTick x.sup).sampleHalted x
    else
      let l := (l.supplyTick x.sup).counts_
      { ((if pathState l.start.state then l.sample x else l).driveInhibit) with due := some x }

/-- Step 2 is done, where it is due, with the link frames of the tick that have arrived by then: every other thing that happens in the tick comes after it (Table 1.4, R18; DEDUCED: log 147). -/
def Lane.settle (l : Lane) : Lane :=
  match l.due with
  | none => l
  | some x =>
    let y := { l with due := none }
    let y := if pathState y.start.state then (y.compute x).jobTick x.bridge else y.jobTick none
    { y with now := max l.now y.now }

/-- The tick that ends is finished: steps 3 to 6, with what has arrived (Table 1.4). GATHER is the first state in which the collector closes ticks; what boot and self-test raise waits for that close (R57, R60). -/
def Lane.finishTick (l : Lane) (x : TickIn) : Lane :=
  let l := l.settle
  match l.start.state with
  | .off | .sleep | .listen => l
  | .boot | .selftest =>
    let l : Lane := { l with col := { l.col with raised := l.col.raised.map fun (r : Raise) => { r with clk := 0 } } }
    if l.start.bootHeld then l.writeJournal else l
  | _ =>
    if l.start.halted then
      -- the collector, the feedback block and the fabric ports run without the cores (R120, R196, R335, R407)
      let l := if pathState l.start.state then (l.feedbackClose).stepClose (l.clk + l.tickLen) else l
      ((l.closePorts).chooseMaster).collectorClose x
    else
      let l := ((l.publishAll).leaseClose).passRequests
      let l := (l.judgeClose x).collectorClose x
      let l := (l.formSafe).stillClose
      let l := l.enterStopped
      let l := { l with
        start := { l.start with closed := x.cores }
        tick := { l.tick with
          load := x.load, loadMax := max x.load l.tick.loadMax, corrNext := if x.cores then l.tick.corrNext else 0 } }
      let l := allAxes.foldl (fun l n => l.dutyWrite (x.late.contains n.val) n) l
      if l.start.restartNow then l.restartStep else l

/-! ## Entry of OPERATE -/

/-- Loops of a tick that step 2 ran for another state. -/
def Lane.runLoops (l : Lane) : Lane :=
  let l := allAxes.foldl Lane.steerAny l.chassisTick
  (allAxes.foldl (fun l n => ((l.axisChain n).outFlags n).crossTick n) l).engineTick

/-- OPERATE_ENTRY with the gate-probe charges the lane learns at the end of ARMED (Table 5.4). The entry is at the boundary, so step 2 of the tick runs in OPERATE (R70, R232); where it was done before the row came, the loops run again. -/
def Lane.enterOperate (l : Lane) (probes : List Int) : Lane :=
  let was := l.start.state
  let l := l.operateEntry
  if was ≠ .operate ∧ l.start.state = .operate then
    let l := ({ l with lease := { l.lease with marver := { l.lease.marver with learnt := Tab.ofFn fun i => probes.getD i.val 0 } } }).jobEntry
    (if l.due.isSome then l else l.runLoops).driveInhibit
  else l

end Sys2Proof.Machine
end

