-- ==== Sys2Proof/Machine/Frame.lean ====
section
/-! DEFINITION. The link frame of a tick as bytes: 1,250 bytes, each section but the fill closed by its CRC-32C (R17, R18, Tables 1.3, 1.10 and 1.11). Fields of several bytes stand most significant byte first (DESIGN CHOICE: R5 does not name link frames). -/

namespace Sys2Proof.Machine

/-- A section's content with its CRC-32C. -/
def sealed_ (body : List Byte) : List Byte := body ++ beBytes 4 (crc32c body)

/-- A list of bytes cut or filled with reserved zeros to a length. -/
def padTo (n : Nat) (bs : List Byte) : List Byte := (bs ++ List.replicate n 0).take n

/-- A motor axis entry of Table 1.10. -/
def MotorEntry.bytes (m : MotorEntry) : List Byte :=
  beBytes 2 (m.angle % 65536) ++ beBytes 2 (toField 16 m.rpm) ++ beBytes 2 m.limit ++ [byteOf (b2n m.flag), 0]

/-- Bytes 16 to 243 (Table 1.10): the entries of the image's motor axes follow one another. An axis without an entry keeps its place as zeros. -/
def Detail.bytes (d : Detail) (motors : List AxisId) : List Byte :=
  [byteOf (d.phase % 32 + 32 * b2n d.voice), byteOf (min 255 d.override)] ++ beBytes 2 d.level ++ [byteOf d.addr0, byteOf d.addr1, 0, 0] ++
  beBytes 8 d.cand ++ beBytes 8 d.refuse1 ++ beBytes 8 d.refuse2 ++
  [byteOf ((List.range 8).foldl (fun m i => m + 2 ^ i * b2n (d.elems.getD i none).isSome) 0), 0] ++
  beBytes 2 ((List.range 16).foldl (fun m j => m + 2 ^ j * b2n (d.subs.getD j none).isSome) 0) ++
  (List.range 8).flatMap (fun i => beBytes 4 (toField 32 ((d.elems.getD i none).getD 0))) ++
  (List.range 16).flatMap (fun j => beBytes 4 (toField 32 ((d.subs.getD j none).getD 0))) ++
  padTo 40 (motors.flatMap fun n => match d.motors.get n with | some m => m.bytes | none => List.replicate 8 0) ++
  List.replicate 56 0

/-- The shadow tracking values of an axis in the order the model holds them. -/
def Shadow.values (s : Shadow) : List Int :=
  [s.x, s.v, s.remain, s.iPos, s.iMid, s.iQ, s.iD, (s.mode : Int), s.blend.getD 0, b2i s.blend.isSome, s.load] ++ s.schedX

/-- An entry of the shadow values: 48 bytes for a motor axis, 16 for any other. R18 lays out bytes 12 to 15 of a VALVE entry, the class 1 share it fired, and nothing else of it. -/
def Shadow.bytes (s : Shadow) (kind : AxisKind) (motor : Bool) : List Byte :=
  let free (n : Nat) : List Byte := (List.range n).map fun i => Config.shadowByte s.values i
  if motor then free 48
  else if kind = .valve then free 12 ++ beBytes 4 (match s.share1 with | some v => toField 32 v | none => 0xFFFFFFFF)
  else free 16

/-- Bytes 244 to 595: the entries of the image's axes in ascending order, reserved bytes after them. -/
def Lane.shadowBytes (l : Lane) : List Byte :=
  padTo 352 (allAxes.flatMap fun n =>
    if l.cfg.hasAxis n.val then (l.shadowOut.get n).bytes (l.cfg.kind n.val) (l.cfg.motor n.val) else [])

/-- Bytes 16 to 599 of the frame (R18). -/
def Lane.stateSection (l : Lane) : List Byte :=
  sealed_ (l.detailOut.bytes (allAxes.filter fun n => l.cfg.motor n.val) ++ l.shadowBytes)

/-- Bytes 890 to 989: an endorsement entry per axis; an axis without one has zeros there. -/
def Lane.endSection (l : Lane) : List Byte :=
  sealed_ (allAxes.flatMap fun n =>
    match l.lease.endsOut.bind fun es => (es.get n).head? with | some e => e.bytes n.val | none => List.replicate 8 0)

/-- Bytes 990 to 1,249: the health word most significant byte first (R5, R146), then fault summary, job and update traffic, of which Table 1.3 names the content and no layout. -/
def Lane.tailSection (l : Lane) : List Byte :=
  sealed_ (beBytes 4 l.healthWord.toNat ++ (List.range 252).map fun i => Config.tailByte l.healthWord.toNat l.tick.count i)

/-- The bytes of a section that the lane sends in this tick (Table 1.3). -/
def Lane.sectionBytes (l : Lane) : LinkSection → List Byte
  | .marker => l.markerOut.bytes l.id
  | .state => l.stateSection
  | .outputs => (l.lease.pubOut.getD {}).bytes l.id
  | .endorsements => l.endSection
  | .tail => l.tailSection

/-- The link frame of a tick: 1,250 bytes (R17). The fill between outputs and endorsements has no content. -/
def Lane.linkFrame (l : Lane) : List Byte :=
  l.sectionBytes .marker ++ l.sectionBytes .state ++ l.sectionBytes .outputs ++ List.replicate 90 0 ++
  l.sectionBytes .endorsements ++ l.sectionBytes .tail

/-- Bytes as they arrive: those of the places that a disturbance names are changed by its pattern. -/
def disturb (bs : List Byte) (noise : List (Nat × Byte)) : List Byte := noise.foldl (fun bs k => bs.modify k.1 (· ^^^ k.2)) bs

/-- A section whose last four bytes are the CRC-32C of the rest (R17, R19). -/
def sectionOk (bs : List Byte) : Bool := beNat (bs.drop (bs.length - 4)) == crc32c (bs.take (bs.length - 4))

end Sys2Proof.Machine
end

