-- ==== Sys2Proof/Machine/Link.lean ====
section
/-! DEFINITION. The lane links: what a receiving lane takes from a link frame section, and a direction that goes down (R17 to R20, R34, R582). -/

namespace Sys2Proof.Machine

/-- End of a section's transmit time after the sender's boundary, clocks (Table 1.3). -/
def LinkSection.ends : LinkSection → Int
  | .marker => 128 | .state => 4800 | .outputs => 6400 | .endorsements => 7920 | .tail => 10000

/-- The lane receives on its links: from SELFTEST onwards. -/
def Lane.hearsLinks (l : Lane) : Bool :=
  match l.start.state with | .off | .boot | .sleep | .listen => false | _ => true

/-- A lane sends the sections behind its marker: not in SAFE, where the collector sends markers alone (R402), nor from hold-up (R133), nor in debug halt, where the cores and the engine stand still (DEDUCED from R335). -/
def Lane.sendsFrames (l : Lane) : Bool := l.sendsMarkers && l.start.departing == 0 && l.start.state != .safe && !l.start.halted

/-- A tick marker is that of the tick in which its last byte arrives, and places the sender's boundary at the arrival less the transmit time and the link delay (R582, R34, R20). -/
def Lane.takeMarker (l tx : Lane) (r : LinkRx) : Lane :=
  let m := tx.markerOut
  l.modPeer tx.id fun p =>
    let delay := match r.loopback with | some d => if l.start.state = .align then d else p.delay | none => p.delay
    let x := r.arrival - LinkSection.ends .marker - delay
    ({ p with delay := delay }).place m x l.tick.count

/-- The shadow values and the detailed state of the sender's tick before (R18, R502). -/
def Lane.takeState (l tx : Lane) : Lane :=
  let l := { l with px := l.px.set tx.id { l.px.get tx.id with detail := some tx.detailOut, shadow := some tx.shadowOut } }
  l.followAddr tx.detailOut

/-- The published outputs (R121, R134). -/
def Lane.takeOutputs (l tx : Lane) : Lane :=
  match tx.lease.pubOut with
  | some s => l.modPeer tx.id fun p => { p with pub := some s, pubLast := some s }
  | none => l

/-- The endorsements (R122). -/
def Lane.takeEndorsements (l tx : Lane) : Lane := l.modPeer tx.id fun p => { p with ends := tx.lease.endsOut }

/-- A MOVE that the coordinator lane holding the axis accepted reaches its other lanes (R482). -/
def Lane.takeMoves (l : Lane) (s : ProfShare) : Lane :=
  match s.car with
  | some (k, t) =>
    if l.car.moves < k then
      { l with car := { l.car with moves := k, moveTo := t, cls := l.car.cls.modify 1 fun c => { c with req := some t } } }
    else l
  | none => l

/-- What the holder carries of a profile, where it sends it in this tick (R204). -/
def Lane.takeProfile (l tx : Lane) (n : AxisId) : Lane :=
  let s := tx.profShare n
  if tx.commands n ∧ ((tx.prof.get n).carried ≠ some s ∨ tx.tick.count % 40 = 0) then
    let l := { l with px := l.px.set tx.id { l.px.get tx.id with prof := (l.px.get tx.id).prof.set n (some s) } }
    l.takeMoves s
  else l

/-- Requests that the sender forwards reach the lane that holds the axis (R202, R270). -/
def Lane.takeForwards (l tx : Lane) (n : AxisId) : Lane :=
  if l.takesRequests n then
    let l := (tx.prof.get n).forward.foldl (fun (l : Lane) r => l.modProf n fun p => { p with reqs := p.reqs ++ [r] }) l
    (tx.sup.get n).forward.foldl (fun (l : Lane) m => l.modSup n fun s => { s with reqs := s.reqs ++ [m] }) l
  else l

/-- A session challenge that the sender, as voice, gave in this tick reaches the other lanes (R513). -/
def Lane.takeVoiceChallenge (l tx : Lane) : Lane :=
  match tx.can.chal with
  | some c => if tx.can.voice ∧ !c.used ∧ c.at_ = tx.tick.count then l.takeChallenge c else l
  | none => l

/-- The identity digests that a lane shows: none for an axis for which it is ABSENT, which the others leave out (R64, R66). -/
def Lane.shownIds (l : Lane) : List (Option IdDigest) :=
  l.gat.ids.zipIdx.map fun (p : Option IdDigest × Nat) => if h : p.2 < 12 then (if (l.ax ⟨p.2, h⟩).absent then none else p.1) else p.1

/-- The health word, the fault summary, seal and digests, and the job and update traffic (R147, R509, R64, R202, R204, R217, R512, R524), and what the cross-comparison of quadrature channels needs (R176).  The last section carries the latter (DESIGN CHOICE: no table gives it a place). -/
def Lane.takeTail (l tx : Lane) : Lane :=
  let shown := tx.gat.imageState == 2
  let l := l.modPeer tx.id fun p =>
    { p with health := tx.healthWord
             sealSeen := if shown then some tx.gat.sealVal else none
             digests := if shown then some tx.shownIds else none }
  let l := { l with px := l.px.set tx.id { l.px.get tx.id with
    faults := tx.faultSummary, quads := some tx.quadShare, switches := some tx.switchShare
    chopFault := tx.col.held.any fun h => h.r.ev == .pwr017 && !h.recovered } }
  let l := allAxes.foldl (fun (l : Lane) n => (l.takeProfile tx n).takeForwards tx n) l
  let l := l.takeVoiceChallenge tx
  let l := tx.can.resps.foldl (fun (l : Lane) r => l.relayed tx.id r) l
  l.jobHeard tx.id tx.jobShare

/-- The section arrives with its CRC-32C correct (R19): as sent, or so disturbed that the check holds all the same. -/
def LinkRx.intact (r : LinkRx) (tx : Lane) : Bool := r.noise.isEmpty || sectionOk (disturb (tx.sectionBytes r.sect) r.noise)

/-- A section behind the marker counts as received: it is intact and its last byte came in time, measured from the sender's boundary as the marker of the same frame placed it (R19, R582); without that marker no boundary is placed, and no section of the frame counts. -/
def Lane.inTime (l tx : Lane) (r : LinkRx) : Bool :=
  let p := l.peerOf r.sender
  p.marker.isSome && r.intact tx && decide (r.arrival ≤ p.boundary + r.sect.ends + 80)

/-- The marker arrives within the receiver's tick (R582). -/
def Lane.inTick (l : Lane) (r : LinkRx) : Bool :=
  decide (0 ≤ r.arrival) && decide (r.arrival < 10000 + l.tick.corr + l.tick.step)

/-- A section of a lane link frame counts as received by a lane. -/
def Lane.hears (l tx : Lane) (r : LinkRx) : Bool :=
  tx.id != l.id && l.hearsLinks &&
  (match r.sect with
   | .marker => tx.sendsMarkers && r.intact tx && l.inTick r
   | _ => tx.sendsFrames && l.inTime tx r)

/-- The sender has formed what the section carries (steps 2 and 3 of Table 1.4). -/
def Lane.formSection (tx : Lane) (s : LinkSection) : Lane :=
  if !tx.sendsFrames then tx
  else match s with
    | .outputs => tx.publishAll
    | .endorsements => if tx.start.state = .operate then (tx.publishAll).endorse else tx
    | _ => tx

/-- LINK_FRAME_RECEIVE at the receiving lane. -/
def Lane.linkReceive (l tx : Lane) (r : LinkRx) : Lane :=
  if !l.hears tx r then l
  else
    let l := { l with now := r.arrival.toNat }
    match r.sect with
    | .marker => l.takeMarker tx r
    | .state => l.takeState tx
    | .outputs => l.takeOutputs tx
    | .endorsements => l.takeEndorsements tx
    | .tail => l.takeTail tx

/-- What the tail of a frame handed over leaves the sender's lists: requests at the holder, responses at the voice (R202, R512); and the tick that told of a tag write (R222). -/
def Lane.handedOver (tx l : Lane) : Lane :=
  let tx := if l.can.voice then { tx with can := { tx.can with resps := [] } } else tx
  { tx with
    job := { tx.job with toldAt := if tx.job.written then tx.job.toldAt.orElse fun _ => some tx.tick.count else none }
    prof := tx.prof.mapFin fun n p => if l.takesRequests n then { p with forward := [] } else p
    sup := tx.sup.mapFin fun n s => if l.takesRequests n then { s with forward := [] } else s }

/-- A link direction that was up has delivered no valid marker in 8 ticks, the present one the eighth: LNK-001 (R20, R61, R581). -/
def Lane.linkDown (l : Lane) (x : LaneId) : Lane :=
  let p := l.peerOf x
  if x ≠ l.id ∧ l.hearsLinks ∧ 7 ≤ p.silent ∧ p.marker.isNone ∧ p.everUp ∧ !p.down then
    let k := l.id.link x
    (l.modPeer x fun p => { p with down := true }).raise .lnk001 (.link k) x.code
  else l

end Sys2Proof.Machine
end

