-- ==== Sys2Proof/Machine/Watch.lean ====
section
/-! DEFINITION. Rows judged on what the tick has counted: timing runs, external sources, overruns, feedback edges and frames, the winding temperature, re-catches, guidance, rotation (chapters 2, 5, 7, 9, 11 and 14). -/

namespace Sys2Proof.Machine

/-! ## Timing (R38, R39, R44, R49) -/

/-- A lane judges R38 and R39: in ARMED or OPERATE. -/
def Lane.judgesTiming (l : Lane) : Bool := l.start.state == .armed || l.start.state == .operate

/-- An event was raised in this tick already. -/
def Lane.raisedNow (l : Lane) (e : Ev) : Bool := l.col.raised.any (·.ev == e)

/-- TIM-001 in the eighth tick of an episode (R38, R585). -/
def Lane.tickOutlier (l : Lane) : Lane :=
  if l.judgesTiming ∧ l.outlierNow = 8 ∧ !l.raisedNow .tim001 then l.raiseWord .tim001 l.offsetD else l

/-- TIM-002 in the eighth tick of an episode (R39, R585). -/
def Lane.tickSplit (l : Lane) : Lane :=
  if l.judgesTiming ∧ l.splitNow = 8 ∧ !l.raisedNow .tim002 then l.raiseWord .tim002 l.twoLaneDiff else l

/-- A source's state on the lane. -/
def Lane.ext (l : Lane) : ExtSource → SyncSource | .pin => l.tick.pin | .fabric => l.tick.fabric

/-- A source's state replaced. -/
def Lane.setExt (l : Lane) (k : ExtSource) (s : SyncSource) : Lane :=
  match k with
  | .pin => { l with tick := { l.tick with pin := s } }
  | .fabric => { l with tick := { l.tick with fabric := s } }

/-- A source with the present tick's measurement counted (R44). -/
def Lane.extNow (l : Lane) (k : ExtSource) : SyncSource := (l.ext k).judge

/-- SEARCH to LOCKED in the tick of the eighth measurement; the fabric offset is fixed where FABRIC locks (R44, R35). -/
def Lane.sourceLocked (l : Lane) (k : ExtSource) : Lane :=
  if (l.ext k).state = 1 ∧ 8 ≤ (l.extNow k).lockRun then
    let l := l.setExt k ((l.ext k).to 2)
    match k with
    | .pin => l
    | .fabric => { l with tick := { l.tick with fabOffset := some ((l.fab.count : Int) - l.tick.count) } }
  else l

/-- SEARCH or LOCKED to LOST in the tick of the fortieth miss: TIM-006 (R44). -/
def Lane.sourceLost (l : Lane) (k : ExtSource) : Lane :=
  let s := l.ext k
  if (s.state = 1 ∨ s.state = 2) ∧ 40 ≤ (l.extNow k).missRun then (l.setExt k (s.to 3)).raiseWord .tim006 k.code else l

/-- LOST to SEARCH in the tick of the 400th consecutive measurement in the window; PIN's phase is fixed anew (R44, R42). -/
def Lane.sourceResearch (l : Lane) (k : ExtSource) : Lane :=
  let s := l.ext k
  if s.state = 3 ∧ 400 ≤ (l.extNow k).backRun then
    let l := l.setExt k (s.to 1)
    match k with
    | .pin => { l with tick := { l.tick with pinPhase := none } }
    | .fabric => l
  else l

/-- Tick work past the fence: TIM-003 (R49). -/
def Lane.fenceOverrun (l : Lane) (clocks : Nat) : Lane :=
  if clocks = 0 ∨ !closesTicks l.start.state then l
  else ({ l with tick := { l.tick with overFence := clocks } }).raiseWord .tim003 clocks

/-- Boundary work past the boundary: TIM-004 (R49). -/
def Lane.boundaryOverrun (l : Lane) (clocks : Nat) : Lane :=
  if clocks = 0 ∨ !closesTicks l.start.state then l
  else ({ l with tick := { l.tick with overBoundary := clocks } }).raiseWord .tim004 clocks

/-- The loop engine has not published by 12.00 µs: TIM-005 (R49). -/
def Lane.publishLate (l : Lane) (clocks : Nat) : Lane :=
  if clocks = 0 ∨ !closesTicks l.start.state then l
  else ({ l with tick := { l.tick with overPublish := clocks } }).raiseWord .tim005 clocks

/-! ## Feedback (R170, R186, R191, R193) -/

/-- A sample of the raw lines of an incremental channel, clocks after the boundary (R170); a channel that is off, or a lane that does not sample, only follows the wires. -/
def Lane.feedbackEdge (l : Lane) (c : Fin 4) (at_ : Nat) (a b z : Bool) : Lane :=
  let c : ChanId := ⟨c.val, by omega⟩
  if l.cfg.feedbackMode c.val = 0 ∨ !pathState l.start.state then
    l.setChan c ((l.fbk.get c).follow (l.cfg.feedbackInvert c.val) a b z)
  else
    ({ l with now := at_ }).sampleEdge c (l.clk + at_) a b z

/-- No edge has arrived for SPEED.STILL ticks (R186). -/
def Lane.feedbackStandstill (l : Lane) (c : Fin 4) : Lane :=
  let c : ChanId := ⟨c.val, by omega⟩
  let ch := l.fbk.get c
  if l.cfg.feedbackMode c.val ≠ 0 ∧ ch.quiet (l.cfg.feedbackSpeedStill c.val) then
    l.setChan c (ch.stand (l.cfg.feedbackMode c.val == 3))
  else l

/-- The SSI frame under way on channel 6 or 7 completes (R191, R193). -/
def Lane.ssiFrame (l : Lane) (k : Fin 2) (startHigh endLow : Bool) (raw : Nat) : Lane :=
  let c : ChanId := ⟨6 + k.val, by omega⟩
  let f := l.cfg
  if f.feedbackMode c.val = 0 ∨ !pathState l.start.state then l
  else
    match (l.fbk.get c).ssiStart with
    | none => l
    | some at_ =>
      let (ch, es) := (l.fbk.get c).ssi (f.feedbackSsiBits c.val) (f.feedbackSsiCode c.val) (f.feedbackSsiJump c.val) at_
        startHigh endLow raw
      (l.setChan c ch).raiseFbks c.val es

/-! ## Winding temperature (R247) -/

/-- θ of every motor axis written to the journal, every 40,000 ticks (R247). -/
def Lane.thetaWrite (l : Lane) : Lane :=
  if 40000 ≤ l.bus.thetaTick then
    { l with
      bus := { l.bus with thetaTick := 0 }
      nvm := { l.nvm with theta := l.nvm.theta.mapFin fun i x => if l.cfg.motor i.val then x.write (l.loop.get i).theta else x } }
  else l

/-! ## Re-catch (R304) -/

/-- The observer locks during a re-catch: ratios are computed again, with an output blend from 0 (R304, R310). -/
def Lane.recatchEnd (l : Lane) (n : AxisId) : Lane :=
  let x := l.comm.get n
  if x.recatch.isSome ∧ x.locked then
    let l := l.modComm n fun y => { y with recatch := none, fails := 0 }
    (((l.blendFrom n 0).driveStage n).outFlags n)
  else l

/-- Not locked by the close of the eighth tick after the decision (R304). -/
def Lane.recatchFail (l : Lane) (n : AxisId) : Lane :=
  match (l.comm.get n).recatch with
  | some (k, short) =>
    if 9 ≤ k ∧ !(l.comm.get n).locked then
      let l := l.modComm n fun y => { y with recatch := none }
      if l.cfg.kind n.val = .pump then l.pumpFailed n 4
      else l.raise .fbk041 (.axis n.val) (if short then 2 else 1)
    else l
  | none => l

/-! ## Guidance (R383) -/

/-- The last guidance command has become GUIDE.TIMEOUT ticks old (R383). -/
def Lane.guidanceTimeout (l : Lane) : Lane :=
  match l.chas.guide with
  | some (_, t) =>
    if t + l.cfg.steerGuideTimeout ≤ l.tick.count ∧ !l.chas.guideOut then
      let l := l.raise .opr023 .none 0
      let l := { l with chas := { l.chas with guideOut := true } }
      allAxes.foldl (fun (l : Lane) n =>
        if l.cfg.kind n.val = .steer ∧ (l.sup.get n).mode = 1 ∧ l.commands n then
          l.modSup n fun s => { s with reqs := s.reqs ++ [{ mode := 3, prio := 3 }] }
        else l) l
    else l
  | none => l

/-! ## Rotation (R145) -/

/-- A rotation falls due and starts: the holder yields its axes, one per tick in ascending order, to the first lane in the line (R145, R130). -/
def Lane.rotationDue (l : Lane) : Lane :=
  let due := l.rotateAxes
  if l.start.state = .operate ∧ !due.isEmpty ∧ l.lease.yieldPlan.isEmpty ∧ l.rotates then
    { l with lease := { l.lease with yieldPlan := due.map (·.val), rotating := true, rotated := true } }
  else l

end Sys2Proof.Machine
end

