-- ==== Sys2Proof/Machine/State.lean ====
section
/-! DEFINITION. The state of a node: its three lanes, what each shows as its last close, the commons, and the queue of commands. -/

namespace Sys2Proof.Machine

/-- The reasons the node could stop with: none. Every command of the table has an effect that the manual describes. -/
inductive Fault where
deriving DecidableEq, Repr

/-- The reasons for which a command could be refused by this model. -/
inductive Refusal where
  /-- Raised by an arm of the dispatch whose command has no meaning yet; no arm does. Safe: the machine stops. -/
  | notModelled (mnemonic : String)
deriving DecidableEq, Repr

/-- A node. -/
structure State where
  /-- The lanes A, B and C. -/
  lanes : PerLane Lane
  /-- Each lane as it stood at the close of its last tick, as the status objects show it (R26). -/
  view : PerLane Lane
  /-- The commons island (R12 to R14). -/
  commons : Commons
  /-- The commands that wait, first in, first out. -/
  pending : List Instr
deriving DecidableEq, Repr

/-- A lane in OFF, as it stands without supply and with nothing in its stores. -/
def Lane.fresh (x : LaneId) : Lane := { id := x }

/-- The node before its supply rises: every lane in OFF, nothing gathered, every store as delivered, the queue empty. -/
def State.reset : State :=
  { lanes := ⟨.fresh .a, .fresh .b, .fresh .c⟩, view := ⟨.fresh .a, .fresh .b, .fresh .c⟩, commons := {}, pending := [] }

end Sys2Proof.Machine
end

