-- ==== Sys2Proof/Machine/Ops.lean ====
section
/-! DEFINITION. The named operations by which a command acts on the node: on one lane, on every lane that hears a bus, at a tick boundary, over a link, at the commons. -/

namespace Sys2Proof.Machine

/-- Each command comes a clock after the one before it within the tick (R404). -/
def Lane.bump (l : Lane) : Lane := { l with now := l.now + 1 }

/-- The lane as a command behind step 2 of the tick finds it. -/
def Lane.ready (l : Lane) : Lane := l.settle.bump

/-- An operation of one lane, behind step 2 of its tick. -/
def State.on (s : State) (x : LaneId) (f : Lane → Lane) : State := { s with lanes := s.lanes.set x (f (s.lanes.get x).ready) }

/-- An operation of one lane that falls at the boundary or before step 2 of its tick: markers and detailed states, claims, entries of states, edges and valleys (Table 1.4). -/
def State.onEarly (s : State) (x : LaneId) (f : Lane → Lane) : State := { s with lanes := s.lanes.set x (f (s.lanes.get x).bump) }

/-- A lane hears a CAN bus: its controller is not bus-off (R496); in LISTEN it runs CAN0 alone, in SLEEP and OFF neither (R82, Table 3.1). -/
def Lane.onBus (l : Lane) (c : CanId) : Bool :=
  match l.start.state with
  | .off | .sleep => false
  | .listen => c.val == 0
  | _ => (l.canCtl c).err != 2

/-- A message on a CAN bus reaches every lane whose controller is not bus-off. -/
def State.onCan (s : State) (c : CanId) (f : Lane → Lane) : State :=
  { s with lanes := s.lanes.mapL fun _ l => if l.ready.onBus c then f l.ready else l }

/-- The voice that relays service requests to a lane (R90, R512): the lane stands in GATHER without a configuration that gives it the bus, and the voice has shown it a valid marker within 8 ticks. -/
def State.relayVoice (s : State) (h : SvcHdr) (l : Lane) : Option Lane :=
  if l.start.state = .gather ∧ !l.isobus h.can then
    (l.id.others.map s.lanes.get).find? fun v =>
      v.can.voice && v.onBus h.can && v.isobus h.can && (l.peerOf v.id).everUp && decide ((l.peerOf v.id).silent < 8)
  else none

/-- A request as the voice heard it, executed by a lane to which it is relayed: bus, address and lane mask are those of the voice. -/
def Lane.asRelayed (l v : Lane) (c : CanId) (f : Lane → Lane) : Lane :=
  let bus := v.cfg.filter fun (r : Nat × List Int) => r.1 / 0x1000000 == 0x41 || r.1 == 0x02000012
  let y := f { l with gat := { l.gat with cfg := bus }, can := { l.can with ctl := l.can.ctl.set c (v.canCtl c) } }
  { y with gat := { y.gat with cfg := l.gat.cfg }, can := { y.can with ctl := l.can.ctl, heard := l.can.heard } }

/-- A service message (R510 to R512): it reaches every lane that hears the bus, and over the links a lane in GATHER that has no bus. -/
def State.onSvc (s : State) (h : SvcHdr) (f : Lane → Lane) : State :=
  { s with lanes := s.lanes.mapL fun _ l =>
      match s.relayVoice h l.ready with
      | some v => l.ready.asRelayed v h.can f
      | none => if l.ready.onBus h.can then f l.ready else l }

/-- A request of Table 8.1 or 10.2: from a service message, or from within a lane. -/
def State.onReq (s : State) (o : ReqFrom) (f : Lane → Option SvcHdr → Lane) : State :=
  match o with
  | .service h => s.onSvc h fun x => f x (some h)
  | .lane l => s.on l fun x => f x none

/-! ## The tick -/

/-- The windows that an export holds (R548). -/
def Commons.kept (c : Commons) : List Nat := [c.exporting.a, c.exporting.b, c.exporting.c].filterMap fun x => x

/-- A frame of the node's address that one lane sent at its boundary reaches the controllers of the others (R503). -/
def Lane.hearOwn (l tx : Lane) : Lane :=
  let sent (c : CanId) : Bool := !(tx.canCtl c).sent.isEmpty && l.onBus c && l.cfg.canMode c.val != 0
  if tx.id != l.id && (sent 0 || sent 1) then { l with can := { l.can with heard := true } } else l

/-- The window an export holds follows its job (R548): fixed at START where AREA names the window area. -/
def State.noteExport (s : State) : State :=
  let pick (x : LaneId) (k : Option Nat) : Option Nat :=
    let l := s.lanes.get x
    if !(l.jobSt 9).busy then none
    else match k with
      | some k => some k
      | none => if l.cfg.jobArea = 1 then (s.commons.windows[l.cfg.jobWindow]?).map (·.num) else none
  { s with commons := { s.commons with exporting := s.commons.exporting.mapL pick } }

/-- The commons at the close of a lane's tick: its recorder, and the erase count the store reports (R546 to R549). -/
def Commons.closeTick (c : Commons) (l : Lane) (t : TickIn) : Commons :=
  let c := c.close l c.kept
  match t.wear with
  | some w => { c with wear := w }
  | none => c

/-- The lane has reported the wear of the store, where it is worn and the lane reaches it (R549). -/
def Commons.markWorn (c : Commons) (x : LaneId) (l : Lane) : Commons :=
  { c with worn := c.worn.set x (c.worn.get x || (decide (27000 ≤ c.wear) && l.col.commonsUp)) }

/-- A tick boundary of a lane (R21): the tick that ends is finished and shown, the recorder takes it, and the next begins. -/
def State.tickLane (s : State) (x : LaneId) (t : TickIn) : State :=
  let s := s.noteExport
  let l := (s.lanes.get x).finishTick t
  let c := s.commons.closeTick l t
  let next := (l.beginTick t).wearNote c
  { s with
    view := s.view.set x l, commons := c.markWorn x l
    lanes := (s.lanes.set x next).mapL fun _ y => y.hearOwn next }

/-! ## The links -/

/-- A section that leaves behind step 2 of its sender's tick (Table 1.3). -/
def LinkSection.behind : LinkSection → Bool
  | .marker | .state => false
  | .outputs | .endorsements | .tail => true

/-- A section of a link frame reaches a lane (R582): the sender has formed it, and what it hands over leaves its lists. -/
def State.linkFrame (s : State) (x : LaneId) (r : LinkRx) : State :=
  let late := r.sect.behind
  let tx := s.lanes.get r.sender
  let tx := (if late then tx.settle else tx).formSection r.sect
  let l := if late then (s.lanes.get x).ready else (s.lanes.get x).bump
  let s := { s with lanes := (s.lanes.set r.sender tx) }
  if r.sender = x then s
  else
    let tx' := if l.hears tx r && r.sect == .tail then tx.handedOver l else tx
    { s with lanes := (s.lanes.set r.sender tx').set x (l.linkReceive tx r) }

/-! ## The commons -/

/-- The commons fails (R13). -/
def State.commonsDown (s : State) : State :=
  { s with commons := { s.commons with present := false }, lanes := s.lanes.mapL fun _ l => l.ready.commonsLost }

/-- The commons is reachable again (R548). -/
def State.commonsBack (s : State) : State :=
  { s with commons := { s.commons with present := true }
           lanes := s.lanes.mapL fun _ l => { l with col := { l.col with commonsUp := true } } }

/-- The post-trigger span of the open window has passed (R547). -/
def State.windowClose (s : State) : State := { s with commons := s.commons.windowEnd }

/-- A read of JOB[9].DATA; a cursor on overwritten data of the ring has moved to the oldest (R548). -/
def State.readExport (s : State) (h : SvcHdr) : State :=
  let moves (l : Lane) : Bool :=
    h.names l.cfg l.id && (l.jobSt 9).state == 1 && l.cfg.jobArea == 0 && decide (l.cfg.jobCursor < (s.commons.base + 15) / 16)
  let moved := [s.lanes.a, s.lanes.b, s.lanes.c].any moves
  let c := s.commons
  let s := s.onSvc h fun l => l.recordExport c h
  { s with commons := { s.commons with moved := s.commons.moved || moved } }

/-- An OBJECT READ: each lane answers with what it showed at its last close (R26, R511). -/
def State.readObject (s : State) (h : SvcHdr) (id : Nat) : State :=
  { s with lanes := s.lanes.mapL fun x l =>
      let f (y : Lane) : Lane := y.objectRead (s.view.get x) (l.ready.paramBytes id) s.commons h id
      match s.relayVoice h l.ready with
      | some v => l.ready.asRelayed v h.can f
      | none => if l.ready.onBus h.can then f l.ready else l }

/-! ## The config port and the fabric -/

/-- Bytes that an external programmer wrote into the NOR flash while l_RESETN was low (R91). -/
def Lane.programmed (l : Lane) (at_ : Nat) (bs : List Byte) : Lane :=
  if l.start.resetnLow then { l with nvm := { l.nvm with flash := Mem.writeList l.nvm.flash at_ bs } } else l

/-- A frame of a class, and of a message type in its first payload byte where the class has several (Tables 17.4, 18.4, 20.7). -/
def frameIs (cls : Nat) (ty : Option Nat) (f : FabFrame) : Bool :=
  f.cls == cls && (match ty with | some t => (f.payload.head?.map (·.toNat)) == some t | none => true)

/-- A frame received on a fabric port, clocks after the boundary: checked, forwarded, and handled where it is of the command's kind (R452, R454). -/
def Lane.received (l : Lane) (p : PortId) (at_ : Nat) (bs : List Byte) (want : FabFrame → Bool) (f : Lane → FabFrame → Lane) : Lane :=
  match ({ l with now := at_ }).fabReceive p bs with
  | (y, some x) => if want x then f y x else y
  | (y, none) => y

end Sys2Proof.Machine
end

