-- ==== Sys2Proof/Machine/Requests.lean ====
section
/-! DEFINITION. The command that bytes received on CAN spell: numeric fields least significant byte first (R5, Tables 19.3 to 19.5); layouts of ISO 11783 PRESUMED. -/

namespace Sys2Proof.Machine

/-- A signed argument of four bytes. -/
def argI32 (a : List Byte) : Int := toSigned 32 (leNat (a.take 4))

/-- A profile request by its code and arguments (Table 8.1). -/
def profileCommand (o : ReqFrom) (axis code : Nat) (a : List Byte) : Option Instr :=
  let n (i : Nat) : Nat := leNat (slice a (4 * i) 4)
  match code, a.length with
  | 0, 4 => some (.move o axis (argI32 a))
  | 1, 4 => some (.jog o axis (argI32 a))
  | 2, 0 => some (.stop o axis)
  | 3, 0 => some (.resume o axis)
  | 4, 16 => some (.limits o axis (n 0) (n 1) (n 2) (n 3))
  | 5, 0 => some (.stepOn o axis)
  | 6, 0 => some (.stepOff o axis)
  | _, _ => none

/-- A job command by its code (Table 19.5). -/
def jobCommand (h : SvcHdr) (j code axis : Nat) : Option Instr :=
  match code with
  | 0 => some (.jobStart h j axis)
  | 1 => some (.jobSuspend h j)
  | 2 => some (.jobResume h j)
  | 3 => some (.jobCancel h j)
  | 4 => some (.jobStatus h j)
  | _ => none

/-- An OBJECT WRITE by object ID and value: the two objects that have rows of their own, and the others. -/
def writeCommand (h : SvcHdr) (id : Nat) (v : List Byte) : Instr :=
  if id = 0x60000001 then .jobRestart h (leNat v)
  else if id = 0x60070010 then .fwBlockWrite h (leNat (v.take 4)) (v.drop 4)
  else .objectWrite h (.id id) v

/-- A service by its code and arguments (Table 19.5). -/
def serviceOf (h : SvcHdr) (code : Nat) (a : List Byte) : Option Instr :=
  let b (i : Nat) : Nat := (a.getD i 0).toNat
  match code with
  | 0x01 => if a.length = 4 then some (if leNat a = 0x60090010 then .recordExportRead h else .objectRead h (.id (leNat a))) else none
  | 0x02 => if 5 ≤ a.length then some (writeCommand h (leNat (a.take 4)) (a.drop 4)) else none
  | 0x03 => if a.length = 3 then jobCommand h (b 0) (b 1) (b 2) else none
  | 0x04 => if a.length = 4 then some (.sealConfirm h (BitVec.ofNat 32 (leNat a))) else none
  | 0x05 => if a.length = 0 then some (.healthReport h) else none
  | 0x06 => if a.length = 3 then some (.acknowledge h (b 0 % 8) (leNat (a.drop 1))) else none
  | 0x07 => if 6 ≤ a.length then some (.imageWrite h (leNat (a.take 4)) (bitN (b 4) 0) (a.drop 5)) else none
  | 0x08 => if a.length = 3 then some (.journalRead h (leNat (a.take 2)) (b 2)) else none
  | 0x09 => if 2 ≤ a.length then profileCommand (.service h) (b 0) (b 1) (a.drop 2) else none
  | 0x0A => if a.length = 2 then some (.modeRequest (.service h) (b 0) (b 1)) else none
  | 0x10 => if a.length = 0 then some (.sessionChallenge h) else none
  | 0x11 => some (.sessionResponse h a)
  | 0x12 => if a.length = 0 then some (.sessionClose h) else none
  | 0x13 => some (.keyChange h a)
  | _ => none

/-- The command of a service message (Table 19.4), in one frame or as a connection delivered it. -/
def serviceCommand (c : CanId) (src dst : Nat) (m : List Byte) : Option Instr :=
  let t := (m.getD 1 0).toNat
  if m.length < 4 then none
  else serviceOf { can := c, src := src, dst := dst, target := t % 4, tag := t / 4 } (m.getD 0 0).toNat (m.drop 4)

/-- The command of a message received on CAN by its PGN (Table 19.3). -/
def canCommand (c : CanId) (pgn src dst : Nat) (m : List Byte) : Option Instr :=
  let b (i : Nat) : Nat := (m.getD i 0).toNat
  match pgn with
  | 0xEE00 => if m.length = 8 then some (.addressClaimed c src (leNat m)) else none
  | 0xEA00 => if m.length = 3 then some (.request c src dst (leNat m)) else none
  | 0xAD00 => if m.length = 8 then some (.guidanceSystemCommand c src dst { raw := leNat (m.take 2), status := b 2 / 64 }) else none
  | 0xFE49 =>
    if m.length = 8 ∧ leNat (m.take 2) ≤ 0xFAFF then some (.groundBasedSpeed c src (roundDiv ((leNat (m.take 2) * (9 * 65536) : Nat) : Int) 2500)) else none
  | 0xFECC | 0xFED3 => some (.dm3Dm11 c src pgn)
  | 0xEC00 => some (.transportProtocolFrame c src dst false m)
  | 0xEB00 => some (.transportProtocolFrame c src dst true m)
  | 0xEF00 => serviceCommand c src dst m
  | _ => none

end Sys2Proof.Machine
end

