-- ==== Sys2Proof/Machine/CanRows.lean ====
section
/-! DEFINITION. The meanings of the commands of one family: CAN messages and the voice (chapter 19). -/

namespace Sys2Proof.Machine

/-- The argument lengths of a service (Table 19.5); none for a code that the table does not have. -/
def serviceArgs (code n : Nat) : Option Bool :=
  match code with
  | 0x01 | 0x04 => some (n == 4)
  | 0x02 => some (5 ≤ n)
  | 0x03 | 0x06 | 0x08 => some (n == 3)
  | 0x05 | 0x10 | 0x12 => some (n == 0)
  | 0x07 => some (6 ≤ n && n ≤ 1781)
  | 0x09 => some (2 ≤ n)
  | 0x0A => some (n == 2)
  | 0x11 => some (n == 16)
  | 0x13 => some (n == 32)
  | _ => none

/-- A service message that spells no command of a row: UNKNOWN for a code, job command or request that Table 19.5 does not have, LENGTH where the arguments do not fit (R511, Table 19.6; log 94). -/
def Lane.strayService (l : Lane) (c : CanId) (src dst : Nat) (m : List Byte) : Lane :=
  let t := (m.getD 1 0).toNat
  let code := (m.getD 0 0).toNat
  if m.length < 4 ∨ (serviceCommand c src dst m).isSome then l
  else
    l.serve { can := c, src := src, dst := dst, target := t % 4, tag := t / 4 } code false false fun l =>
      let odd := code == 0x09 && 6 < (m.getD 5 0).toNat
      (l, (match serviceArgs code (m.length - 4) with
        | none => 1
        | some fits => if !fits || (code == 0x09 && !odd) then 6 else 1), [])

/-- The service messages to this node that a frame has completed and that spell no command are answered with it. -/
def Lane.strayAll (l : Lane) (c : CanId) (src dst before : Nat) : Lane :=
  if dst = 255 then l
  else ((l.canCtl c).delivered.drop before).foldl (fun l m => if m.pgn = 0xEF00 then l.strayService c src dst m.data else l) l

/-- ADDRESS_CLAIMED (R502). -/
def execAddressClaimed (c : CanId) (src : Nat) (name : Nat) (s : State) : Host.Outcome State Fault Refusal :=
  .next (s.onCan c fun x => x.addressClaimed c src name)

/-- REQUEST (R506). -/
def execRequest (c : CanId) (src : Nat) (dst : Nat) (pgn : Nat) (s : State) : Host.Outcome State Fault Refusal :=
  .next (s.onCan c fun x => x.canRequest c src dst pgn)

/-- GUIDANCE_SYSTEM_COMMAND (R507). -/
def execGuidanceSystemCommand (c : CanId) (src : Nat) (dst : Nat) (g : GuidanceCmd) (s : State) : Host.Outcome State Fault Refusal :=
  .next (s.onCan c fun x => x.guidance c src dst g)

/-- GROUND_BASED_SPEED (R379). -/
def execGroundBasedSpeed (c : CanId) (src : Nat) (v : Q) (s : State) : Host.Outcome State Fault Refusal :=
  .next (s.onCan c fun x => x.groundSpeed c src v)

/-- DM3_DM11 (R509). -/
def execDm3Dm11 (c : CanId) (src : Nat) (pgn : Nat) (s : State) : Host.Outcome State Fault Refusal :=
  .next (s.onCan c fun x => x.refuseClear c src pgn)

/-- GUIDANCE_MACHINE_INFO (R508). -/
def execGuidanceMachineInfo (l : LaneId) (c : CanId) (s : State) : Host.Outcome State Fault Refusal :=
  .next (s.on l fun x => x.sendGmi c)

/-- WHEEL_BASED_SPEED (R506). -/
def execWheelBasedSpeed (l : LaneId) (c : CanId) (s : State) : Host.Outcome State Fault Refusal :=
  .next (s.on l fun x => x.sendSpeed c)

/-- DM1 (R509). -/
def execDm1 (l : LaneId) (c : CanId) (s : State) : Host.Outcome State Fault Refusal :=
  .next (s.on l fun x => x.sendDm1 c)

/-- CAN_BUS_OFF (R496). -/
def execCanBusOff (l : LaneId) (c : CanId) (s : State) : Host.Outcome State Fault Refusal :=
  .next (s.on l fun x => x.busOff c)

/-- CAN_BUS_OFF_RECOVERY (R496). -/
def execCanBusOffRecovery (l : LaneId) (c : CanId) (s : State) : Host.Outcome State Fault Refusal :=
  .next (s.on l fun x => x.busOn c)

/-- CAN_ERROR_PASSIVE (R496). -/
def execCanErrorPassive (l : LaneId) (c : CanId) (tec : Nat) (rec_ : Nat) (s : State) : Host.Outcome State Fault Refusal :=
  .next (s.on l fun x => x.errorPassive c tec rec_)

/-- VOICE_TAKEOVER (R503). -/
def execVoiceTakeover (l : LaneId) (s : State) : Host.Outcome State Fault Refusal :=
  .next (s.on l fun x => x.voiceTakeover)

/-- TRANSPORT_PROTOCOL_FRAME (R501). -/
def execTransportProtocolFrame (c : CanId) (src : Nat) (dst : Nat) (isData : Bool) (data : List Byte) (s : State) : Host.Outcome State Fault Refusal :=
  .next (s.onCan c fun x => (x.transport c src dst isData data).strayAll c src dst (x.canCtl c).delivered.length)

end Sys2Proof.Machine
end

