-- ==== Sys2Proof/Machine/CaravanRows.lean ====
section
/-! DEFINITION. The meanings of the commands of one family: The caravan commit (chapter 18). -/

namespace Sys2Proof.Machine

/-- PREPARE (R486). -/
def execPrepare (l : LaneId) (p : PortId) (at_ : Nat) (bytes : List Byte) (s : State) : Host.Outcome State Fault Refusal :=
  .next (s.on l fun x => x.received p at_ bytes (frameIs 2 (some 1)) fun y f => y.publishAll.prepare f)

/-- READY (R487). -/
def execReady (l : LaneId) (p : PortId) (at_ : Nat) (bytes : List Byte) (s : State) : Host.Outcome State Fault Refusal :=
  .next (s.on l fun x => x.received p at_ bytes (frameIs 2 (some 2)) fun y f => y.publishAll.answer f at_ true)

/-- REFUSE (R489). -/
def execRefuse (l : LaneId) (p : PortId) (at_ : Nat) (bytes : List Byte) (s : State) : Host.Outcome State Fault Refusal :=
  .next (s.on l fun x => x.received p at_ bytes (frameIs 2 (some 3)) fun y f => y.publishAll.answer f at_ false)

/-- ABORT (R487). -/
def execAbort (l : LaneId) (p : PortId) (at_ : Nat) (bytes : List Byte) (s : State) : Host.Outcome State Fault Refusal :=
  .next (s.on l fun x => x.received p at_ bytes (frameIs 2 (some 4)) fun y f => y.abort f)

/-- COMMIT_DEADLINE (R487). -/
def execCommitDeadline (l : LaneId) (k : Fin 2) (s : State) : Host.Outcome State Fault Refusal :=
  .next (s.on l fun x => x.commitDeadline (k.val + 1))

/-- COMMIT_FIRE (R487). -/
def execCommitFire (l : LaneId) (k : Fin 2) (s : State) : Host.Outcome State Fault Refusal :=
  .next (s.on l fun x => x.commitFire (k.val + 1))

/-- SHARE_TAKEOVER (R488). -/
def execShareTakeover (l : LaneId) (n : AxisId) (s : State) : Host.Outcome State Fault Refusal :=
  .next (s.on l fun x => x.shareTakeover n)

/-- SHARE_FALLBACK (R488). -/
def execShareFallback (l : LaneId) (n : AxisId) (s : State) : Host.Outcome State Fault Refusal :=
  .next (s.on l fun x => x.shareFallback n)

end Sys2Proof.Machine
end

