-- ==== Sys2Proof/Machine/ChassisRows.lean ====
section
/-! DEFINITION. The meanings of the commands of one family: Steering and braking functions (chapter 14). -/

namespace Sys2Proof.Machine

/-- ELEMENT_CROSSCHECK_FAIL (R374). -/
def execElementCrosscheckFail (l : LaneId) (k : Fin 8) (s : State) : Host.Outcome State Fault Refusal :=
  .next (s.on l fun x => x.elementFail k)

/-- PAIR_DISAGREEMENT (R374). -/
def execPairDisagreement (l : LaneId) (k : Fin 8) (s : State) : Host.Outcome State Fault Refusal :=
  .next (s.on l fun x => x.pairDisagree k)

/-- CAN_SPEED_ACCEPT (R379). -/
def execCanSpeedAccept (l : LaneId) (s : State) : Host.Outcome State Fault Refusal :=
  .next (s.on l fun x => x.acceptSpeed)

/-- GUIDANCE_TIMEOUT (R383). -/
def execGuidanceTimeout (l : LaneId) (s : State) : Host.Outcome State Fault Refusal :=
  .next (s.on l fun x => x.guidanceTimeout)

/-- PRESSURE_FOLLOW_FAIL (R388). -/
def execPressureFollowFail (l : LaneId) (n : AxisId) (s : State) : Host.Outcome State Fault Refusal :=
  .next (s.on l fun x => x.pressureFollow n)

/-- ACCUMULATOR_LOW (R388). -/
def execAccumulatorLow (l : LaneId) (s : State) : Host.Outcome State Fault Refusal :=
  .next (s.on l fun x => x.accumulatorLow)

/-- WHEEL_ANGLE_XCHK (R385). -/
def execWheelAngleXchk (l : LaneId) (n : AxisId) (s : State) : Host.Outcome State Fault Refusal :=
  .next (s.on l fun x => x.wheelXchk n)

end Sys2Proof.Machine
end

