-- ==== Sys2Proof/Machine/CommRows.lean ====
section
/-! DEFINITION. The meanings of the commands of one family: Commutation, observer and pump start (chapter 11). -/

namespace Sys2Proof.Machine

/-- OBSERVER_LOST (R299). -/
def execObserverLost (l : LaneId) (n : AxisId) (s : State) : Host.Outcome State Fault Refusal :=
  .next (s.on l fun x => x.observerLost n)

/-- BORROW_TIMEOUT (R302). -/
def execBorrowTimeout (l : LaneId) (n : AxisId) (s : State) : Host.Outcome State Fault Refusal :=
  .next (s.on l fun x => x.borrowTimeout n)

/-- RECATCH_END (R304). -/
def execRecatchEnd (l : LaneId) (n : AxisId) (s : State) : Host.Outcome State Fault Refusal :=
  .next (s.on l fun x => x.recatchEnd n)

/-- RECATCH_FAIL (R304). -/
def execRecatchFail (l : LaneId) (n : AxisId) (s : State) : Host.Outcome State Fault Refusal :=
  .next (s.on l fun x => x.recatchFail n)

/-- OBSERVER_DISAGREE (R298). -/
def execObserverDisagree (l : LaneId) (n : AxisId) (s : State) : Host.Outcome State Fault Refusal :=
  .next (s.on l fun x => x.observerDisagree n)

/-- PUMP_ALIGN_END (R308). -/
def execPumpAlignEnd (l : LaneId) (n : AxisId) (s : State) : Host.Outcome State Fault Refusal :=
  .next (s.on l fun x => x.pumpAlignEnd n)

/-- PUMP_START_FAIL (R308). -/
def execPumpStartFail (l : LaneId) (n : AxisId) (s : State) : Host.Outcome State Fault Refusal :=
  .next (s.on l fun x => x.pumpStartFail n)

/-- PUMP_RESTART (R309). -/
def execPumpRestart (l : LaneId) (n : AxisId) (s : State) : Host.Outcome State Fault Refusal :=
  .next (s.on l fun x => x.pumpRestart n)

/-- HALLPASS_COMMUTATE (R312). -/
def execHallpassCommutate (l : LaneId) (n : AxisId) (s : State) : Host.Outcome State Fault Refusal :=
  .next (s.onEarly l fun x => x.hallCommutate n)

/-- PHASE_CURRENT_SUM (R293). -/
def execPhaseCurrentSum (l : LaneId) (n : AxisId) (s : State) : Host.Outcome State Fault Refusal :=
  .next (s.on l fun x => x.phaseSum n)

end Sys2Proof.Machine
end

