-- ==== Sys2Proof/Machine/FabricRows.lean ====
section
/-! DEFINITION. The meanings of the commands of one family: The fabric block (chapters 17 and 18). -/

namespace Sys2Proof.Machine

/-- PHY_LINK_UP (R461). -/
def execPhyLinkUp (l : LaneId) (p : PortId) (s : State) : Host.Outcome State Fault Refusal :=
  .next (s.on l fun x => x.phyUp p)

/-- PHY_LINK_LOSS (R463). -/
def execPhyLinkLoss (l : LaneId) (p : PortId) (s : State) : Host.Outcome State Fault Refusal :=
  .next (s.on l fun x => x.phyLoss p)

/-- TIME_FRAMES_MISSING (R463). -/
def execTimeFramesMissing (l : LaneId) (p : PortId) (s : State) : Host.Outcome State Fault Refusal :=
  .next (s.on l fun x => x.timeMissing p)

/-- PORT_UP_TIMEOUT (R463). -/
def execPortUpTimeout (l : LaneId) (p : PortId) (s : State) : Host.Outcome State Fault Refusal :=
  .next (s.on l fun x => x.portTimeout p)

/-- HELLO_SEND (R461). -/
def execHelloSend (l : LaneId) (p : PortId) (s : State) : Host.Outcome State Fault Refusal :=
  .next (s.on l fun x => x.helloSend p)

/-- HELLO (R462). -/
def execHello (l : LaneId) (p : PortId) (at_ : Nat) (bytes : List Byte) (s : State) : Host.Outcome State Fault Refusal :=
  .next (s.on l fun x => x.received p at_ bytes (frameIs 5 (some 1)) fun y f => y.hello p f)

/-- TIME_FRAME (R466). -/
def execTimeFrame (l : LaneId) (p : PortId) (at_ : Nat) (bytes : List Byte) (s : State) : Host.Outcome State Fault Refusal :=
  .next (s.on l fun x => x.received p at_ bytes (frameIs 0 none) fun y f => y.timeFrame p at_ f)

/-- LINK_NOTICE (R458). -/
def execLinkNotice (l : LaneId) (p : PortId) (at_ : Nat) (bytes : List Byte) (s : State) : Host.Outcome State Fault Refusal :=
  .next (s.on l fun x => x.received p at_ bytes (frameIs 5 (some 2)) fun y f => y.linkNotice f)

/-- SAFE_FRAME (R479). -/
def execSafeFrame (l : LaneId) (p : PortId) (at_ : Nat) (bytes : List Byte) (s : State) : Host.Outcome State Fault Refusal :=
  .next (s.on l fun x => x.received p at_ bytes (frameIs 1 none) fun y f => y.safeFrame f)

/-- MASTER_SEQUENCE_STALE (R468). -/
def execMasterSequenceStale (l : LaneId) (s : State) : Host.Outcome State Fault Refusal :=
  .next (s.on l fun x => x.sequenceStale)

/-- MASTER_EXCLUSION_END (R468). -/
def execMasterExclusionEnd (l : LaneId) (s : State) : Host.Outcome State Fault Refusal :=
  .next (s.on l fun x => x.exclusionEnd)

/-- HOLDOVER_EXPIRY (R469). -/
def execHoldoverExpiry (l : LaneId) (s : State) : Host.Outcome State Fault Refusal :=
  .next (s.on l fun x => x.holdoverExpiry)

end Sys2Proof.Machine
end

