-- ==== Sys2Proof/Machine/FaultRows.lean ====
section
/-! DEFINITION. The meanings of the commands of one family: Recovery of faults and the controlled stop (chapter 15). -/

namespace Sys2Proof.Machine

/-- ANNEAL (R411). -/
def execAnneal (l : LaneId) (cls : FaultClass) (s : State) : Host.Outcome State Fault Refusal :=
  .next (s.on l fun x => x.anneal cls)

/-- STOP_TIMEOUT (R424). -/
def execStopTimeout (l : LaneId) (s : State) : Host.Outcome State Fault Refusal :=
  .next (s.onEarly l fun x => x.stopTimeout)

/-- STOP_HOLD_END (R425). -/
def execStopHoldEnd (l : LaneId) (s : State) : Host.Outcome State Fault Refusal :=
  .next (s.onEarly l fun x => x.stopHoldEnd)

end Sys2Proof.Machine
end

