-- ==== Sys2Proof/Machine/FeedbackRows.lean ====
section
/-! DEFINITION. The meanings of the commands of one family: Feedback channels (chapter 7). -/

namespace Sys2Proof.Machine

/-- FEEDBACK_EDGE (R170). -/
def execFeedbackEdge (l : LaneId) (ch : Fin 4) (at_ : Nat) (a : Bool) (b : Bool) (z : Bool) (s : State) : Host.Outcome State Fault Refusal :=
  .next (s.onEarly l fun x => x.feedbackEdge ch at_ a b z)

/-- FEEDBACK_STANDSTILL (R186). -/
def execFeedbackStandstill (l : LaneId) (ch : Fin 4) (s : State) : Host.Outcome State Fault Refusal :=
  .next (s.on l fun x => x.feedbackStandstill ch)

/-- SSI_FRAME (R193). -/
def execSsiFrame (l : LaneId) (k : Fin 2) (startHigh : Bool) (endLow : Bool) (raw : Nat) (s : State) : Host.Outcome State Fault Refusal :=
  .next (s.onEarly l fun x => x.ssiFrame k startHigh endLow raw)

end Sys2Proof.Machine
end

