-- ==== Sys2Proof/Machine/GateRows.lean ====
section
/-! DEFINITION. The meanings of the commands of one family: PWM and gate drive (chapters 12 and 13). -/

namespace Sys2Proof.Machine

/-- PWM_VALLEY (R320). -/
def execPwmValley (l : LaneId) (n : AxisId) (ms : List LegMeas) (s : State) : Host.Outcome State Fault Refusal :=
  .next (s.onEarly l fun x => x.reload n ms)

/-- EVENT_LINE_FIRE (R332). -/
def execEventLineFire (l : LaneId) (k : Fin 8) (samples : List Q) (s : State) : Host.Outcome State Fault Refusal :=
  .next (s.onEarly l fun x => x.lineFires k samples)

/-- SHOOT_THROUGH (R333). -/
def execShootThrough (l : LaneId) (leg : LegId) (clocks : Nat) (s : State) : Host.Outcome State Fault Refusal :=
  .next (s.on l fun x => x.shootThrough leg clocks)

/-- DRIVER_INTERLOCK (R340). -/
def execDriverInterlock (l : LaneId) (leg : LegId) (clocks : Nat) (s : State) : Host.Outcome State Fault Refusal :=
  .next (s.on l fun x => x.driverInterlock leg clocks)

/-- ABSOLUTE_PULSE_CLIP (R325). -/
def execAbsolutePulseClip (l : LaneId) (leg : LegId) (s : State) : Host.Outcome State Fault Refusal :=
  .next (s.on l fun x => x.pulseClip leg)

/-- HS_SUPPLY_UV (R346). -/
def execHsSupplyUv (l : LaneId) (leg : LegId) (mv : Nat) (s : State) : Host.Outcome State Fault Refusal :=
  .next (s.on l fun x => x.supplyUv leg mv)

/-- OVERCURRENT_TRIP (R355). -/
def execOvercurrentTrip (l : LaneId) (leg : LegId) (t : TripAt) (s : State) : Host.Outcome State Fault Refusal :=
  .next (s.on l fun x => x.trip leg t.clk t.trip)

/-- IDENTIFICATION_DONE (R357). -/
def execIdentificationDone (l : LaneId) (n : AxisId) (fell : Bool) (pins : List Nat) (s : State) : Host.Outcome State Fault Refusal :=
  .next (s.on l fun x => x.identified n fell pins)

/-- CHOPPER_FAULT (R362). -/
def execChopperFault (l : LaneId) (s : State) : Host.Outcome State Fault Refusal :=
  .next (s.on l fun x => x.chopperFault)

/-- OVERVOLTAGE_TRIP (R365). -/
def execOvervoltageTrip (l : LaneId) (v : Q) (s : State) : Host.Outcome State Fault Refusal :=
  .next (s.on l fun x => x.overvoltage v)

end Sys2Proof.Machine
end

