-- ==== Sys2Proof/Machine/JobRows.lean ====
section
/-! DEFINITION. The meanings of the commands of one family: Jobs, live update and the recorder (chapter 20). -/

namespace Sys2Proof.Machine

/-- BLOCK_REQUEST (R536). -/
def execBlockRequest (l : LaneId) (p : PortId) (at_ : Nat) (bytes : List Byte) (s : State) : Host.Outcome State Fault Refusal :=
  .next (s.on l fun x => x.received p at_ bytes (frameIs 3 (some 1)) fun y f => y.blockRequest f)

/-- BLOCK_DATA (R536). -/
def execBlockData (l : LaneId) (p : PortId) (at_ : Nat) (bytes : List Byte) (s : State) : Host.Outcome State Fault Refusal :=
  .next (s.on l fun x => x.received p at_ bytes (frameIs 4 (some 2)) fun y f => y.blockData f)

/-- JOB_RESTART (R554). -/
def execJobRestart (h : SvcHdr) (value : Nat) (s : State) : Host.Outcome State Fault Refusal :=
  .next (s.onSvc h fun x => x.jobRestart h value)

/-- LANE_RESTART_AFTER_YIELD (R554). -/
def execLaneRestartAfterYield (l : LaneId) (s : State) : Host.Outcome State Fault Refusal :=
  .next (s.on l fun x => x.restartAfterYield)

/-- FW_BLOCK_WRITE (R536). -/
def execFwBlockWrite (h : SvcHdr) (offset : Nat) (data : List Byte) (s : State) : Host.Outcome State Fault Refusal :=
  .next (s.onSvc h fun x => x.fwBlockWrite h offset data)

/-- RECORD_EXPORT_READ (R548). -/
def execRecordExportRead (h : SvcHdr) (s : State) : Host.Outcome State Fault Refusal :=
  .next (s.readExport h)

/-- JOB_START (R525). -/
def execJobStart (h : SvcHdr) (j : Nat) (axis : Nat) (s : State) : Host.Outcome State Fault Refusal :=
  .next ((s.onSvc h fun x => x.jobStart h j axis).noteExport)

/-- JOB_SUSPEND (R526). -/
def execJobSuspend (h : SvcHdr) (j : Nat) (s : State) : Host.Outcome State Fault Refusal :=
  .next (s.onSvc h fun x => x.jobSuspend h j)

/-- JOB_RESUME (R526). -/
def execJobResume (h : SvcHdr) (j : Nat) (s : State) : Host.Outcome State Fault Refusal :=
  .next (s.onSvc h fun x => x.jobResume h j)

/-- JOB_CANCEL (R526). -/
def execJobCancel (h : SvcHdr) (j : Nat) (s : State) : Host.Outcome State Fault Refusal :=
  .next (s.onSvc h fun x => x.jobCancel h j)

/-- JOB_STATUS (R526). -/
def execJobStatus (h : SvcHdr) (j : Nat) (s : State) : Host.Outcome State Fault Refusal :=
  .next (s.onSvc h fun x => x.jobStatus h j)

/-- TAG_WRITE_DONE (R113). -/
def execTagWriteDone (l : LaneId) (ok : Bool) (s : State) : Host.Outcome State Fault Refusal :=
  .next (s.on l fun x => x.tagWriteDone ok)

/-- CENTRE_ORIGIN_SHIFT (R222). -/
def execCentreOriginShift (l : LaneId) (s : State) : Host.Outcome State Fault Refusal :=
  .next (s.on l fun x => x.centreShift)

/-- END_STOP_FOUND (R530). -/
def execEndStopFound (l : LaneId) (s : State) : Host.Outcome State Fault Refusal :=
  .next (s.on l fun x => x.endStop)

/-- PEDAL_LEARN_END (R531). -/
def execPedalLearnEnd (l : LaneId) (s : State) : Host.Outcome State Fault Refusal :=
  .next (s.on l fun x => x.pedalEnd)

/-- VALVE_STEP_SETTLED (R532). -/
def execValveStepSettled (l : LaneId) (s : State) : Host.Outcome State Fault Refusal :=
  .next (s.on l fun x => x.valveStep)

/-- BRIDGE_ALIGN_END (R533). -/
def execBridgeAlignEnd (l : LaneId) (s : State) : Host.Outcome State Fault Refusal :=
  .next (s.on l fun x => x.bridgeEnd)

/-- ROTATE_TEST_HOLD_END (R534). -/
def execRotateTestHoldEnd (l : LaneId) (s : State) : Host.Outcome State Fault Refusal :=
  .next (s.on l fun x => x.rotateHoldEnd)

/-- STAGED_SIGNATURE_CHECK (R537): the staged bytes decide (R59), not the operand. -/
def execStagedSignatureCheck (l : LaneId) (_ok : Bool) (s : State) : Host.Outcome State Fault Refusal :=
  .next (s.on l fun x => x.stagedCheck)

/-- FW_LANE_SWITCH (R539). -/
def execFwLaneSwitch (l : LaneId) (s : State) : Host.Outcome State Fault Refusal :=
  .next (s.on l fun x => x.fwLaneSwitch)

/-- FW_JOIN_TIMEOUT (R539). -/
def execFwJoinTimeout (l : LaneId) (s : State) : Host.Outcome State Fault Refusal :=
  .next (s.on l fun x => x.fwJoinTimeout)

/-- STANDSTILL_SWITCH (R540). -/
def execStandstillSwitch (l : LaneId) (s : State) : Host.Outcome State Fault Refusal :=
  .next (s.on l fun x => x.standstillSwitch)

/-- FW_SWITCH_TIMEOUT (R541). -/
def execFwSwitchTimeout (l : LaneId) (s : State) : Host.Outcome State Fault Refusal :=
  .next (s.on l fun x => x.fwSwitchTimeout)

/-- REGATHER_SWITCH (R543). -/
def execRegatherSwitch (l : LaneId) (s : State) : Host.Outcome State Fault Refusal :=
  .next (s.on l fun x => x.regatherSwitch)

/-- REGATHER_TIMEOUT (R545). -/
def execRegatherTimeout (l : LaneId) (s : State) : Host.Outcome State Fault Refusal :=
  .next (s.on l fun x => x.regatherTimeout)

/-- RECORDER_WINDOW_END (R547). -/
def execRecorderWindowEnd (s : State) : Host.Outcome State Fault Refusal :=
  .next (s.windowClose)

end Sys2Proof.Machine
end

