-- ==== Sys2Proof/Machine/LeaseRows.lean ====
section
/-! DEFINITION. The meanings of the commands of one family: The punty lease and the marver (chapter 5). -/

namespace Sys2Proof.Machine

/-- LEASE_EXPIRY (R124). -/
def execLeaseExpiry (l : LaneId) (n : AxisId) (s : State) : Host.Outcome State Fault Refusal :=
  .next (s.onEarly l fun x => x.leaseExpiry n)

/-- RENEW_WITHHELD (R123). -/
def execRenewWithheld (l : LaneId) (n : AxisId) (s : State) : Host.Outcome State Fault Refusal :=
  .next (s.on l fun x => x.renewWithheld n)

/-- UNPLANNED_CLAIM (R131). -/
def execUnplannedClaim (l : LaneId) (n : AxisId) (s : State) : Host.Outcome State Fault Refusal :=
  .next (s.onEarly l fun x => x.unplannedClaim n)

/-- SUCCESSOR_CLAIM (R128). -/
def execSuccessorClaim (l : LaneId) (n : AxisId) (s : State) : Host.Outcome State Fault Refusal :=
  .next (s.onEarly l fun x => x.successorClaim n)

/-- MARVER_CYCLE_TIMEOUT (R144). -/
def execMarverCycleTimeout (l : LaneId) (s : State) : Host.Outcome State Fault Refusal :=
  .next (s.on l fun x => x.marverTimeout)

/-- ROTATION_DUE (R145). -/
def execRotationDue (l : LaneId) (s : State) : Host.Outcome State Fault Refusal :=
  .next (s.on l fun x => x.rotationDue)

/-- HEALTH_REPORT_SEND (R147). -/
def execHealthReportSend (l : LaneId) (s : State) : Host.Outcome State Fault Refusal :=
  .next (s.on l fun x => x.formReport)

/-- AXIS_ORPHANED (R420). -/
def execAxisOrphaned (l : LaneId) (n : AxisId) (s : State) : Host.Outcome State Fault Refusal :=
  .next (s.on l fun x => x.axisOrphaned n)

end Sys2Proof.Machine
end

