-- ==== Sys2Proof/Machine/LoopRows.lean ====
section
/-! DEFINITION. The meanings of the commands of one family: Loops, supervision and modes (chapters 9 and 10). -/

namespace Sys2Proof.Machine

/-- THETA_WRITE (R247). -/
def execThetaWrite (l : LaneId) (s : State) : Host.Outcome State Fault Refusal :=
  .next (s.on l fun x => x.thetaWrite)

/-- MODE_REQUEST (R270). -/
def execModeRequest (o : ReqFrom) (axis : Nat) (mode : Nat) (s : State) : Host.Outcome State Fault Refusal :=
  .next (s.onReq o fun x h => x.modeService h axis mode)

/-- SETPOINT_BLEND_TIMEOUT (R276). -/
def execSetpointBlendTimeout (l : LaneId) (n : AxisId) (s : State) : Host.Outcome State Fault Refusal :=
  .next (s.on l fun x => x.setpointBlendTimeout n)

/-- OUTPUT_BLEND_TIMEOUT (R279). -/
def execOutputBlendTimeout (l : LaneId) (n : AxisId) (s : State) : Host.Outcome State Fault Refusal :=
  .next (s.on l fun x => x.outputBlendTimeout n)

/-- OVERRIDE (R281). -/
def execOverride (l : LaneId) (s : State) : Host.Outcome State Fault Refusal :=
  .next (s.onEarly l fun x => (if x.holdsFeel then x.settle else x).overrideEngage)

end Sys2Proof.Machine
end

