-- ==== Sys2Proof/Machine/ModeRows.lean ====
section
/-! DEFINITION. The meanings of the commands of one family: Wake demand, power-down, sleep and listen (chapter 3). -/

namespace Sys2Proof.Machine

/-- WAKE_DISAGREE (R78). -/
def execWakeDisagree (l : LaneId) (s : State) : Host.Outcome State Fault Refusal :=
  .next (s.on l fun x => x.wakeDisagree)

/-- POWER_DOWN (R80). -/
def execPowerDown (l : LaneId) (s : State) : Host.Outcome State Fault Refusal :=
  .next (s.onEarly l fun x => x.powerDown)

/-- PARK_WAIT_END (R80). -/
def execParkWaitEnd (l : LaneId) (s : State) : Host.Outcome State Fault Refusal :=
  .next (s.onEarly l fun x => x.parkWaitEnd)

/-- SLEEP_TIMEOUT (R80). -/
def execSleepTimeout (l : LaneId) (s : State) : Host.Outcome State Fault Refusal :=
  .next (s.on l fun x => x.sleepTimeout)

/-- LISTEN_TIMEOUT (R82). -/
def execListenTimeout (l : LaneId) (s : State) : Host.Outcome State Fault Refusal :=
  .next (s.on l fun x => x.listenTimeout)

end Sys2Proof.Machine
end

