-- ==== Sys2Proof/Machine/ProfileRows.lean ====
section
/-! DEFINITION. The meanings of the commands of one family: Profiles, limit switches and the step input (chapter 8). -/

namespace Sys2Proof.Machine

/-- MOVE (R205). -/
def execMove (o : ReqFrom) (axis : Nat) (target : Int) (s : State) : Host.Outcome State Fault Refusal :=
  .next (s.onReq o fun x h => x.profileRequest h axis (.move target))

/-- JOG (R205). -/
def execJog (o : ReqFrom) (axis : Nat) (speed : Int) (s : State) : Host.Outcome State Fault Refusal :=
  .next (s.onReq o fun x h => x.profileRequest h axis (.jog speed))

/-- STOP (R209). -/
def execStop (o : ReqFrom) (axis : Nat) (s : State) : Host.Outcome State Fault Refusal :=
  .next (s.onReq o fun x h => x.profileRequest h axis .stop)

/-- RESUME (R211). -/
def execResume (o : ReqFrom) (axis : Nat) (s : State) : Host.Outcome State Fault Refusal :=
  .next (s.onReq o fun x h => x.profileRequest h axis .resume)

/-- LIMITS (R207). -/
def execLimits (o : ReqFrom) (axis : Nat) (vmax : Nat) (amax : Nat) (dmax : Nat) (jmax : Nat) (s : State) : Host.Outcome State Fault Refusal :=
  .next (s.onReq o fun x h => x.profileRequest h axis (.limits vmax amax dmax jmax))

/-- STEP_ON (R226). -/
def execStepOn (o : ReqFrom) (axis : Nat) (s : State) : Host.Outcome State Fault Refusal :=
  .next (s.onReq o fun x h => x.profileRequest h axis .stepOn)

/-- STEP_OFF (R202). -/
def execStepOff (o : ReqFrom) (axis : Nat) (s : State) : Host.Outcome State Fault Refusal :=
  .next (s.onReq o fun x h => x.profileRequest h axis .stepOff)

/-- HOLD_REDUCTION (R213). -/
def execHoldReduction (l : LaneId) (n : AxisId) (s : State) : Host.Outcome State Fault Refusal :=
  .next (s.on l fun x => x.holdReduction n)

/-- LIMIT_DEBOUNCE (R216). -/
def execLimitDebounce (l : LaneId) (n : AxisId) (neg : Bool) (s : State) : Host.Outcome State Fault Refusal :=
  .next (s.on l fun x => x.debounce n neg)

/-- CHATTER_END (R216). -/
def execChatterEnd (l : LaneId) (n : AxisId) (neg : Bool) (s : State) : Host.Outcome State Fault Refusal :=
  .next (s.on l fun x => x.chatterEnd n neg)

/-- SWITCH_DISAGREE (R217). -/
def execSwitchDisagree (l : LaneId) (n : AxisId) (neg : Bool) (s : State) : Host.Outcome State Fault Refusal :=
  .next (s.on l fun x => x.switchDisagree n neg)

/-- STEP_EDGE (R223). -/
def execStepEdge (l : LaneId) (at_ : Nat) (step : Bool) (dir : Bool) (s : State) : Host.Outcome State Fault Refusal :=
  .next (s.onEarly l fun x => ({ x with now := at_ }).stepEdge (x.clk + at_) step dir)

/-- STEP_SETTLED (R225). -/
def execStepSettled (l : LaneId) (s : State) : Host.Outcome State Fault Refusal :=
  .next (s.on l fun x => x.stepSettled)

end Sys2Proof.Machine
end

