-- ==== Sys2Proof/Machine/ResetRows.lean ====
section
/-! DEFINITION. The meanings of the commands of one family: Resets, the supply and the gate supply (chapters 12, 15, 21 and 22). -/

namespace Sys2Proof.Machine

/-- POWER_ON (R568). -/
def execPowerOn (l : LaneId) (s : State) : Host.Outcome State Fault Refusal :=
  .next (s.on l fun x => x.powerOn)

/-- BROWN_OUT (R133). -/
def execBrownOut (l : LaneId) (s : State) : Host.Outcome State Fault Refusal :=
  .next (s.on l fun x => x.brownOut)

/-- RESETN_LOW (R553). -/
def execResetnLow (l : LaneId) (ns : Nat) (s : State) : Host.Outcome State Fault Refusal :=
  .next (s.on l fun x => x.resetnDown ns)

/-- RESETN_RELEASE (R553). -/
def execResetnRelease (l : LaneId) (at_ : Nat) (written : List Byte) (s : State) : Host.Outcome State Fault Refusal :=
  .next (s.on l fun x => (x.programmed at_ written).resetnUp)

/-- DISCONNECT_OPEN (R569). -/
def execDisconnectOpen (l : LaneId) (v : Q) (s : State) : Host.Outcome State Fault Refusal :=
  .next (s.on l fun x => x.disconnectOpen v)

/-- DISCONNECT_HOLDUP_EXPIRY (R569). -/
def execDisconnectHoldupExpiry (l : LaneId) (s : State) : Host.Outcome State Fault Refusal :=
  .next (s.on l fun x => x.holdupExpiry)

/-- GATE_SUPPLY_LOW (R570). -/
def execGateSupplyLow (l : LaneId) (s : State) : Host.Outcome State Fault Refusal :=
  .next (s.on l fun x => x.gateSupply true)

/-- LANE_WATCHDOG (R408). -/
def execLaneWatchdog (l : LaneId) (s : State) : Host.Outcome State Fault Refusal :=
  .next (s.on l fun x => x.watchdog)

/-- DEBUG_RESET (R555). -/
def execDebugReset (l : LaneId) (s : State) : Host.Outcome State Fault Refusal :=
  .next (s.on l fun x => x.debugReset)

/-- DEBUG_HALT (R335). -/
def execDebugHalt (l : LaneId) (s : State) : Host.Outcome State Fault Refusal :=
  .next (s.on l fun x => x.debugHalt)

/-- DEBUG_HALT_END (R336). -/
def execDebugHaltEnd (l : LaneId) (s : State) : Host.Outcome State Fault Refusal :=
  .next (s.on l fun x => x.debugHaltEnd)

/-- WAKE (R83). -/
def execWake (l : LaneId) (w : WakeBy) (s : State) : Host.Outcome State Fault Refusal :=
  .next (s.on l fun x => x.wakeUp w)

/-- DISCONNECT_RECLOSE (R569). -/
def execDisconnectReclose (l : LaneId) (s : State) : Host.Outcome State Fault Refusal :=
  .next (s.on l fun x => x.disconnectClose)

/-- GATE_SUPPLY_RETURN (R570). -/
def execGateSupplyReturn (l : LaneId) (s : State) : Host.Outcome State Fault Refusal :=
  .next (s.on l fun x => x.gateSupply false)

end Sys2Proof.Machine
end

