-- ==== Sys2Proof/Machine/ServiceRows.lean ====
section
/-! DEFINITION. The meanings of the commands of one family: Service messages and sessions (chapter 19). -/

namespace Sys2Proof.Machine

/-- OBJECT_READ (R511); JOB[9].DATA gives the next bytes of an export, by its ID or its name (R548, R7). -/
def execObjectRead (h : SvcHdr) (o : ObjRef) (s : State) : Host.Outcome State Fault Refusal :=
  .next (if o.toId = 0x60090010 then s.readExport h else s.readObject h o.toId)

/-- OBJECT_WRITE (R511); JOB.RESTART and JOB[7].BLOCK have the effect of rows of their own, by ID or name (R7, R536, R554). -/
def execObjectWrite (h : SvcHdr) (o : ObjRef) (value : List Byte) (s : State) : Host.Outcome State Fault Refusal :=
  .next (s.onSvc h fun x =>
    if o.toId = 0x60000001 ∧ value.length = 1 then x.jobRestart h (leNat value)
    else if o.toId = 0x60070010 then x.fwBlockWrite h (leNat (value.take 4)) (value.drop 4)
    else x.objectWrite h knownObject o.toId value)

/-- SEAL_CONFIRM (R77). -/
def execSealConfirm (h : SvcHdr) (w : Word) (s : State) : Host.Outcome State Fault Refusal :=
  .next (s.onSvc h fun x => x.sealService h w)

/-- HEALTH_REPORT (R147). -/
def execHealthReport (h : SvcHdr) (s : State) : Host.Outcome State Fault Refusal :=
  .next (s.onSvc h fun x => x.healthService h)

/-- ACKNOWLEDGE (R410). -/
def execAcknowledge (h : SvcHdr) (lanes : Nat) (classes : Nat) (s : State) : Host.Outcome State Fault Refusal :=
  .next (s.onSvc h fun x => x.ackService h lanes classes)

/-- IMAGE_WRITE (R90). -/
def execImageWrite (h : SvcHdr) (offset : Nat) (last : Bool) (data : List Byte) (s : State) : Host.Outcome State Fault Refusal :=
  .next (s.onSvc h fun x => x.imageWrite h offset last data)

/-- IMAGE_WRITE_VERIFY (R90). -/
def execImageWriteVerify (l : LaneId) (ok : Bool) (s : State) : Host.Outcome State Fault Refusal :=
  .next (s.on l fun x => x.imageVerify ok)

/-- JOURNAL_READ (R511). -/
def execJournalRead (h : SvcHdr) (first : Nat) (count : Nat) (s : State) : Host.Outcome State Fault Refusal :=
  .next (s.onSvc h fun x => x.journalRead h first count)

/-- SESSION_CHALLENGE (R513). -/
def execSessionChallenge (h : SvcHdr) (s : State) : Host.Outcome State Fault Refusal :=
  .next (s.onSvc h fun x => x.challenge h)

/-- SESSION_RESPONSE (R514). -/
def execSessionResponse (h : SvcHdr) (resp : List Byte) (s : State) : Host.Outcome State Fault Refusal :=
  .next (s.onSvc h fun x => x.sessionResponse h resp)

/-- SESSION_CLOSE (R514). -/
def execSessionClose (h : SvcHdr) (s : State) : Host.Outcome State Fault Refusal :=
  .next (s.onSvc h fun x => x.sessionClose h)

/-- KEY_CHANGE (R515). -/
def execKeyChange (h : SvcHdr) (data : List Byte) (s : State) : Host.Outcome State Fault Refusal :=
  .next (s.onSvc h fun x => x.keyChange h data)

/-- CHALLENGE_EXPIRY (R513). -/
def execChallengeExpiry (l : LaneId) (s : State) : Host.Outcome State Fault Refusal :=
  .next (s.on l fun x => x.challengeExpiry)

/-- SESSION_IDLE_TIMEOUT (R514). -/
def execSessionIdleTimeout (l : LaneId) (s : State) : Host.Outcome State Fault Refusal :=
  .next (s.on l fun x => x.sessionIdle)

/-- LOCKOUT_END (R514). -/
def execLockoutEnd (l : LaneId) (s : State) : Host.Outcome State Fault Refusal :=
  .next (s.on l fun x => x.lockoutEnd)

/-- SERVICE_RESPONSE_TIMEOUT (R512). -/
def execServiceResponseTimeout (l : LaneId) (s : State) : Host.Outcome State Fault Refusal :=
  .next (s.on l fun x => x.responseTimeout)

end Sys2Proof.Machine
end

