-- ==== Sys2Proof/Machine/StartRows.lean ====
section
/-! DEFINITION. The meanings of the commands of one family: Start-up from reset release to OPERATE (chapters 3 and 4). -/

namespace Sys2Proof.Machine

/-- BOOT_START (R59). -/
def execBootStart (l : LaneId) (s : State) : Host.Outcome State Fault Refusal :=
  .next (s.on l fun x => x.bootStart.bootJobs)

/-- SIGNATURE_CHECK_DONE (R60): the slot's own bytes decide (R59), not the operand. -/
def execSignatureCheckDone (l : LaneId) (_ok : Bool) (s : State) : Host.Outcome State Fault Refusal :=
  .next (s.on l fun x => x.signatureDone)

/-- SELFTEST_DONE (R62). -/
def execSelftestDone (l : LaneId) (t : SelfTest) (s : State) : Host.Outcome State Fault Refusal :=
  .next (s.on l fun x => x.selftestDone t)

/-- GATHER_DONE (R104). -/
def execGatherDone (l : LaneId) (bus : IdBus) (s : State) : Host.Outcome State Fault Refusal :=
  .next (s.on l fun x => x.gatherDone bus)

/-- ALIGN_EXIT (R67). -/
def execAlignExit (l : LaneId) (s : State) : Host.Outcome State Fault Refusal :=
  .next (s.onEarly l fun x => x.alignExit)

/-- ALIGN_TIMEOUT (R68). -/
def execAlignTimeout (l : LaneId) (s : State) : Host.Outcome State Fault Refusal :=
  .next (s.on l fun x => x.alignTimeout)

/-- DISCOVERY_TIMEOUT (R67). -/
def execDiscoveryTimeout (l : LaneId) (s : State) : Host.Outcome State Fault Refusal :=
  .next (s.on l fun x => x.discoveryTimeout)

/-- PRECHARGE_END (R69). -/
def execPrechargeEnd (l : LaneId) (mv : List Nat) (s : State) : Host.Outcome State Fault Refusal :=
  .next (s.on l fun x => x.prechargeEnd mv)

/-- OPERATE_ENTRY (R70). -/
def execOperateEntry (l : LaneId) (probes : List Int) (s : State) : Host.Outcome State Fault Refusal :=
  .next (s.onEarly l fun x => x.enterOperate probes)

end Sys2Proof.Machine
end

