-- ==== Sys2Proof/Machine/TickRows.lean ====
section
/-! DEFINITION. The meanings of the commands of one family: The tick, the lane links, the commons and external synchronisation (chapters 1 and 2). -/

namespace Sys2Proof.Machine

/-- TICK (R21). -/
def execTick (l : LaneId) (t : TickIn) (s : State) : Host.Outcome State Fault Refusal :=
  .next (s.tickLane l t)

/-- LINK_FRAME_RECEIVE (R582). -/
def execLinkFrameReceive (l : LaneId) (f : LinkRx) (s : State) : Host.Outcome State Fault Refusal :=
  .next (s.linkFrame l f)

/-- LINK_DOWN (R20). -/
def execLinkDown (l : LaneId) (o : LaneId) (s : State) : Host.Outcome State Fault Refusal :=
  .next (s.on l fun x => x.linkDown o)

/-- COMMONS_LOSS (R13). -/
def execCommonsLoss (s : State) : Host.Outcome State Fault Refusal :=
  .next (s.commonsDown)

/-- TICK_OUTLIER (R38). -/
def execTickOutlier (l : LaneId) (s : State) : Host.Outcome State Fault Refusal :=
  .next (s.on l fun x => x.tickOutlier)

/-- TICK_SPLIT (R39). -/
def execTickSplit (l : LaneId) (s : State) : Host.Outcome State Fault Refusal :=
  .next (s.on l fun x => x.tickSplit)

/-- SYNC_PIN_EDGE (R42). -/
def execSyncPinEdge (l : LaneId) (at_ : Nat) (s : State) : Host.Outcome State Fault Refusal :=
  .next (s.onEarly l fun x => x.pinEdge at_)

/-- SOURCE_LOCKED (R44). -/
def execSourceLocked (l : LaneId) (k : ExtSource) (s : State) : Host.Outcome State Fault Refusal :=
  .next (s.on l fun x => x.sourceLocked k)

/-- SOURCE_LOST (R44). -/
def execSourceLost (l : LaneId) (k : ExtSource) (s : State) : Host.Outcome State Fault Refusal :=
  .next (s.on l fun x => x.sourceLost k)

/-- SOURCE_RESEARCH (R44). -/
def execSourceResearch (l : LaneId) (k : ExtSource) (s : State) : Host.Outcome State Fault Refusal :=
  .next (s.on l fun x => x.sourceResearch k)

/-- TICK_FENCE_OVERRUN (R49). -/
def execTickFenceOverrun (l : LaneId) (clocks : Nat) (s : State) : Host.Outcome State Fault Refusal :=
  .next (s.on l fun x => x.fenceOverrun clocks)

/-- BOUNDARY_WORK_OVERRUN (R49). -/
def execBoundaryWorkOverrun (l : LaneId) (clocks : Nat) (s : State) : Host.Outcome State Fault Refusal :=
  .next (s.on l fun x => x.boundaryOverrun clocks)

/-- ENGINE_PUBLISH_LATE (R49). -/
def execEnginePublishLate (l : LaneId) (clocks : Nat) (s : State) : Host.Outcome State Fault Refusal :=
  .next (s.on l fun x => x.publishLate clocks)

/-- TICK_LOSS (R120). -/
def execTickLoss (l : LaneId) (deviation : Int) (s : State) : Host.Outcome State Fault Refusal :=
  .next (s.on l fun x => x.tickLoss deviation)

/-- TICK_NOT_CLOSED (R408). -/
def execTickNotClosed (l : LaneId) (s : State) : Host.Outcome State Fault Refusal :=
  .next (s.on l fun x => x.tickNotClosed)

/-- COLLECTOR_REGISTER_ERROR (R406). -/
def execCollectorRegisterError (l : LaneId) (register : Nat) (s : State) : Host.Outcome State Fault Refusal :=
  .next (s.on l fun x => x.collectorError register)

/-- COMMONS_RETURN (R548). -/
def execCommonsReturn (s : State) : Host.Outcome State Fault Refusal :=
  .next (s.commonsBack)

end Sys2Proof.Machine
end

