-- ==== Sys2Proof/Machine/Dispatch.lean ====
section
/-! DEFINITION. The dispatch: one arm per command, each a call of its meaning. -/

namespace Sys2Proof.Machine

open Sys2Proof

/-- A command's effect on everything but the queue. -/
def exec (i : Instr) (s : State) : Host.Outcome State Fault Refusal :=
  match i with
  | .powerOn l => Sys2Proof.Machine.execPowerOn l s
  | .brownOut l => Sys2Proof.Machine.execBrownOut l s
  | .resetnLow l ns => Sys2Proof.Machine.execResetnLow l ns s
  | .resetnRelease l at_ written => Sys2Proof.Machine.execResetnRelease l at_ written s
  | .disconnectOpen l v => Sys2Proof.Machine.execDisconnectOpen l v s
  | .disconnectHoldupExpiry l => Sys2Proof.Machine.execDisconnectHoldupExpiry l s
  | .gateSupplyLow l => Sys2Proof.Machine.execGateSupplyLow l s
  | .laneWatchdog l => Sys2Proof.Machine.execLaneWatchdog l s
  | .debugReset l => Sys2Proof.Machine.execDebugReset l s
  | .debugHalt l => Sys2Proof.Machine.execDebugHalt l s
  | .debugHaltEnd l => Sys2Proof.Machine.execDebugHaltEnd l s
  | .wake l w => Sys2Proof.Machine.execWake l w s
  | .bootStart l => Sys2Proof.Machine.execBootStart l s
  | .signatureCheckDone l ok => Sys2Proof.Machine.execSignatureCheckDone l ok s
  | .selftestDone l t => Sys2Proof.Machine.execSelftestDone l t s
  | .gatherDone l bus => Sys2Proof.Machine.execGatherDone l bus s
  | .alignExit l => Sys2Proof.Machine.execAlignExit l s
  | .alignTimeout l => Sys2Proof.Machine.execAlignTimeout l s
  | .discoveryTimeout l => Sys2Proof.Machine.execDiscoveryTimeout l s
  | .prechargeEnd l mv => Sys2Proof.Machine.execPrechargeEnd l mv s
  | .operateEntry l probes => Sys2Proof.Machine.execOperateEntry l probes s
  | .tick l t => Sys2Proof.Machine.execTick l t s
  | .linkFrameReceive l f => Sys2Proof.Machine.execLinkFrameReceive l f s
  | .linkDown l o => Sys2Proof.Machine.execLinkDown l o s
  | .commonsLoss => Sys2Proof.Machine.execCommonsLoss s
  | .tickOutlier l => Sys2Proof.Machine.execTickOutlier l s
  | .tickSplit l => Sys2Proof.Machine.execTickSplit l s
  | .syncPinEdge l at_ => Sys2Proof.Machine.execSyncPinEdge l at_ s
  | .sourceLocked l k => Sys2Proof.Machine.execSourceLocked l k s
  | .sourceLost l k => Sys2Proof.Machine.execSourceLost l k s
  | .sourceResearch l k => Sys2Proof.Machine.execSourceResearch l k s
  | .tickFenceOverrun l clocks => Sys2Proof.Machine.execTickFenceOverrun l clocks s
  | .boundaryWorkOverrun l clocks => Sys2Proof.Machine.execBoundaryWorkOverrun l clocks s
  | .enginePublishLate l clocks => Sys2Proof.Machine.execEnginePublishLate l clocks s
  | .tickLoss l deviation => Sys2Proof.Machine.execTickLoss l deviation s
  | .tickNotClosed l => Sys2Proof.Machine.execTickNotClosed l s
  | .wakeDisagree l => Sys2Proof.Machine.execWakeDisagree l s
  | .powerDown l => Sys2Proof.Machine.execPowerDown l s
  | .parkWaitEnd l => Sys2Proof.Machine.execParkWaitEnd l s
  | .sleepTimeout l => Sys2Proof.Machine.execSleepTimeout l s
  | .listenTimeout l => Sys2Proof.Machine.execListenTimeout l s
  | .leaseExpiry l n => Sys2Proof.Machine.execLeaseExpiry l n s
  | .renewWithheld l n => Sys2Proof.Machine.execRenewWithheld l n s
  | .unplannedClaim l n => Sys2Proof.Machine.execUnplannedClaim l n s
  | .successorClaim l n => Sys2Proof.Machine.execSuccessorClaim l n s
  | .marverCycleTimeout l => Sys2Proof.Machine.execMarverCycleTimeout l s
  | .rotationDue l => Sys2Proof.Machine.execRotationDue l s
  | .healthReportSend l => Sys2Proof.Machine.execHealthReportSend l s
  | .axisOrphaned l n => Sys2Proof.Machine.execAxisOrphaned l n s
  | .feedbackEdge l ch at_ a b z => Sys2Proof.Machine.execFeedbackEdge l ch at_ a b z s
  | .feedbackStandstill l ch => Sys2Proof.Machine.execFeedbackStandstill l ch s
  | .ssiFrame l k startHigh endLow raw => Sys2Proof.Machine.execSsiFrame l k startHigh endLow raw s
  | .move o axis target => Sys2Proof.Machine.execMove o axis target s
  | .jog o axis speed => Sys2Proof.Machine.execJog o axis speed s
  | .stop o axis => Sys2Proof.Machine.execStop o axis s
  | .resume o axis => Sys2Proof.Machine.execResume o axis s
  | .limits o axis vmax amax dmax jmax => Sys2Proof.Machine.execLimits o axis vmax amax dmax jmax s
  | .stepOn o axis => Sys2Proof.Machine.execStepOn o axis s
  | .stepOff o axis => Sys2Proof.Machine.execStepOff o axis s
  | .holdReduction l n => Sys2Proof.Machine.execHoldReduction l n s
  | .limitDebounce l n neg => Sys2Proof.Machine.execLimitDebounce l n neg s
  | .chatterEnd l n neg => Sys2Proof.Machine.execChatterEnd l n neg s
  | .switchDisagree l n neg => Sys2Proof.Machine.execSwitchDisagree l n neg s
  | .stepEdge l at_ step dir => Sys2Proof.Machine.execStepEdge l at_ step dir s
  | .stepSettled l => Sys2Proof.Machine.execStepSettled l s
  | .thetaWrite l => Sys2Proof.Machine.execThetaWrite l s
  | .modeRequest o axis mode => Sys2Proof.Machine.execModeRequest o axis mode s
  | .setpointBlendTimeout l n => Sys2Proof.Machine.execSetpointBlendTimeout l n s
  | .outputBlendTimeout l n => Sys2Proof.Machine.execOutputBlendTimeout l n s
  | .override_ l => Sys2Proof.Machine.execOverride l s
  | .observerLost l n => Sys2Proof.Machine.execObserverLost l n s
  | .borrowTimeout l n => Sys2Proof.Machine.execBorrowTimeout l n s
  | .recatchEnd l n => Sys2Proof.Machine.execRecatchEnd l n s
  | .recatchFail l n => Sys2Proof.Machine.execRecatchFail l n s
  | .observerDisagree l n => Sys2Proof.Machine.execObserverDisagree l n s
  | .pumpAlignEnd l n => Sys2Proof.Machine.execPumpAlignEnd l n s
  | .pumpStartFail l n => Sys2Proof.Machine.execPumpStartFail l n s
  | .pumpRestart l n => Sys2Proof.Machine.execPumpRestart l n s
  | .hallpassCommutate l n => Sys2Proof.Machine.execHallpassCommutate l n s
  | .phaseCurrentSum l n => Sys2Proof.Machine.execPhaseCurrentSum l n s
  | .pwmValley l n ms => Sys2Proof.Machine.execPwmValley l n ms s
  | .eventLineFire l k samples => Sys2Proof.Machine.execEventLineFire l k samples s
  | .shootThrough l leg clocks => Sys2Proof.Machine.execShootThrough l leg clocks s
  | .driverInterlock l leg clocks => Sys2Proof.Machine.execDriverInterlock l leg clocks s
  | .absolutePulseClip l leg => Sys2Proof.Machine.execAbsolutePulseClip l leg s
  | .hsSupplyUv l leg mv => Sys2Proof.Machine.execHsSupplyUv l leg mv s
  | .overcurrentTrip l leg t => Sys2Proof.Machine.execOvercurrentTrip l leg t s
  | .identificationDone l n fell pins => Sys2Proof.Machine.execIdentificationDone l n fell pins s
  | .chopperFault l => Sys2Proof.Machine.execChopperFault l s
  | .overvoltageTrip l v => Sys2Proof.Machine.execOvervoltageTrip l v s
  | .elementCrosscheckFail l k => Sys2Proof.Machine.execElementCrosscheckFail l k s
  | .pairDisagreement l k => Sys2Proof.Machine.execPairDisagreement l k s
  | .canSpeedAccept l => Sys2Proof.Machine.execCanSpeedAccept l s
  | .guidanceTimeout l => Sys2Proof.Machine.execGuidanceTimeout l s
  | .pressureFollowFail l n => Sys2Proof.Machine.execPressureFollowFail l n s
  | .accumulatorLow l => Sys2Proof.Machine.execAccumulatorLow l s
  | .wheelAngleXchk l n => Sys2Proof.Machine.execWheelAngleXchk l n s
  | .anneal l cls => Sys2Proof.Machine.execAnneal l cls s
  | .stopTimeout l => Sys2Proof.Machine.execStopTimeout l s
  | .stopHoldEnd l => Sys2Proof.Machine.execStopHoldEnd l s
  | .phyLinkUp l p => Sys2Proof.Machine.execPhyLinkUp l p s
  | .phyLinkLoss l p => Sys2Proof.Machine.execPhyLinkLoss l p s
  | .timeFramesMissing l p => Sys2Proof.Machine.execTimeFramesMissing l p s
  | .portUpTimeout l p => Sys2Proof.Machine.execPortUpTimeout l p s
  | .helloSend l p => Sys2Proof.Machine.execHelloSend l p s
  | .hello l p at_ bytes => Sys2Proof.Machine.execHello l p at_ bytes s
  | .timeFrame l p at_ bytes => Sys2Proof.Machine.execTimeFrame l p at_ bytes s
  | .linkNotice l p at_ bytes => Sys2Proof.Machine.execLinkNotice l p at_ bytes s
  | .safeFrame l p at_ bytes => Sys2Proof.Machine.execSafeFrame l p at_ bytes s
  | .masterSequenceStale l => Sys2Proof.Machine.execMasterSequenceStale l s
  | .masterExclusionEnd l => Sys2Proof.Machine.execMasterExclusionEnd l s
  | .holdoverExpiry l => Sys2Proof.Machine.execHoldoverExpiry l s
  | .prepare l p at_ bytes => Sys2Proof.Machine.execPrepare l p at_ bytes s
  | .ready l p at_ bytes => Sys2Proof.Machine.execReady l p at_ bytes s
  | .refuse l p at_ bytes => Sys2Proof.Machine.execRefuse l p at_ bytes s
  | .abort l p at_ bytes => Sys2Proof.Machine.execAbort l p at_ bytes s
  | .commitDeadline l k => Sys2Proof.Machine.execCommitDeadline l k s
  | .commitFire l k => Sys2Proof.Machine.execCommitFire l k s
  | .shareTakeover l n => Sys2Proof.Machine.execShareTakeover l n s
  | .shareFallback l n => Sys2Proof.Machine.execShareFallback l n s
  | .blockRequest l p at_ bytes => Sys2Proof.Machine.execBlockRequest l p at_ bytes s
  | .blockData l p at_ bytes => Sys2Proof.Machine.execBlockData l p at_ bytes s
  | .addressClaimed c src name => Sys2Proof.Machine.execAddressClaimed c src name s
  | .request c src dst pgn => Sys2Proof.Machine.execRequest c src dst pgn s
  | .guidanceSystemCommand c src dst g => Sys2Proof.Machine.execGuidanceSystemCommand c src dst g s
  | .groundBasedSpeed c src v => Sys2Proof.Machine.execGroundBasedSpeed c src v s
  | .dm3Dm11 c src pgn => Sys2Proof.Machine.execDm3Dm11 c src pgn s
  | .guidanceMachineInfo l c => Sys2Proof.Machine.execGuidanceMachineInfo l c s
  | .wheelBasedSpeed l c => Sys2Proof.Machine.execWheelBasedSpeed l c s
  | .dm1 l c => Sys2Proof.Machine.execDm1 l c s
  | .canBusOff l c => Sys2Proof.Machine.execCanBusOff l c s
  | .canBusOffRecovery l c => Sys2Proof.Machine.execCanBusOffRecovery l c s
  | .canErrorPassive l c tec rec_ => Sys2Proof.Machine.execCanErrorPassive l c tec rec_ s
  | .voiceTakeover l => Sys2Proof.Machine.execVoiceTakeover l s
  | .objectRead h o => Sys2Proof.Machine.execObjectRead h o s
  | .objectWrite h o value => Sys2Proof.Machine.execObjectWrite h o value s
  | .jobRestart h value => Sys2Proof.Machine.execJobRestart h value s
  | .laneRestartAfterYield l => Sys2Proof.Machine.execLaneRestartAfterYield l s
  | .fwBlockWrite h offset data => Sys2Proof.Machine.execFwBlockWrite h offset data s
  | .recordExportRead h => Sys2Proof.Machine.execRecordExportRead h s
  | .jobStart h j axis => Sys2Proof.Machine.execJobStart h j axis s
  | .jobSuspend h j => Sys2Proof.Machine.execJobSuspend h j s
  | .jobResume h j => Sys2Proof.Machine.execJobResume h j s
  | .jobCancel h j => Sys2Proof.Machine.execJobCancel h j s
  | .jobStatus h j => Sys2Proof.Machine.execJobStatus h j s
  | .sealConfirm h w => Sys2Proof.Machine.execSealConfirm h w s
  | .healthReport h => Sys2Proof.Machine.execHealthReport h s
  | .acknowledge h lanes classes => Sys2Proof.Machine.execAcknowledge h lanes classes s
  | .imageWrite h offset last data => Sys2Proof.Machine.execImageWrite h offset last data s
  | .imageWriteVerify l ok => Sys2Proof.Machine.execImageWriteVerify l ok s
  | .journalRead h first count => Sys2Proof.Machine.execJournalRead h first count s
  | .sessionChallenge h => Sys2Proof.Machine.execSessionChallenge h s
  | .sessionResponse h resp => Sys2Proof.Machine.execSessionResponse h resp s
  | .sessionClose h => Sys2Proof.Machine.execSessionClose h s
  | .keyChange h data => Sys2Proof.Machine.execKeyChange h data s
  | .challengeExpiry l => Sys2Proof.Machine.execChallengeExpiry l s
  | .sessionIdleTimeout l => Sys2Proof.Machine.execSessionIdleTimeout l s
  | .lockoutEnd l => Sys2Proof.Machine.execLockoutEnd l s
  | .serviceResponseTimeout l => Sys2Proof.Machine.execServiceResponseTimeout l s
  | .tagWriteDone l ok => Sys2Proof.Machine.execTagWriteDone l ok s
  | .centreOriginShift l => Sys2Proof.Machine.execCentreOriginShift l s
  | .endStopFound l => Sys2Proof.Machine.execEndStopFound l s
  | .pedalLearnEnd l => Sys2Proof.Machine.execPedalLearnEnd l s
  | .valveStepSettled l => Sys2Proof.Machine.execValveStepSettled l s
  | .bridgeAlignEnd l => Sys2Proof.Machine.execBridgeAlignEnd l s
  | .rotateTestHoldEnd l => Sys2Proof.Machine.execRotateTestHoldEnd l s
  | .stagedSignatureCheck l ok => Sys2Proof.Machine.execStagedSignatureCheck l ok s
  | .fwLaneSwitch l => Sys2Proof.Machine.execFwLaneSwitch l s
  | .fwJoinTimeout l => Sys2Proof.Machine.execFwJoinTimeout l s
  | .standstillSwitch l => Sys2Proof.Machine.execStandstillSwitch l s
  | .fwSwitchTimeout l => Sys2Proof.Machine.execFwSwitchTimeout l s
  | .regatherSwitch l => Sys2Proof.Machine.execRegatherSwitch l s
  | .regatherTimeout l => Sys2Proof.Machine.execRegatherTimeout l s
  | .recorderWindowEnd => Sys2Proof.Machine.execRecorderWindowEnd s
  | .disconnectReclose l => Sys2Proof.Machine.execDisconnectReclose l s
  | .gateSupplyReturn l => Sys2Proof.Machine.execGateSupplyReturn l s
  | .collectorRegisterError l register => Sys2Proof.Machine.execCollectorRegisterError l register s
  | .commonsReturn => Sys2Proof.Machine.execCommonsReturn s
  | .transportProtocolFrame c src dst isData data => Sys2Proof.Machine.execTransportProtocolFrame c src dst isData data s

end Sys2Proof.Machine
end

