-- ==== Sys2Proof/Safety.lean ====
section
/-! DEFINITION. The terms the claims use: a lane as a command finds it, a node with one lane replaced, a restarted lane, a lane that admits a service request, the recorder areas held together. -/

namespace Sys2Proof.Machine

/-- A lane as the next command of the tick finds it: step 2 done, one place later in its order of events (Table 1.4, R404). -/
def State.lane (s : State) (x : LaneId) : Lane := (s.lanes.get x).ready

/-- A lane as a command finds it that falls at the boundary or before step 2: one place later in its order of events (R404). -/
def State.early (s : State) (x : LaneId) : Lane := (s.lanes.get x).bump

/-- The node with one lane replaced and nothing else changed. -/
def State.withLane (s : State) (x : LaneId) (y : Lane) : State := { s with lanes := s.lanes.set x y }

/-- What is not a lane stays: what the lanes show, the commons and the queue. -/
def State.SameOutside (s t : State) : Prop := t.view = s.view ∧ t.commons = s.commons ∧ t.pending = s.pending

/-- The number of open windows. -/
def Commons.openWindows (c : Commons) : Nat := (c.windows.filter fun w => w.isOpen).length

/-- The recorder's areas hold together (R547): the ring's byte count is that of its ticks and fits the ring area, at most one window is open, and window numbers are those given out. -/
def Commons.Tidy (c : Commons) : Prop :=
  c.used = ticksSize c.ring ∧ c.used ≤ ringSize ∧ c.openWindows ≤ 1 ∧ ∀ w ∈ c.windows, w.num < c.nextNum

/-- A lane that a reset of a kind has taken back to BOOT (Tables 21.3 and 21.4): its registers stand as at power-on, no gate has a lease, its pins and its non-volatile content are kept; latched faults survive a FAULT RESTART alone, with the absences they cause, and none of them is unacknowledged (R414, R416); a FAULT RESTART and a LANE RESTART write the records that waited for the journal (R418). -/
def Lane.Restarted (x y : Lane) (k : ResetKind) : Prop :=
  y = { id := x.id, start := y.start, sup22 := y.sup22, bus := { gateLow := x.bus.gateLow }, lease := y.lease
        col := { held := if k = .faultRestart then (x.col.held.filter (·.latched)).map fun h => { h with acked := true } else [] }
        nvm := { x.nvm with latches := y.nvm.latches, events := y.nvm.events, eventNext := y.nvm.eventNext } } ∧
  (if k = .faultRestart ∨ k = .laneRestart then
     y.nvm.events = (x.nvm.events ++ x.col.toJournal).drop ((x.nvm.events ++ x.col.toJournal).length - 4096) ∧
       y.nvm.eventNext = (x.nvm.eventNext + x.col.toJournal.length) % 4096
   else y.nvm.events = x.nvm.events ∧ y.nvm.eventNext = x.nvm.eventNext) ∧
  (k ≠ .faultRestart → ∀ n, y.ax n = {}) ∧ (∀ n, y.ax n = { absentFault := (y.ax n).absentFault }) ∧
  y.start.state = .boot ∧ y.start.cause = k ∧ y.start.booted = false ∧ y.start.ign = x.start.ign ∧ y.start.wake = x.start.wake ∧
  y.start.workshop = x.start.workshop ∧ y.start.benchPin = x.start.benchPin

/-- A lane without supply or held in reset: in OFF, no gate with a lease, its non-volatile content kept. -/
def Lane.WentOff (x y : Lane) : Prop :=
  y.start.state = .off ∧ (∀ n, y.ax n = {}) ∧ y.nvm = x.nvm ∧ y.id = x.id ∧ y.start.drvinh = false ∧ y.col.raised = []

/-- A lane has raised an event in this tick, with a context value (R397, R398). -/
def Lane.Raised (y : Lane) (ev : Ev) (ctx : Word) : Prop := ∃ r ∈ y.col.raised, r.ev = ev ∧ r.ctx = ctx

/-- A lane holds a record of an event with a context value (R397). -/
def Lane.Records (y : Lane) (ev : Ev) (ctx : Word) : Prop := ∃ h ∈ y.col.held, h.r.ev = ev ∧ h.r.ctx = ctx

/-- A lane in SAFE as an L3 or L4 fault leaves it (R402): no lease counter runs, ALIVE is frozen, the drive inhibit is off. -/
def Lane.InSafe (y : Lane) : Prop :=
  y.start.state = .safe ∧ y.start.drvinh = false ∧ y.col.frozen = true ∧ ∀ n, (y.ax n).counter = 0 ∧ (y.ax n).role = .absent

/-- A lane has entered a low-power state (R80): counters clear, the time bases stop with their legs off (R317), holds end, ALIVE freezes, the drive inhibit and the identity supply go off, in SLEEP the disconnect is open (R569), and its other parts stay. -/
def Lane.FellAsleep (x y : Lane) (st : LState) : Prop :=
  y.start = { x.start with state := st, inState := 0, drvinh := false, ready := false, listenTicks := 0 } ∧
  y.col.frozen = true ∧ (∀ n, (y.ax n).counter = 0 ∧ (y.ax n).role = .absent ∧ (y.ax n).epoch = (x.ax n).epoch) ∧
  (∀ n, y.pwm.get n = { (x.pwm.get n).stop with hold := 0 }) ∧ (∀ i, y.leg.get i = (x.leg.get i).stop) ∧
  y.sup22 = { x.sup22 with isOpen := x.sup22.isOpen || st == .sleep, holdup := x.sup22.holdup && st != .sleep } ∧
  y = { x with start := y.start, lease := y.lease, pwm := y.pwm, leg := y.leg, sup22 := y.sup22, col := y.col, nvm := y.nvm
               gat := { x.gat with idPower := false } }

/-- Every record that waited is in the journal, and the angle of every motor axis (R80, R247). -/
def Lane.Flushed (x y : Lane) : Prop :=
  y.col.toJournal = [] ∧ y.nvm.events = (x.nvm.events ++ x.col.toJournal).drop ((x.nvm.events ++ x.col.toJournal).length - 4096) ∧
  ∀ n, x.cfg.motor n.val → y.nvm.theta.get n = (x.nvm.theta.get n).write (x.loop.get n).theta

/-! ## Service requests (R510 to R517) -/

/-- A lane admits a service request: it hears the bus, the request is addressed to the node and names the lane, the lane serves requests in its state, and the session and the WORKSHOP input stand where the service needs them. -/
def Lane.Admits (x : Lane) (h : SvcHdr) (session workshop : Bool) : Prop :=
  x.onBus h.can = true ∧ x.isobus h.can = true ∧ h.dst = (x.canCtl h.can).addr ∧ x.serves_ = true ∧ h.names x.cfg x.id = true ∧
  (session → x.inSession h = true) ∧ (workshop → x.start.workshop = true)

/-- A lane has taken a frame and, as voice, asked the other lanes it names: controllers, the note of a frame heard and the responses awaited may have changed, and nothing else. -/
def Lane.Took (x z : Lane) : Prop := z = { x with can := { x.can with heard := z.can.heard, ctl := z.can.ctl, waits := z.can.waits } }

/-- A request has had an effect on a lane, which has answered it with a result and data: to the bus where it is the voice, else over the links (R512). -/
def State.Served (s t : State) (h : SvcHdr) (l : LaneId) (code result : Nat) (data : List Byte) (e : Lane → Lane) : Prop :=
  (∃ z, (s.lane l).Took z ∧ t.lanes.get l = ((e z).touch h).respond h code result data) ∧ s.SameOutside t

/-- The frames a message goes out in: itself where it has 8 bytes or less, else its announcement to all and its packets (R501, Table 19.3). -/
def CanMsg.frames (m : CanMsg) : List CanMsg := if (m.bytes 255).length ≤ 8 then [m] else announce m.pgn (m.bytes 255)

/-- A controller that has sent messages to an address, in their order, beyond what it had sent in this tick. -/
def CanCtl.SentOn (x y : CanCtl) (dst : Nat) (ms : List CanMsg) : Prop :=
  y.sent = x.sent ++ ms.map fun m => { src := x.addr, dst := dst, msg := m }

/-- The command that carries a profile request (Table 8.1). -/
def ProfReq.command (o : ReqFrom) (axis : Nat) : ProfReq → Instr
  | .move t => .move o axis t
  | .jog v => .jog o axis v
  | .stop => .stop o axis
  | .resume => .resume o axis
  | .limits v a d j => .limits o axis v a d j
  | .stepOn => .stepOn o axis
  | .stepOff => .stepOff o axis

end Sys2Proof.Machine
end

