-- ==== Sys2Proof/Certificates/Slice0/Obligations.lean ====
section
/-! DEFINITION. The statements for the provers. -/

section

open Sys2Proof Sys2Proof.Machine

/-! ## The node and its queue -/

/-- A step takes the command at the front of the queue and runs it with the rest of the queue; with nothing waiting the node idles (the model's choice, log entry 3). -/
def Obligations.StepRunsTheFrontCommand : Prop :=
  (∀ (c : Instr) (s : State), step { s with pending := c :: s.pending } = exec c s) ∧
  ∀ s : State, s.pending = [] → step s = .next s

/-- Every command of the table has an effect: exec answers a next state in every state, and leaves the queue to the step. -/
def Obligations.EveryCommandCompletesAndKeepsTheQueue : Prop :=
  ∀ (c : Instr) (s : State), ∃ t, exec c s = .next t ∧ t.pending = s.pending

/-- Every command of one lane completes on that lane, in every state and with every operand: exec answers the state in which that lane alone has changed; the other lanes, the status they show, the commons and the queue stay as they were. The commands are the resets and supply events, the start-up, tick, lease, feedback, profile, mode, loop, commutation, PWM and gate events, the chassis and fault events, those of the fabric ports and frames, of one CAN controller, of the voice and of the jobs. -/
def Obligations.LaneCommandsCompleteOnTheirLane : Prop :=
  ∀ (s : State) (l : LaneId), let only (c : Instr) : Prop := ∃ y, exec c s = .next (s.withLane l y)
    (∀ i ∈ [Instr.powerOn l, Instr.brownOut l, Instr.disconnectHoldupExpiry l, Instr.gateSupplyLow l, Instr.laneWatchdog l,
      Instr.debugReset l, Instr.debugHalt l, Instr.debugHaltEnd l, Instr.bootStart l, Instr.alignExit l, Instr.alignTimeout l,
      Instr.discoveryTimeout l, Instr.tickOutlier l, Instr.tickSplit l, Instr.tickNotClosed l, Instr.wakeDisagree l,
      Instr.powerDown l, Instr.parkWaitEnd l, Instr.sleepTimeout l, Instr.listenTimeout l, Instr.marverCycleTimeout l,
      Instr.rotationDue l, Instr.healthReportSend l, Instr.stepSettled l, Instr.thetaWrite l, Instr.override_ l,
      Instr.chopperFault l, Instr.canSpeedAccept l, Instr.guidanceTimeout l, Instr.accumulatorLow l, Instr.stopTimeout l,
      Instr.stopHoldEnd l, Instr.masterSequenceStale l, Instr.masterExclusionEnd l, Instr.holdoverExpiry l,
      Instr.voiceTakeover l, Instr.laneRestartAfterYield l, Instr.challengeExpiry l, Instr.sessionIdleTimeout l,
      Instr.lockoutEnd l, Instr.serviceResponseTimeout l, Instr.centreOriginShift l, Instr.endStopFound l,
      Instr.pedalLearnEnd l, Instr.valveStepSettled l, Instr.bridgeAlignEnd l, Instr.rotateTestHoldEnd l, Instr.fwLaneSwitch l,
      Instr.fwJoinTimeout l, Instr.standstillSwitch l, Instr.fwSwitchTimeout l, Instr.regatherSwitch l, Instr.regatherTimeout l,
      Instr.disconnectReclose l, Instr.gateSupplyReturn l], only i) ∧
    (∀ (ns : Nat), ∀ i ∈ [Instr.resetnLow l ns, Instr.syncPinEdge l ns, Instr.tickFenceOverrun l ns,
      Instr.boundaryWorkOverrun l ns, Instr.enginePublishLate l ns, Instr.collectorRegisterError l ns], only i) ∧
    (∀ (at_ : Nat) (written : List Byte), only (.resetnRelease l at_ written)) ∧
    (∀ (v : Q), ∀ i ∈ [Instr.disconnectOpen l v, Instr.overvoltageTrip l v], only i) ∧
    (∀ (w : WakeBy), only (.wake l w)) ∧
    (∀ (ok : Bool), ∀ i ∈ [Instr.signatureCheckDone l ok, Instr.imageWriteVerify l ok, Instr.tagWriteDone l ok,
      Instr.stagedSignatureCheck l ok], only i) ∧
    (∀ (t : SelfTest), only (.selftestDone l t)) ∧
    (∀ (bus : IdBus), only (.gatherDone l bus)) ∧
    (∀ (mv : List Nat), only (.prechargeEnd l mv)) ∧
    (∀ (probes : List Int), only (.operateEntry l probes)) ∧
    (∀ (o : LaneId), only (.linkDown l o)) ∧
    (∀ (k : ExtSource), ∀ i ∈ [Instr.sourceLocked l k, Instr.sourceLost l k, Instr.sourceResearch l k], only i) ∧
    (∀ (deviation : Int), only (.tickLoss l deviation)) ∧
    (∀ (n : AxisId), ∀ i ∈ [Instr.leaseExpiry l n, Instr.renewWithheld l n, Instr.unplannedClaim l n, Instr.successorClaim l n,
      Instr.axisOrphaned l n, Instr.holdReduction l n, Instr.setpointBlendTimeout l n, Instr.outputBlendTimeout l n,
      Instr.observerLost l n, Instr.borrowTimeout l n, Instr.recatchEnd l n, Instr.recatchFail l n, Instr.observerDisagree l n,
      Instr.pumpAlignEnd l n, Instr.pumpStartFail l n, Instr.pumpRestart l n, Instr.hallpassCommutate l n,
      Instr.phaseCurrentSum l n, Instr.pressureFollowFail l n, Instr.wheelAngleXchk l n, Instr.shareTakeover l n,
      Instr.shareFallback l n], only i) ∧
    (∀ (ch : Fin 4) (at_ : Nat) (a : Bool) (b : Bool) (z : Bool), only (.feedbackEdge l ch at_ a b z)) ∧
    (∀ (ch : Fin 4), only (.feedbackStandstill l ch)) ∧
    (∀ (k : Fin 2) (startHigh : Bool) (endLow : Bool) (raw : Nat), only (.ssiFrame l k startHigh endLow raw)) ∧
    (∀ (n : AxisId) (neg : Bool), ∀ i ∈ [Instr.limitDebounce l n neg, Instr.chatterEnd l n neg, Instr.switchDisagree l n neg], only i) ∧
    (∀ (at_ : Nat) (step : Bool) (dir : Bool), only (.stepEdge l at_ step dir)) ∧
    (∀ (n : AxisId) (ms : List LegMeas), only (.pwmValley l n ms)) ∧
    (∀ (k : Fin 8) (samples : List Q), only (.eventLineFire l k samples)) ∧
    (∀ (leg : LegId) (clocks : Nat), ∀ i ∈ [Instr.shootThrough l leg clocks, Instr.driverInterlock l leg clocks,
      Instr.hsSupplyUv l leg clocks], only i) ∧
    (∀ (leg : LegId), only (.absolutePulseClip l leg)) ∧
    (∀ (leg : LegId) (t : TripAt), only (.overcurrentTrip l leg t)) ∧
    (∀ (n : AxisId) (fell : Bool) (pins : List Nat), only (.identificationDone l n fell pins)) ∧
    (∀ (k : Fin 8), ∀ i ∈ [Instr.elementCrosscheckFail l k, Instr.pairDisagreement l k], only i) ∧
    (∀ (cls : FaultClass), only (.anneal l cls)) ∧
    (∀ (p : PortId), ∀ i ∈ [Instr.phyLinkUp l p, Instr.phyLinkLoss l p, Instr.timeFramesMissing l p, Instr.portUpTimeout l p,
      Instr.helloSend l p], only i) ∧
    (∀ (p : PortId) (at_ : Nat) (bytes : List Byte), ∀ i ∈ [Instr.hello l p at_ bytes, Instr.timeFrame l p at_ bytes,
      Instr.linkNotice l p at_ bytes, Instr.safeFrame l p at_ bytes, Instr.prepare l p at_ bytes, Instr.ready l p at_ bytes,
      Instr.refuse l p at_ bytes, Instr.abort l p at_ bytes, Instr.blockRequest l p at_ bytes, Instr.blockData l p at_ bytes], only i) ∧
    (∀ (k : Fin 2), ∀ i ∈ [Instr.commitDeadline l k, Instr.commitFire l k], only i) ∧
    (∀ (c : CanId), ∀ i ∈ [Instr.guidanceMachineInfo l c, Instr.wheelBasedSpeed l c, Instr.dm1 l c, Instr.canBusOff l c,
      Instr.canBusOffRecovery l c], only i) ∧
    (∀ (c : CanId) (tec : Nat) (rec_ : Nat), only (.canErrorPassive l c tec rec_))

/-- A command on a CAN bus reaches only lanes whose controller of that bus is not bus-off (R496), or to which the voice relays the request over the links (R90, R512): a lane that is bus-off, and to which nothing is relayed, is left as it was. -/
def Obligations.BusOffLanesHearNothing : Prop :=
  ∀ (h : SvcHdr) (s t : State) (x : LaneId), (s.lane x).onBus h.can = false →
    (∀ name, exec (.addressClaimed h.can h.src name) s = .next t → t.lanes.get x = s.lanes.get x) ∧
    (∀ dst pgn, exec (.request h.can h.src dst pgn) s = .next t → t.lanes.get x = s.lanes.get x) ∧
    (∀ dst g, exec (.guidanceSystemCommand h.can h.src dst g) s = .next t → t.lanes.get x = s.lanes.get x) ∧
    (∀ v, exec (.groundBasedSpeed h.can h.src v) s = .next t → t.lanes.get x = s.lanes.get x) ∧
    (∀ pgn, exec (.dm3Dm11 h.can h.src pgn) s = .next t → t.lanes.get x = s.lanes.get x) ∧
    (∀ dst d bs, exec (.transportProtocolFrame h.can h.src dst d bs) s = .next t → t.lanes.get x = s.lanes.get x) ∧
    ((s.lane x).start.state ≠ .gather ∨ (s.lane x).isobus h.can →
      (∀ id, exec (.objectRead h id) s = .next t → t.lanes.get x = s.lanes.get x) ∧
      (∀ id v, exec (.objectWrite h id v) s = .next t → t.lanes.get x = s.lanes.get x) ∧
      (∀ lanes classes, exec (.acknowledge h lanes classes) s = .next t → t.lanes.get x = s.lanes.get x) ∧
      (∀ j axis, exec (.jobStart h j axis) s = .next t → t.lanes.get x = s.lanes.get x) ∧
      (∀ axis target, exec (.move (.service h) axis target) s = .next t → t.lanes.get x = s.lanes.get x))

/-- The commons is changed by the ticks, its own loss and return, the end of a recorder window, the read of its data and the start of a job, and by no other command (R14). What the lanes show in their status objects changes at the close of a tick alone, and then for the lane of that tick alone (R26). -/
def Obligations.CommonsAndStatusChangeAtTheirOwnCommands : Prop :=
  (∀ (c : Instr) (s t : State), exec c s = .next t → t.commons ≠ s.commons →
     (∃ l x, c = .tick l x) ∨ c = .commonsLoss ∨ c = .commonsReturn ∨ c = .recorderWindowEnd ∨ (∃ h, c = .recordExportRead h) ∨
     ∃ h j axis, c = .jobStart h j axis) ∧
  (∀ (c : Instr) (s t : State) (x : LaneId), exec c s = .next t → t.view.get x ≠ s.view.get x → ∃ i, c = .tick x i)

/-- A tick of one lane changes no other lane, but for the note that a frame of the node's address was heard on a CAN bus (R503). -/
def Obligations.TickLeavesTheOtherLanes : Prop :=
  ∀ (x y : LaneId) (i : TickIn) (s : State), y ≠ x →
    ∃ t, exec (.tick x i) s = .next t ∧
      t.lanes.get y = { s.lanes.get y with can := { (s.lanes.get y).can with heard := (t.lanes.get y).can.heard } } ∧
      ((s.lanes.get y).can.heard → (t.lanes.get y).can.heard) ∧ t.view.get y = s.view.get y ∧ t.pending = s.pending

/-- The areas of the recorder hold together through every step (R547). -/
def Obligations.EveryStepKeepsTheRecorderTidy : Prop :=
  ∀ s t : State, s.commons.Tidy → step s = .next t → t.commons.Tidy

/-- The recorder is tidy right after reset. -/
def Obligations.TheRecorderIsTidyAfterReset : Prop := State.reset.commons.Tidy

/-- Right after reset every lane is in OFF with no supply, drives nothing and holds no lease counter, its tick count stands at 0, and nothing is recorded or waiting (R33, R58, R117). -/
def Obligations.ResetLeavesEveryLaneOff : Prop :=
  State.reset.pending = [] ∧ State.reset.view = State.reset.lanes ∧ State.reset.commons = {} ∧
  ∀ x, (State.reset.lanes.get x).id = x ∧ (State.reset.lanes.get x).start.state = .off ∧ (State.reset.lanes.get x).tick.count = 0 ∧
    (State.reset.lanes.get x).start.drvinh = false ∧ (State.reset.lanes.get x).col.held = [] ∧
    ∀ n, ((State.reset.lanes.get x).ax n).counter = 0 ∧ ((State.reset.lanes.get x).ax n).role = .absent

/-! ## Resets, supply and debug halt -/

/-- What takes a lane back to BOOT: the supply rising, the release of l_RESETN, a debug reset, a wake condition, the disconnect closing again on a lane that l_RESETN does not hold in OFF, and, once the departure markers of two ticks have left, the collector's timer that has seen 40 ticks not closed (R553, R555, R83, R568, R569, R408). -/
def Obligations.RestartsBeginAtBoot : Prop :=
  ∀ (s : State) (l : LaneId) (x : Lane), s.lane l = x →
    (x.start.state = .off → x.start.supplyUp = false → x.start.resetnLow = false →
      ∃ y, exec (.powerOn l) s = .next (s.withLane l y) ∧
        x.Restarted y (if x.start.brown then .brownOut else .powerOn) ∧ y.start.supplyUp = true ∧ y.tick.count = 0) ∧
    (∀ at_ bs, x.start.resetnLow → x.start.supplyUp →
      ∃ y, exec (.resetnRelease l at_ bs) s = .next (s.withLane l y) ∧
        Lane.Restarted { x with nvm := { x.nvm with flash := Mem.writeList x.nvm.flash at_ bs } } y .resetn ∧
        y.start.resetnLow = false ∧ y.tick.count = 0) ∧
    (x.start.bench →
      ∃ y, exec (.debugReset l) s = .next (s.withLane l y) ∧ x.Restarted y .debugReset ∧ y.tick.count = 0) ∧
    (40 ≤ x.start.notClosed → x.start.wdReset = false →
      exec (.laneWatchdog l) s = .next (s.withLane l { x with start := { x.start with departing := 3, wdReset := true } })) ∧
    (∀ i, let z := (s.noteExport.lanes.get l).finishTick i
      z.start.wdReset → z.start.departing = 1 → z.start.halted = false →
      ∃ t, exec (.tick l i) s = .next t ∧ (t.lanes.get l).start.state = .boot ∧ (t.lanes.get l).start.cause = .watchdog ∧
        (t.lanes.get l).tick.count = 0 ∧ ∀ n, (t.lanes.get l).ax n = {}) ∧
    (∀ w, x.wakes w →
      ∃ y, exec (.wake l w) s = .next (s.withLane l y) ∧ x.Restarted y .wake ∧ y.start.wakePattern = true ∧ y.tick.count = 0) ∧
    (x.sup22.isOpen → x.start.state = .off → x.start.brown →
      (x.start.resetnLow = false →
        ∃ y, exec (.disconnectReclose l) s = .next (s.withLane l y) ∧ x.Restarted y .brownOut ∧ y.sup22.isOpen = false ∧
          y.start.supplyUp = true ∧ y.tick.count = 0) ∧
      (x.start.resetnLow → exec (.disconnectReclose l) s = .next (s.withLane l
        { x with sup22 := { x.sup22 with isOpen := false, holdup := false }, start := { x.start with supplyUp := true } })))

/-- A lane whose supply falls, whose reset is held low for 10 µs or whose disconnect stays open goes to OFF; from hold-up it sends departure markers in the 2 ticks that follow (R568, R553, R569, R133). The disconnect opens on overvoltage with SUP-002 and closes again on a lane that has not lost its supply; while l_VG lies below 10.0 V the gate driver holds every gate off (R569, R570). -/
def Obligations.LossOfSupplyLeavesTheLaneOff : Prop :=
  ∀ (s : State) (l : LaneId) (x : Lane), s.lane l = x →
    ((x.start.state ≠ .off ∨ x.start.supplyUp →
       ∃ y, exec (.brownOut l) s = .next (s.withLane l y) ∧ x.WentOff y ∧ y.start.supplyUp = false ∧ y.start.departing = 3 ∧
         y.tick = { count := x.tick.count }) ∧
     (x.sup22.isOpen → x.start.state ≠ .off → x.start.state ≠ .sleep →
       ∃ y, exec (.disconnectHoldupExpiry l) s = .next (s.withLane l y) ∧ x.WentOff y ∧ y.start.supplyUp = false ∧
         y.start.departing = 3 ∧ y.sup22.isOpen = true) ∧
     ∀ ns, 10000 ≤ ns →
       ∃ y, exec (.resetnLow l ns) s = .next (s.withLane l y) ∧ x.WentOff y ∧ y.start.resetnLow = true ∧
         y.start.cfgFloat = true ∧ y.start.departing = 0) ∧
    ((∀ v, x.sup22.isOpen = false → x.start.state ≠ .off →
       exec (.disconnectOpen l v) s = .next (s.withLane l
         { x.raise .sup002 .none (roundDiv (v * 1000) 65536) with
           sup22 := { x.sup22 with isOpen := true, holdup := true, vsup := v } })) ∧
     (x.sup22.isOpen → x.start.state ≠ .off → x.start.state ≠ .sleep →
       exec (.disconnectReclose l) s = .next (s.withLane l { x with sup22 := { x.sup22 with isOpen := false, holdup := false } })) ∧
     (∃ y, exec (.gateSupplyLow l) s = .next (s.withLane l y) ∧ y = { x with bus := { x.bus with gateLow := true } } ∧
       ∀ n, y.gatesFree n = false) ∧
     exec (.gateSupplyReturn l) s = .next (s.withLane l { x with bus := { x.bus with gateLow := false } }))

/-- R334: a debug halt request is accepted where BENCH was high at the reset release, else it has no effect. -/
def Obligations.DebugHaltNeedsBench : Prop :=
  ∀ (s : State) (l : LaneId) (x : Lane), s.lane l = x →
    (x.start.bench → x.start.halted = false →
      ∃ y, exec (.debugHalt l) s = .next (s.withLane l y) ∧ y.start = { x.start with halted := true, haltSeen := true } ∧
        y = { x with start := y.start, leg := y.leg } ∧
        ∀ i : LegId, y.leg.get i = { x.leg.get i with haltHs := (y.leg.get i).haltHs, haltLs := (y.leg.get i).haltLs } ∧
          ∀ n, x.cfg.axisOfLeg x.id i.val = some n → ((y.leg.get i).haltHs, (y.leg.get i).haltLs) = x.legLevels n i x.now) ∧
    (x.start.bench = false ∨ x.start.halted → exec (.debugHalt l) s = .next (s.withLane l x))

/-- R555: a debug reset request is accepted where BENCH was high at the reset release, else it has no effect. -/
def Obligations.DebugResetNeedsBench : Prop :=
  ∀ (s : State) (l : LaneId) (x : Lane), s.lane l = x →
    (x.start.bench → ∃ y, exec (.debugReset l) s = .next (s.withLane l y) ∧ x.Restarted y .debugReset) ∧
    (x.start.bench = false → exec (.debugReset l) s = .next (s.withLane l x))

/-- R336: when debug halt ends every time base stands before its first valley with dither phase 0 and every leg is off; a boundary that is no valley leaves the time base so, and at its valley it starts with dither phase 0 where it runs (R317). -/
def Obligations.DebugHaltEndRestartsTheTimeBases : Prop :=
  ∀ (s : State) (l : LaneId) (x : Lane), s.lane l = x →
    (x.start.halted →
      ∃ y, exec (.debugHaltEnd l) s = .next (s.withLane l y) ∧ y.start = { x.start with halted := false } ∧
        y = { x with start := y.start, pwm := y.pwm, leg := y.leg } ∧
        (∀ n, y.pwm.get n = { x.pwm.get n with started := false, dither := 0, pos := 0, lenNow := 0 }) ∧
        ∀ i, y.leg.get i = { x.leg.get i with off := true }) ∧
    ∀ w n ms, s.early l = w → (w.pwm.get n).started = false → (w.pwm.get n).running → (w.pwm.get n).applied = false →
      (w.valleyNow n = false ∨ w.baseRuns n = false → exec (.pwmValley l n ms) s = .next (s.withLane l w)) ∧
      (w.valleyNow n → w.baseRuns n → ∃ y, exec (.pwmValley l n ms) s = .next (s.withLane l y) ∧ (y.pwm.get n).started ∧ (y.pwm.get n).dither = 0)

/-! ## Start-up and sleep -/

/-- BOOT samples BENCH, takes the recorded slot and checks the signature over the bytes it holds; a good slot leads to SELFTEST, a failed one to the other slot, and where both have failed the lane stays in BOOT with MEM-002 (R59, R60, R556). A lane whose self-tests pass goes on to GATHER and reads its image; each failed test records its own event and puts the lane into SAFE with no gate able to drive (R62, R402). -/
def Obligations.BootAndSelfTestDecideTheWay : Prop :=
  (∀ (s : State) (l : LaneId) (x : Lane), s.lane l = x → x.start.state = .boot →
     (x.start.booted = false →
       ∃ y, exec (.bootStart l) s = .next (s.withLane l y) ∧
         y.start = { x.start with bench := x.start.benchPin, booted := true, slot := (x.nvm.slotRec.read {}).slot % 2 } ∧
         (x.nvm.confirmed.lost → y.Raised .mem004 (ctxOf .none 2)) ∧ (x.nvm.key.lost → y.Raised .mem004 (ctxOf .none 5)) ∧
         (x.nvm.job.read [] = [] → y = { x with start := y.start, gat := y.gat, col := y.col })) ∧
     (x.start.booted → x.start.bootHeld = false → ∀ ok,
       let good := packageValid x.nvm.bootKey (x.slotMem x.start.slot)
       (good → x.start.triedOther = false →
         exec (.signatureCheckDone l ok) s = .next (s.withLane l { x with start := { x.start with state := .selftest, inState := 0 } })) ∧
       (good → x.start.triedOther →
         ∃ y, exec (.signatureCheckDone l ok) s = .next (s.withLane l y) ∧
           y.start = { x.start with state := .selftest, inState := 0 } ∧ y.Raised .mem001 (ctxOf .none ((1 - x.start.slot : Nat) : Int)) ∧
           y.nvm = { x.nvm with slotRec := x.nvm.slotRec.write { x.nvm.slotRec.read {} with slot := x.start.slot } } ∧
           y = { x with start := y.start, col := y.col, nvm := y.nvm }) ∧
       (good = false → x.start.triedOther = false →
         exec (.signatureCheckDone l ok) s =
           .next (s.withLane l { x with start := { x.start with slot := 1 - x.start.slot, triedOther := true } })) ∧
       (good = false → x.start.triedOther →
         ∃ y, exec (.signatureCheckDone l ok) s = .next (s.withLane l y) ∧ y.Records .mem002 (ctxOf .none 0) ∧
           (x.col.raised = [] → y.start = { x.start with bootHeld := true } ∧ y.lease = x.lease))) ∧
     ((x.start.booted = false ∨ x.start.bootHeld) → ∀ ok, exec (.signatureCheckDone l ok) s = .next (s.withLane l x))) ∧
  (∀ (s : State) (l : LaneId) (x : Lane), s.lane l = x → x.start.state = .selftest →
     exec (.selftestDone l .pass) s =
       .next (s.withLane l { x with start := { x.start with state := .gather, inState := 0 }, gat := { x.gat with imageState := 1, idPower := true } }) ∧
     let fails (r : SelfTest) (ev : Ev) (sub : Subject) (v : Int) : Prop :=
       ∃ y, exec (.selftestDone l r) s = .next (s.withLane l y) ∧ y.InSafe ∧ y.Records ev (ctxOf sub v)
     (∀ t, fails (.logic t) .cor001 .none t) ∧ (∀ a, fails (.memory a) .mem003 .none a) ∧
     (∀ g, fails (.offState g) .pwr001 (.leg g) 0) ∧ (∀ g h, fails (.selfTrip g h) .pwr002 (.leg g) (b2i h)) ∧
     ∀ d, fails (.adcReference d) .sup001 .none d)

/-- GATHER ends with the verdict on the active image area: accepted, the lane takes its configuration and goes to ALIGN where its seal is confirmed and to UNSEALED where it is not; rejected, it stays in GATHER with the CFG event of the check; where no image is being read nothing happens (R63, R88, R102, R104). A pending image area that passes its checks, and in a REGATHER keeps what R543 asks, is active from then on, and a REGATHER confirms its seal; one that does not is cleared with CFG-011 before the active area is read (R88, R104, R108, R543). -/
def Obligations.GatherTakesRejectsOrActivatesAnImage : Prop :=
  (∀ (s : State) (l : LaneId) (x : Lane) (bus : IdBus), s.lane l = x →
     (x.start.state ≠ .gather ∨ x.gat.imageState ≠ 1 → exec (.gatherDone l bus) s = .next (s.withLane l x)) ∧
     (x.start.state = .gather → x.gat.imageState = 1 → (x.nvm.areas.read {}).pending = false →
       (∀ g, x.gatherArea (x.nvm.areas.read {}).active bus = .ok g →
         ∃ y, exec (.gatherDone l bus) s = .next (s.withLane l y) ∧ y.gat.imageState = 2 ∧ y.gat.cause = 0 ∧ y.gat.cfg = g.cfg ∧
           y.gat.sealVal = BitVec.ofNat 32 g.img.head.sealVal ∧ y.gat.idPower = false ∧ y.nvm = x.nvm ∧
           y.start.state = (if x.nvm.confirmed.read? = some (BitVec.ofNat 32 g.img.head.sealVal) then LState.align else .unsealed)) ∧
       (∀ r, x.gatherArea (x.nvm.areas.read {}).active bus = .error r →
         ∃ y, exec (.gatherDone l bus) s = .next (s.withLane l y) ∧ y.start.state = .gather ∧
           y.Raised (cfgEvent r.why.code) (BitVec.ofNat 32 (toField 32 r.why.ctx)) ∧ y.gat.imageState = 3 ∧ y.gat.cause = r.why.code ∧
           y = { x with col := { x.col with raised := y.col.raised }, gat := y.gat }))) ∧
  (∀ (s : State) (l : LaneId) (x : Lane) (bus : IdBus), s.lane l = x → x.start.state = .gather → x.gat.imageState = 1 →
     (x.nvm.areas.read {}).pending →
     let act := (x.nvm.areas.read {}).active
     let rg := (x.nvm.regather.read none).isSome
     let back (y : Lane) (code : Int) : Prop :=
       exec (.gatherDone l bus) s = .next (s.withLane l y) ∧ y.Raised .cfg011 (BitVec.ofNat 32 (toField 32 code)) ∧
         y.nvm = { x.nvm with areas := x.nvm.areas.write { active := act, pending := false } } ∧
         (y.start.state = .align ∨ y.start.state = .unsealed ∨ y.start.state = .gather ∧ y.gat.imageState = 3)
     (∀ g, x.gatherArea (1 - act) bus = .ok g → (rg → x.regatherKeeps g act) →
       ∃ y, exec (.gatherDone l bus) s = .next (s.withLane l y) ∧ y.gat.imageState = 2 ∧ y.gat.cfg = g.cfg ∧
         y.nvm.areas = x.nvm.areas.write { active := 1 - act, pending := false } ∧
         y.nvm.confirmed = (if rg then x.nvm.confirmed.write (BitVec.ofNat 32 g.img.head.sealVal) else x.nvm.confirmed) ∧
         y.nvm = { x.nvm with areas := y.nvm.areas, confirmed := y.nvm.confirmed } ∧
         y.start.state = (if y.nvm.confirmed.read? = some (BitVec.ofNat 32 g.img.head.sealVal) then LState.align else .unsealed)) ∧
     (∀ g, x.gatherArea (1 - act) bus = .ok g → rg → x.regatherKeeps g act = false → ∃ y, back y (Config.unnamedCause 2)) ∧
     (∀ r, x.gatherArea (1 - act) bus = .error r → ∃ y, back y r.why.code))

/-- ALIGN is left for ARMED when its five conditions hold, TIM-008 names what a lane still waits for after 4,800 ticks, discovery blocks for 2,000 ticks at most, and pre-charge ends with READY (R67, R68, R69). A READY lane enters OPERATE with a partner that is READY (node start) or in OPERATE (late join), and takes role STANDBY with no lease on every axis it is not ABSENT for; without such a partner it waits (R70, R71, R72, R561). -/
def Obligations.AlignArmedAndOperateFollowTheirConditions : Prop :=
  (∀ (s : State) (l : LaneId) (x : Lane), s.lane l = x →
     (∀ w, s.early l = w → w.start.state = .align →
       (w.alignReady →
         ∃ y, exec (.alignExit l) s = .next (s.withLane l y) ∧
           y.start = { w.start with state := .armed, inState := 0, ready := false, readyPrev := false } ∧
           (∀ i, y.leg.get i = { w.leg.get i with iso := false, uv := false }) ∧ y = { w with start := y.start, leg := y.leg }) ∧
       (w.alignReady = false → exec (.alignExit l) s = .next (s.withLane l w))) ∧
     (x.start.state = .align → 4800 ≤ x.start.inState → x.start.tim008 = false →
       exec (.alignTimeout l) s = .next (s.withLane l { x.raise .tim008 .none x.waitCode with start := { x.start with tim008 := true } })) ∧
     (x.start.state = .align → 2000 ≤ x.start.inState →
       exec (.discoveryTimeout l) s = .next (s.withLane l { x with start := { x.start with discovered := true } })) ∧
     ∀ mv, x.start.state = .armed → x.start.ready = false → x.cfg.lanePrechargeTime ≤ x.start.inState →
       ∃ y, exec (.prechargeEnd l mv) s = .next (s.withLane l y) ∧ y.start = { x.start with ready := true } ∧
         y = { x with start := y.start, col := y.col, lease := y.lease } ∧
         ∀ (i : Fin 16) (n : AxisId), x.cfg.refreshes i.val → x.cfg.axisOfLeg x.id i.val = some n → (x.ax n).absent = false →
           ((mv.getD i.val 0 : Nat) : Int) * 65536 < x.cfg.legGateBootUv i.val * 1000 →
           y.Raised .pwr003 (ctxOf (.leg i.val) (mv.getD i.val 0)) ∧ (y.ax n).absentFault ∧ (y.ax n).role = .absent) ∧
  (∀ (s : State) (l : LaneId) (x : Lane) (probes : List Int), s.early l = x → x.start.state = .armed → x.start.readyPrev →
     (x.partners = (false, false) → exec (.operateEntry l probes) s = .next (s.withLane l x)) ∧
     ((x.partners.1 || x.partners.2) →
       ∃ y, exec (.operateEntry l probes) s = .next (s.withLane l y) ∧ y.start.state = .operate ∧ y.start.inState = 0 ∧
         y.start.time = x.start.ticks ∧ y.start.entry = (if x.partners.2 then 2 else 1) ∧ y.tick = x.tick ∧ y.nvm = x.nvm ∧
         (∀ n, x.cfg.hasAxis n.val → (x.ax n).absent = false →
           (y.ax n).role = .standby ∧ (y.ax n).counter = 0 ∧ (x.partners.2 = false → (y.ax n).epoch = (x.ax n).epoch)) ∧
         ∀ n, (x.cfg.hasAxis n.val = false ∨ (x.ax n).absent) → (y.ax n).role = .absent))

/-- Wake demand is compared over 40 ticks (OPR-001); power-down tick P is fixed once enough lanes have been quiet for 200,000 ticks, and STEER axes the lane commands come to HOLD at their place, l_DRVINH goes off and the brakes keep their pressures (R78, R79, R80, R391). LANE.PARK_WAIT after P a lane goes to SLEEP, and the listening lane of R82 to LISTEN; 200,000 ticks without wake demand and without a lane in OPERATE lead to SLEEP, and so does the end of LISTEN. Counters clear, ALIVE freezes, l_DRVINH goes off and the journal is complete (R80, R82, R119, R409). -/
def Obligations.PowerDownEndsEveryLease : Prop :=
  ∀ (s : State) (l : LaneId) (x : Lane), s.lane l = x →
    (((∃ p ∈ x.id.others, 40 ≤ x.start.wakeRun.get p ∧ x.start.opr001.get p = false) →
       ∃ y, exec (.wakeDisagree l) s = .next (s.withLane l y) ∧ y.Raised .opr001 (ctxOf .none (b2i x.start.ign + 2 * b2i x.start.wake)) ∧
         (∀ p ∈ x.id.others, y.start.opr001.get p = (x.start.opr001.get p || decide (40 ≤ x.start.wakeRun.get p))) ∧
         y = { x with start := { x.start with opr001 := y.start.opr001 }, col := { x.col with raised := y.col.raised } }) ∧
     ((∀ p ∈ x.id.others, x.start.wakeRun.get p < 40 ∨ x.start.opr001.get p) → exec (.wakeDisagree l) s = .next (s.withLane l x)) ∧
     (∀ w, s.early l = w → w.start.state = .operate → w.start.sinceP = none → 200000 ≤ w.start.quietOwn →
       (∃ p ∈ w.id.others, (∃ m, (w.peerOf p).markerPrev = some m ∧ m.state = .operate) ∧ 200000 ≤ w.start.quietPeer.get p) →
       ∃ y, exec (.powerDown l) s = .next (s.withLane l y) ∧ y.start.sinceP = some 0 ∧ y.start.operateAtP.get w.id = true ∧
         y.start.drvinh = false ∧
         y.chas.holdP = some (w.prefOf w.cfg.brakeValveLeft, w.prefOf w.cfg.brakeValveRight, w.prefOf w.cfg.brakeValveTrailer) ∧ y.chas.park = false ∧
         (∀ n, if w.cfg.kind n.val = .steer ∧ w.commands n then (y.sup.get n).mode = 3 ∧ (y.prof.get n).phase = .passive
           else y.sup.get n = w.sup.get n ∧ y.prof.get n = w.prof.get n) ∧
         y = { w with start := { w.start with sinceP := y.start.sinceP, operateAtP := y.start.operateAtP, drvinh := false }
                      chas := { w.chas with holdP := y.chas.holdP, park := y.chas.park }, sup := y.sup, prof := y.prof }) ∧
     (∀ w, s.early l = w → w.start.quietOwn < 200000 → (∀ p, w.start.quietPeer.get p < 200000) →
       exec (.powerDown l) s = .next (s.withLane l w))) ∧
    ((∀ w k, s.early l = w → w.start.sinceP = some k → w.cfg.laneParkWait ≤ k → w.start.state = .operate →
       ∃ y, exec (.parkWaitEnd l) s = .next (s.withLane l y) ∧
         w.FellAsleep y (if w.listens then .listen else .sleep) ∧ y.lease.stopped ∧ w.Flushed y) ∧
     (200000 ≤ x.start.quietAlone → x.start.state = .armed ∨ x.start.state = .stopped ∨ x.start.state = .unsealed →
       ∃ y, exec (.sleepTimeout l) s = .next (s.withLane l y) ∧ x.FellAsleep y .sleep ∧ x.Flushed y) ∧
     (x.start.state = .listen → x.cfg.laneListenMaxtime ≠ 0 → x.cfg.laneListenMaxtime * 40000 ≤ x.start.listenTicks →
       ∃ y, exec (.listenTimeout l) s = .next (s.withLane l y) ∧ x.FellAsleep y .sleep ∧ y.nvm = x.nvm))

/-! ## The tick, the links, the commons and the external sources -/

/-- A tick of an armed or operating lane advances its count by one and its clock by the length its timer ran, and the correction of the next tick lies within 40 clocks (R32, R33, R37). -/
def Obligations.TickAdvancesTheTimer : Prop :=
  ∀ (s : State) (l : LaneId) (x : Lane) (i : TickIn), (s.lanes.get l).settle = x → x.start.state = .armed ∨ x.start.state = .operate →
    x.start.halted = false → x.start.restartNow = false → x.start.wdReset = false →
    ∃ t, exec (.tick l i) s = .next t ∧ (t.lanes.get l).tick.count = x.tick.count + 1 ∧
      (t.lanes.get l).clk = x.clk + (10000 + x.tick.corr).toNat ∧
      -40 ≤ (t.lanes.get l).tick.corr ∧ (t.lanes.get l).tick.corr ≤ 40 ∧ t.pending = s.pending

/-- In debug halt the cores close nothing: the feedback block, the fabric ports and the collector alone close their tick, time bases, legs and bus stand, and the lane shows what that leaves; the lease counters run down by one a tick, or are cleared where they were to be, and the tick count and the loop phase go on (R117, R119, R196, R335, R407). A lane in OFF, SLEEP or LISTEN closes nothing at its boundary: its tick count goes on, its pins are sampled and it sends one departure marker fewer; leases, gates and stores stay (R33, R82, R133). -/
def Obligations.TicksOfHaltedAndSleepingLanes : Prop :=
  (∀ (s : State) (l : LaneId) (x : Lane) (i : TickIn), (s.lanes.get l).settle = x → x.start.halted →
     x.start.state = .operate ∨ x.start.state = .armed ∨ x.start.state = .align ∨ x.start.state = .stopped → x.start.wdReset = false →
     ∃ t, exec (.tick l i) s = .next t ∧
       (let z := t.view.get l
        z = (((((x.feedbackClose).stepClose (x.clk + x.tickLen)).closePorts).chooseMaster).collectorClose i) ∧
        z.pwm = x.pwm ∧ z.leg = x.leg ∧ z.bus = x.bus ∧
        (∀ n, ((t.lanes.get l).ax n).counter = (if (z.ax n).forceZero then 0 else (z.ax n).counter - 1) ∧
          ((t.lanes.get l).ax n).epoch = (z.ax n).epoch ∧ ((t.lanes.get l).ax n).heldBy = (z.ax n).heldBy)) ∧
       (t.lanes.get l).tick.count = x.tick.count + 1 ∧ (t.lanes.get l).tick.corr = x.tick.corrNext ∧
       (t.lanes.get l).bus.phase = (x.bus.phase + 1) % 32 ∧
       (t.lanes.get l).pwm = x.pwm ∧ (t.lanes.get l).leg = x.leg) ∧
  (∀ (s : State) (l : LaneId) (x : Lane) (i : TickIn), (s.lanes.get l).settle = x →
     x.start.state = .off ∨ x.start.state = .sleep ∨ x.start.state = .listen → x.start.wdReset = false →
     ∃ t, exec (.tick l i) s = .next t ∧ (t.lanes.get l).tick.count = x.tick.count + 1 ∧
       (t.lanes.get l).start.state = x.start.state ∧ (t.lanes.get l).start.departing = x.start.departing - 1 ∧
       (t.lanes.get l).start.ign = i.ign ∧ (t.lanes.get l).start.wake = i.wake ∧
       (t.lanes.get l).start.listenTicks = (if x.start.state = .listen then x.start.listenTicks + 1 else 0) ∧
       (t.lanes.get l).lease = x.lease ∧ (t.lanes.get l).pwm = x.pwm ∧ (t.lanes.get l).leg = x.leg ∧ (t.lanes.get l).nvm = x.nvm)

/-- A marker that arrives in the receiver's tick places the sender's boundary and becomes the marker of the tick; the later sections hand over what the sender formed; a section that is not heard changes nothing (R17, R19, R20, R34, R582). A link direction that was up and brought no marker for eight ticks is declared down with LNK-001; one that never was up is not (R20, R61). -/
def Obligations.LinkFramesAreTakenOrMissed : Prop :=
  (∀ (s : State) (l : LaneId) (x w tx : Lane) (r : LinkRx), s.early l = x → s.lane l = w → r.sender ≠ l → s.lanes.get r.sender = tx →
     (r.sect = .marker → x.hears tx r = false → exec (.linkFrameReceive l r) s = .next (s.withLane l x)) ∧
     (r.sect = .marker → x.hears tx r → r.loopback = none →
       ∃ y, exec (.linkFrameReceive l r) s = .next (s.withLane l y) ∧ (y.peerOf tx.id).marker = some tx.markerOut ∧
         (y.peerOf tx.id).lastMarker = some tx.markerOut ∧ (y.peerOf tx.id).everUp = true ∧ (y.peerOf tx.id).down = false ∧
         (y.peerOf tx.id).boundary = r.arrival - 128 - (x.peerOf tx.id).delay ∧
         ((x.peerOf tx.id).lastMarker = none → (y.peerOf tx.id).diff = some ((tx.tick.count : Int) - x.tick.count)) ∧
         (∀ o, (x.peerOf tx.id).lastMarker = some o → o.resets = tx.start.resets → (y.peerOf tx.id).diff = (x.peerOf tx.id).diff) ∧
         (∀ z, z ≠ tx.id → y.peerOf z = x.peerOf z) ∧ y = { x with now := r.arrival.toNat, peer := y.peer }) ∧
     (r.sect = .outputs → tx.due = none → w.hears tx r → ∀ p, tx.lease.pubOut = some p →
       ∃ y, exec (.linkFrameReceive l r) s = .next (s.withLane l y) ∧
         (y.peerOf tx.id) = { w.peerOf tx.id with pub := some p, pubLast := some p } ∧
         (∀ z, z ≠ tx.id → y.peerOf z = w.peerOf z) ∧ y = { w with now := r.arrival.toNat, peer := y.peer }) ∧
     (r.sect = .state → x.hears tx r → tx.detailOut.voice = false →
       ∃ y, exec (.linkFrameReceive l r) s = .next (s.withLane l y) ∧
         y.px.get tx.id = { x.px.get tx.id with detail := some tx.detailOut, shadow := some tx.shadowOut } ∧
         (∀ z, z ≠ tx.id → y.px.get z = x.px.get z) ∧ y = { x with now := r.arrival.toNat, px := y.px })) ∧
  (∀ (s : State) (l o : LaneId) (x : Lane), s.lane l = x → o ≠ x.id → x.hearsLinks → (x.peerOf o).marker = none → (x.peerOf o).down = false →
     (7 ≤ (x.peerOf o).silent → (x.peerOf o).everUp →
       ∃ y, exec (.linkDown l o) s = .next (s.withLane l y) ∧ y.peerOf o = { x.peerOf o with down := true } ∧
         y.Raised .lnk001 (ctxOf (.link (x.id.link o)) o.code) ∧ (∀ z, z ≠ o → y.peerOf z = x.peerOf z) ∧
         y = { x with peer := y.peer, col := y.col }) ∧
     ((x.peerOf o).everUp = false ∨ (x.peerOf o).silent < 7 → exec (.linkDown l o) s = .next (s.withLane l x)))

/-- When the commons is lost every lane notes it and each lane that is awake raises SUP-030 with the commons as its lane; when it returns the lanes reach it again (R13, R399, R548). The end of a window's post-trigger span closes the window (R547). -/
def Obligations.CommonsComesAndGoes : Prop :=
  ∀ s : State,
    (∃ t, exec .commonsLoss s = .next t ∧ t.commons = { s.commons with present := false } ∧ t.view = s.view ∧
      ∀ z, (t.lanes.get z).col.commonsUp = false ∧
        t.lanes.get z = { s.lane z with col := (t.lanes.get z).col } ∧
        ((s.lane z).col.commonsUp → (s.lane z).start.state ≠ .off → (s.lane z).start.state ≠ .sleep → (s.lane z).start.state ≠ .listen →
          ∃ r ∈ (t.lanes.get z).col.raised, r.ev = .sup030 ∧ r.commons = true)) ∧
    (∃ t, exec .commonsReturn s = .next t ∧ t.commons = { s.commons with present := true } ∧ t.view = s.view ∧
      ∀ z, t.lanes.get z = { s.lanes.get z with col := { (s.lanes.get z).col with commonsUp := true } }) ∧
    (∃ t, exec .recorderWindowEnd s = .next t ∧ t.lanes = s.lanes ∧ t.view = s.view ∧ t.commons.ring = s.commons.ring ∧
      ∀ (i : Nat) (w : RecWindow), s.commons.windows[i]? = some w →
        t.commons.windows[i]? = some (if w.isOpen ∧ w.left = 0 then { w with isOpen := false } else w))

/-- A lane whose boundary lay beyond 80 clocks of the median for eight ticks raises TIM-001, two lanes more than 160 clocks apart for eight ticks raise TIM-002, each once in that tick and with the distance as context (R38, R39, R585). A searched source locks with the eighth measurement within 80 clocks, a source searched or locked is lost with TIM-006 at the fortieth miss and searched again after 400 measurements in the window; an edge on the pin is the tick's measurement of PIN, taken at the boundary it lies nearest to (R35, R42, R44). -/
def Obligations.MisalignmentAndExternalSources : Prop :=
  (∀ (s : State) (l : LaneId) (x : Lane), s.lane l = x → x.start.state = .armed ∨ x.start.state = .operate → x.col.raised = [] →
     (x.alignOthers.length = 2 → 160 < absI x.offset2 → x.tick.outlierRun = 7 →
       ∃ y, exec (.tickOutlier l) s = .next (s.withLane l y) ∧ y.Raised .tim001 (BitVec.ofNat 32 (toField 32 x.offsetD)) ∧
         y = { x with col := { x.col with raised := y.col.raised } }) ∧
     (∀ p, x.alignOthers = [p] → 160 < absI (x.peerOf p).boundary → x.tick.splitRun = 7 →
       ∃ y, exec (.tickSplit l) s = .next (s.withLane l y) ∧
         y.Raised .tim002 (BitVec.ofNat 32 (toField 32 (x.peerOf p).boundary)) ∧ y = { x with col := { x.col with raised := y.col.raised } }) ∧
     (x.alignOthers.length ≠ 2 → exec (.tickOutlier l) s = .next (s.withLane l x)) ∧
     (x.alignOthers.length ≠ 1 → exec (.tickSplit l) s = .next (s.withLane l x))) ∧
  (∀ (s : State) (l : LaneId) (x : Lane), s.lane l = x →
     (∀ e, x.tick.pin.state = 1 → x.tick.pin.meas = some e → absI e ≤ 80 → x.tick.pin.lockRun = 7 →
       exec (.sourceLocked l .pin) s = .next (s.withLane l { x with tick := { x.tick with
         pin := { x.tick.pin with state := 2, lockRun := 0, missRun := 0, backRun := 0 } } })) ∧
     (∀ e, x.tick.fabric.state = 1 → x.tick.fabric.meas = some e → absI e ≤ 80 → x.tick.fabric.lockRun = 7 →
       exec (.sourceLocked l .fabric) s = .next (s.withLane l { x with tick := { x.tick with
         fabric := { x.tick.fabric with state := 2, lockRun := 0, missRun := 0, backRun := 0 }
         fabOffset := some ((x.fab.count : Int) - x.tick.count) } })) ∧
     (x.tick.pin.state = 1 ∨ x.tick.pin.state = 2 → x.tick.pin.meas = none → x.tick.pin.expected → x.tick.pin.missRun = 39 →
       exec (.sourceLost l .pin) s = .next (s.withLane l (({ x with tick := { x.tick with
         pin := { x.tick.pin with state := 3, lockRun := 0, missRun := 0, backRun := 0 } } }).raiseWord .tim006 1))) ∧
     (∀ e, x.tick.pin.state = 3 → x.tick.pin.meas = some e → absI e ≤ 800 → x.tick.pin.backRun = 399 →
       exec (.sourceResearch l .pin) s = .next (s.withLane l { x with tick := { x.tick with
         pin := { x.tick.pin with state := 1, lockRun := 0, missRun := 0, backRun := 0 }, pinPhase := none } })) ∧
     ∀ (w : Lane) (at_ : Nat), s.early l = w →
       (w.tick.pin.state ≠ 0 → w.cfg.tickSyncPinDir = 0 → w.tick.pinPhase = none → w.tick.pin.meas = none →
         2 * ((at_ : Int) - w.cfg.tickSyncPinOffset) ≤ 10000 + w.tick.corr + w.tick.step →
         exec (.syncPinEdge l at_) s = .next (s.withLane l { w with tick := { w.tick with
           pin := { w.tick.pin with meas := some ((at_ : Int) - w.cfg.tickSyncPinOffset), expected := true }
           pinPhase := some (w.tick.count % max 1 w.cfg.tickSyncPinPeriod) } })) ∧
       (w.cfg.tickSyncPinDir ≠ 0 → exec (.syncPinEdge l at_) s = .next (s.withLane l w)))

/-- Work past the write fence, past the boundary or past 12.00 µs is noted with its clocks and raises TIM-003, TIM-004 or TIM-005 on a lane whose collector closes ticks, in SAFE too (R49). A tick lost to the timer, a tick the cores did not close and, where COLLECTOR_DIRECT is set, an error in the collector's registers put the lane into SAFE at once, with no counter running (R120, R402, R406, R408); without COLLECTOR_DIRECT the register error waits for the close. -/
def Obligations.OverrunsAndTimerFaults : Prop :=
  (∀ (s : State) (l : LaneId) (x : Lane) (n : Nat), s.lane l = x → closesTicks x.start.state → 0 < n →
     exec (.tickFenceOverrun l n) s = .next (s.withLane l (({ x with tick := { x.tick with overFence := n } }).raiseWord .tim003 n)) ∧
     exec (.boundaryWorkOverrun l n) s = .next (s.withLane l (({ x with tick := { x.tick with overBoundary := n } }).raiseWord .tim004 n)) ∧
     exec (.enginePublishLate l n) s = .next (s.withLane l (({ x with tick := { x.tick with overPublish := n } }).raiseWord .tim005 n))) ∧
  (∀ (s : State) (l : LaneId) (x : Lane), s.lane l = x → aliveState x.start.state → x.start.state ≠ .boot →
     (∀ d, 100 < absI d →
       ∃ y, exec (.tickLoss l d) s = .next (s.withLane l y) ∧ y.InSafe ∧ y.Raised .tim007 (BitVec.ofNat 32 (toField 32 d)) ∧
         y.tick = { x.tick with deviation := d } ∧ y.nvm = x.nvm) ∧
     (∀ d, absI d ≤ 100 → exec (.tickLoss l d) s = .next (s.withLane l x)) ∧
     (x.start.closed = false →
       ∃ y, exec (.tickNotClosed l) s = .next (s.withLane l y) ∧ y.InSafe ∧ y.Raised .cor002 (ctxOf .none ((x.tick.count : Int) - 1)) ∧ y.nvm = x.nvm) ∧
     (∀ r, ∃ y, exec (.collectorRegisterError l r) s = .next (s.withLane l y) ∧ y.Raised .col001 (ctxOf .none r) ∧ y.col.parity = some r ∧
       (x.cfg.faultCollectorDirect → y.InSafe) ∧
       (x.cfg.faultCollectorDirect = false → y = { x with col := { x.col with parity := some r, raised := y.col.raised } })))

/-! ## Leases -/

/-- A holder whose counter reached zero leaves the holder role with LSE-001, to STANDBY; an axis seen orphaned raises LSE-010 and a RENEW withheld for LEASE.LEN ticks LSE-002, at the close that completes the count and once in a run, and nothing else of the lane changes (R123, R124, R401, R420, R585). An eligible lane claims an axis at the epoch after the one in force: by its place in the line once the axis has been silent for that many times LEASE.LEN + LEASE.GUARD ticks, and at once as the named successor; nothing else changes, and no counter is loaded by a claim alone (R128, R129, R131). -/
def Obligations.LeaseLossAndClaims : Prop :=
  (∀ (s : State) (l : LaneId) (x : Lane) (n : AxisId), s.lane l = x →
     (∀ w, s.early l = w → w.start.state = .operate → (w.ax n).role = .holder → w.lease.stopped = false →
       ((w.ax n).counter = 0 →
         ∃ y, exec (.leaseExpiry l n) s = .next (s.withLane l y) ∧ y.ax n = { w.ax n with role := .standby } ∧
           y.Raised .lse001 (ctxOf (.axis n.val) (w.ax n).epoch.toNat) ∧ (∀ m, m ≠ n → y.ax m = w.ax m) ∧
           y = { w with lease := { w.lease with ax := y.lease.ax }, col := { w.col with raised := y.col.raised } }) ∧
       ((w.ax n).counter ≠ 0 → exec (.leaseExpiry l n) s = .next (s.withLane l w))) ∧
     (x.orphanNow n → 3 * (x.cfg.leaseLen + x.cfg.leaseGuard) ≤ (x.ax n).orphan + 1 → (x.ax n).lse010 = false →
       ∃ y, exec (.axisOrphaned l n) s = .next (s.withLane l y) ∧ y.ax n = { x.ax n with lse010 := true } ∧
         y.Raised .lse010 (ctxOf (.axis n.val) ((x.ax n).orphan + 1 : Nat)) ∧ (∀ m, m ≠ n → y.ax m = x.ax m) ∧
         y = { x with lease := { x.lease with ax := y.lease.ax }, col := { x.col with raised := y.col.raised } }) ∧
     (x.orphanNow n = false → exec (.axisOrphaned l n) s = .next (s.withLane l x)) ∧
     (∀ q, ((x.publish).endorse).withholds n = some q → x.cfg.leaseLen ≤ (x.ax n).withheld + 1 → (x.ax n).lse002 = false →
       ∃ y, exec (.renewWithheld l n) s = .next (s.withLane l y) ∧ y.ax n = { x.ax n with lse002 := true } ∧
         y.Raised .lse002 (ctxOf (.axis n.val) (x.cfg.diffPermille n.val q (x.out.get n).prim)) ∧ (∀ m, m ≠ n → y.ax m = x.ax m) ∧
         y = { x with lease := { x.lease with ax := y.lease.ax }, col := { x.col with raised := y.col.raised } }) ∧
     (((x.publish).endorse).withholds n = none → exec (.renewWithheld l n) s = .next (s.withLane l x))) ∧
  (∀ (s : State) (l : LaneId) (x : Lane) (n : AxisId), s.early l = x → x.mayClaim n →
     (x.position n ≠ 0 → x.position n * (x.cfg.leaseLen + x.cfg.leaseGuard) ≤ x.tick.count - (x.ax n).lastRenew →
       ∃ y, exec (.unplannedClaim l n) s = .next (s.withLane l y) ∧ y.ax n = { x.ax n with claim := some ((x.ax n).epoch + 1) } ∧
         (∀ m, m ≠ n → y.ax m = x.ax m) ∧ y = { x with lease := { x.lease with ax := y.lease.ax } }) ∧
     (x.position n = 0 ∨ x.tick.count - (x.ax n).lastRenew < x.position n * (x.cfg.leaseLen + x.cfg.leaseGuard) →
       exec (.unplannedClaim l n) s = .next (s.withLane l x)) ∧
     ((x.ax n).named →
       ∃ y, exec (.successorClaim l n) s = .next (s.withLane l y) ∧ y.ax n = { x.ax n with claim := some ((x.ax n).epoch + 1) } ∧
         (∀ m, m ≠ n → y.ax m = x.ax m) ∧ y = { x with lease := { x.lease with ax := y.lease.ax } }) ∧
     ((x.ax n).named = false → exec (.successorClaim l n) s = .next (s.withLane l x)))

/-- A marver cycle that has not ended 4.0 s after it began raises LSE-008; a rotation that falls due puts the axes concerned into the sequence of yields; the health report is formed in every fortieth tick (R130, R144, R145, R147). -/
def Obligations.MarverRotationAndReportFallDue : Prop :=
  ∀ (s : State) (l : LaneId) (x : Lane), s.lane l = x →
    (x.start.state = .operate → 160000 ≤ x.lease.marver.ticks → x.lease.marver.late = false →
      ∃ y, exec (.marverCycleTimeout l) s = .next (s.withLane l y) ∧ y.lease = { x.lease with marver := { x.lease.marver with late := true } } ∧
        y.Raised .lse008 (ctxOf .none (x.lease.marver.ticks / 40 : Nat)) ∧ y = { x with lease := y.lease, col := { x.col with raised := y.col.raised } }) ∧
    (x.lease.marver.ticks < 160000 → exec (.marverCycleTimeout l) s = .next (s.withLane l x)) ∧
    (x.start.state = .operate → x.rotateAxes ≠ [] → 2 ≤ x.service → x.lease.yieldPlan = [] →
      (x.cfg.leaseRotateMode = 2 → x.steerSlow) →
      exec (.rotationDue l) s = .next (s.withLane l { x with lease := { x.lease with
        yieldPlan := x.rotateAxes.map (·.val), rotating := true, rotated := true } })) ∧
    (x.rotateAxes = [] → exec (.rotationDue l) s = .next (s.withLane l x)) ∧
    (x.tick.count % 40 = 0 →
      exec (.healthReportSend l) s = .next (s.withLane l { x with fab := { x.fab with report := x.healthReport } })) ∧
    (x.tick.count % 40 ≠ 0 → exec (.healthReportSend l) s = .next (s.withLane l x)) ∧
    x.healthReport.length = 64

/-! ## Feedback, profiles, modes -/

/-- On a quadrature channel whose lines stand, a change of one line that the filter takes moves the position by one count, up where line A leads line B; a change within TEFF of the last one is counted as a fast edge and moves nothing; other channels stay (R169, R170, R173). An incremental channel without an edge for SPEED.STILL ticks stands still with interval speed 0; an SSI frame that was started, is well formed and within JUMP gives the position, one that is not leaves it, marks the channel stale and counts, and with no frame under way nothing is taken (R186, R191, R192, R193). -/
def Obligations.FeedbackChannelsTakeTheirInputs : Prop :=
  (∀ (s : State) (l : LaneId) (x : Lane) (c : Fin 4) (at_ : Nat), s.early l = x → x.start.state = .operate →
     let k : ChanId := ⟨c.val, by omega⟩
     x.cfg.feedbackMode c.val = 1 → x.cfg.feedbackInvert c.val = 0 →
     (x.fbk.get k).la.raw = (x.fbk.get k).la.lvl → (x.fbk.get k).lb.raw = (x.fbk.get k).lb.lvl → (x.fbk.get k).lz.raw = (x.fbk.get k).lz.lvl →
     ∃ y, exec (.feedbackEdge l c at_ (!(x.fbk.get k).la.lvl) (x.fbk.get k).lb.lvl (x.fbk.get k).lz.lvl) s = .next (s.withLane l y) ∧
       (∀ j, j ≠ k → y.fbk.get j = x.fbk.get j) ∧ y = { x with now := at_, fbk := y.fbk } ∧
       ((∀ t, (x.fbk.get k).la.last = some t → t + max (x.cfg.feedbackTmin c.val) 20 ≤ x.clk + at_) →
         (y.fbk.get k).pos = wrap32 ((x.fbk.get k).pos + if (x.fbk.get k).la.lvl = (x.fbk.get k).lb.lvl then 1 else -1) ∧
         (y.fbk.get k).la.lvl = !(x.fbk.get k).la.lvl ∧ (y.fbk.get k).la.last = some (x.clk + at_) ∧
         (y.fbk.get k).accepted = (x.fbk.get k).accepted + 1 ∧ (y.fbk.get k).still = false) ∧
       (∀ t, (x.fbk.get k).la.last = some t → x.clk + at_ < t + max (x.cfg.feedbackTmin c.val) 20 →
         (y.fbk.get k).pos = (x.fbk.get k).pos ∧ (y.fbk.get k).fastNow = (x.fbk.get k).fastNow + 1 ∧
         (y.fbk.get k).accepted = (x.fbk.get k).accepted ∧ (y.fbk.get k).la.lvl = (x.fbk.get k).la.lvl)) ∧
  (∀ (s : State) (l : LaneId) (x : Lane), s.lane l = x →
     (∀ c : Fin 4, let k : ChanId := ⟨c.val, by omega⟩
       x.cfg.feedbackMode c.val ≠ 0 →
       (x.fbk.get k).accepted = 0 ∨ x.cfg.feedbackSpeedStill c.val ≤ (x.fbk.get k).quietRun ∧ (x.fbk.get k).edgeNow = false →
       ∃ y, exec (.feedbackStandstill l c) s = .next (s.withLane l y) ∧ (y.fbk.get k).still = true ∧ (y.fbk.get k).vInt = 0 ∧
         (y.fbk.get k).pos = (x.fbk.get k).pos ∧ (∀ j, j ≠ k → y.fbk.get j = x.fbk.get j) ∧ y = { x with fbk := y.fbk }) ∧
     ∀ w, s.early l = w →
     (∀ c hi lo raw, (w.fbk.get ⟨6 + c.val, by omega⟩).ssiStart = none → exec (.ssiFrame l c hi lo raw) s = .next (s.withLane l w)) ∧
     ∀ (c : Fin 2) (raw : Nat), let k : ChanId := ⟨6 + c.val, by omega⟩
       w.start.state = .operate → w.cfg.feedbackMode k.val ≠ 0 → w.cfg.feedbackSsiCode k.val = 0 →
       raw < 2 ^ w.cfg.feedbackSsiBits k.val → (w.fbk.get k).ssiStart.isSome →
       ((w.fbk.get k).ssiHave = false →
         ∃ y, exec (.ssiFrame l c true true raw) s = .next (s.withLane l y) ∧ (y.fbk.get k).pos = raw ∧ (y.fbk.get k).stale = false ∧
           (y.fbk.get k).ssiFails = 0 ∧ (y.fbk.get k).ssiStart = none ∧ (∀ j, j ≠ k → y.fbk.get j = w.fbk.get j) ∧ y = { w with fbk := y.fbk }) ∧
       ∃ y, exec (.ssiFrame l c false true raw) s = .next (s.withLane l y) ∧ (y.fbk.get k).pos = (w.fbk.get k).pos ∧
         (y.fbk.get k).stale = true ∧ (y.fbk.get k).ssiFails = (w.fbk.get k).ssiFails + 1 ∧ y.Raised .fbk011 (ctxOf (.channel k.val) 1) ∧
         y = { w with fbk := y.fbk, col := { w.col with raised := y.col.raised } })

/-- A profile request (MOVE, JOG, STOP, RESUME, LIMITS, STEP_ON, STEP_OFF) of a steering axis waits at the lane that holds the axis and is forwarded by another; a service request is answered with the result the axis's state gives it; a request for an axis that is no steering axis changes no profile (R202, R205, R511). A mode request waits at each lane that commands the axis, and at the axes that follow it, else it is forwarded; a service request is answered with the result of Table 10.2, or UNKNOWN where there is no such axis (R270, R384, R511). -/
def Obligations.RequestsReachTheirAxes : Prop :=
  (∀ (s : State) (l : LaneId) (x : Lane) (n : AxisId) (r : ProfReq), s.lane l = x →
     (x.cfg.kind n.val = .steer → (x.ax n).role = .holder →
       exec (r.command (.lane l) n.val) s =
         .next (s.withLane l { x with prof := x.prof.modify n fun p => { p with reqs := p.reqs ++ [(r, .outside)] } })) ∧
     (x.cfg.kind n.val = .steer → (x.ax n).role ≠ .holder → x.start.state ≠ .unsealed →
       exec (r.command (.lane l) n.val) s =
         .next (s.withLane l { x with prof := x.prof.modify n fun p => { p with forward := p.forward ++ [(r, .outside)] } })) ∧
     (x.cfg.kind n.val ≠ .steer → exec (r.command (.lane l) n.val) s = .next (s.withLane l x)) ∧
     ∀ h : SvcHdr, x.Admits h true true →
       (x.cfg.kind n.val = .steer → (x.ax n).role = .holder →
         ∃ t, exec (r.command (.service h) n.val) s = .next t ∧
           s.Served t h l 0x09 (if x.judgeReq n r .outside = 0 then 0 else 4) [byteOf (x.judgeReq n r .outside)] fun z =>
             { z with prof := z.prof.modify n fun p => { p with reqs := p.reqs ++ [(r, .outside)] } }) ∧
       (x.cfg.kind n.val ≠ .steer →
         ∃ t, exec (r.command (.service h) n.val) s = .next t ∧ s.Served t h l 0x09 1 [] fun z => z)) ∧
  (∀ (s : State) (l : LaneId) (x : Lane) (n : AxisId) (mode : Nat), s.lane l = x →
     (∃ y, exec (.modeRequest (.lane l) n.val mode) s = .next (s.withLane l y) ∧ y = { x with sup := y.sup } ∧
       ∀ k, let concerned := k = n ∨ x.cfg.kind k.val = .steer ∧ x.cfg.axisFollowLead k.val = n.val
         (concerned → x.commands k →
           y.sup.get k = { x.sup.get k with reqs := (x.sup.get k).reqs ++ [{ mode := mode, prio := 3 }] }) ∧
         (concerned → x.commands k = false → y.sup.get k = { x.sup.get k with forward := (x.sup.get k).forward ++ [{ mode := mode, prio := 3 }] }) ∧
         (¬ concerned → y.sup.get k = x.sup.get k)) ∧
     ∀ h : SvcHdr, x.Admits h true true →
       (x.cfg.hasAxis n.val →
         ∃ t, exec (.modeRequest (.service h) n.val mode) s = .next t ∧
           s.Served t h l 0x0A (if x.judgeMode n { mode := mode, prio := 3 } = 0 then 0 else 4)
             [byteOf (x.judgeMode n { mode := mode, prio := 3 })] fun z => z.modeRequestAll n { mode := mode, prio := 3 }) ∧
       (x.cfg.hasAxis n.val = false →
         ∃ t, exec (.modeRequest (.service h) n.val mode) s = .next t ∧ s.Served t h l 0x0A 1 [] fun z => z))

/-- Holding current is reduced after HOLD.DELAY ticks at rest, but not where HOLD.PCT is 100; a limit switch is taken over after T_DEB ticks and stops a move of the holder with FBK-032; CHATTER ends after CHATTER_WIN quiet ticks, and a switch that disagreed for CHATTER_WIN ticks raises FBK-031 (R213, R214, R216, R217, R218). A step taken from l_STEP adds STEP.SIZE with the sign l_DIR gives; the interpolation settles on the sum after twice the step interval; θ of every motor axis goes to the journal every 40,000 ticks (R223, R224, R225, R247). -/
def Obligations.SwitchesStepsAndAngles : Prop :=
  (∀ (s : State) (l : LaneId) (x : Lane) (n : AxisId), s.lane l = x →
     (x.cfg.kind n.val = .steer → (x.ax n).role = .holder → (x.prof.get n).phase = .rest → (x.prof.get n).holdOn = false →
       x.cfg.axisProfileHoldPct n.val < 100 → x.cfg.axisProfileHoldDelay n.val ≤ (x.prof.get n).holdCount →
       exec (.holdReduction l n) s = .next (s.withLane l { x with prof := x.prof.modify n fun p => { p with holdOn := true } })) ∧
     ((x.prof.get n).holdCount < x.cfg.axisProfileHoldDelay n.val ∨ 100 ≤ x.cfg.axisProfileHoldPct n.val → exec (.holdReduction l n) s = .next (s.withLane l x)) ∧
     ((x.swPos.get n).seen → (x.swPos.get n).raw ≠ (x.swPos.get n).deb → x.cfg.axisProfileLimitTDeb n.val ≤ (x.swPos.get n).run →
       (x.ax n).role = .standby → x.start.state = .operate →
       exec (.limitDebounce l n false) s =
         .next (s.withLane l { x with swPos := x.swPos.set n { x.swPos.get n with deb := (x.swPos.get n).raw } })) ∧
     ((x.swNeg.get n).seen → (x.swNeg.get n).raw → (x.swNeg.get n).deb = false → (x.swNeg.get n).chatter = false →
       x.cfg.axisProfileLimitTDeb n.val ≤ (x.swNeg.get n).run →
       (x.ax n).role = .holder → x.endLearn n = false → (x.prof.get n).moving → (x.prof.get n).stopNext = 0 →
       ∃ y, exec (.limitDebounce l n true) s = .next (s.withLane l y) ∧ (y.swNeg.get n).deb = true ∧
         (y.prof.get n).stopNext = 2 ∧ y.Raised .fbk032 (ctxOf (.axis n.val) 0) ∧
         y = { x with swNeg := y.swNeg, prof := y.prof, col := { x.col with raised := y.col.raised } }) ∧
     ((x.swNeg.get n).chatter → (∀ t ∈ (x.swNeg.get n).trans, t + x.cfg.axisProfileLimitChatterWin n.val ≤ x.tick.count) →
       exec (.chatterEnd l n true) s =
         .next (s.withLane l { x with swNeg := x.swNeg.set n { x.swNeg.get n with chatter := false, deb := (x.swNeg.get n).raw } })) ∧
     ((x.prof.get n).disagree = x.cfg.axisProfileLimitChatterWin n.val →
       ∃ y, exec (.switchDisagree l n true) s = .next (s.withLane l y) ∧ y.Raised .fbk031 (ctxOf (.axis n.val) 0) ∧
         y = { x with prof := y.prof, col := { x.col with raised := y.col.raised } })) ∧
  (∀ (s : State) (l : LaneId) (x : Lane), s.lane l = x →
     (∀ w at_, s.early l = w → w.cfg.stepinEdge = 0 → w.stepIn.step = {} → w.stepIn.dir = {} →
       ∃ y, exec (.stepEdge l at_ true false) s = .next (s.withLane l y) ∧
         y.stepIn.sum = wrap32 (w.stepIn.sum + if w.cfg.stepinDirpol = 1 then w.cfg.stepinSize else -w.cfg.stepinSize) ∧
         y.stepIn.tk = some (w.clk + at_) ∧ y.stepIn.settled = false ∧ y.stepIn.step.lvl = true ∧
         (w.stepIn.settled → y.stepIn.tint = w.cfg.stepinTfirst * 10000) ∧
         y = { w with now := at_, stepIn := y.stepIn }) ∧
     (x.stepIn.tk.isSome → x.stepIn.settled = false → 2 * (x.stepIn.tint : Int) ≤ x.stepIn.age x.tick.count 0 x.clk →
       exec (.stepSettled l) s =
         .next (s.withLane l { x with stepIn := { x.stepIn with settled := true, dx := fx x.stepIn.sum, vn := 0 } })) ∧
     (40000 ≤ x.bus.thetaTick →
       ∃ y, exec (.thetaWrite l) s = .next (s.withLane l y) ∧ y.bus = { x.bus with thetaTick := 0 } ∧
         (∀ n, y.nvm.theta.get n =
           if x.cfg.motor n.val then (x.nvm.theta.get n).write (x.loop.get n).theta else x.nvm.theta.get n) ∧
         y = { x with bus := y.bus, nvm := { x.nvm with theta := y.nvm.theta } }) ∧
     (x.bus.thetaTick < 40000 → exec (.thetaWrite l) s = .next (s.withLane l x)))

/-- A set-point blend or an output blend that has not completed by HANDOVER.TMAX raises PLS-010 or PLS-011 once; an override that lasted STEER.OVERRIDE.TIME, by the count of the lane that holds the FEEL axis or by the count shown to another, asks for MANUAL at every steering axis that the lane commands, or is the named successor of, and that changes mode on override (R276, R279, R281). -/
def Obligations.BlendsAndOverrideAreBounded : Prop :=
  ∀ (s : State) (l : LaneId) (x : Lane), s.lane l = x →
    (∀ n, (x.sup.get n).blend → (x.sup.get n).blendRaised = false → x.commands n →
      x.cfg.axisHandoverTmax n.val ≤ (x.sup.get n).blendTick →
      ∃ y, exec (.setpointBlendTimeout l n) s = .next (s.withLane l y) ∧ (y.sup.get n).blendRaised = true ∧
        y.Raised .pls010 (ctxOf (.axis n.val) (roundDiv (absI ((x.sup.get n).d - (x.sup.get n).b)) (2 ^ 32))) ∧
        y = { x with sup := y.sup, col := { x.col with raised := y.col.raised } }) ∧
    (∀ n, (x.sup.get n).ob.isSome → (x.sup.get n).obRaised = false → x.commands n →
      x.cfg.axisHandoverTmax n.val ≤ (x.sup.get n).obTick →
      ∃ y, exec (.outputBlendTimeout l n) s = .next (s.withLane l y) ∧ (y.sup.get n).obRaised = true ∧
        (∃ v, y.Raised .pls011 (ctxOf (.axis n.val) v)) ∧ y = { x with sup := y.sup, col := { x.col with raised := y.col.raised } }) ∧
    (∀ n, (x.sup.get n).blend = false → exec (.setpointBlendTimeout l n) s = .next (s.withLane l x)) ∧
    ∀ x, (if (s.early l).holdsFeel then (s.early l).settle else s.early l) = x →
      let count := if x.holdsFeel then x.chas.override else x.overrideSeen
      (x.chas.overFired ∨ count < x.cfg.steerOverrideTime → exec (.override_ l) s = .next (s.withLane l x)) ∧
      (x.cfg.steerOverrideFeel < 12 → x.chas.overFired = false → x.cfg.steerOverrideTime ≤ count →
      ∃ y, exec (.override_ l) s = .next (s.withLane l y) ∧ y.chas = { x.chas with overFired := true } ∧ y.can = { x.can with resetDue := true } ∧
        (x.holdsFeel → y.Raised .opr010 (ctxOf (.axis x.cfg.steerOverrideFeel) x.chas.overrideBy)) ∧
        (∀ n, x.cfg.kind n.val = .steer → x.cfg.axisModeOverride n.val →
          (x.sup.get n).mode = 0 ∨ (x.sup.get n).mode = 1 ∨ (x.sup.get n).mode = 3 →
          x.commands n ∨ (x.ax n).yieldedTo = some x.id → (x.prof.get n).jobOwns = false →
          (y.sup.get n).reqs = (x.sup.get n).reqs ++ [{ mode := 2, prio := 1, override := true }]) ∧
        (∀ n, x.cfg.kind n.val ≠ .steer ∨ x.commands n = false ∧ (x.ax n).yieldedTo ≠ some x.id → y.sup.get n = x.sup.get n) ∧
        y = { x with chas := y.chas, can := y.can, sup := y.sup, col := { x.col with raised := y.col.raised } })

/-! ## Commutation, gates, chassis, fault recovery -/

/-- An angle source that is lost is borrowed from a lane that lends, else re-caught with FBK-043 naming which; borrowing ends after BORROW.MAX ticks; a re-catch ends when the observer locks and fails with FBK-041 after eight ticks (R299, R302, R303, R304). -/
def Obligations.LostObserversBorrowOrRecatch : Prop :=
  ∀ (s : State) (l : LaneId) (x : Lane) (n : AxisId), s.lane l = x →
    (x.cfg.motor n.val → x.obsIsSource n → x.cfg.axisCommObsLossn n.val ≤ (x.comm.get n).lossRun →
      (∀ z, x.lender n (·.detail) = some z →
        ∃ y, exec (.observerLost l n) s = .next (s.withLane l y) ∧ (y.comm.get n).borrow = some (z.code, 0) ∧
          (y.comm.get n).locked = false ∧ y.Raised .fbk043 (ctxOf (.axis n.val) 1) ∧ (∀ m, m ≠ n → y.comm.get m = x.comm.get m) ∧
          y = { x with comm := y.comm, col := { x.col with raised := y.col.raised } }) ∧
      (x.lender n (·.detail) = none →
        ∃ y, exec (.observerLost l n) s = .next (s.withLane l y) ∧ (y.comm.get n).recatch = some (0, x.recatchShort n) ∧
          (y.comm.get n).recatches = satInc 255 (x.comm.get n).recatches ∧
          y.Raised .fbk043 (ctxOf (.axis n.val) (if x.recatchShort n then 3 else 2)) ∧ (∀ m, m ≠ n → y.comm.get m = x.comm.get m) ∧
          y = { x with comm := y.comm, col := { x.col with raised := y.col.raised } })) ∧
    (∀ b k, (x.comm.get n).borrow = some (b, k) → x.cfg.axisCommBorrowMax n.val ≤ k →
      ∃ y, exec (.borrowTimeout l n) s = .next (s.withLane l y) ∧ (y.comm.get n).borrow = none ∧
        (y.comm.get n).recatch = some (0, x.recatchShort n) ∧ (∀ m, m ≠ n → y.comm.get m = x.comm.get m) ∧ y = { x with comm := y.comm }) ∧
    ((x.comm.get n).recatch.isSome → (x.comm.get n).locked →
      ∃ y, exec (.recatchEnd l n) s = .next (s.withLane l y) ∧ (y.comm.get n).recatch = none ∧ (y.comm.get n).fails = 0 ∧
        (y.out.get n).recatch = false ∧ y.lease = x.lease ∧ y.start = x.start ∧ y.nvm = x.nvm ∧ y.tick = x.tick) ∧
    (∀ k short, (x.comm.get n).recatch = some (k, short) → 9 ≤ k → (x.comm.get n).locked = false → x.cfg.kind n.val ≠ .pump →
      ∃ y, exec (.recatchFail l n) s = .next (s.withLane l y) ∧ (y.comm.get n).recatch = none ∧
        y.Raised .fbk041 (ctxOf (.axis n.val) (if short then 2 else 1)) ∧ (∀ m, m ≠ n → y.comm.get m = x.comm.get m) ∧
        y = { x with comm := y.comm, col := { x.col with raised := y.col.raised } })

/-- A pump starts from ALIGN through its phases: ALIGN ends after TALIGN ticks, a hand-over without lock fails with FBK-045 and coasts, and after COAST ticks below PUMP.RESTART the start is tried again; an observer that disagrees, a phase current sum and the Hall state are judged and taken, and under HALLPASS a running time base puts the pattern of the state on the legs at once (R293, R298, R308, R309, R312). -/
def Obligations.PumpsStartAndCommutationIsChecked : Prop :=
  ∀ (s : State) (l : LaneId) (x : Lane) (n : AxisId), s.lane l = x →
    (x.cfg.kind n.val = .pump →
      ((x.comm.get n).phase = 1 → x.cfg.axisCommStartTalign n.val ≤ (x.comm.get n).phaseTick →
        exec (.pumpAlignEnd l n) s = .next (s.withLane l { x with comm := x.comm.modify n fun y =>
          { y with phase := 2, phaseTick := 0, wr := 0, olTh := (x.cfg.axisCommStartAngle n.val : Int) * 65536 } })) ∧
      ((x.comm.get n).phase = 3 → x.cfg.axisCommStartHandwin n.val ≤ (x.comm.get n).phaseTick → (x.comm.get n).locked = false →
        (x.ax n).role = .holder →
        ∃ y, exec (.pumpStartFail l n) s = .next (s.withLane l y) ∧ (y.comm.get n).phase = 5 ∧ (y.comm.get n).phaseTick = 0 ∧
          (y.comm.get n).fails = satInc 255 (x.comm.get n).fails ∧ y.Raised .fbk045 (ctxOf (.axis n.val) 3) ∧
          (x.cfg.axisCommStartRetry n.val ≤ satInc 255 (x.comm.get n).fails →
            y.Raised .fbk042 (ctxOf (.axis n.val) (satInc 255 (x.comm.get n).fails))) ∧
          y = { x with comm := y.comm, col := { x.col with raised := y.col.raised } }) ∧
      ((x.comm.get n).phase = 5 → x.cfg.axisCommStartCoast n.val ≤ (x.comm.get n).phaseTick →
        absI (radToRpm (x.cfg.axisCommPolepairs n.val) (x.comm.get n).oW) < (x.cfg.axisCommPumpRestart n.val : Int) * 65536 →
        exec (.pumpRestart l n) s =
          .next (s.withLane l { x with comm := x.comm.modify n fun y => { y with phase := 1, phaseTick := 0, wr := 0 } }))) ∧
    (x.cfg.axisCommObsLossn n.val ≤ (x.comm.get n).disRun → (x.comm.get n).disRaised = false →
      ∃ y, exec (.observerDisagree l n) s = .next (s.withLane l y) ∧ (y.comm.get n).disRaised = true ∧
        (∃ v, y.Raised .fbk040 (ctxOf (.axis n.val) v)) ∧ y = { x with comm := y.comm, col := { x.col with raised := y.col.raised } }) ∧
    (4 ≤ (x.comm.get n).sumRun → (x.comm.get n).sumRaised = false →
      ∃ y, exec (.phaseCurrentSum l n) s = .next (s.withLane l y) ∧ (y.comm.get n).sumRaised = true ∧
        y.Raised .pwr030 (ctxOf (.axis n.val) (roundDiv (absI (x.comm.get n).sum * 1000) 65536)) ∧
        y = { x with comm := y.comm, col := { x.col with raised := y.col.raised } }) ∧
    ∀ w, s.early l = w →
    (w.cfg.hallpass n.val →
      ∃ y, exec (.hallpassCommutate l n) s = .next (s.withLane l y) ∧
        y.comm = w.comm.modify n (fun z => { z with hall := w.hallState n }) ∧
        ((w.pwm.get n).started = false ∨ w.baseRuns n = false → y.leg = w.leg) ∧
        ((w.pwm.get n).started → w.baseRuns n → ∀ i : LegId, i.val ∈ w.cfg.legsOf w.id n.val → match hallPattern (w.hallState n) with
          | none => (y.leg.get i).off = true
          | some (sw, low, _) =>
            let k := (w.cfg.legsOf w.id n.val).idxOf i.val
            (k = sw → (y.leg.get i).off = false) ∧ (k ≠ sw → k = low → (y.leg.get i).off = false ∧ (y.leg.get i).duty = 0) ∧
            (k ≠ sw → k ≠ low → (y.leg.get i).off = true ∧ (y.leg.get i).duty = 0)) ∧
        (∀ i : LegId, i.val ∉ w.cfg.legsOf w.id n.val → y.leg.get i = w.leg.get i) ∧ y = { w with comm := y.comm, leg := y.leg }) ∧
    (w.cfg.hallpass n.val = false → exec (.hallpassCommutate l n) s = .next (s.withLane l w))

/-- At a reload point of a running axis the forced state written for it comes into force; at a valley the period and the dither begin anew; between valleys the legs take the duty of their shadow registers, but a valve reloads at its valleys alone; under HALLPASS the duty last loaded, or the limp duty, comes into force; where no high-side supply is measured low, no hold ends and no gates go off; other axes' time bases stay; a time base that does not run reloads nothing (R313, R317, R318, R320, R327, R346). -/
def Obligations.ReloadsTakeTheShadowRegisters : Prop :=
  ∀ (s : State) (l : LaneId) (x : Lane) (n : AxisId) (ms : List LegMeas), s.early l = x →
    (x.baseRuns n = false → exec (.pwmValley l n ms) s = .next (s.withLane l x)) ∧
    ((x.pwm.get n).running → x.baseRuns n → (x.pwm.get n).applied = false → (x.pwm.get n).started →
    let holds (y : Lane) : Prop :=
      (∀ m, m ≠ n → y.pwm.get m = { x.pwm.get m with hold := (y.pwm.get m).hold, tripOff := (y.pwm.get m).tripOff }) ∧
      ((∀ g ∈ ms, ∀ i, x.cfg.underBoot i g.vhs = false) →
        ∀ m, (y.pwm.get m).hold = (x.pwm.get m).hold ∧ (y.pwm.get m).tripOff = (x.pwm.get m).tripOff)
    (x.valleyNow n → x.cfg.hallpass n.val = false →
      ∃ y, exec (.pwmValley l n ms) s = .next (s.withLane l y) ∧ holds y ∧
        y.pwm.get n = { x.pwm.get n with dither := ((x.pwm.get n).dither + 1) % 16, length := (x.pwm.get n).lenNow, lenNow := 0, pos := 0,
                                         started := true, forced := (x.pwm.get n).forcedNext, applied := true
                                         hold := (y.pwm.get n).hold, tripOff := (y.pwm.get n).tripOff } ∧
        y = { x with pwm := y.pwm, leg := y.leg, col := { x.col with raised := y.col.raised } }) ∧
    (x.valleyNow n = false → x.cfg.kind n.val ≠ .valve → x.cfg.hallpass n.val = false →
      ∃ y, exec (.pwmValley l n ms) s = .next (s.withLane l y) ∧
        y.pwm.get n = { x.pwm.get n with forced := (x.pwm.get n).forcedNext, applied := true } ∧
        (∀ m, m ≠ n → y.pwm.get m = x.pwm.get m) ∧
        (∀ i : LegId, i.val ∉ x.cfg.legsOf x.id n.val → y.leg.get i = x.leg.get i) ∧
        (∀ i : LegId, (x.leg.get i).refreshing = false → i.val ∈ x.cfg.legsOf x.id n.val →
          y.leg.get i = { x.leg.get i with duty := (x.leg.get i).shadow }) ∧
        y = { x with pwm := y.pwm, leg := y.leg }) ∧
    (x.valleyNow n → x.cfg.hallpass n.val →
      ∃ y, exec (.pwmValley l n ms) s = .next (s.withLane l y) ∧ holds y ∧
        y.pwm.get n = { x.pwm.get n with
          dither := ((x.pwm.get n).dither + 1) % 16, length := (x.pwm.get n).lenNow, lenNow := 0, pos := 0, started := true
          forced := (x.pwm.get n).forcedNext, applied := true, hold := (y.pwm.get n).hold, tripOff := (y.pwm.get n).tripOff
          hallDuty := if (x.comm.get n).limp then ratioClamp (16 * x.cfg.axisCommHallpassLimpduty n.val) else (x.pwm.get n).hallShadow } ∧
        y.comm = x.comm.modify n (fun z => { z with hall := x.hallState n }) ∧
        y = { x with pwm := y.pwm, leg := y.leg, comm := y.comm, col := { x.col with raised := y.col.raised } }) ∧
    (x.valleyNow n = false → x.cfg.kind n.val = .valve → exec (.pwmValley l n ms) s = .next (s.withLane l x)))

/-- An event line counts the occurrences of its source and at every EV.PRESCALE-th does what the bits of its destination name: extra conversions, a count for the loop engine, an interrupt, a latch of the PASS counts (R332). A leg whose outputs overlap, whose driver sees both inputs or whose high-side supply fails notes it and raises its own event: a BOOT+ISO leg falls back to its isolated supply, a HIGH hold ends, any other leg is marked once in an episode, where its high side is on for 1 µs or at its valley; a pulse found longer than its period is counted as a mismatch, with one event in a second (R325, R331, R333, R340, R346, R358). -/
def Obligations.LegEventsActOnTheirLeg : Prop :=
  ∀ (s : State) (l : LaneId) (x : Lane), s.lane l = x →
    (∀ w, s.early l = w → ∀ (k : Fin 8) samples, let d := w.cfg.lanePwmEvDest k.val
      (w.cfg.lineOn k.val = false ∨ w.lineEvents k.val w.tickLen ≤ (w.evLine.get k).now →
        exec (.eventLineFire l k samples) s = .next (s.withLane l w)) ∧
      (w.cfg.lineOn k.val → (w.evLine.get k).now < w.lineEvents k.val w.tickLen → (w.evLine.get k).occ + 1 < w.cfg.lanePwmEvPrescale k.val →
        exec (.eventLineFire l k samples) s = .next (s.withLane l { w with
          evLine := w.evLine.set k { w.evLine.get k with now := (w.evLine.get k).now + 1, occ := (w.evLine.get k).occ + 1 } })) ∧
      (w.cfg.lineOn k.val → (w.evLine.get k).now < w.lineEvents k.val w.tickLen → w.cfg.lanePwmEvPrescale k.val ≤ (w.evLine.get k).occ + 1 →
        ∃ y, exec (.eventLineFire l k samples) s = .next (s.withLane l y) ∧
          y.evLine = w.evLine.set k { w.evLine.get k with
            now := (w.evLine.get k).now + 1, occ := 0
            count := if bitN d 1 then ((w.evLine.get k).count + 1) % 2 ^ 32 else (w.evLine.get k).count
            irq := (w.evLine.get k).irq || bitN d 2
            cap0 := if bitN d 3 then w.passCount 0 else (w.evLine.get k).cap0
            cap1 := if bitN d 3 then w.passCount 1 else (w.evLine.get k).cap1 } ∧
          (∀ j : LegId, y.leg.get j =
            if bitN d 0 ∧ j.val ∈ w.lineLegs k.val then
              { w.leg.get j with evSample := samples.getD ((w.lineLegs k.val).idxOf j.val) (w.leg.get j).evSample }
            else w.leg.get j) ∧
          y = { w with evLine := y.evLine, leg := y.leg })) ∧
    (∀ (i : LegId) clocks,
      (x.cfg.legFunction i.val ≠ 0 →
        exec (.shootThrough l i clocks) s = .next (s.withLane l
          ({ x with leg := x.leg.modify i fun g => { g with interlock := 1, shoot := satInc 65535 g.shoot } }.raise
            .pwr040 (.leg i.val) clocks)) ∧
        exec (.driverInterlock l i clocks) s = .next (s.withLane l
          ({ x with leg := x.leg.modify i fun g => { g with interlock := 2 } }.raise .pwr051 (.leg i.val) clocks))) ∧
      (x.cfg.legFunction i.val = 0 →
        exec (.shootThrough l i clocks) s = .next (s.withLane l x) ∧ exec (.driverInterlock l i clocks) s = .next (s.withLane l x))) ∧
    (∀ (i : LegId) (mv : Nat), let f := x.cfg.legFunction i.val
      let low : Prop := (mv : Int) * 65536 < x.cfg.legGateBootUv i.val * 1000
      let falls : Prop := x.cfg.legGateHssupply i.val = 1 ∧ (x.leg.get i).iso = false
      let held : Prop := ∃ n, x.cfg.axisOfLeg x.id i.val = some n ∧ (x.pwm.get n).hold = 2
      (¬ (f = 1 ∨ f = 2 ∨ f = 3) ∨ ¬ low ∨ x.supplySeen i = false → exec (.hsSupplyUv l i mv) s = .next (s.withLane l x)) ∧
      ((f = 1 ∨ f = 2 ∨ f = 3) → low → x.supplySeen i → falls →
        exec (.hsSupplyUv l i mv) s = .next (s.withLane l
          ({ x with leg := x.leg.modify i fun g => { g with uv := false, iso := true } }.raise .pwr016 (.leg i.val) mv))) ∧
      ((f = 1 ∨ f = 2 ∨ f = 3) → low → x.supplySeen i → ¬ falls → ¬ held →
        let y := { x with leg := x.leg.modify i fun g => { g with uv := true } }
        exec (.hsSupplyUv l i mv) s = .next (s.withLane l (if (x.leg.get i).uv then y else y.raise .pwr015 (.leg i.val) mv))) ∧
      (∀ n, (f = 1 ∨ f = 2 ∨ f = 3) → low → x.supplySeen i → ¬ falls → x.cfg.axisOfLeg x.id i.val = some n → (x.pwm.get n).hold = 2 →
        exec (.hsSupplyUv l i mv) s = .next (s.withLane l
          ({ x with leg := x.leg.modify i fun g => { g with uv := true }
                    pwm := x.pwm.modify n fun w => { w with hold := 0, tripOff := true } }.raise .pwr052 (.leg i.val) mv)))) ∧
    ∀ i : LegId,
      let y := { x with leg := x.leg.modify i fun g => { g with clip := false, mismatch := satInc 65535 g.mismatch } }
      let due : Prop := ∀ t, x.bus.clipAt = some t → t + 40000 ≤ x.tick.count
      ((x.leg.get i).clip = false → exec (.absolutePulseClip l i) s = .next (s.withLane l x)) ∧
      ((x.leg.get i).clip → due →
        exec (.absolutePulseClip l i) s = .next (s.withLane l
          { y.raise .pwr042 (.leg i.val) (satInc 65535 (x.leg.get i).mismatch : Nat) with
            bus := { x.bus with clipAt := some x.tick.count, clipNew := 0 } })) ∧
      ((x.leg.get i).clip → ¬ due →
        exec (.absolutePulseClip l i) s = .next (s.withLane l
          { y with bus := { x.bus with clipNew := satInc 65535 x.bus.clipNew } }))

/-- A trip beyond its threshold turns the axis's gates off, a hard one even out of a hold, names the leg and, on a triad, asks for identification, whose result gives the hold of AXIS.SHORT_POST: HIGH failed holds the high sides, LOW failed the low sides, with PWR-014 (R351, R355, R356, R357, R358). -/
def Obligations.TripsTurnTheAxisOff : Prop :=
  ∀ (s : State) (l : LaneId) (x : Lane) (n : AxisId), s.lane l = x →
    (∀ (i : LegId) (at_ : Nat) (t : Trip), x.cfg.axisOfLeg x.id i.val = some n → Lane.tripReal { x with now := at_ } n i at_ t →
      (x.pwm.get n).hold = 0 → (x.pwm.get n).trip = none → (x.pwm.get n).tripOff = false →
      ∃ y, exec (.overcurrentTrip l i ⟨at_, t⟩) s = .next (s.withLane l y) ∧
        y.pwm.get n = { x.pwm.get n with tripOff := true, trip := some (i.val, t.code), tripTick := 0, tripClk := at_
                                         identDue := x.cfg.legFunction i.val == 1 } ∧
        (∀ m, m ≠ n → y.pwm.get m = x.pwm.get m) ∧ y.leg.get i = { x.leg.get i with trip := t.code, tripVal := t.val, ident := 0 } ∧
        (∀ j, j ≠ i → y.leg.get j = x.leg.get j) ∧ y.Raised (tripEv t) (ctxOf (.leg i.val) t.val) ∧ y.gatesFree n = false ∧
        y = { x with now := at_, pwm := y.pwm, leg := y.leg, col := { x.col with raised := y.col.raised } }) ∧
    (∀ (i : LegId) (at_ : Nat) a, x.cfg.axisOfLeg x.id i.val = some n → Lane.tripReal { x with now := at_ } n i at_ (.hard a) →
      (x.pwm.get n).hold ≠ 0 →
      ∃ y, exec (.overcurrentTrip l i ⟨at_, .hard a⟩) s = .next (s.withLane l y) ∧
        y.pwm.get n = { x.pwm.get n with hold := 0, tripOff := true } ∧ y.leg.get i = { x.leg.get i with trip := 2, tripVal := a } ∧
        y.Raised .pwr011 (ctxOf (.leg i.val) ((Trip.hard a).val + 65536 * (x.leg.get i).ident : Nat)) ∧
        y.gatesFree n = false ∧ (∀ m, m ≠ n → y.pwm.get m = x.pwm.get m) ∧ (∀ j, j ≠ i → y.leg.get j = x.leg.get j) ∧
        y = { x with now := at_, pwm := y.pwm, leg := y.leg, col := { x.col with raised := y.col.raised } }) ∧
    (∀ (i : LegId) (at_ : Nat) (t : Trip), (∀ m, x.cfg.axisOfLeg x.id i.val = some m → Lane.tripReal { x with now := at_ } m i at_ t = false) →
      exec (.overcurrentTrip l i ⟨at_, t⟩) s = .next (s.withLane l { x with now := at_ })) ∧
    (∀ j d, (x.pwm.get n).identDue → (x.pwm.get n).trip = some (j, d) → x.cfg.axisShortPost n.val = 1 →
      (∃ y, exec (.identificationDone l n true [1, 0, 0]) s = .next (s.withLane l y) ∧ (y.pwm.get n).hold = 2 ∧
        (y.pwm.get n).trip = none ∧ (∀ h : LegId, h.val = j → (y.leg.get h).ident = 2) ∧ y.Raised .pwr014 (ctxOf (.leg j) 2)) ∧
      (∃ y, exec (.identificationDone l n true [0, 2, 0]) s = .next (s.withLane l y) ∧ (y.pwm.get n).hold = 1 ∧
        (y.pwm.get n).trip = none ∧ (∀ h : LegId, h.val = j → (y.leg.get h).ident = 3) ∧ y.Raised .pwr014 (ctxOf (.leg j) 1)) ∧
      (∃ y, exec (.identificationDone l n false []) s = .next (s.withLane l y) ∧ (y.pwm.get n).hold = 0 ∧ (y.pwm.get n).trip = none)) ∧
    ((x.pwm.get n).identDue = false → ∀ fell pins, exec (.identificationDone l n fell pins) s = .next (s.withLane l x))

/-- A bus above VOV2 turns every gate output off, holds included, with PWR-019; the holder of the chopper raises PWR-017 when its check has failed four times (R362, R365). -/
def Obligations.BusOvervoltageAndChopperFaultAct : Prop :=
  ∀ (s : State) (l : LaneId) (x : Lane), s.lane l = x →
    (∀ v, x.cfg.laneBusVov2 < v → x.bus.vov2 = false →
      ∃ y, exec (.overvoltageTrip l v) s = .next (s.withLane l y) ∧ y.bus = { x.bus with vov2 := true } ∧
        (∀ n, y.pwm.get n = { x.pwm.get n with hold := 0 } ∧ y.gatesFree n = false) ∧
        y.Raised .pwr019 (ctxOf .none (roundDiv (v * 1000) 65536)) ∧
        y = { x with bus := y.bus, pwm := y.pwm, col := { x.col with raised := y.col.raised } }) ∧
    (∀ v, v ≤ x.cfg.laneBusVov2 → exec (.overvoltageTrip l v) s = .next (s.withLane l x)) ∧
    (∀ n, allAxes.find? (fun m => x.cfg.kind m.val == .chopper) = some n → (x.ax n).role = .holder → 4 ≤ x.bus.chopCount →
      x.bus.chopRaised = false →
      ∃ y, exec (.chopperFault l) s = .next (s.withLane l y) ∧ y.bus = { x.bus with chopRaised := true } ∧
        y.Raised .pwr017 (ctxOf (.axis n.val) (roundDiv (x.bus.chopV * 1000) 65536)) ∧
        y = { x with bus := y.bus, col := { x.col with raised := y.col.raised } }) ∧
    (x.bus.chopCount < 4 → exec (.chopperFault l) s = .next (s.withLane l x))

/-- An operator element beyond its band for XTIME ticks fails and two that disagree for XTIME ticks do so with OPR-021; a ground-based speed is accepted after CANTIME ticks; guidance that is GUIDE.TIMEOUT ticks old ends it with OPR-023 and asks for HOLD where the axis steers by it; pressures, accumulator and wheel angles raise their events once (R374, R379, R383, R385, R388). -/
def Obligations.ChassisChecksAct : Prop :=
  ∀ (s : State) (l : LaneId) (x : Lane), s.lane l = x →
    (∀ k : Fin 8, let q := x.judgeSensors.chas.sensors.get k
      q.failed = false → x.cfg.sensorXtime k.val ≤ q.run →
      ∃ y, exec (.elementCrosscheckFail l k) s = .next (s.withLane l y) ∧
        y.chas.sensors.get k = { x.chas.sensors.get k with failed := true, run := 0 } ∧
        (∀ j, j ≠ k → y.chas.sensors.get j = x.chas.sensors.get j) ∧
        y.Raised (if 4 ≤ k.val then .fbk050 else .opr020) (ctxOf (.sensor (sensorCode k.val)) (hundredths q.diff)) ∧
        y = { x with chas := { x.chas with sensors := y.chas.sensors }, col := { x.col with raised := y.col.raised } }) ∧
    (∀ k : Fin 8, let q := x.judgeSensors.chas.sensors.get k
      q.failed = false → q.pair = false → x.cfg.sensorXtime k.val ≤ q.pairRun →
      ∃ y, exec (.pairDisagreement l k) s = .next (s.withLane l y) ∧
        y.chas.sensors.get k = { x.chas.sensors.get k with pair := true, pairTicks := 0 } ∧
        y.Raised .opr021 (ctxOf (.sensor (sensorCode k.val)) (hundredths q.diff)) ∧
        y = { x with chas := { x.chas with sensors := y.chas.sensors }, col := { x.col with raised := y.col.raised } }) ∧
    (x.chas.canOk = false → x.cfg.brakeSpeedCantime ≤ x.chas.canRun →
      exec (.canSpeedAccept l) s = .next (s.withLane l { x with chas := { x.chas with canOk := true } })) ∧
    (∀ g t, x.chas.guide = some (g, t) → t + x.cfg.steerGuideTimeout ≤ x.tick.count → x.chas.guideOut = false →
      ∃ y, exec (.guidanceTimeout l) s = .next (s.withLane l y) ∧ y.chas = { x.chas with guideOut := true } ∧
        y.Raised .opr023 (ctxOf .none 0) ∧
        (∀ n, (y.sup.get n).reqs = (x.sup.get n).reqs ++
          if x.cfg.kind n.val = .steer ∧ (x.sup.get n).mode = 1 ∧ x.commands n then [{ mode := 3, prio := 3 }] else []) ∧
        y = { x with chas := y.chas, sup := y.sup, col := { x.col with raised := y.col.raised } }) ∧
    (∀ n, x.chas.prsRun.get n = x.cfg.brakePrsTime →
      ∃ y, exec (.pressureFollowFail l n) s = .next (s.withLane l y) ∧ y.chas.prsRun.get n = x.chas.prsRun.get n + 1 ∧
        y.Raised .pls050 (ctxOf (.axis n.val) (roundDiv (x.chas.prsDev.get n * 10) 65536)) ∧
        y = { x with chas := { x.chas with prsRun := y.chas.prsRun }, col := { x.col with raised := y.col.raised } }) ∧
    (4000 ≤ x.chas.accRun → x.chas.accRaised = false →
      ∃ y, exec (.accumulatorLow l) s = .next (s.withLane l y) ∧ y.chas = { x.chas with accRaised := true, accLow := true } ∧
        y.Raised .pls051 (ctxOf (.axis x.cfg.brakePump) (roundDiv (x.chas.acc * 10) 65536)) ∧
        y = { x with chas := y.chas, col := { x.col with raised := y.col.raised } }) ∧
    (∀ n, x.chas.xchkRun.get n = x.cfg.axisLoopXchkTime n.val →
      ∃ y, exec (.wheelAngleXchk l n) s = .next (s.withLane l y) ∧ y.chas.xchkRun.get n = x.chas.xchkRun.get n + 1 ∧
        y.Raised .fbk052 (ctxOf (.axis n.val) (roundDiv (absI (x.chas.xchkDiff.get n)) 65536)) ∧
        y = { x with chas := { x.chas with xchkRun := y.chas.xchkRun }, col := { x.col with raised := y.col.raised } })

/-- A recoverable class quiet for ANNEAL.TIME ticks recovers, counted against its limits, or its faults latch with COL-012 at a limit; a lane in SAFE restarts by FAULT RESTART once all its high faults have recovered; a class that is not yet quiet stays (R411, R412, R413, R416). A controlled stop counts as standing FAULT.STOP.TMAX seconds after it began at the latest, and FAULT.STOP.THOLD seconds after standstill it ends with COL-011 and low-side holds on the motor triads (R424, R425). -/
def Obligations.QuietClassesAndStopsEnd : Prop :=
  (∀ (s : State) (l : LaneId) (x : Lane) (c : FaultClass), s.lane l = x → x.recoverable c →
     (x.quietNow c.code < x.cfg.faultAnnealTime → exec (.anneal l c) s = .next (s.withLane l x)) ∧
     (x.cfg.faultAnnealTime ≤ x.quietNow c.code →
       (x.recoveryLimit c = false → x.start.state ≠ .safe →
         ∃ y, exec (.anneal l c) s = .next (s.withLane l y) ∧
           (∀ h ∈ y.col.held, h.r.ev.cls = c → h.r.level ≠ .l0 → h.latched = false → h.recovered = true ∧ h.acked = false) ∧
           y.nvm.recoveries = x.nvm.recoveries.write
             { cls := x.recoveries.cls.set c.code (x.recoveries.cls.get c.code + 1), total := x.recoveries.total + 1 } ∧
           y = { x with col := y.col, nvm := { x.nvm with recoveries := y.nvm.recoveries }, lease := y.lease }) ∧
       (x.recoveryLimit c = false → x.start.state = .safe →
         ∃ y, exec (.anneal l c) s = .next (s.withLane l y) ∧
           y.nvm.recoveries = x.nvm.recoveries.write
             { cls := x.recoveries.cls.set c.code (x.recoveries.cls.get c.code + 1), total := x.recoveries.total + 1 } ∧
           let z := x.recover c
           (z.allHighRecovered → z.Restarted y .faultRestart) ∧ (z.allHighRecovered = false → y = z)) ∧
       (x.recoveryLimit c →
         ∃ y, exec (.anneal l c) s = .next (s.withLane l y) ∧ y.Raised .col012 (ctxOf .none c.code.val) ∧
           (∀ h ∈ y.col.held, h.r.ev.cls = c → h.r.level ≠ .l0 → h.recovered = false → h.latched = true) ∧
           y = { x with col := { x.col with held := y.col.held, raised := y.col.raised } }))) ∧
  (∀ (s : State) (l : LaneId) (x : Lane), s.early l = x → x.start.state = .operate →
     (∀ t, x.col.stopS = some t → t + x.cfg.faultStopTmax * 40000 ≤ x.tick.count → x.col.stopStill = none →
       ∃ y, exec (.stopTimeout l) s = .next (s.withLane l y) ∧ y.col = { x.col with stopStill := some x.tick.count } ∧
         (∀ n, (y.sup.get n).reqs = (x.sup.get n).reqs ++
           if x.cfg.kind n.val = .steer ∧ x.commands n then [{ mode := 3, prio := 2 }] else []) ∧
         y = { x with col := y.col, sup := y.sup, chas := { x.chas with park := false, parkDecel := false, opr025 := false } }) ∧
     (∀ t, x.col.stopS = some t → x.tick.count < t + x.cfg.faultStopTmax * 40000 → exec (.stopTimeout l) s = .next (s.withLane l x)) ∧
     (∀ t, x.col.stopStill = some t → t + x.cfg.faultStopThold * 40000 ≤ x.tick.count → x.start.sinceP = none →
       (∀ r ∈ x.col.raised, r.ev ≠ .col011) →
       ∃ y, exec (.stopHoldEnd l) s = .next (s.withLane l y) ∧ y.Raised .col011 (ctxOf .none ((x.tick.count - t) / 40000 : Nat)) ∧
         (∀ n, y.pwm.get n = if x.cfg.motor n.val ∧ (x.ax n).absent = false ∧ (x.pwm.get n).tripOff = false
           then { x.pwm.get n with hold := 1, holdAt := 0 } else x.pwm.get n) ∧
         y = { x with col := { x.col with raised := y.col.raised }, pwm := y.pwm }) ∧
     (∀ t, x.col.stopStill = some t → x.tick.count < t + x.cfg.faultStopThold * 40000 → exec (.stopHoldEnd l) s = .next (s.withLane l x)) ∧
     (x.col.stopStill = none → exec (.stopHoldEnd l) s = .next (s.withLane l x)))

/-! ## The fabric -/

/-- A fabric frame is read as it was written, every field of the header and every byte of the payload, and its checks hold unless a forwarder ended it with an inverted FCS (R452, R459, Tables 17.2 and 17.3). -/
def Obligations.FabricFramesAreReadAsWritten : Prop :=
  ∀ (f : FabFrame) (plane : Nat), plane < 4 → f.cls < 6 → f.src < 64 → f.dst < 64 → 0 < f.hop → f.hop < 256 → f.seq < 2 ^ 16 →
    f.stamp < 2 ^ 32 → f.epoch < 2 ^ 16 → f.port < 256 → (∀ m, fabMax f.cls = some m → f.size ≤ m) →
    fabParse plane (f.bytes plane) = some ({ f with bad := false }, !f.bad)

/-- A frame of the row's kind that a lane accepts on a port acts on that lane alone; a frame it does not accept is counted or dropped and acts on nothing but the fabric block (R452, R454). -/
def Obligations.RefusedFramesActOnTheFabricAlone : Prop :=
  ∀ (s : State) (l : LaneId) (x : Lane) (p : PortId) (at_ : Nat) (bs : List Byte), s.lane l = x →
    (Lane.fabReceive { x with now := at_ } p bs).2 = none →
    ∃ y, y = { x with now := at_, fab := y.fab } ∧
      ∀ c ∈ [Instr.hello l p at_ bs, .timeFrame l p at_ bs, .linkNotice l p at_ bs, .safeFrame l p at_ bs, .prepare l p at_ bs,
             .ready l p at_ bs, .refuse l p at_ bs, .abort l p at_ bs, .blockRequest l p at_ bs, .blockData l p at_ bs],
        exec c s = .next (s.withLane l y)

/-- A port whose PHY reaches link is VERIFYING; loss of link takes a port to DOWN at the close, and so does a second tick without a TIME frame where none still comes in it, with FAB-010; a port not UP 2,000 ticks after ALIGN raises FAB-011; a HELLO leaves when it is due and falls due 40 ticks on; the other port stays (R461, R463). -/
def Obligations.PortsFollowTheirLink : Prop :=
  ∀ (s : State) (l : LaneId) (x : Lane) (p : PortId), s.lane l = x → x.fab.running →
    ((x.fab.ports.get p).state ≠ 0 → (x.fab.ports.get p).phy = false →
      ∃ y, exec (.phyLinkUp l p) s = .next (s.withLane l y) ∧
        (y.fab.ports.get p).state = (if (x.fab.ports.get p).state = 1 then 2 else (x.fab.ports.get p).state) ∧ (y.fab.ports.get p).phy = true ∧
        (y.fab.ports.get p).helloNext = x.tick.count + 1 ∧ (∀ q, q ≠ p → y.fab.ports.get q = x.fab.ports.get q) ∧
        y = { x with fab := { x.fab with ports := y.fab.ports } }) ∧
    ((x.fab.ports.get p).state = 0 ∨ (x.fab.ports.get p).phy → exec (.phyLinkUp l p) s = .next (s.withLane l x)) ∧
    ((x.fab.ports.get p).phy →
      ∃ y, exec (.phyLinkLoss l p) s = .next (s.withLane l y) ∧ (y.fab.ports.get p).phy = false ∧ (y.fab.ports.get p).queue = [] ∧
        (y.fab.ports.get p).state = (x.fab.ports.get p).state ∧
        ((x.fab.ports.get p).state ≠ 1 → (y.portDown p).Raised .fab010 (ctxOf (.port p.val) 1) ∧ ((y.portDown p).fab.ports.get p).state = 1) ∧
        (∀ q, q ≠ p → y.fab.ports.get q = x.fab.ports.get q) ∧ y = { x with fab := { x.fab with ports := y.fab.ports } }) ∧
    ((x.fab.ports.get p).phy = false → exec (.phyLinkLoss l p) s = .next (s.withLane l x)) ∧
    ((x.fab.ports.get p).state = 2 ∨ (x.fab.ports.get p).state = 3 → (x.fab.ports.get p).phy → (x.fab.ports.get p).timeNow = false →
      1 ≤ (x.fab.ports.get p).missRun → (x.fab.ports.get p).down = 0 →
      ∃ y, exec (.timeFramesMissing l p) s = .next (s.withLane l y) ∧ y.fab.ports.get p = { x.fab.ports.get p with down := 2 } ∧
        (y.portDown p).Raised .fab010 (ctxOf (.port p.val) 2) ∧ ((y.portDown p).fab.ports.get p).state = 1 ∧
        (∀ q, q ≠ p → y.fab.ports.get q = x.fab.ports.get q) ∧ y = { x with fab := { x.fab with ports := y.fab.ports } }) ∧
    ((x.fab.ports.get p).timeNow ∨ (x.fab.ports.get p).missRun = 0 → exec (.timeFramesMissing l p) s = .next (s.withLane l x)) ∧
    (∀ t, x.fab.alignAt = some t → t + 2000 ≤ x.tick.count → (x.fab.ports.get p).state ≠ 0 → (x.fab.ports.get p).upSeen = false →
      (x.fab.ports.get p).fab011 = false →
      ∃ y, exec (.portUpTimeout l p) s = .next (s.withLane l y) ∧ y.fab.ports.get p = { x.fab.ports.get p with fab011 := true } ∧
        y.Raised .fab011 (ctxOf (.port p.val) (x.fab.ports.get p).state) ∧ (∀ q, q ≠ p → y.fab.ports.get q = x.fab.ports.get q) ∧
        y = { x with fab := { x.fab with ports := y.fab.ports }, col := { x.col with raised := y.col.raised } }) ∧
    ((x.fab.ports.get p).state ≠ 0 → (x.fab.ports.get p).phy → (x.fab.ports.get p).helloNext ≤ x.tick.count →
      ∃ y, exec (.helloSend l p) s = .next (s.withLane l y) ∧ (y.fab.ports.get p).helloNext = x.tick.count + 40 ∧
        (∀ q, q ≠ p → y.fab.ports.get q = x.fab.ports.get q) ∧ y = { x with fab := { x.fab with ports := y.fab.ports, seqs := y.fab.seqs } }) ∧
    (x.tick.count < (x.fab.ports.get p).helloNext → exec (.helloSend l p) s = .next (s.withLane l x))

/-- A received HELLO gives the port's neighbour and the state Table 17.6 judges it to: back at this node, the wrong node, the wrong seal, or on the way to UP once eight TIME frames have come; a LINK notice with a newer epoch marks its link and an older one is dropped (R457, R458, R462). -/
def Obligations.HellosAndNoticesKeepTheMap : Prop :=
  ∀ (s : State) (l : LaneId) (x y : Lane) (p : PortId) (at_ : Nat) (bs : List Byte) (f : FabFrame), s.lane l = x →
    Lane.fabReceive { x with now := at_ } p bs = (y, some f) →
    (frameIs 5 (some 1) f →
      ∃ z, exec (.hello l p at_ bs) s = .next (s.withLane l z) ∧ (z.fab.ports.get p).neighbour = (f.payload.getD 1 0).toNat ∧
        (∀ q, q ≠ p → z.fab.ports.get q = y.fab.ports.get q) ∧ z = { y with fab := z.fab, col := { y.col with raised := z.col.raised } } ∧
        ((f.payload.getD 1 0).toNat = y.node → (z.fab.ports.get p).state = 5 ∧ (z.fab.ports.get p).helloOk = false ∧
          ((y.fab.ports.get p).state ≠ 5 → z.Raised .fab002 (ctxOf (.port p.val) (beNat (slice f.payload 2 8) % 2 ^ 24 : Nat)))) ∧
        ((f.payload.getD 1 0).toNat ≠ y.node → y.cfg.expected p ≠ some (f.payload.getD 1 0).toNat →
          (z.fab.ports.get p).state = 4 ∧ ((y.fab.ports.get p).state ≠ 4 → z.Raised .fab001 (ctxOf (.port p.val) (f.payload.getD 1 0).toNat))) ∧
        ((y.judgeHello p f.payload).1 = 3 → (z.fab.ports.get p).helloOk = true ∧ (z.fab.ports.get p).state =
          if (y.fab.ports.get p).state = 1 ∨ (y.fab.ports.get p).state = 3 then (y.fab.ports.get p).state
          else if 8 ≤ (y.fab.ports.get p).timeRun + b2n (y.fab.ports.get p).timeNow then 3 else 2)) ∧
    (frameIs 5 (some 2) f → let e := beNat (slice f.payload 4 2)
      let ahead := (e + 65536 - y.fab.epoch) % 65536
      (1 ≤ ahead → ahead ≤ 32767 →
        ∃ z, exec (.linkNotice l p at_ bs) s = .next (s.withLane l z) ∧ z.fab.epoch = e ∧
          (∀ k, y.cfg.linkOf (f.payload.getD 1 0).toNat (f.payload.getD 2 0).toNat = some k →
            z.fab.links = y.fab.links.set k (f.payload.getD 3 0 == 1)) ∧
          z = { y with fab := { y.fab with epoch := z.fab.epoch, links := z.fab.links } }) ∧
      (ahead = 0 ∨ 32767 < ahead → exec (.linkNotice l p at_ bs) s = .next (s.withLane l y)))

/-- A TIME frame gives its announcement, and where it answers a frame of this node a new link delay sample; a VERIFYING port with a good HELLO is UP with the eighth; a master sequence that stood still in four frames excludes the master for 128 ticks, exclusions end, and holdover makes time invalid after 128 ticks with FAB-021 (R462, R465, R466, R468, R469). -/
def Obligations.TimeFramesMeasureAndSelect : Prop :=
  (∀ (s : State) (l : LaneId) (x y : Lane) (p : PortId) (at_ : Nat) (bs : List Byte) (f : FabFrame), s.lane l = x →
    Lane.fabReceive { x with now := at_ } p bs = (y, some f) → frameIs 0 none f →
    ∃ z a, exec (.timeFrame l p at_ bs) s = .next (s.withLane l z) ∧ (z.fab.ports.get p).ann = some a ∧ a.tick = y.tick.count ∧
      a.master = (f.payload.getD 10 0).toNat % 64 ∧ a.hops = (f.payload.getD 11 0).toNat ∧ a.mseq = (f.payload.getD 12 0).toNat ∧
      (z.fab.ports.get p).timeNow = true ∧ (z.fab.ports.get p).rx = some ((y.clk + at_) % 2 ^ 32, beNat (slice f.payload 16 4)) ∧
      ((y.fab.ports.get p).txCounts.contains (beNat (slice f.payload 24 4)) →
        (z.fab.ports.get p).delays = (8 * (diff32 ((y.clk + at_) % 2 ^ 32) (beNat (slice f.payload 24 4)) -
          diff32 (beNat (slice f.payload 16 4)) (beNat (slice f.payload 20 4))) :: (y.fab.ports.get p).delays).take 16) ∧
      (z.fab.ports.get p).state = (if (y.fab.ports.get p).state = 1 then 2 else
        if (y.fab.ports.get p).state = 2 ∧ (y.fab.ports.get p).helloOk ∧ 7 ≤ (y.fab.ports.get p).timeRun then 3
        else (y.fab.ports.get p).state) ∧
      (∀ q, q ≠ p → z.fab.ports.get q = y.fab.ports.get q) ∧ z = { y with fab := z.fab }) ∧
  ∀ (s : State) (l : LaneId) (x : Lane), s.lane l = x →
    (∀ p, x.fab.up = some p → 4 ≤ (x.fab.ports.get p).seqRun →
      ∃ y, exec (.masterSequenceStale l) s = .next (s.withLane l y) ∧ (x.fab.master, x.tick.count + 128) ∈ y.fab.excluded ∧
        (y.fab.ports.get p).seqRun = 0 ∧ y = { x with fab := { x.fab with excluded := y.fab.excluded, ports := y.fab.ports } }) ∧
    (x.fab.up = none → exec (.masterSequenceStale l) s = .next (s.withLane l x)) ∧
    (∃ y, exec (.masterExclusionEnd l) s = .next (s.withLane l y) ∧
      (∀ e, e ∈ y.fab.excluded ↔ e ∈ x.fab.excluded ∧ x.tick.count < e.2) ∧ y = { x with fab := { x.fab with excluded := y.fab.excluded } }) ∧
    (x.fab.running → x.fab.holdover → x.fab.valid → 128 ≤ x.fab.holdRun →
      ∃ y, exec (.holdoverExpiry l) s = .next (s.withLane l y) ∧ y.fab = { x.fab with valid := false } ∧ y.Raised .fab021 (ctxOf .none 0) ∧
        y = { x with fab := y.fab, col := { x.col with raised := y.col.raised } }) ∧
    (x.fab.holdRun < 128 → exec (.holdoverExpiry l) s = .next (s.withLane l x))

/-! ## Signals, the caravan and blocks over the fabric -/

/-- A SAFE frame gives each subscribed signal of its sender its value and time stamp and the sender's rank; a signal of another node stays as it was (R479, R483, R484). -/
def Obligations.SafeFramesGiveSignals : Prop :=
  ∀ (s : State) (l : LaneId) (x y : Lane) (p : PortId) (at_ : Nat) (bs : List Byte) (f : FabFrame), s.lane l = x →
    Lane.fabReceive { x with now := at_ } p bs = (y, some f) → frameIs 1 none f →
    ∃ z, exec (.safeFrame l p at_ bs) s = .next (s.withLane l z) ∧
      getNode f.src z.car.ranks = some ((f.payload.drop 72).getD 1 0).toNat ∧
      (∀ (j : Fin 16) (i : Nat), y.cfg.fabricSubSig j.val ≠ 0 → y.cfg.fabricSubSig j.val / 2 ^ 19 = f.src →
        ((List.range 14).find? fun i => beNat (slice (f.payload.drop 72) (8 + 8 * i) 3) == 2 ^ 23 + y.cfg.fabricSubSig j.val % 2 ^ 19) = some i →
        z.car.subs.get j = { y.car.subs.get j with
          have_ := true, val := toSigned 32 (beNat (slice (f.payload.drop 72) (12 + 8 * i) 4))
          stamp := (y.fabTick : Int) + diff32 f.stamp (y.fabTick % 2 ^ 32) }) ∧
      (∀ j : Fin 16, y.cfg.fabricSubSig j.val = 0 ∨ y.cfg.fabricSubSig j.val / 2 ^ 19 ≠ f.src → z.car.subs.get j = y.car.subs.get j) ∧
      z = { y with car := z.car, col := { y.col with raised := z.col.raised } }

/-- A PREPARE of the elected coordinator with shares for this node is armed and answered READY where no reason of Table 18.5 applies, else answered REFUSE with the reason and counted; an ABORT of an armed commit disarms it (R486, R487). -/
def Obligations.PreparesAreArmedOrRefused : Prop :=
  ∀ (s : State) (l : LaneId) (x y : Lane) (p : PortId) (at_ : Nat) (bs : List Byte) (f : FabFrame), s.lane l = x →
    Lane.fabReceive { x with now := at_ } p bs = (y, some f) →
    let k := (f.payload.getD 1 0).toNat
    let num := beNat (slice f.payload 2 2)
    let fire := beNat (slice f.payload 4 4)
    let w := y.publishAll
    let e := ({ w with car := { w.car with cands := putNode f.src w.tick.count w.car.cands } } : Lane).elect
    let es := (shareEntries f.payload).filter fun q => q.node == w.node
    (frameIs 2 (some 1) f → e.car.elected = f.src → es ≠ [] → k = 1 ∨ k = 2 →
      (e.carClass k).answered ≠ some (num, f.src) →
      (e.refusal f.src k fire es = none →
        ∃ z, exec (.prepare l p at_ bs) s = .next (s.withLane l z) ∧ (z.carClass k).answer = 1 ∧
          z.car.armed = e.car.armed ++ [{ cls := k, num := num, src := f.src, fire := fire
                                          shares := es.map fun q => (q.axis, if q.probe then 0 else q.share) }] ∧
          z.car.prepared = e.car.prepared ∧ z.car.share = e.car.share ∧ z = { e with car := z.car, fab := z.fab }) ∧
      ∀ r axis, e.refusal f.src k fire es = some (r, axis) →
        ∃ z, exec (.prepare l p at_ bs) s = .next (s.withLane l z) ∧ (z.carClass k).answer = 2 ∧ (z.carClass k).reason = r ∧
          (z.carClass k).refused = satInc 65535 (e.carClass k).refused ∧ z.car.armed = e.car.armed ∧
          ((e.carClass k).answer ≠ 2 → z.Raised .fab030 (ctxOf (.axis (axis % 256)) (k * 65536 + r : Nat))) ∧
          z = { e with car := z.car, fab := z.fab, col := { e.col with raised := z.col.raised } }) ∧
    (frameIs 2 (some 4) f → k = 1 ∨ k = 2 → (∃ a ∈ y.car.armed, a.cls = k ∧ a.num = num ∧ a.src = f.src) →
      ∃ z, exec (.abort l p at_ bs) s = .next (s.withLane l z) ∧
        (∀ a, a ∈ z.car.armed ↔ a ∈ y.car.armed ∧ ¬ (a.cls = k ∧ a.num = num ∧ a.src = f.src)) ∧
        (z.carClass k).refused = satInc 65535 (y.carClass k).refused ∧ z = { y with car := z.car })

/-- A timely first answer of a node of the commit is taken; a REFUSE is counted, and under ALL it aborts the commit; at the deadline the commit closes, and under ALL with every node READY its class starts its aborts anew (R487, R489). -/
def Obligations.AnswersDecideTheCommit : Prop :=
  ∀ (s : State) (l : LaneId) (x : Lane) (c : Commit), s.lane l = x → c.cls = 1 ∨ c.cls = 2 →
    (∀ y p at_ bs f, Lane.fabReceive { x with now := at_ } p bs = (y, some f) → (f.payload.getD 1 0).toNat = c.cls →
      let w := y.publishAll
      let node := (f.payload.getD 8 0).toNat % 64
      let left := diff32 c.fire (w.fabTick % 2 ^ 32)
      w.car.prepared = [c] → c.num = beNat (slice f.payload 2 2) → c.closed = false →
      (left < 1 ∨ left = 1 ∧ w.tickLen < at_ + 2000 → frameIs 2 (some 2) f → exec (.ready l p at_ bs) s = .next (s.withLane l w)) ∧
      (1 < left ∨ left = 1 ∧ at_ + 2000 ≤ w.tickLen → c.answers.any (fun a => a.1 == node) = false → c.shares.any (fun q => q.node == node) →
      (frameIs 2 (some 2) f →
        ∃ z, exec (.ready l p at_ bs) s = .next (s.withLane l z) ∧ z.car.prepared = [{ c with answers := c.answers ++ [(node, true)] }] ∧
          z = { w with car := { w.car with prepared := z.car.prepared } }) ∧
      (frameIs 2 (some 3) f → w.cfg.fabricCommitMode c.cls = 1 →
        ∃ z, exec (.refuse l p at_ bs) s = .next (s.withLane l z) ∧ z.car.prepared = [{ c with answers := c.answers ++ [(node, false)] }] ∧
          (z.carClass c.cls).refused = satInc 65535 (w.carClass c.cls).refused ∧ z = { w with car := z.car }) ∧
      (frameIs 2 (some 3) f → w.cfg.fabricCommitMode c.cls = 0 → c.aborted = false →
        ∃ z, exec (.refuse l p at_ bs) s = .next (s.withLane l z) ∧
          z.car.prepared = [{ c with answers := c.answers ++ [(node, false)], aborted := true }]))) ∧
    ∀ k : Fin 2, k.val + 1 = c.cls → x.car.prepared = [c] → c.closed = false → c.fire = (x.fabTick + 1) % 2 ^ 32 → c.shares ≠ [] →
      x.cfg.fabricCommitMode c.cls = 0 → (∀ q ∈ c.shares, (q.node, true) ∈ c.answers) → (∀ a ∈ c.answers, a.2 = true) →
      ∃ y, exec (.commitDeadline l k) s = .next (s.withLane l y) ∧ y.car.prepared = [{ c with closed := true }] ∧
        (y.carClass c.cls).aborts = 0 ∧ (y.carClass c.cls).refuse = 0 ∧ y = { x with car := y.car }

/-- At its fire boundary an armed commit puts its shares into force at once and is disarmed; where the own plane fired nothing the share another lane fired is taken over, and after COMMIT.HOLD ticks without any the fallback, with FAB-035 (R482, R487, R488). -/
def Obligations.SharesFireOrFallBack : Prop :=
  ∀ (s : State) (l : LaneId) (x : Lane), s.lane l = x →
    (∀ (n : AxisId) (v : Int) (num src fire : Nat), x.car.prepared = [] → fire = (x.fabTick + 1) % 2 ^ 32 →
      x.car.armed = [{ cls := 1, num := num, src := src, fire := fire, shares := [(n.val, v)] }] →
      ∃ y, exec (.commitFire l 0) s = .next (s.withLane l y) ∧ y.car.share.get n = v ∧ (∀ m, m ≠ n → y.car.share.get m = x.car.share.get m) ∧
        y.car.firedAt.get n = some (x.tick.count + 1, v) ∧ y.car.armed = [] ∧ (y.carClass 1).last = some num ∧
        (y.carClass 1).fired = satInc 65535 (x.carClass 1).fired ∧ y = { x with car := y.car }) ∧
    (x.car.armed = [] → x.car.prepared = [] → ∀ k, exec (.commitFire l k) s = .next (s.withLane l x)) ∧
    (∀ n v, x.otherFired n = some v → x.car.firedAt.get n = none → x.cfg.kind n.val = .valve →
      ∃ y, exec (.shareTakeover l n) s = .next (s.withLane l y) ∧ y.car.share.get n = v ∧ y.car.anyAt.get n = some (x.tick.count - 1) ∧
        (∀ m, m ≠ n → y.car.share.get m = x.car.share.get m) ∧
        y = { x with car := { x.car with share := y.car.share, anyAt := y.car.anyAt, fell := y.car.fell } }) ∧
    (∀ n, x.otherFired n = none → exec (.shareTakeover l n) s = .next (s.withLane l x)) ∧
    (∀ n t, x.car.anyAt.get n = some t → x.car.fell.get n = false → x.cfg.kind n.val = .valve →
      t + x.cfg.fabricCommitHold 1 ≤ x.tick.count →
      ∃ y, exec (.shareFallback l n) s = .next (s.withLane l y) ∧ y.car.share.get n = x.cfg.fabricCommitFallback 1 ∧
        y.car.fell.get n = true ∧ y.Raised .fab035 (ctxOf .none n.val) ∧ (∀ m, m ≠ n → y.car.share.get m = x.car.share.get m) ∧
        y = { x with car := { x.car with share := y.car.share, fell := y.car.fell }, col := { x.col with raised := y.col.raised } }) ∧
    (∀ n, x.car.fell.get n → exec (.shareFallback l n) s = .next (s.withLane l x))

/-- A BLOCK REQUEST is answered with BLOCK DATA and changes nothing but the fabric's queues; BLOCK DATA that was asked for is staged at its offset in the slot the lane does not run, and any other is dropped (R536). -/
def Obligations.BlocksMoveBetweenNodes : Prop :=
  ∀ (s : State) (l : LaneId) (x y : Lane) (p : PortId) (at_ : Nat) (bs : List Byte) (f : FabFrame), s.lane l = x →
    Lane.fabReceive { x with now := at_ } p bs = (y, some f) →
    (frameIs 3 (some 1) f → ∃ z, exec (.blockRequest l p at_ bs) s = .next (s.withLane l z) ∧ z = { y with fab := z.fab } ∧
      (y.serves_ → f.payload.getD 1 0 = 1 → y.fab.running → y.node ≠ 0 → z.fab.seqs.get 4 = (y.fab.seqs.get 4 + 1) % 65536) ∧
      (y.serves_ = false ∨ f.payload.getD 1 0 ≠ 1 → z = y)) ∧
    (frameIs 4 (some 2) f → let offset := beNat (slice f.payload 8 4)
      let data := slice f.payload 16 (beNat (slice f.payload 12 2))
      (y.staging → f.payload.getD 1 0 = 1 → y.cfg.jobSource = f.src → y.job.fw.asked = some offset → data ≠ [] → offset + data.length ≤ slotSize →
        data.length = beNat (slice f.payload 12 2) →
        ∃ z, exec (.blockData l p at_ bs) s = .next (s.withLane l z) ∧ (z.slotMem z.otherSlot).readList offset data.length = data ∧
          z.job.fw.next = offset + data.length ∧ z.job.fw.asked = none ∧ z.slotMem (1 - z.otherSlot) = y.slotMem (1 - y.otherSlot) ∧
          z = { y with nvm := z.nvm, job := { y.job with fw := z.job.fw } }) ∧
      (y.staging = false ∨ y.job.fw.asked ≠ some offset → exec (.blockData l p at_ bs) s = .next (s.withLane l y)))

/-! ## CAN and the voice -/

/-- A controller that goes bus-off raises NET-001 and one that becomes error passive NET-002, each from the state before it and on a lane whose state runs it; recovery clears both counts; the lane that ranks first becomes the voice with NET-004 in the tick that ends VOICE.QUIET ticks without a frame of the node, and queues its claim on each ISOBUS controller (R496, R503, R505). -/
def Obligations.BusErrorsAndTheVoice : Prop :=
  ∀ (s : State) (l : LaneId) (x : Lane), s.lane l = x →
    (∀ c, x.canRuns c → (x.canCtl c).err ≠ 2 →
      ∃ y, exec (.canBusOff l c) s = .next (s.withLane l y) ∧ y.canCtl c = { x.canCtl c with err := 2, tec := 255 } ∧
        y.Raised .net001 (ctxOf .none c.val) ∧ (∀ d, d ≠ c → y.canCtl d = x.canCtl d) ∧ y.onBus c = false ∧
        y = { x with can := { x.can with ctl := y.can.ctl }, col := { x.col with raised := y.col.raised } }) ∧
    (∀ c, x.canRuns c = false ∨ (x.canCtl c).err = 2 → exec (.canBusOff l c) s = .next (s.withLane l x)) ∧
    (∀ c, (x.canCtl c).err = 2 →
      ∃ y, exec (.canBusOffRecovery l c) s = .next (s.withLane l y) ∧ y.canCtl c = { x.canCtl c with err := 0, tec := 0, rec_ := 0 } ∧
        (x.canRuns c → y.onBus c = true) ∧ (∀ d, d ≠ c → y.canCtl d = x.canCtl d) ∧ y = { x with can := { x.can with ctl := y.can.ctl } }) ∧
    (∀ c, (x.canCtl c).err ≠ 2 → exec (.canBusOffRecovery l c) s = .next (s.withLane l x)) ∧
    (∀ c tec rec_, x.canRuns c → (x.canCtl c).err = 0 →
      ∃ y, exec (.canErrorPassive l c tec rec_) s = .next (s.withLane l y) ∧
        y.canCtl c = { x.canCtl c with err := 1, tec := min 255 tec, rec_ := min 255 rec_ } ∧ y.Raised .net002 (ctxOf .none c.val) ∧
        y = { x with can := { x.can with ctl := y.can.ctl }, col := { x.col with raised := y.col.raised } }) ∧
    (∀ c tec rec_, x.canRuns c = false ∨ (x.canCtl c).err ≠ 0 → exec (.canErrorPassive l c tec rec_) s = .next (s.withLane l x)) ∧
    (x.can.voice = false → x.topVoice → x.voicesSeen = [] → x.can.heard = false → x.cfg.laneVoiceQuiet ≤ x.can.quiet + 1 →
      x.aloneUnwitnessed = false →
      ∃ y, exec (.voiceTakeover l) s = .next (s.withLane l y) ∧ y.can.voice = true ∧
        y.Raised .net004 (ctxOf .none (match x.can.lastVoice with | some v => v.code | none => 3)) ∧
        (∀ c, x.isobus c → (x.canCtl c).mute = false → (y.canCtl c).addr = x.nodeAddr c ∧ y.talks c = false ∧
          (y.canCtl c).queue = (x.canCtl c).queue ++ [{ src := x.nodeAddr c, dst := 255, msg := .claim (x.ownName c) }]) ∧
        (∀ c, x.isobus c = false → y.canCtl c = x.canCtl c) ∧
        y = { x with can := { x.can with voice := true, voiceAt := x.tick.count, ctl := y.can.ctl, waits := [], resps := [] }
                     col := { x.col with raised := y.col.raised } }) ∧
    (x.can.voice ∨ x.topVoice = false ∨ x.can.heard ∨ x.can.quiet + 1 < x.cfg.laneVoiceQuiet ∨ x.aloneUnwitnessed →
      exec (.voiceTakeover l) s = .next (s.withLane l x))

/-- A guidance command to the node's address with status 1 is the guidance in force from this tick, a ground-based speed is the CAN speed of this tick, a NAME claimed on an address is remembered for it; the voice defends its address against a higher NAME and gives way to a lower one, to the lowest free address or, where there is none, into silence with NET-003; DM3 and DM11 are answered with a negative acknowledgement by the voice (R379, R383, R502, R509, R514). A connection announced to all takes its packets in order and delivers the message cut to its size with the last one, and a packet out of order ends it; a connection asked of the node is taken and answered packet by packet, refused above 1,785 bytes (R501). -/
def Obligations.CanMessagesAndPacketsAreTaken : Prop :=
  (∀ (s : State) (l : LaneId) (x : Lane) (c : CanId) (src : Nat), s.lane l = x → x.onBus c → x.isobus c →
     (∀ dst (g : GuidanceCmd), ∃ t y, exec (.guidanceSystemCommand c src dst g) s = .next t ∧ t.lanes.get l = y ∧ s.SameOutside t ∧
       y = { x with
         can := { x.can with heard := y.can.heard }
         chas := if dst = (x.canCtl c).addr ∧ g.status = 1 ∧ g.raw ≤ 0xFAFF
           then { x.chas with guide := some (g.kappa, x.tick.count), guideOut := false } else x.chas }) ∧
     (∀ v, ∃ t y, exec (.groundBasedSpeed c src v) s = .next t ∧ t.lanes.get l = y ∧ s.SameOutside t ∧
       y = { x with chas := { x.chas with can := some (v, x.tick.count) }, can := { x.can with heard := y.can.heard } }) ∧
     (∀ name, name ≠ x.ownName c → x.can.session = none →
       ∃ t y, exec (.addressClaimed c src name) s = .next t ∧ t.lanes.get l = y ∧ s.SameOutside t ∧
         getNode src (y.canCtl c).names = some name ∧ (∀ d, d ≠ c → y.canCtl d = x.canCtl d) ∧
         ((x.canCtl c).addr ≠ src ∨ x.can.voice = false ∨ src = 254 →
           y.canCtl c = { x.canCtl c with names := (y.canCtl c).names } ∧ y = { x with can := { x.can with heard := y.can.heard, ctl := y.can.ctl } }) ∧
         ((x.canCtl c).addr = src → x.can.voice → src ≠ 254 →
           (x.ownName c < name → (y.canCtl c).addr = src ∧
             (y.canCtl c).queue = (x.canCtl c).queue ++ [{ src := src, dst := 255, msg := .claim (x.ownName c) }]) ∧
           (name < x.ownName c → ∀ a, (y.canCtl c).freeAddr = some a → (y.canCtl c).addr = a ∧
             (y.canCtl c).queue = (x.canCtl c).queue ++ [{ src := a, dst := 255, msg := .claim (x.ownName c) }]) ∧
           (name < x.ownName c → (y.canCtl c).freeAddr = none → (y.canCtl c).addr = 254 ∧ (y.canCtl c).mute = true ∧
             y.Raised .net003 (ctxOf .none c.val)))) ∧
     (∃ t y, exec (.addressClaimed c src (x.ownName c)) s = .next t ∧ t.lanes.get l = y ∧ y = { x with can := { x.can with heard := y.can.heard } }) ∧
     (∀ pgn, pgn = 0xFECC ∨ pgn = 0xFED3 → x.talks c →
       ∃ t y, exec (.dm3Dm11 c src pgn) s = .next t ∧ t.lanes.get l = y ∧ s.SameOutside t ∧ (x.canCtl c).SentOn (y.canCtl c) src [.nack pgn] ∧
         y = { x with can := { x.can with heard := y.can.heard, ctl := y.can.ctl } })) ∧
  (∀ (s : State) (l : LaneId) (x : Lane) (c : CanId) (src : Nat), s.lane l = x → x.onBus c → x.isobus c → (x.canCtl c).addr ≠ 255 →
     (∀ size packets : Byte, (x.canCtl c).inConns = [] →
       ∃ t y, exec (.transportProtocolFrame c src 255 false [32, size, 0, packets, 255, 0xCA, 0xFE, 0]) s = .next t ∧ t.lanes.get l = y ∧
         (y.canCtl c).inConns = [{ src := src, bam := true, pgn := 0xFECA, size := size.toNat, packets := packets.toNat }] ∧
         y = { x with can := { x.can with heard := y.can.heard, ctl := y.can.ctl } }) ∧
     (∀ low high packets : Byte, (x.canCtl c).inConns = [] → x.talks c →
       ∃ t y, exec (.transportProtocolFrame c src (x.canCtl c).addr false [16, low, high, packets, 255, 0, 0xEF, 0]) s = .next t ∧
         t.lanes.get l = y ∧ y = { x with can := { x.can with heard := y.can.heard, ctl := y.can.ctl } } ∧
         (low.toNat + 256 * high.toNat ≤ 1785 → (x.canCtl c).SentOn (y.canCtl c) src [.tpCm [17, packets, 1, 255, 255, 0, 0xEF, 0]] ∧
           (y.canCtl c).inConns = [{ src := src, bam := false, pgn := 0xEF00, size := low.toNat + 256 * high.toNat, packets := packets.toNat }]) ∧
         (1785 < low.toNat + 256 * high.toNat → (x.canCtl c).SentOn (y.canCtl c) src [.tpCm [255, 2, 255, 255, 255, 0, 0xEF, 0]] ∧
           (y.canCtl c).inConns = [])) ∧
     ∀ (i : InConn) (d : List Byte), i.src = src → i.bam = true → (x.canCtl c).inConns = [i] →
       ((d.getD 0 0).toNat = i.got + 1 → i.got + 1 < i.packets →
         ∃ t y, exec (.transportProtocolFrame c src 255 true d) s = .next t ∧ t.lanes.get l = y ∧
           (y.canCtl c).inConns = [{ i with got := i.got + 1, data := i.data ++ slice d 1 7 }] ∧
           y = { x with can := { x.can with heard := y.can.heard, ctl := y.can.ctl } }) ∧
       ((d.getD 0 0).toNat = i.got + 1 → i.packets ≤ i.got + 1 →
         ∃ t y, exec (.transportProtocolFrame c src 255 true d) s = .next t ∧ t.lanes.get l = y ∧ (y.canCtl c).inConns = [] ∧
           (y.canCtl c).delivered = (x.canCtl c).delivered ++
             [{ src := src, pgn := i.pgn, data := (i.data ++ slice d 1 7).take i.size }]) ∧
       ((d.getD 0 0).toNat ≠ i.got + 1 →
         ∃ t y, exec (.transportProtocolFrame c src 255 true d) s = .next t ∧ t.lanes.get l = y ∧ (y.canCtl c).inConns = [] ∧
           (y.canCtl c).delivered = (x.canCtl c).delivered))

/-- The voice sends Guidance Machine Info and Wheel-Based Speed every 4,000 ticks and DM1 every 40,000, and answers a Request with the message asked for, in packets announced to all where it has more than 8 bytes; a lane that does not talk sends nothing, nor does one whose message is not due (R501, R502, R506, R508). -/
def Obligations.TheVoiceSendsAndAnswers : Prop :=
  ∀ (s : State) (l : LaneId) (x : Lane) (c : CanId), s.lane l = x →
    (x.talks c →
      ((x.canCtl c).gmiNext ≤ x.tick.count → ∃ k, (x.canCtl c).SentOn k 255 [x.gmiMsg] ∧
        exec (.guidanceMachineInfo l c) s = .next (s.withLane l (x.modCan c fun _ => k)) ∧
        k = { x.canCtl c with gmiNext := x.tick.count + 4000, sent := k.sent }) ∧
      (x.cfg.laneImageRole = 0 → (x.canCtl c).speedNext ≤ x.tick.count →
        ∃ k, (x.canCtl c).SentOn k 255 [.wheelSpeed (x.chas.speed.map fun v => absI v) (distanceMm x.can.distance)] ∧
          exec (.wheelBasedSpeed l c) s = .next (s.withLane l (x.modCan c fun _ => k)) ∧
          k = { x.canCtl c with speedNext := x.tick.count + 4000, sent := k.sent }) ∧
      ((x.canCtl c).dm1Next ≤ x.tick.count → ∃ k, (x.canCtl c).SentOn k 255 x.dm1Msg.frames ∧
        exec (.dm1 l c) s = .next (s.withLane l (x.modCan c fun _ => k)) ∧
        k = { x.canCtl c with dm1Next := x.tick.count + 40000, sent := k.sent }) ∧
      (x.onBus c → ∀ src dst, dst = 255 ∨ dst = (x.canCtl c).addr →
        ∀ q ∈ [(0xFECA, x.dm1Msg), (0xFECB, x.dm2Msg), (0xFEDA, .software x.release Config.stepping),
               (0xFDC5, .ecuIdent Config.ordering Config.serial), (0xAC00, x.gmiMsg), (0xEE00, .claim (x.ownName c))],
        ∃ t y, exec (.request c src dst q.1) s = .next t ∧ t.lanes.get l = y ∧ s.SameOutside t ∧
          (x.canCtl c).SentOn (y.canCtl c) 255 q.2.frames ∧
          y = { x with can := { x.can with heard := y.can.heard, ctl := y.can.ctl } })) ∧
    (x.talks c = false →
      exec (.guidanceMachineInfo l c) s = .next (s.withLane l x) ∧ exec (.wheelBasedSpeed l c) s = .next (s.withLane l x) ∧
      exec (.dm1 l c) s = .next (s.withLane l x)) ∧
    (x.tick.count < (x.canCtl c).gmiNext → exec (.guidanceMachineInfo l c) s = .next (s.withLane l x)) ∧
    (x.tick.count < (x.canCtl c).speedNext → exec (.wheelBasedSpeed l c) s = .next (s.withLane l x)) ∧
    (x.tick.count < (x.canCtl c).dm1Next → exec (.dm1 l c) s = .next (s.withLane l x))

/-! ## Service messages and sessions -/

/-- An OBJECT READ answers with the bytes of a status object as the lane showed it at its last close, else with the parameter as it stands, REFUSED for an object that is only written and UNKNOWN for any other; an object may be named by its ID or by its symbolic name, those with commands of their own too (JOB.RESTART, JOB[7].BLOCK, JOB[9].DATA); an OBJECT WRITE of a job parameter stores an allowed value of its type's length; a read of JOB[9].DATA gives 1,024 bytes and moves CURSOR on (R7, R26, R511, R529, R548). -/
def Obligations.ObjectsAreReadAndWritten : Prop :=
  ∀ (s : State) (l : LaneId) (x : Lane) (h : SvcHdr), s.lane l = x →
    (x.Admits h false false → ∀ o : ObjRef, o.toId ≠ 0x60090010 →
      (∀ v, (s.view.get l).statusBytes s.commons o.toId = some v ∨ (s.view.get l).statusBytes s.commons o.toId = none ∧ x.paramBytes o.toId = some v →
        ∃ t, exec (.objectRead h o) s = .next t ∧ s.Served t h l 1 0 v fun z => z) ∧
      ((s.view.get l).statusBytes s.commons o.toId = none → x.paramBytes o.toId = none →
        ∃ t, exec (.objectRead h o) s = .next t ∧
          s.Served t h l 1 (if knownObject o.toId then 4 else 1) (if knownObject o.toId then [0] else []) fun z => z)) ∧
    (∀ o : ObjRef, o.toId = 0x60090010 → exec (.objectRead h o) s = exec (.recordExportRead h) s) ∧
    (∀ (r : ObjRef) (v : Byte), r.toId = 0x60000001 → exec (.objectWrite h r [v]) s = exec (.jobRestart h v.toNat) s) ∧
    (∀ (r : ObjRef) (offset data : List Byte), r.toId = 0x60070010 → offset.length = 4 →
      exec (.objectWrite h r (offset ++ data)) s = exec (.fwBlockWrite h (leNat offset) data) s) ∧
    (x.Admits h true true → ∀ (r : ObjRef) (value : List Byte), r.toId ≠ 0x60000001 → r.toId ≠ 0x60070010 →
      (∀ o, jobObject r.toId = some (some o) → let v : Int := if o.ty.signed then toSigned (8 * o.ty.size) (leNat value) else leNat value
        (value.length = o.ty.size → o.allows v →
          ∃ t, exec (.objectWrite h r value) s = .next t ∧ s.Served t h l 2 0 [] fun z =>
            { z with job := { z.job with params := Cfg.over z.job.params [(r.toId, [v])] }
                     gat := if r.toId = 0x60090003 then { z.gat with cfg := z.gat.cfg.over [(r.toId, [v])] } else z.gat }) ∧
        (value.length ≠ o.ty.size → ∃ t, exec (.objectWrite h r value) s = .next t ∧ s.Served t h l 2 6 [] fun z => z) ∧
        (value.length = o.ty.size → o.allows v = false →
          ∃ t n, exec (.objectWrite h r value) s = .next t ∧ s.Served t h l 2 4 [n] fun z => z)) ∧
      (jobObject r.toId = some none → ∃ t, exec (.objectWrite h r value) s = .next t ∧ s.Served t h l 2 4 [0] fun z => z) ∧
      (jobObject r.toId = none →
        ∃ t, exec (.objectWrite h r value) s = .next t ∧
          s.Served t h l 2 (if knownObject r.toId then 4 else 1) (if knownObject r.toId then [0] else []) fun z => z)) ∧
    (x.Admits h false false →
      (∀ data next moved, (x.jobSt 9).state = 1 → s.commons.present → x.col.commonsUp → s.commons.export_ x = some (data, next, moved) →
        data.length = 1024 ∧ ∃ t z, exec (.recordExportRead h) s = .next t ∧ x.Took z ∧
          t.lanes.get l = (({ z with
            gat := { z.gat with cfg := z.gat.cfg.over [(0x60090003, [((next % 2 ^ 32 : Nat) : Int)])] }
            job := { z.job with params := Cfg.over z.job.params [(0x60090003, [((next % 2 ^ 32 : Nat) : Int)])] } } : Lane).touch h).respond h 1 0 data ∧
          t.commons = { s.commons with moved := t.commons.moved } ∧ (moved → t.commons.moved) ∧ t.view = s.view) ∧
      ((x.jobSt 9).state ≠ 1 →
        ∃ t z, exec (.recordExportRead h) s = .next t ∧ x.Took z ∧ t.lanes.get l = (z.touch h).respond h 1 4 [21]))

/-- In UNSEALED a SEAL CONFIRM with the image's seal writes the seal and gathers again, any other is refused with CFG-022; the health report is answered with its bytes; an ACKNOWLEDGE acknowledges the held events of its classes raised before this tick, with COL-013; JOURNAL READ gives 1 to 100 records from an index (R77, R147, R410, R511). -/
def Obligations.SealsReportsAndAcknowledgement : Prop :=
  ∀ (s : State) (l : LaneId) (x : Lane) (h : SvcHdr), s.lane l = x →
    (x.Admits h true true → ∀ w,
      (x.start.state = .unsealed → w = x.gat.sealVal →
        ∃ t, exec (.sealConfirm h w) s = .next t ∧ s.Served t h l 4 0 [] fun z =>
          { z with nvm := { z.nvm with confirmed := z.nvm.confirmed.write w }, start := { z.start with state := .gather, inState := 0 }
                   gat := { z.gat with imageState := 1, idPower := true } }) ∧
      (x.start.state ≠ .unsealed ∨ w ≠ x.gat.sealVal →
        ∃ t, exec (.sealConfirm h w) s = .next t ∧ s.Served t h l 4 4 [22] fun z => z.raiseWord .cfg022 w.toNat)) ∧
    (x.Admits h false false →
      (∃ t, exec (.healthReport h) s = .next t ∧ s.Served t h l 5 0 x.healthReport fun z => z) ∧
      ∀ first count,
        (1 ≤ count → count ≤ 100 → ∃ t, exec (.journalRead h first count) s = .next t ∧
          s.Served t h l 8 0 (((x.nvm.events.drop first).take count).flatMap Rec.bytes) fun z => z) ∧
        (count = 0 ∨ 100 < count → ∃ t, exec (.journalRead h first count) s = .next t ∧ s.Served t h l 8 4 [0] fun z => z)) ∧
    (x.Admits h true false → ∀ lanes classes,
      (h.target = 3 → lanes.testBit x.id.code →
        ∃ t, exec (.acknowledge h lanes classes) s = .next t ∧ (∃ e, s.Served t h l 6 0 [] e) ∧ (t.lanes.get l).col.slot0 = none ∧
          (t.lanes.get l).Raised .col013 (ctxOf .none classes) ∧ (t.lanes.get l).lease = x.lease ∧ (t.lanes.get l).start = x.start ∧
          ∀ r : Held, r ∈ (t.lanes.get l).col.held ↔ r.done = false ∧ ∃ q ∈ x.col.held,
            r = if classes.testBit q.r.ev.cls.code.val ∧ q.r.count ≠ x.tick.count % 2 ^ 32 then { q with acked := true } else q) ∧
      (h.target = 3 → lanes.testBit x.id.code = false →
        ∃ t, exec (.acknowledge h lanes classes) s = .next t ∧ s.Served t h l 6 0 [] fun z => z) ∧
      (h.target ≠ 3 → ∃ t, exec (.acknowledge h lanes classes) s = .next t ∧ s.Served t h l 6 4 [0] fun z => z))

/-- An image block at offset 0 erases the area that is not active and programs its bytes; a block that follows the last one programs on; any other is refused with CFG-019. A read-back that agrees makes the area pending, one that does not raises CFG-019 (R90). -/
def Obligations.ImagesAreWrittenAndVerified : Prop :=
  ∀ (s : State) (l : LaneId) (x : Lane), s.lane l = x →
    (∀ (h : SvcHdr) (offset : Nat) (last : Bool) (data : List Byte), x.Admits h true true → data ≠ [] → data.length ≤ 1776 →
      let area := 1 - (x.nvm.areas.read {}).active % 2
      let free := ¬ (x.start.state = .gather ∧ x.gat.imageState = 1) ∧ offset + data.length ≤ 0x100000
      (free → offset = 0 →
        ∃ t, exec (.imageWrite h offset last data) s = .next t ∧ (∃ e, s.Served t h l 7 0 [] e) ∧
          (t.lanes.get l).can.img = some { area := area, next := data.length, data := data, last := last } ∧
          (t.lanes.get l).nvm.flash.readList (area * 0x100000) data.length = data ∧
          (∀ a, area * 0x100000 + data.length ≤ a → a < (area + 1) * 0x100000 → (t.lanes.get l).nvm.flash.read a = 0xFF) ∧
          (∀ a, a < area * 0x100000 ∨ (area + 1) * 0x100000 ≤ a → (t.lanes.get l).nvm.flash.read a = x.nvm.flash.read a) ∧
          (t.lanes.get l).nvm = { x.nvm with flash := (t.lanes.get l).nvm.flash }) ∧
      (∀ w, free → offset ≠ 0 → x.can.img = some w → w.area = area → w.next = offset → w.last = false →
        ∃ t, exec (.imageWrite h offset last data) s = .next t ∧ s.Served t h l 7 0 [] fun z =>
          { z with nvm := { z.nvm with flash := x.nvm.flash.program (area * 0x100000 + offset) data }
                   can := { z.can with img := some { area := area, next := offset + data.length, data := w.data ++ data, last := last } } }) ∧
      ((¬ free ∨ offset ≠ 0 ∧ ∀ w, x.can.img = some w → w.area ≠ area ∨ w.next ≠ offset ∨ w.last) →
        ∃ t, exec (.imageWrite h offset last data) s = .next t ∧ s.Served t h l 7 4 [19] fun z =>
          ({ z with can := { z.can with img := none } } : Lane).raiseWord .cfg019 area)) ∧
    ∀ (w : ImgWrite) (ok : Bool), x.can.img = some w →
      (w.last → ok → x.nvm.flash.readList (w.area * 0x100000) w.data.length = w.data →
        exec (.imageWriteVerify l ok) s = .next (s.withLane l { x with
          can := { x.can with img := none }
          nvm := { x.nvm with areas := x.nvm.areas.write { x.nvm.areas.read {} with pending := true } } })) ∧
      (w.last → (ok = false ∨ x.nvm.flash.readList (w.area * 0x100000) w.data.length ≠ w.data) →
        exec (.imageWriteVerify l ok) s =
          .next (s.withLane l (({ x with can := { x.can with img := none } } : Lane).raiseWord .cfg019 w.area))) ∧
      (w.last = false → exec (.imageWriteVerify l ok) s = .next (s.withLane l x))

/-- The voice answers a challenge request with 16 bytes drawn anew, LOCKED in a lockout and BUSY while another address holds the session; the right response within 40,000 ticks opens the session, the third wrong one in a row locks for 400,000 ticks with NET-005; a session ends by CLOSE and by its idle time; KEY CHANGE gives the key the data unmask (R513, R514, R515). -/
def Obligations.SessionsAreOpenedAndEnd : Prop :=
  ∀ (s : State) (l : LaneId) (x : Lane) (h : SvcHdr), s.lane l = x →
    (x.onBus h.can → x.isobus h.can → h.dst = (x.canCtl h.can).addr → x.can.voice →
      (x.can.locked = none → (∀ q, x.can.session = some q → q.src = h.src) →
        (drawChallenge x.can.draws).length = 16 ∧ ∃ t z, exec (.sessionChallenge h) s = .next t ∧ x.Took z ∧ s.SameOutside t ∧
          t.lanes.get l = ({ z with can := { z.can with
              draws := x.can.draws + 1, session := none
              chal := some { src := h.src, bytes := drawChallenge x.can.draws, at_ := x.tick.count } } } : Lane).respond h 0x10 0
            (drawChallenge x.can.draws)) ∧
      ((x.can.locked.isSome ∨ ∃ q, x.can.session = some q ∧ q.src ≠ h.src) →
        ∃ t z, exec (.sessionChallenge h) s = .next t ∧ x.Took z ∧ s.SameOutside t ∧
          t.lanes.get l = z.respond h 0x10 (if x.can.locked.isSome then 8 else 5) [])) ∧
    (x.Admits h false false → ∀ resp : List Byte, resp.length = 16 →
      (∀ c, x.can.chal = some c → c.src = h.src → c.used = false → x.tick.count < c.at_ + 40000 →
        (resp = x.macOf c (x.ownName h.can) →
          ∃ t, exec (.sessionResponse h resp) s = .next t ∧ s.Served t h l 0x11 0 [] fun z =>
            { z with can := { z.can with
                chal := some { c with used := true }, wrong := 0
                session := some { src := h.src, name := getNode h.src (z.canCtl h.can).names, challenge := c.bytes } } }) ∧
        (resp ≠ x.macOf c (x.ownName h.can) → x.can.wrong < 2 →
          ∃ t, exec (.sessionResponse h resp) s = .next t ∧ s.Served t h l 0x11 4 [byteOf (x.can.wrong + 1)] fun z =>
            { z with can := { z.can with chal := some { c with used := true }, wrong := x.can.wrong + 1 } }) ∧
        (resp ≠ x.macOf c (x.ownName h.can) → 2 ≤ x.can.wrong →
          ∃ t, exec (.sessionResponse h resp) s = .next t ∧ s.Served t h l 0x11 8 [] fun z =>
            ({ z with can := { z.can with
                chal := some { c with used := true }, wrong := 0, locked := some x.tick.count } } : Lane).raise .net005 .none h.src)) ∧
      ((∀ c, x.can.chal = some c → c.src ≠ h.src ∨ c.used ∨ c.at_ + 40000 ≤ x.tick.count) →
        ∃ t, exec (.sessionResponse h resp) s = .next t ∧ s.Served t h l 0x11 2 [] fun z => z)) ∧
    (x.Admits h true false →
      ∃ t, exec (.sessionClose h) s = .next t ∧ s.Served t h l 0x12 0 [] fun z => { z with can := { z.can with session := none } }) ∧
    (x.Admits h true true → ∀ (data : List Byte) (q : Session), x.can.session = some q →
      (data.length = 32 →
        ∃ t, exec (.keyChange h data) s = .next t ∧ s.Served t h l 0x13 0 [] fun z => { z with nvm := { z.nvm with
          key := z.nvm.key.write (List.zipWith (fun (a b : Byte) => a ^^^ b) data (hmacSha256 x.sessionKey (q.challenge ++ [0x4B]))) } }) ∧
      (data.length ≠ 32 → ∃ t, exec (.keyChange h data) s = .next t ∧ s.Served t h l 0x13 6 [] fun z => z)) ∧
    (∀ c, x.can.chal = some c → exec (.challengeExpiry l) s = .next (s.withLane l
      (if c.at_ + 40000 ≤ x.tick.count then { x with can := { x.can with chal := none } } else x))) ∧
    (∀ q, x.can.session = some q → exec (.sessionIdleTimeout l) s = .next (s.withLane l
      (if x.cfg.laneSessionIdle ≤ q.idle then { x with can := { x.can with session := none } } else x))) ∧
    ∀ at_, x.can.locked = some at_ → exec (.lockoutEnd l) s = .next (s.withLane l
      (if at_ + 400000 ≤ x.tick.count then { x with can := { x.can with locked := none } } else x))

/-- A request that needs a session is answered with NO SESSION outside one and one that needs WORKSHOP with NO WORKSHOP without it, neither with any effect; the voice answers BUSY for a lane whose response has not come within 402 ticks (R512, R514, R517). -/
def Obligations.RequestsNeedSessionAndWorkshop : Prop :=
  ∀ (s : State) (l : LaneId) (x : Lane), s.lane l = x →
    (∀ (h : SvcHdr) (c : Instr) (code : Nat),
      ((∃ w, c = .sealConfirm h w) ∧ code = 4 ∨ (∃ o b d, c = .imageWrite h o b d) ∧ code = 7 ∨ (∃ d, c = .keyChange h d) ∧ code = 0x13 ∨
        (∃ i v, c = .objectWrite h i v) ∧ code = 2 ∨ (∃ o d, c = .fwBlockWrite h o d) ∧ code = 2 ∨ (∃ v, c = .jobRestart h v) ∧ code = 2 ∨
        (∃ j, c = .jobSuspend h j ∨ c = .jobResume h j ∨ c = .jobCancel h j) ∧ code = 3) →
      (x.Admits h false false → x.inSession h = false →
        ∃ t, exec c s = .next t ∧ s.Served t h l code 2 [] fun z => z) ∧
      (x.Admits h true false → x.start.workshop = false →
        ∃ t, exec c s = .next t ∧ s.Served t h l code 3 [] fun z => z)) ∧
    ∃ y, exec (.serviceResponseTimeout l) s = .next (s.withLane l y) ∧
      y.can.waits = x.can.waits.filter (fun w => decide (x.tick.count < w.at_ + 402)) ∧
      y = { x with can := { x.can with waits := y.can.waits, ctl := y.can.ctl } } ∧
      ∀ w, x.can.waits = [w] → w.at_ + 402 ≤ x.tick.count →
        y = ({ x with can := { x.can with waits := [] } } : Lane).sendService w.h.can w.h.src
          [byteOf (w.code + 128), byteOf (w.lane.code % 4 + 4 * (w.h.tag % 64)), 5, 0]

/-! ## Jobs -/

/-- START of an allowed job gives RUNNING with cause 0 and answers with it, and a job that may not start is refused with its cause; SUSPEND, RESUME and CANCEL take a job from the states of Table 20.2 to SUSPENDING, RESUMING and CANCELLING and are refused with 21 in any other; STATUS answers state and cause, and a job number outside 1 to 9 is UNKNOWN (R511, R525, R526). -/
def Obligations.JobCommandsChangeTheState : Prop :=
  ∀ (s : State) (l : LaneId) (x : Lane) (h : SvcHdr) (j : Nat), s.lane l = x → 1 ≤ j → j ≤ 9 →
    let answered (c : Instr) (st cause : Nat) : Prop :=
      ∃ t, exec c s = .next t ∧ (∃ e, s.Served t h l 3 0 [byteOf st, byteOf cause] e) ∧
        (t.lanes.get l).jobSt j = { x.jobSt j with state := st, cause := cause } ∧
        (∀ k, k ≠ j → (t.lanes.get l).jobSt k = x.jobSt k) ∧ (t.lanes.get l).job.run = x.job.run
    let refusedWith (c : Instr) (cause : Nat) : Prop := ∃ t, exec c s = .next t ∧ s.Served t h l 3 4 [byteOf cause] fun z => z
    (x.Admits h true true →
      (∀ axis, (x.takeParams j).startRefusal j axis (h.target == 3) false = none →
        ∃ t z, exec (.jobStart h j axis) s = .next t ∧ x.Took z ∧ (t.lanes.get l).jobSt j = { state := 1, cause := 0, ticks := 0 } ∧
          (∀ k, k ≠ j → (t.lanes.get l).jobSt k = x.jobSt k) ∧
          (t.lanes.get l).job.run = (if j = 9 then x.job.run else some j) ∧
          t.lanes.get l = ((((z.takeParams j).startJob j axis).touch h).respond h 3 0 [1, 0]) ∧
          t = { s with lanes := t.lanes, commons := { s.commons with exporting := t.commons.exporting } }) ∧
      (∀ axis c, (x.takeParams j).startRefusal j axis (h.target == 3) false = some c →
        ∃ t, exec (.jobStart h j axis) s = .next t ∧ t.view = s.view ∧ t.pending = s.pending ∧
          (t.lanes.get l).job = { x.job with
            refused := if x.start.state = .operate ∧ j ≠ 9 ∧ x.subjectAbsent j axis = false then some j else x.job.refused } ∧
          (∃ z : Lane, z = { x with can := z.can, job := (t.lanes.get l).job } ∧ t.lanes.get l = (z.touch h).respond h 3 4 [byteOf c])) ∧
      ((x.jobSt j).state = 1 → ∃ cause, answered (.jobSuspend h j) 2 cause) ∧
      ((x.jobSt j).state ≠ 1 → refusedWith (.jobSuspend h j) 21) ∧
      ((x.jobSt j).state = 3 → x.startRefusal j (if j = 9 then 0xFF else x.job.axis) true true = none →
        (j = 1 ∨ j = 2 → x.noChatter) → (j = 7 → x.job.fw.stand → x.standReady) → answered (.jobResume h j) 4 0) ∧
      (∀ c, (x.jobSt j).state = 3 → x.startRefusal j (if j = 9 then 0xFF else x.job.axis) true true = some c → refusedWith (.jobResume h j) c) ∧
      ((x.jobSt j).state = 3 → x.startRefusal j (if j = 9 then 0xFF else x.job.axis) true true = none →
        (j = 1 ∨ j = 2) ∧ x.noChatter = false ∨ j = 7 ∧ x.job.fw.stand ∧ x.standReady = false → refusedWith (.jobResume h j) 21) ∧
      ((x.jobSt j).state ≠ 3 → refusedWith (.jobResume h j) 21) ∧
      (1 ≤ (x.jobSt j).state → (x.jobSt j).state ≤ 4 → answered (.jobCancel h j) 5 11) ∧
      ((x.jobSt j).state = 0 ∨ 4 < (x.jobSt j).state → refusedWith (.jobCancel h j) 21)) ∧
    (x.Admits h false false →
      (∃ t, exec (.jobStatus h j) s = .next t ∧
        s.Served t h l 3 0 [byteOf (x.jobSt j).state, byteOf (x.jobSt j).cause] fun z => z) ∧
      ∀ k, k = 0 ∨ 9 < k → ∃ t, exec (.jobStatus h k) s = .next t ∧ s.Served t h l 3 1 [] fun z => z)

/-- A write of 1 to JOB.RESTART lets a lane in OPERATE yield and stop at FULL alone, and any other lane restart at its close; a STOPPED lane restarts once its last counter is zero (R554). A tag write that agrees on reading back is kept and the next begins, one that does not fails the job with 7 (R113, R535). In the tick after every lane is known to have written its tag the origin moves by C, the set-point is re-expressed with the C of the lane that commands the axis, and CENTRE_FIND is DONE (R222, R204). -/
def Obligations.RestartsAndTagWritesComplete : Prop :=
  ∀ (s : State) (l : LaneId) (x : Lane), s.lane l = x →
    (∀ h : SvcHdr, x.Admits h true true →
      (x.start.state = .operate → x.service = 3 →
        ∃ t, exec (.jobRestart h 1) s = .next t ∧ s.Served t h l 2 0 [] fun z =>
          { z with lease := { z.lease with yieldPlan := x.held.map (·.val), rotating := false, stopping := true }
                   start := { z.start with restart := true } }) ∧
      (x.start.state = .operate → x.service < 3 → ∃ t, exec (.jobRestart h 1) s = .next t ∧ s.Served t h l 2 4 [10] fun z => z) ∧
      (x.start.state ≠ .operate →
        ∃ t, exec (.jobRestart h 1) s = .next t ∧ s.Served t h l 2 0 [] fun z => { z with start := { z.start with restartNow := true } }) ∧
      ∀ v, v ≠ 1 → ∃ t c, exec (.jobRestart h v) s = .next t ∧ s.Served t h l 2 4 [c] fun z => z) ∧
    (x.start.state = .stopped → x.start.restart →
      ((∀ n, (x.ax n).counter = 0) →
        (x.job.fw.switching = false → x.job.rg.switching = false →
          ∃ y, exec (.laneRestartAfterYield l) s = .next (s.withLane l y) ∧ x.Restarted y .laneRestart) ∧
        (x.job.run = some 7 → (x.jobSt 7).busy → x.job.fw.switching → x.job.fw.switched = false →
          ∃ y, exec (.laneRestartAfterYield l) s = .next (s.withLane l y) ∧ y.slotRec.slot = 1 - x.start.slot % 2 ∧
            y.slotRec.oldSlot = some (x.start.slot % 2) ∧
            Lane.Restarted { x with nvm := { x.nvm with slotRec := y.nvm.slotRec } } y .laneRestart)) ∧
      ((∃ n, (x.ax n).counter ≠ 0) → exec (.laneRestartAfterYield l) s = .next (s.withLane l x))) ∧
    (∀ j w ws, x.job.run = some j → x.job.writes = w :: ws →
      (∃ y, exec (.tagWriteDone l true) s = .next (s.withLane l y) ∧
        y = { x with gat := y.gat, nvm := { x.nvm with cals := y.nvm.cals }
                     job := { x.job with writes := ws, written := ws.isEmpty, writtenAt := x.tick.count, toldAt := none } } ∧
        ∀ tag, x.tagOfOwner w.owner = some tag → w.data.length = 96 → 96 ≤ tag.length →
          y.tagOfOwner w.owner = some (tag.take 96 ++ w.data) ∧
          ∃ c ∈ y.nvm.cals, c.read? = some { key := slice tag 4 23, data := w.data }) ∧
      (1 ≤ j → j ≤ 9 → (x.jobSt j).busy →
        ∃ y, exec (.tagWriteDone l false) s = .next (s.withLane l y) ∧ y.jobSt j = { x.jobSt j with state := 7, cause := 7 } ∧
          y.job.run = none ∧ y.job.writes = [] ∧ y.gat = { x.gat with idPower := false } ∧ y.nvm.cals = x.nvm.cals ∧
          ∃ r ∈ y.col.raised, (j = 1 → r.ev = .job020 ∧ r.subj = .axis x.job.axis) ∧ (j ≠ 1 → r.ev = .job001 ∧ r.subj = .job j))) ∧
    ∀ (n : AxisId) (c : Int), x.job.run = some 1 → x.job.axis = n.val → (x.jobSt 1).state = 1 → x.job.cf.phase = 6 → x.job.cf.c = some c →
      (x.job.written → x.job.writtenAt < x.tick.count → x.jobPeers 1 = [] ∨ (∃ k, x.job.toldAt = some k ∧ k < x.tick.count) →
        (∀ p ∈ x.jobPeers 1, p.2.part ∧ p.2.partAt < x.tick.count) →
        ∃ y, exec (.centreOriginShift l) s = .next (s.withLane l y) ∧
          (y.prof.get n).origin = (x.prof.get n).origin + c * 65536 ∧ (y.sup.get n).b = (x.sup.get n).b - fx (x.holderC n c) ∧
          (y.sup.get n).d = (x.sup.get n).d - fx (x.holderC n c) ∧ y.jobSt 1 = { x.jobSt 1 with state := 6, cause := 0 } ∧ y.job.run = none ∧
          (∃ r ∈ y.col.raised, r.ev = .job003 ∧ r.subj = .job 1) ∧
          (∀ i : Fin 16, x.cfg.feedbackMode i.val = 1 → i.val < 4 → x.cfg.owns n.val i.val → (y.fbk.get i).uncert = 0) ∧ ∀ m, m ≠ n → y.prof.get m = x.prof.get m ∧ y.sup.get m = x.sup.get m) ∧
      (x.job.written = false ∨ x.tick.count ≤ x.job.writtenAt ∨ (∃ p ∈ x.jobPeers 1, p.2.part = false ∨ x.job.toldAt = none) → exec (.centreOriginShift l) s = .next (s.withLane l x))

/-- END_LEARN records each end once the speed has been 0 for 400 ticks and fails with 19 where they do not exceed STEER.ANGLE.MAX; PEDAL_LEARN ends with PEDAL.TIME and fails with 19 on a span below 1.0 V; VALVE_CHAR records a point and goes on; BRIDGE_TEST takes the negated angle after 4,000 ticks; ROTATE_TEST hands over every 40,000 ticks and ends where it began (R530 to R534). -/
def Obligations.MeasuringJobsTakeTheirSteps : Prop :=
  ∀ (s : State) (l : LaneId) (x : Lane) (n : AxisId), s.lane l = x → x.job.axis = n.val →
    (x.job.run = some 2 → (x.jobSt 2).state = 1 → 400 ≤ x.job.el.zero →
      (x.job.el.stage = 1 →
        exec (.endStopFound l) s = .next (s.withLane l { x with job := { x.job with el :=
          { x.job.el with neg := roundDiv (x.measured n) 65536, stage := 2, asked := false, zero := 0 } } })) ∧
      (x.job.el.stage = 2 → x.job.el.neg < -(x.cfg.steerAngleMax : Int) → (x.cfg.steerAngleMax : Int) < roundDiv (x.measured n) 65536 →
        exec (.endStopFound l) s = .next (s.withLane l { x with job := { x.job with el :=
          { x.job.el with pos := roundDiv (x.measured n) 65536, stage := 3, asked := false, zero := 0 } } })) ∧
      (x.job.el.stage = 2 → -(x.cfg.steerAngleMax : Int) ≤ x.job.el.neg ∨ roundDiv (x.measured n) 65536 ≤ (x.cfg.steerAngleMax : Int) →
        ∃ y, exec (.endStopFound l) s = .next (s.withLane l y) ∧ y.jobSt 2 = { x.jobSt 2 with state := 7, cause := 19 } ∧ y.job.run = none)) ∧
    (x.job.el.zero < 400 → exec (.endStopFound l) s = .next (s.withLane l x)) ∧
    (∀ a1 b1 a2 b2, x.job.run = some 3 → (x.jobSt 3).state = 1 → x.job.pl.writing = false →
      x.job.pl.r1 = some (a1, b1) → x.job.pl.r2 = some (a2, b2) →
      (x.cfg.jobPedalTime ≤ x.job.pl.ticks → 65536 ≤ b1 - a1 → 65536 ≤ b2 - a2 →
        let w1 := x.tagWrite 3 (.inr 1) [(104, i32Bytes a1), (108, i32Bytes b1)]
        let w2 := x.tagWrite 3 (.inr 2) [(104, i32Bytes a2), (108, i32Bytes b2)]
        (∀ u v, w1 = some u → w2 = some v → exec (.pedalLearnEnd l) s = .next (s.withLane l { x with
          job := { x.job with pl := { x.job.pl with writing := true }, writes := [u, v], written := false }
          gat := { x.gat with idPower := true } })) ∧
        (w1 = none ∨ w2 = none →
          ∃ y, exec (.pedalLearnEnd l) s = .next (s.withLane l y) ∧ y.jobSt 3 = { x.jobSt 3 with state := 7, cause := 7 } ∧ y.job.run = none)) ∧
      (x.cfg.jobPedalTime ≤ x.job.pl.ticks → b1 - a1 < 65536 ∨ b2 - a2 < 65536 →
        ∃ y, exec (.pedalLearnEnd l) s = .next (s.withLane l y) ∧ y.jobSt 3 = { x.jobSt 3 with state := 7, cause := 19 } ∧ y.job.run = none) ∧
      (x.job.pl.ticks < x.cfg.jobPedalTime → exec (.pedalLearnEnd l) s = .next (s.withLane l x))) ∧
    (x.job.run = some 4 → (x.jobSt 4).state = 1 → x.job.vc.done = false → x.commands n →
      (x.cfg.jobValveSettle ≤ x.job.vc.ticks → x.job.vc.k + 1 < x.cfg.jobValvePoints →
        ∃ y p, exec (.valveStepSettled l) s = .next (s.withLane l y) ∧ p.1 = x.pressure n.val ∧ x.valveJob n = some p.2 ∧
          y = { x with job := { x.job with vc := { x.job.vc with k := x.job.vc.k + 1, ticks := 0, pts := x.job.vc.pts ++ [p] } } }) ∧
      (x.cfg.jobValveSettle ≤ x.job.vc.ticks → x.cfg.jobValvePoints ≤ x.job.vc.k + 1 → x.job.vc.pts ≠ [] →
        (∀ p ∈ x.job.vc.pts, x.pressure n.val ≤ p.1 ∧ 65536 < p.1) →
        ∃ y, exec (.valveStepSettled l) s = .next (s.withLane l y) ∧ y.jobSt 4 = { x.jobSt 4 with state := 7, cause := 19 } ∧ y.job.run = none) ∧
      (∀ pts, x.cfg.jobValveSettle ≤ x.job.vc.ticks → x.cfg.jobValvePoints ≤ x.job.vc.k + 1 →
        pts = x.job.vc.pts ++ [(x.pressure n.val, (x.valveJob n).getD 0)] → pressuresAscend (pts.map (·.1)) →
        ∀ w fields, x.tagWrite 4 (.inl (n.val, 0)) ((104, [byteOf pts.length]) :: fields) = some w →
          fields = (List.range pts.length).map (fun i => (106 + 8 * i, i32Bytes (pts.getD i (0, 0)).1 ++ i32Bytes (pts.getD i (0, 0)).2)) →
          exec (.valveStepSettled l) s = .next (s.withLane l { x with
            job := { x.job with vc := { x.job.vc with pts := pts, done := true }, writes := [w], written := false }
            gat := { x.gat with idPower := true } })) ∧
      (x.job.vc.ticks < x.cfg.jobValveSettle → exec (.valveStepSettled l) s = .next (s.withLane l x))) ∧
    (x.job.run = some 5 → (x.jobSt 5).state = 1 → x.job.bt.stage = 2 →
      (4000 ≤ x.job.bt.ticks → let off := toField 16 ((x.cfg.axisCommOffset n.val : Int) - (x.sensorAngle n).1)
        let w := x.tagWrite 5 (.inl (n.val, 0)) [(104, beBytes 2 off), (106, [byteOf x.job.bt.mask])]
        (∀ u, w = some u → exec (.bridgeAlignEnd l) s = .next (s.withLane l { x with
          job := { x.job with bt := { x.job.bt with stage := 3, offset := off }, writes := [u], written := false }
          gat := { x.gat with idPower := true } })) ∧
        (w = none →
          ∃ y, exec (.bridgeAlignEnd l) s = .next (s.withLane l y) ∧ y.jobSt 5 = { x.jobSt 5 with state := 7, cause := 7 } ∧ y.job.run = none)) ∧
      (x.job.bt.ticks < 4000 → exec (.bridgeAlignEnd l) s = .next (s.withLane l x))) ∧
    (x.job.run = some 6 → (x.jobSt 6).state = 1 → x.job.rt.due = false → 40000 ≤ x.job.rt.held →
      (x.job.rt.moves < 3 →
        exec (.rotateTestHoldEnd l) s = .next (s.withLane l { x with job := { x.job with rt := { x.job.rt with due := true } } })) ∧
      (3 ≤ x.job.rt.moves → x.job.rt.seen ≠ x.job.rt.orig →
        ∃ y, exec (.rotateTestHoldEnd l) s = .next (s.withLane l y) ∧ y.jobSt 6 = { x.jobSt 6 with state := 7, cause := 19 } ∧ y.job.run = none) ∧
      (∀ i m rest, 3 ≤ x.job.rt.moves → x.job.rt.seen = x.job.rt.orig → x.job.rt.axes = i :: m :: rest →
        exec (.rotateTestHoldEnd l) s = .next (s.withLane l { x with job := { x.job with rt := { axes := m :: rest, due := true } } })) ∧
      (∀ i, 3 ≤ x.job.rt.moves → x.job.rt.seen = x.job.rt.orig → x.job.rt.axes = [i] →
        ∃ y, exec (.rotateTestHoldEnd l) s = .next (s.withLane l y) ∧ y.jobSt 6 = { x.jobSt 6 with state := 6, cause := 0 } ∧ y.job.run = none))

/-- FW_LOAD stages the blocks written in order into the slot that is not running, notes the package once the signature over its bytes holds and fails with cause 14 where it does not, and switches lane by lane at FULL, or at the standstill boundary: the restart records the new slot with the old one as checkpoint, and a switch not made in time or joined in time goes back to it with JOB-010. REGATHER switches at FULL in the order of the mask, back in the reverse order, and rolls back with cause 17 after 24,000,000 ticks (R536, R537, R539, R540, R541, R543, R545). -/
def Obligations.PackagesAndImagesSwitchLaneByLane : Prop :=
  ∀ (s : State) (l : LaneId) (x : Lane), s.lane l = x →
    (∀ (h : SvcHdr) (data : List Byte), x.Admits h true true → h.target = 3 → x.staging → x.cfg.jobSource = 0 → data ≠ [] →
      data.length ≤ 1773 →
      (x.job.fw.next + data.length ≤ slotSize → x.job.fw.next ≠ 0 →
        ∃ t, exec (.fwBlockWrite h x.job.fw.next data) s = .next t ∧ (∃ e, s.Served t h l 2 0 [] e) ∧
          ((t.lanes.get l).slotMem (1 - x.start.slot % 2)).readList x.job.fw.next data.length = data ∧
          (t.lanes.get l).slotMem (x.start.slot % 2) = x.slotMem (x.start.slot % 2) ∧
          (t.lanes.get l).job.fw.next = x.job.fw.next + data.length ∧ (t.lanes.get l).job.fw.passed = false) ∧
      ∀ offset, offset ≠ 0 → offset ≠ x.job.fw.next →
        ∃ t, exec (.fwBlockWrite h offset data) s = .next t ∧ s.Served t h l 2 4 [21] fun z => z) ∧
    (x.job.run = some 7 → (x.jobSt 7).busy → x.job.fw.complete → x.job.fw.passed = false →
      (packageValid x.nvm.bootKey (x.slotMem x.otherSlot) → ∀ ok,
        ∃ y, exec (.stagedSignatureCheck l ok) s = .next (s.withLane l y) ∧ y.job.fw = { x.job.fw with passed := true } ∧
        y.slotRec = { x.slotRec with staged := packageRelease (x.slotMem x.otherSlot), stagedProto := packageLevel (x.slotMem x.otherSlot) } ∧
        y = { x with nvm := { x.nvm with slotRec := y.nvm.slotRec }, job := { x.job with fw := y.job.fw } }) ∧
      (packageValid x.nvm.bootKey (x.slotMem x.otherSlot) = false → ∀ ok,
        ∃ y, exec (.stagedSignatureCheck l ok) s = .next (s.withLane l y) ∧ y.jobSt 7 = { x.jobSt 7 with state := 7, cause := 14 } ∧
        y.job.run = none)) ∧
    (x.job.run = some 7 → (x.jobSt 7).state = 1 → x.job.fw.switching = false → x.job.fw.switched = false → x.job.fw.stand = false →
      (x.allPassed → x.start.state = .operate → x.service = 3 → x.legsOnAll → (x.fwOrder.find? fun z => !x.fwSwitched z) = some x.id →
        exec (.fwLaneSwitch l) s = .next (s.withLane l { x with
          job := { x.job with fw := { x.job.fw with switching := true } }
          lease := { x.lease with yieldPlan := x.held.map (·.val), rotating := false, stopping := true }
          start := { x.start with restart := true } })) ∧
      (x.allPassed → x.start.state = .unsealed →
        ∃ y, exec (.fwLaneSwitch l) s = .next (s.withLane l y) ∧
          y.slotRec = { x.slotRec with slot := 1 - x.start.slot % 2, oldSlot := some (x.start.slot % 2), order := x.cfg.jobOrder
                                       joinMax := x.cfg.jobJoinmax } ∧
          Lane.Restarted { x with nvm := { x.nvm with slotRec := y.nvm.slotRec } } y .laneRestart) ∧
      (x.allPassed = false → exec (.fwLaneSwitch l) s = .next (s.withLane l x))) ∧
    (∀ b, x.job.run = some 7 → (x.jobSt 7).state = 1 → x.start.state = .operate → x.job.fw.switched = false → x.job.fw.standAt = some b →
      (b ≤ x.tick.count + 1 →
        ∃ y, exec (.standstillSwitch l) s = .next (s.withLane l y) ∧ y.slotRec.slot = 1 - x.start.slot % 2 ∧
          y.slotRec.oldSlot = some (x.start.slot % 2) ∧
          Lane.Restarted { x with nvm := { x.nvm with slotRec := y.nvm.slotRec } } y .laneRestart) ∧
      (x.tick.count + 1 < b → exec (.standstillSwitch l) s = .next (s.withLane l x))) ∧
    (∀ o, x.job.run = some 7 → (x.jobSt 7).busy → x.slotRec.oldSlot = some o →
      let back (y : Lane) (cause : Nat) : Prop :=
        y.slotRec.slot = o ∧ y.slotRec.oldSlot = none ∧ y.jobSt 7 = { x.jobSt 7 with state := 7, cause := cause } ∧ y.job.run = none ∧
        (∃ r ∈ y.col.raised, r.ev = .job010) ∧ (x.start.state = .operate → y.start.restart) ∧ (x.start.state ≠ .operate → y.start.restartNow)
      (x.job.fw.switched = false → x.start.booted → x.slotRec.joinMax ≤ x.start.ticks →
        ∃ y, exec (.fwJoinTimeout l) s = .next (s.withLane l y) ∧ back y 16) ∧
      (x.start.ticks < x.slotRec.joinMax → exec (.fwJoinTimeout l) s = .next (s.withLane l x)) ∧
      (∀ k, x.job.fw.stand → x.job.fw.sinceFirst = some k → 24000000 ≤ k →
        ∃ y, exec (.fwSwitchTimeout l) s = .next (s.withLane l y) ∧ back y 17) ∧
      (x.job.fw.stand = false → exec (.fwSwitchTimeout l) s = .next (s.withLane l x))) ∧
    (x.job.run = some 8 →
      (x.job.rg.switching = false → x.job.rg.back = none → x.start.state = .operate → x.service = 3 → (x.jobSt 8).state = 1 →
        (x.rgOrder.find? fun z => !x.rgSwitched z) = some x.id →
        exec (.regatherSwitch l) s = .next (s.withLane l { x with
          job := { x.job with rg := { x.job.rg with switching := true } }
          lease := { x.lease with yieldPlan := x.held.map (·.val), rotating := false, stopping := true }
          start := { x.start with restart := true } })) ∧
      (∀ c, x.job.rg.switching = false → x.job.rg.back = some c → x.start.state = .operate → x.service = 3 →
        (x.rgOrder.reverse.find? x.rgSwitched) = some x.id →
        exec (.regatherSwitch l) s = .next (s.withLane l { x with
          job := { x.job with rg := { x.job.rg with switching := true } }
          lease := { x.lease with yieldPlan := x.held.map (·.val), rotating := false, stopping := true }
          start := { x.start with restart := true } })) ∧
      (x.service ≠ 3 → exec (.regatherSwitch l) s = .next (s.withLane l x)) ∧
      ((x.jobSt 8).busy → 24000000 ≤ x.job.rg.ticks → x.job.rg.back = none →
        ∃ y, exec (.regatherTimeout l) s = .next (s.withLane l y) ∧ y.job.rg = { x.job.rg with back := some 17 } ∧
          y.jobSt 8 = { x.jobSt 8 with state := 5, cause := 17 } ∧ y = { x with job := y.job, nvm := { x.nvm with job := y.nvm.job } }) ∧
      (x.job.rg.ticks < 24000000 → exec (.regatherTimeout l) s = .next (s.withLane l x)))

end
end

