-- ==== Sys2Proof/Laws/State.lean ====
section
/-! SUPPORT. What each update of the state leaves and what it writes: one lemma per field per update. -/

namespace Sys2Proof

/-! ## One value per lane, tables -/

theorem PerLane.get_set {α : Type} (p : PerLane α) (x y : LaneId) (v : α) : (p.set x v).get y = if y = x then v else p.get y := by
  cases x <;> cases y <;> rfl

@[simp] theorem PerLane.get_set_self {α : Type} (p : PerLane α) (x : LaneId) (v : α) : (p.set x v).get x = v := by cases x <;> rfl

@[simp] theorem PerLane.get_set_ne {α : Type} (p : PerLane α) {x y : LaneId} (v : α) (h : y ≠ x) : (p.set x v).get y = p.get y := by
  rw [PerLane.get_set, if_neg h]

@[simp] theorem PerLane.set_get {α : Type} (p : PerLane α) (x : LaneId) : p.set x (p.get x) = p := by cases x <;> rfl

@[simp] theorem PerLane.set_set {α : Type} (p : PerLane α) (x : LaneId) (v w : α) : (p.set x v).set x w = p.set x w := by cases x <;> rfl

@[simp] theorem PerLane.get_mapL {α β : Type} (p : PerLane α) (f : LaneId → α → β) (x : LaneId) : (p.mapL f).get x = f x (p.get x) := by
  cases x <;> rfl

@[simp] theorem PerLane.get_fill {α : Type} (v : α) (x : LaneId) : (PerLane.fill v).get x = v := by cases x <;> rfl

theorem PerLane.ext_get {α : Type} {p q : PerLane α} (h : ∀ x, p.get x = q.get x) : p = q := by
  cases p
  cases q
  have ha := h .a
  have hb := h .b
  have hc := h .c
  simp only [PerLane.get] at ha hb hc
  rw [ha, hb, hc]

theorem Tab.ext_get {n : Nat} {α : Type} {t u : Tab n α} (h : ∀ i, t.get i = u.get i) : t = u := by
  cases t with
  | mk xs hx =>
    cases u with
    | mk ys hy =>
      have : xs = ys := List.ext_getElem (by rw [hx, hy]) fun i hi _ => h ⟨i, hx ▸ hi⟩
      subst this
      rfl

theorem Tab.get_set {n : Nat} {α : Type} (t : Tab n α) (i j : Fin n) (v : α) : (t.set i v).get j = if j = i then v else t.get j := by
  simp only [Tab.get, Tab.set, List.getElem_set, Fin.ext_iff]
  split <;> split <;> first | rfl | omega

@[simp] theorem Tab.get_set_self {n : Nat} {α : Type} (t : Tab n α) (i : Fin n) (v : α) : (t.set i v).get i = v := by
  rw [Tab.get_set, if_pos rfl]

@[simp] theorem Tab.get_set_ne {n : Nat} {α : Type} (t : Tab n α) {i j : Fin n} (v : α) (h : j ≠ i) : (t.set i v).get j = t.get j := by
  rw [Tab.get_set, if_neg h]

@[simp] theorem Tab.get_modify_self {n : Nat} {α : Type} (t : Tab n α) (i : Fin n) (f : α → α) : (t.modify i f).get i = f (t.get i) := by
  simp [Tab.modify]

@[simp] theorem Tab.get_modify_ne {n : Nat} {α : Type} (t : Tab n α) {i j : Fin n} (f : α → α) (h : j ≠ i) :
    (t.modify i f).get j = t.get j := by
  simp [Tab.modify, h]

@[simp] theorem Tab.get_ofFn {n : Nat} {α : Type} (f : Fin n → α) (i : Fin n) : (Tab.ofFn f).get i = f i := by
  simp [Tab.get, Tab.ofFn]

@[simp] theorem Tab.get_mapFin {n : Nat} {α β : Type} (t : Tab n α) (f : Fin n → α → β) (i : Fin n) : (t.mapFin f).get i = f i (t.get i) := by
  simp [Tab.mapFin]

@[simp] theorem Tab.get_fill {n : Nat} {α : Type} (v : α) (i : Fin n) : (Tab.fill n v).get i = v := by
  simp [Tab.get, Tab.fill]

end Sys2Proof

namespace Sys2Proof.Machine

/-! ## The updates of a lane -/

@[simp] theorem Lane.bump_id (x : Lane) : (x.bump).id = x.id := rfl
@[simp] theorem Lane.bump_clk (x : Lane) : (x.bump).clk = x.clk := rfl
@[simp] theorem Lane.bump_due (x : Lane) : (x.bump).due = x.due := rfl
@[simp] theorem Lane.bump_tick (x : Lane) : (x.bump).tick = x.tick := rfl
@[simp] theorem Lane.bump_start (x : Lane) : (x.bump).start = x.start := rfl
@[simp] theorem Lane.bump_gat (x : Lane) : (x.bump).gat = x.gat := rfl
@[simp] theorem Lane.bump_lease (x : Lane) : (x.bump).lease = x.lease := rfl
@[simp] theorem Lane.bump_peer (x : Lane) : (x.bump).peer = x.peer := rfl
@[simp] theorem Lane.bump_out (x : Lane) : (x.bump).out = x.out := rfl
@[simp] theorem Lane.bump_fbk (x : Lane) : (x.bump).fbk = x.fbk := rfl
@[simp] theorem Lane.bump_prof (x : Lane) : (x.bump).prof = x.prof := rfl
@[simp] theorem Lane.bump_swNeg (x : Lane) : (x.bump).swNeg = x.swNeg := rfl
@[simp] theorem Lane.bump_swPos (x : Lane) : (x.bump).swPos = x.swPos := rfl
@[simp] theorem Lane.bump_stepIn (x : Lane) : (x.bump).stepIn = x.stepIn := rfl
@[simp] theorem Lane.bump_loop (x : Lane) : (x.bump).loop = x.loop := rfl
@[simp] theorem Lane.bump_sup (x : Lane) : (x.bump).sup = x.sup := rfl
@[simp] theorem Lane.bump_comm (x : Lane) : (x.bump).comm = x.comm := rfl
@[simp] theorem Lane.bump_pwm (x : Lane) : (x.bump).pwm = x.pwm := rfl
@[simp] theorem Lane.bump_leg (x : Lane) : (x.bump).leg = x.leg := rfl
@[simp] theorem Lane.bump_evLine (x : Lane) : (x.bump).evLine = x.evLine := rfl
@[simp] theorem Lane.bump_bus (x : Lane) : (x.bump).bus = x.bus := rfl
@[simp] theorem Lane.bump_chas (x : Lane) : (x.bump).chas = x.chas := rfl
@[simp] theorem Lane.bump_detailOut (x : Lane) : (x.bump).detailOut = x.detailOut := rfl
@[simp] theorem Lane.bump_shadowOut (x : Lane) : (x.bump).shadowOut = x.shadowOut := rfl
@[simp] theorem Lane.bump_px (x : Lane) : (x.bump).px = x.px := rfl
@[simp] theorem Lane.bump_sup22 (x : Lane) : (x.bump).sup22 = x.sup22 := rfl
@[simp] theorem Lane.bump_fab (x : Lane) : (x.bump).fab = x.fab := rfl
@[simp] theorem Lane.bump_car (x : Lane) : (x.bump).car = x.car := rfl
@[simp] theorem Lane.bump_can (x : Lane) : (x.bump).can = x.can := rfl
@[simp] theorem Lane.bump_job (x : Lane) : (x.bump).job = x.job := rfl
@[simp] theorem Lane.bump_col (x : Lane) : (x.bump).col = x.col := rfl
@[simp] theorem Lane.bump_nvm (x : Lane) : (x.bump).nvm = x.nvm := rfl
@[simp] theorem Lane.bump_now (x : Lane) : (x.bump).now = x.now + 1 := rfl
@[simp] theorem Lane.bump_cfg (x : Lane) : (x.bump).cfg = x.cfg := rfl

@[simp] theorem Lane.push_id (x : Lane) (r : Raise) : (x.push r).id = x.id := rfl
@[simp] theorem Lane.push_now (x : Lane) (r : Raise) : (x.push r).now = x.now := rfl
@[simp] theorem Lane.push_clk (x : Lane) (r : Raise) : (x.push r).clk = x.clk := rfl
@[simp] theorem Lane.push_due (x : Lane) (r : Raise) : (x.push r).due = x.due := rfl
@[simp] theorem Lane.push_tick (x : Lane) (r : Raise) : (x.push r).tick = x.tick := rfl
@[simp] theorem Lane.push_start (x : Lane) (r : Raise) : (x.push r).start = x.start := rfl
@[simp] theorem Lane.push_gat (x : Lane) (r : Raise) : (x.push r).gat = x.gat := rfl
@[simp] theorem Lane.push_lease (x : Lane) (r : Raise) : (x.push r).lease = x.lease := rfl
@[simp] theorem Lane.push_peer (x : Lane) (r : Raise) : (x.push r).peer = x.peer := rfl
@[simp] theorem Lane.push_out (x : Lane) (r : Raise) : (x.push r).out = x.out := rfl
@[simp] theorem Lane.push_fbk (x : Lane) (r : Raise) : (x.push r).fbk = x.fbk := rfl
@[simp] theorem Lane.push_prof (x : Lane) (r : Raise) : (x.push r).prof = x.prof := rfl
@[simp] theorem Lane.push_swNeg (x : Lane) (r : Raise) : (x.push r).swNeg = x.swNeg := rfl
@[simp] theorem Lane.push_swPos (x : Lane) (r : Raise) : (x.push r).swPos = x.swPos := rfl
@[simp] theorem Lane.push_stepIn (x : Lane) (r : Raise) : (x.push r).stepIn = x.stepIn := rfl
@[simp] theorem Lane.push_loop (x : Lane) (r : Raise) : (x.push r).loop = x.loop := rfl
@[simp] theorem Lane.push_sup (x : Lane) (r : Raise) : (x.push r).sup = x.sup := rfl
@[simp] theorem Lane.push_comm (x : Lane) (r : Raise) : (x.push r).comm = x.comm := rfl
@[simp] theorem Lane.push_pwm (x : Lane) (r : Raise) : (x.push r).pwm = x.pwm := rfl
@[simp] theorem Lane.push_leg (x : Lane) (r : Raise) : (x.push r).leg = x.leg := rfl
@[simp] theorem Lane.push_evLine (x : Lane) (r : Raise) : (x.push r).evLine = x.evLine := rfl
@[simp] theorem Lane.push_bus (x : Lane) (r : Raise) : (x.push r).bus = x.bus := rfl
@[simp] theorem Lane.push_chas (x : Lane) (r : Raise) : (x.push r).chas = x.chas := rfl
@[simp] theorem Lane.push_detailOut (x : Lane) (r : Raise) : (x.push r).detailOut = x.detailOut := rfl
@[simp] theorem Lane.push_shadowOut (x : Lane) (r : Raise) : (x.push r).shadowOut = x.shadowOut := rfl
@[simp] theorem Lane.push_px (x : Lane) (r : Raise) : (x.push r).px = x.px := rfl
@[simp] theorem Lane.push_sup22 (x : Lane) (r : Raise) : (x.push r).sup22 = x.sup22 := rfl
@[simp] theorem Lane.push_fab (x : Lane) (r : Raise) : (x.push r).fab = x.fab := rfl
@[simp] theorem Lane.push_car (x : Lane) (r : Raise) : (x.push r).car = x.car := rfl
@[simp] theorem Lane.push_can (x : Lane) (r : Raise) : (x.push r).can = x.can := rfl
@[simp] theorem Lane.push_job (x : Lane) (r : Raise) : (x.push r).job = x.job := rfl
@[simp] theorem Lane.push_nvm (x : Lane) (r : Raise) : (x.push r).nvm = x.nvm := rfl
@[simp] theorem Lane.push_col (x : Lane) (r : Raise) : (x.push r).col = { x.col with raised := x.col.raised ++ [{ r with clk := x.now }] } := rfl
@[simp] theorem Lane.push_cfg (x : Lane) (r : Raise) : (x.push r).cfg = x.cfg := rfl

@[simp] theorem Lane.raise_id (x : Lane) (ev : Ev) (sb : Subject) (v : Int) : (x.raise ev sb v).id = x.id := rfl
@[simp] theorem Lane.raise_now (x : Lane) (ev : Ev) (sb : Subject) (v : Int) : (x.raise ev sb v).now = x.now := rfl
@[simp] theorem Lane.raise_clk (x : Lane) (ev : Ev) (sb : Subject) (v : Int) : (x.raise ev sb v).clk = x.clk := rfl
@[simp] theorem Lane.raise_due (x : Lane) (ev : Ev) (sb : Subject) (v : Int) : (x.raise ev sb v).due = x.due := rfl
@[simp] theorem Lane.raise_tick (x : Lane) (ev : Ev) (sb : Subject) (v : Int) : (x.raise ev sb v).tick = x.tick := rfl
@[simp] theorem Lane.raise_start (x : Lane) (ev : Ev) (sb : Subject) (v : Int) : (x.raise ev sb v).start = x.start := rfl
@[simp] theorem Lane.raise_gat (x : Lane) (ev : Ev) (sb : Subject) (v : Int) : (x.raise ev sb v).gat = x.gat := rfl
@[simp] theorem Lane.raise_lease (x : Lane) (ev : Ev) (sb : Subject) (v : Int) : (x.raise ev sb v).lease = x.lease := rfl
@[simp] theorem Lane.raise_peer (x : Lane) (ev : Ev) (sb : Subject) (v : Int) : (x.raise ev sb v).peer = x.peer := rfl
@[simp] theorem Lane.raise_out (x : Lane) (ev : Ev) (sb : Subject) (v : Int) : (x.raise ev sb v).out = x.out := rfl
@[simp] theorem Lane.raise_fbk (x : Lane) (ev : Ev) (sb : Subject) (v : Int) : (x.raise ev sb v).fbk = x.fbk := rfl
@[simp] theorem Lane.raise_prof (x : Lane) (ev : Ev) (sb : Subject) (v : Int) : (x.raise ev sb v).prof = x.prof := rfl
@[simp] theorem Lane.raise_swNeg (x : Lane) (ev : Ev) (sb : Subject) (v : Int) : (x.raise ev sb v).swNeg = x.swNeg := rfl
@[simp] theorem Lane.raise_swPos (x : Lane) (ev : Ev) (sb : Subject) (v : Int) : (x.raise ev sb v).swPos = x.swPos := rfl
@[simp] theorem Lane.raise_stepIn (x : Lane) (ev : Ev) (sb : Subject) (v : Int) : (x.raise ev sb v).stepIn = x.stepIn := rfl
@[simp] theorem Lane.raise_loop (x : Lane) (ev : Ev) (sb : Subject) (v : Int) : (x.raise ev sb v).loop = x.loop := rfl
@[simp] theorem Lane.raise_sup (x : Lane) (ev : Ev) (sb : Subject) (v : Int) : (x.raise ev sb v).sup = x.sup := rfl
@[simp] theorem Lane.raise_comm (x : Lane) (ev : Ev) (sb : Subject) (v : Int) : (x.raise ev sb v).comm = x.comm := rfl
@[simp] theorem Lane.raise_pwm (x : Lane) (ev : Ev) (sb : Subject) (v : Int) : (x.raise ev sb v).pwm = x.pwm := rfl
@[simp] theorem Lane.raise_leg (x : Lane) (ev : Ev) (sb : Subject) (v : Int) : (x.raise ev sb v).leg = x.leg := rfl
@[simp] theorem Lane.raise_evLine (x : Lane) (ev : Ev) (sb : Subject) (v : Int) : (x.raise ev sb v).evLine = x.evLine := rfl
@[simp] theorem Lane.raise_bus (x : Lane) (ev : Ev) (sb : Subject) (v : Int) : (x.raise ev sb v).bus = x.bus := rfl
@[simp] theorem Lane.raise_chas (x : Lane) (ev : Ev) (sb : Subject) (v : Int) : (x.raise ev sb v).chas = x.chas := rfl
@[simp] theorem Lane.raise_detailOut (x : Lane) (ev : Ev) (sb : Subject) (v : Int) : (x.raise ev sb v).detailOut = x.detailOut := rfl
@[simp] theorem Lane.raise_shadowOut (x : Lane) (ev : Ev) (sb : Subject) (v : Int) : (x.raise ev sb v).shadowOut = x.shadowOut := rfl
@[simp] theorem Lane.raise_px (x : Lane) (ev : Ev) (sb : Subject) (v : Int) : (x.raise ev sb v).px = x.px := rfl
@[simp] theorem Lane.raise_sup22 (x : Lane) (ev : Ev) (sb : Subject) (v : Int) : (x.raise ev sb v).sup22 = x.sup22 := rfl
@[simp] theorem Lane.raise_fab (x : Lane) (ev : Ev) (sb : Subject) (v : Int) : (x.raise ev sb v).fab = x.fab := rfl
@[simp] theorem Lane.raise_car (x : Lane) (ev : Ev) (sb : Subject) (v : Int) : (x.raise ev sb v).car = x.car := rfl
@[simp] theorem Lane.raise_can (x : Lane) (ev : Ev) (sb : Subject) (v : Int) : (x.raise ev sb v).can = x.can := rfl
@[simp] theorem Lane.raise_job (x : Lane) (ev : Ev) (sb : Subject) (v : Int) : (x.raise ev sb v).job = x.job := rfl
@[simp] theorem Lane.raise_nvm (x : Lane) (ev : Ev) (sb : Subject) (v : Int) : (x.raise ev sb v).nvm = x.nvm := rfl
@[simp] theorem Lane.raise_col (x : Lane) (ev : Ev) (sb : Subject) (v : Int) : (x.raise ev sb v).col = { x.col with raised := x.col.raised ++ [{ ev := ev, subj := sb, ctx := ctxOf sb v, clk := x.now }] } := rfl
@[simp] theorem Lane.raise_cfg (x : Lane) (ev : Ev) (sb : Subject) (v : Int) : (x.raise ev sb v).cfg = x.cfg := rfl

@[simp] theorem Lane.raiseWord_id (x : Lane) (ev : Ev) (v : Int) : (x.raiseWord ev v).id = x.id := rfl
@[simp] theorem Lane.raiseWord_now (x : Lane) (ev : Ev) (v : Int) : (x.raiseWord ev v).now = x.now := rfl
@[simp] theorem Lane.raiseWord_clk (x : Lane) (ev : Ev) (v : Int) : (x.raiseWord ev v).clk = x.clk := rfl
@[simp] theorem Lane.raiseWord_due (x : Lane) (ev : Ev) (v : Int) : (x.raiseWord ev v).due = x.due := rfl
@[simp] theorem Lane.raiseWord_tick (x : Lane) (ev : Ev) (v : Int) : (x.raiseWord ev v).tick = x.tick := rfl
@[simp] theorem Lane.raiseWord_start (x : Lane) (ev : Ev) (v : Int) : (x.raiseWord ev v).start = x.start := rfl
@[simp] theorem Lane.raiseWord_gat (x : Lane) (ev : Ev) (v : Int) : (x.raiseWord ev v).gat = x.gat := rfl
@[simp] theorem Lane.raiseWord_lease (x : Lane) (ev : Ev) (v : Int) : (x.raiseWord ev v).lease = x.lease := rfl
@[simp] theorem Lane.raiseWord_peer (x : Lane) (ev : Ev) (v : Int) : (x.raiseWord ev v).peer = x.peer := rfl
@[simp] theorem Lane.raiseWord_out (x : Lane) (ev : Ev) (v : Int) : (x.raiseWord ev v).out = x.out := rfl
@[simp] theorem Lane.raiseWord_fbk (x : Lane) (ev : Ev) (v : Int) : (x.raiseWord ev v).fbk = x.fbk := rfl
@[simp] theorem Lane.raiseWord_prof (x : Lane) (ev : Ev) (v : Int) : (x.raiseWord ev v).prof = x.prof := rfl
@[simp] theorem Lane.raiseWord_swNeg (x : Lane) (ev : Ev) (v : Int) : (x.raiseWord ev v).swNeg = x.swNeg := rfl
@[simp] theorem Lane.raiseWord_swPos (x : Lane) (ev : Ev) (v : Int) : (x.raiseWord ev v).swPos = x.swPos := rfl
@[simp] theorem Lane.raiseWord_stepIn (x : Lane) (ev : Ev) (v : Int) : (x.raiseWord ev v).stepIn = x.stepIn := rfl
@[simp] theorem Lane.raiseWord_loop (x : Lane) (ev : Ev) (v : Int) : (x.raiseWord ev v).loop = x.loop := rfl
@[simp] theorem Lane.raiseWord_sup (x : Lane) (ev : Ev) (v : Int) : (x.raiseWord ev v).sup = x.sup := rfl
@[simp] theorem Lane.raiseWord_comm (x : Lane) (ev : Ev) (v : Int) : (x.raiseWord ev v).comm = x.comm := rfl
@[simp] theorem Lane.raiseWord_pwm (x : Lane) (ev : Ev) (v : Int) : (x.raiseWord ev v).pwm = x.pwm := rfl
@[simp] theorem Lane.raiseWord_leg (x : Lane) (ev : Ev) (v : Int) : (x.raiseWord ev v).leg = x.leg := rfl
@[simp] theorem Lane.raiseWord_evLine (x : Lane) (ev : Ev) (v : Int) : (x.raiseWord ev v).evLine = x.evLine := rfl
@[simp] theorem Lane.raiseWord_bus (x : Lane) (ev : Ev) (v : Int) : (x.raiseWord ev v).bus = x.bus := rfl
@[simp] theorem Lane.raiseWord_chas (x : Lane) (ev : Ev) (v : Int) : (x.raiseWord ev v).chas = x.chas := rfl
@[simp] theorem Lane.raiseWord_detailOut (x : Lane) (ev : Ev) (v : Int) : (x.raiseWord ev v).detailOut = x.detailOut := rfl
@[simp] theorem Lane.raiseWord_shadowOut (x : Lane) (ev : Ev) (v : Int) : (x.raiseWord ev v).shadowOut = x.shadowOut := rfl
@[simp] theorem Lane.raiseWord_px (x : Lane) (ev : Ev) (v : Int) : (x.raiseWord ev v).px = x.px := rfl
@[simp] theorem Lane.raiseWord_sup22 (x : Lane) (ev : Ev) (v : Int) : (x.raiseWord ev v).sup22 = x.sup22 := rfl
@[simp] theorem Lane.raiseWord_fab (x : Lane) (ev : Ev) (v : Int) : (x.raiseWord ev v).fab = x.fab := rfl
@[simp] theorem Lane.raiseWord_car (x : Lane) (ev : Ev) (v : Int) : (x.raiseWord ev v).car = x.car := rfl
@[simp] theorem Lane.raiseWord_can (x : Lane) (ev : Ev) (v : Int) : (x.raiseWord ev v).can = x.can := rfl
@[simp] theorem Lane.raiseWord_job (x : Lane) (ev : Ev) (v : Int) : (x.raiseWord ev v).job = x.job := rfl
@[simp] theorem Lane.raiseWord_nvm (x : Lane) (ev : Ev) (v : Int) : (x.raiseWord ev v).nvm = x.nvm := rfl
@[simp] theorem Lane.raiseWord_col (x : Lane) (ev : Ev) (v : Int) : (x.raiseWord ev v).col = { x.col with raised := x.col.raised ++ [{ ev := ev, ctx := BitVec.ofNat 32 (toField 32 v), clk := x.now }] } := rfl
@[simp] theorem Lane.raiseWord_cfg (x : Lane) (ev : Ev) (v : Int) : (x.raiseWord ev v).cfg = x.cfg := rfl

@[simp] theorem Lane.raiseFor_id (x : Lane) (ev : Ev) (sb : Subject) (v : Int) (lv : Level) (as : List Nat) : (x.raiseFor ev sb v lv as).id = x.id := rfl
@[simp] theorem Lane.raiseFor_now (x : Lane) (ev : Ev) (sb : Subject) (v : Int) (lv : Level) (as : List Nat) : (x.raiseFor ev sb v lv as).now = x.now := rfl
@[simp] theorem Lane.raiseFor_clk (x : Lane) (ev : Ev) (sb : Subject) (v : Int) (lv : Level) (as : List Nat) : (x.raiseFor ev sb v lv as).clk = x.clk := rfl
@[simp] theorem Lane.raiseFor_due (x : Lane) (ev : Ev) (sb : Subject) (v : Int) (lv : Level) (as : List Nat) : (x.raiseFor ev sb v lv as).due = x.due := rfl
@[simp] theorem Lane.raiseFor_tick (x : Lane) (ev : Ev) (sb : Subject) (v : Int) (lv : Level) (as : List Nat) : (x.raiseFor ev sb v lv as).tick = x.tick := rfl
@[simp] theorem Lane.raiseFor_start (x : Lane) (ev : Ev) (sb : Subject) (v : Int) (lv : Level) (as : List Nat) : (x.raiseFor ev sb v lv as).start = x.start := rfl
@[simp] theorem Lane.raiseFor_gat (x : Lane) (ev : Ev) (sb : Subject) (v : Int) (lv : Level) (as : List Nat) : (x.raiseFor ev sb v lv as).gat = x.gat := rfl
@[simp] theorem Lane.raiseFor_lease (x : Lane) (ev : Ev) (sb : Subject) (v : Int) (lv : Level) (as : List Nat) : (x.raiseFor ev sb v lv as).lease = x.lease := rfl
@[simp] theorem Lane.raiseFor_peer (x : Lane) (ev : Ev) (sb : Subject) (v : Int) (lv : Level) (as : List Nat) : (x.raiseFor ev sb v lv as).peer = x.peer := rfl
@[simp] theorem Lane.raiseFor_out (x : Lane) (ev : Ev) (sb : Subject) (v : Int) (lv : Level) (as : List Nat) : (x.raiseFor ev sb v lv as).out = x.out := rfl
@[simp] theorem Lane.raiseFor_fbk (x : Lane) (ev : Ev) (sb : Subject) (v : Int) (lv : Level) (as : List Nat) : (x.raiseFor ev sb v lv as).fbk = x.fbk := rfl
@[simp] theorem Lane.raiseFor_prof (x : Lane) (ev : Ev) (sb : Subject) (v : Int) (lv : Level) (as : List Nat) : (x.raiseFor ev sb v lv as).prof = x.prof := rfl
@[simp] theorem Lane.raiseFor_swNeg (x : Lane) (ev : Ev) (sb : Subject) (v : Int) (lv : Level) (as : List Nat) : (x.raiseFor ev sb v lv as).swNeg = x.swNeg := rfl
@[simp] theorem Lane.raiseFor_swPos (x : Lane) (ev : Ev) (sb : Subject) (v : Int) (lv : Level) (as : List Nat) : (x.raiseFor ev sb v lv as).swPos = x.swPos := rfl
@[simp] theorem Lane.raiseFor_stepIn (x : Lane) (ev : Ev) (sb : Subject) (v : Int) (lv : Level) (as : List Nat) : (x.raiseFor ev sb v lv as).stepIn = x.stepIn := rfl
@[simp] theorem Lane.raiseFor_loop (x : Lane) (ev : Ev) (sb : Subject) (v : Int) (lv : Level) (as : List Nat) : (x.raiseFor ev sb v lv as).loop = x.loop := rfl
@[simp] theorem Lane.raiseFor_sup (x : Lane) (ev : Ev) (sb : Subject) (v : Int) (lv : Level) (as : List Nat) : (x.raiseFor ev sb v lv as).sup = x.sup := rfl
@[simp] theorem Lane.raiseFor_comm (x : Lane) (ev : Ev) (sb : Subject) (v : Int) (lv : Level) (as : List Nat) : (x.raiseFor ev sb v lv as).comm = x.comm := rfl
@[simp] theorem Lane.raiseFor_pwm (x : Lane) (ev : Ev) (sb : Subject) (v : Int) (lv : Level) (as : List Nat) : (x.raiseFor ev sb v lv as).pwm = x.pwm := rfl
@[simp] theorem Lane.raiseFor_leg (x : Lane) (ev : Ev) (sb : Subject) (v : Int) (lv : Level) (as : List Nat) : (x.raiseFor ev sb v lv as).leg = x.leg := rfl
@[simp] theorem Lane.raiseFor_evLine (x : Lane) (ev : Ev) (sb : Subject) (v : Int) (lv : Level) (as : List Nat) : (x.raiseFor ev sb v lv as).evLine = x.evLine := rfl
@[simp] theorem Lane.raiseFor_bus (x : Lane) (ev : Ev) (sb : Subject) (v : Int) (lv : Level) (as : List Nat) : (x.raiseFor ev sb v lv as).bus = x.bus := rfl
@[simp] theorem Lane.raiseFor_chas (x : Lane) (ev : Ev) (sb : Subject) (v : Int) (lv : Level) (as : List Nat) : (x.raiseFor ev sb v lv as).chas = x.chas := rfl
@[simp] theorem Lane.raiseFor_detailOut (x : Lane) (ev : Ev) (sb : Subject) (v : Int) (lv : Level) (as : List Nat) : (x.raiseFor ev sb v lv as).detailOut = x.detailOut := rfl
@[simp] theorem Lane.raiseFor_shadowOut (x : Lane) (ev : Ev) (sb : Subject) (v : Int) (lv : Level) (as : List Nat) : (x.raiseFor ev sb v lv as).shadowOut = x.shadowOut := rfl
@[simp] theorem Lane.raiseFor_px (x : Lane) (ev : Ev) (sb : Subject) (v : Int) (lv : Level) (as : List Nat) : (x.raiseFor ev sb v lv as).px = x.px := rfl
@[simp] theorem Lane.raiseFor_sup22 (x : Lane) (ev : Ev) (sb : Subject) (v : Int) (lv : Level) (as : List Nat) : (x.raiseFor ev sb v lv as).sup22 = x.sup22 := rfl
@[simp] theorem Lane.raiseFor_fab (x : Lane) (ev : Ev) (sb : Subject) (v : Int) (lv : Level) (as : List Nat) : (x.raiseFor ev sb v lv as).fab = x.fab := rfl
@[simp] theorem Lane.raiseFor_car (x : Lane) (ev : Ev) (sb : Subject) (v : Int) (lv : Level) (as : List Nat) : (x.raiseFor ev sb v lv as).car = x.car := rfl
@[simp] theorem Lane.raiseFor_can (x : Lane) (ev : Ev) (sb : Subject) (v : Int) (lv : Level) (as : List Nat) : (x.raiseFor ev sb v lv as).can = x.can := rfl
@[simp] theorem Lane.raiseFor_job (x : Lane) (ev : Ev) (sb : Subject) (v : Int) (lv : Level) (as : List Nat) : (x.raiseFor ev sb v lv as).job = x.job := rfl
@[simp] theorem Lane.raiseFor_nvm (x : Lane) (ev : Ev) (sb : Subject) (v : Int) (lv : Level) (as : List Nat) : (x.raiseFor ev sb v lv as).nvm = x.nvm := rfl
@[simp] theorem Lane.raiseFor_col (x : Lane) (ev : Ev) (sb : Subject) (v : Int) (lv : Level) (as : List Nat) : (x.raiseFor ev sb v lv as).col = { x.col with raised := x.col.raised ++ [{ ev := ev, subj := sb, ctx := ctxOf sb v, clk := x.now, level := some lv, axes := as }] } := rfl
@[simp] theorem Lane.raiseFor_cfg (x : Lane) (ev : Ev) (sb : Subject) (v : Int) (lv : Level) (as : List Nat) : (x.raiseFor ev sb v lv as).cfg = x.cfg := rfl

@[simp] theorem Lane.goto_id (x : Lane) (st : LState) : (x.goto st).id = x.id := rfl
@[simp] theorem Lane.goto_now (x : Lane) (st : LState) : (x.goto st).now = x.now := rfl
@[simp] theorem Lane.goto_clk (x : Lane) (st : LState) : (x.goto st).clk = x.clk := rfl
@[simp] theorem Lane.goto_due (x : Lane) (st : LState) : (x.goto st).due = x.due := rfl
@[simp] theorem Lane.goto_tick (x : Lane) (st : LState) : (x.goto st).tick = x.tick := rfl
@[simp] theorem Lane.goto_gat (x : Lane) (st : LState) : (x.goto st).gat = x.gat := rfl
@[simp] theorem Lane.goto_lease (x : Lane) (st : LState) : (x.goto st).lease = x.lease := rfl
@[simp] theorem Lane.goto_peer (x : Lane) (st : LState) : (x.goto st).peer = x.peer := rfl
@[simp] theorem Lane.goto_out (x : Lane) (st : LState) : (x.goto st).out = x.out := rfl
@[simp] theorem Lane.goto_fbk (x : Lane) (st : LState) : (x.goto st).fbk = x.fbk := rfl
@[simp] theorem Lane.goto_prof (x : Lane) (st : LState) : (x.goto st).prof = x.prof := rfl
@[simp] theorem Lane.goto_swNeg (x : Lane) (st : LState) : (x.goto st).swNeg = x.swNeg := rfl
@[simp] theorem Lane.goto_swPos (x : Lane) (st : LState) : (x.goto st).swPos = x.swPos := rfl
@[simp] theorem Lane.goto_stepIn (x : Lane) (st : LState) : (x.goto st).stepIn = x.stepIn := rfl
@[simp] theorem Lane.goto_loop (x : Lane) (st : LState) : (x.goto st).loop = x.loop := rfl
@[simp] theorem Lane.goto_sup (x : Lane) (st : LState) : (x.goto st).sup = x.sup := rfl
@[simp] theorem Lane.goto_comm (x : Lane) (st : LState) : (x.goto st).comm = x.comm := rfl
@[simp] theorem Lane.goto_pwm (x : Lane) (st : LState) : (x.goto st).pwm = x.pwm := rfl
@[simp] theorem Lane.goto_leg (x : Lane) (st : LState) : (x.goto st).leg = x.leg := rfl
@[simp] theorem Lane.goto_evLine (x : Lane) (st : LState) : (x.goto st).evLine = x.evLine := rfl
@[simp] theorem Lane.goto_bus (x : Lane) (st : LState) : (x.goto st).bus = x.bus := rfl
@[simp] theorem Lane.goto_chas (x : Lane) (st : LState) : (x.goto st).chas = x.chas := rfl
@[simp] theorem Lane.goto_detailOut (x : Lane) (st : LState) : (x.goto st).detailOut = x.detailOut := rfl
@[simp] theorem Lane.goto_shadowOut (x : Lane) (st : LState) : (x.goto st).shadowOut = x.shadowOut := rfl
@[simp] theorem Lane.goto_px (x : Lane) (st : LState) : (x.goto st).px = x.px := rfl
@[simp] theorem Lane.goto_sup22 (x : Lane) (st : LState) : (x.goto st).sup22 = x.sup22 := rfl
@[simp] theorem Lane.goto_fab (x : Lane) (st : LState) : (x.goto st).fab = x.fab := rfl
@[simp] theorem Lane.goto_car (x : Lane) (st : LState) : (x.goto st).car = x.car := rfl
@[simp] theorem Lane.goto_can (x : Lane) (st : LState) : (x.goto st).can = x.can := rfl
@[simp] theorem Lane.goto_job (x : Lane) (st : LState) : (x.goto st).job = x.job := rfl
@[simp] theorem Lane.goto_col (x : Lane) (st : LState) : (x.goto st).col = x.col := rfl
@[simp] theorem Lane.goto_nvm (x : Lane) (st : LState) : (x.goto st).nvm = x.nvm := rfl
@[simp] theorem Lane.goto_start (x : Lane) (st : LState) : (x.goto st).start = { x.start with state := st, inState := 0 } := rfl
@[simp] theorem Lane.goto_cfg (x : Lane) (st : LState) : (x.goto st).cfg = x.cfg := rfl

@[simp] theorem Lane.modAx_id (x : Lane) (n : AxisId) (f : AxisLease → AxisLease) : (x.modAx n f).id = x.id := rfl
@[simp] theorem Lane.modAx_now (x : Lane) (n : AxisId) (f : AxisLease → AxisLease) : (x.modAx n f).now = x.now := rfl
@[simp] theorem Lane.modAx_clk (x : Lane) (n : AxisId) (f : AxisLease → AxisLease) : (x.modAx n f).clk = x.clk := rfl
@[simp] theorem Lane.modAx_due (x : Lane) (n : AxisId) (f : AxisLease → AxisLease) : (x.modAx n f).due = x.due := rfl
@[simp] theorem Lane.modAx_tick (x : Lane) (n : AxisId) (f : AxisLease → AxisLease) : (x.modAx n f).tick = x.tick := rfl
@[simp] theorem Lane.modAx_start (x : Lane) (n : AxisId) (f : AxisLease → AxisLease) : (x.modAx n f).start = x.start := rfl
@[simp] theorem Lane.modAx_gat (x : Lane) (n : AxisId) (f : AxisLease → AxisLease) : (x.modAx n f).gat = x.gat := rfl
@[simp] theorem Lane.modAx_peer (x : Lane) (n : AxisId) (f : AxisLease → AxisLease) : (x.modAx n f).peer = x.peer := rfl
@[simp] theorem Lane.modAx_out (x : Lane) (n : AxisId) (f : AxisLease → AxisLease) : (x.modAx n f).out = x.out := rfl
@[simp] theorem Lane.modAx_fbk (x : Lane) (n : AxisId) (f : AxisLease → AxisLease) : (x.modAx n f).fbk = x.fbk := rfl
@[simp] theorem Lane.modAx_prof (x : Lane) (n : AxisId) (f : AxisLease → AxisLease) : (x.modAx n f).prof = x.prof := rfl
@[simp] theorem Lane.modAx_swNeg (x : Lane) (n : AxisId) (f : AxisLease → AxisLease) : (x.modAx n f).swNeg = x.swNeg := rfl
@[simp] theorem Lane.modAx_swPos (x : Lane) (n : AxisId) (f : AxisLease → AxisLease) : (x.modAx n f).swPos = x.swPos := rfl
@[simp] theorem Lane.modAx_stepIn (x : Lane) (n : AxisId) (f : AxisLease → AxisLease) : (x.modAx n f).stepIn = x.stepIn := rfl
@[simp] theorem Lane.modAx_loop (x : Lane) (n : AxisId) (f : AxisLease → AxisLease) : (x.modAx n f).loop = x.loop := rfl
@[simp] theorem Lane.modAx_sup (x : Lane) (n : AxisId) (f : AxisLease → AxisLease) : (x.modAx n f).sup = x.sup := rfl
@[simp] theorem Lane.modAx_comm (x : Lane) (n : AxisId) (f : AxisLease → AxisLease) : (x.modAx n f).comm = x.comm := rfl
@[simp] theorem Lane.modAx_pwm (x : Lane) (n : AxisId) (f : AxisLease → AxisLease) : (x.modAx n f).pwm = x.pwm := rfl
@[simp] theorem Lane.modAx_leg (x : Lane) (n : AxisId) (f : AxisLease → AxisLease) : (x.modAx n f).leg = x.leg := rfl
@[simp] theorem Lane.modAx_evLine (x : Lane) (n : AxisId) (f : AxisLease → AxisLease) : (x.modAx n f).evLine = x.evLine := rfl
@[simp] theorem Lane.modAx_bus (x : Lane) (n : AxisId) (f : AxisLease → AxisLease) : (x.modAx n f).bus = x.bus := rfl
@[simp] theorem Lane.modAx_chas (x : Lane) (n : AxisId) (f : AxisLease → AxisLease) : (x.modAx n f).chas = x.chas := rfl
@[simp] theorem Lane.modAx_detailOut (x : Lane) (n : AxisId) (f : AxisLease → AxisLease) : (x.modAx n f).detailOut = x.detailOut := rfl
@[simp] theorem Lane.modAx_shadowOut (x : Lane) (n : AxisId) (f : AxisLease → AxisLease) : (x.modAx n f).shadowOut = x.shadowOut := rfl
@[simp] theorem Lane.modAx_px (x : Lane) (n : AxisId) (f : AxisLease → AxisLease) : (x.modAx n f).px = x.px := rfl
@[simp] theorem Lane.modAx_sup22 (x : Lane) (n : AxisId) (f : AxisLease → AxisLease) : (x.modAx n f).sup22 = x.sup22 := rfl
@[simp] theorem Lane.modAx_fab (x : Lane) (n : AxisId) (f : AxisLease → AxisLease) : (x.modAx n f).fab = x.fab := rfl
@[simp] theorem Lane.modAx_car (x : Lane) (n : AxisId) (f : AxisLease → AxisLease) : (x.modAx n f).car = x.car := rfl
@[simp] theorem Lane.modAx_can (x : Lane) (n : AxisId) (f : AxisLease → AxisLease) : (x.modAx n f).can = x.can := rfl
@[simp] theorem Lane.modAx_job (x : Lane) (n : AxisId) (f : AxisLease → AxisLease) : (x.modAx n f).job = x.job := rfl
@[simp] theorem Lane.modAx_col (x : Lane) (n : AxisId) (f : AxisLease → AxisLease) : (x.modAx n f).col = x.col := rfl
@[simp] theorem Lane.modAx_nvm (x : Lane) (n : AxisId) (f : AxisLease → AxisLease) : (x.modAx n f).nvm = x.nvm := rfl
@[simp] theorem Lane.modAx_lease (x : Lane) (n : AxisId) (f : AxisLease → AxisLease) : (x.modAx n f).lease = { x.lease with ax := x.lease.ax.modify n f } := rfl
@[simp] theorem Lane.modAx_cfg (x : Lane) (n : AxisId) (f : AxisLease → AxisLease) : (x.modAx n f).cfg = x.cfg := rfl

@[simp] theorem Lane.mapAx_id (x : Lane) (f : AxisId → AxisLease → AxisLease) : (x.mapAx f).id = x.id := rfl
@[simp] theorem Lane.mapAx_now (x : Lane) (f : AxisId → AxisLease → AxisLease) : (x.mapAx f).now = x.now := rfl
@[simp] theorem Lane.mapAx_clk (x : Lane) (f : AxisId → AxisLease → AxisLease) : (x.mapAx f).clk = x.clk := rfl
@[simp] theorem Lane.mapAx_due (x : Lane) (f : AxisId → AxisLease → AxisLease) : (x.mapAx f).due = x.due := rfl
@[simp] theorem Lane.mapAx_tick (x : Lane) (f : AxisId → AxisLease → AxisLease) : (x.mapAx f).tick = x.tick := rfl
@[simp] theorem Lane.mapAx_start (x : Lane) (f : AxisId → AxisLease → AxisLease) : (x.mapAx f).start = x.start := rfl
@[simp] theorem Lane.mapAx_gat (x : Lane) (f : AxisId → AxisLease → AxisLease) : (x.mapAx f).gat = x.gat := rfl
@[simp] theorem Lane.mapAx_peer (x : Lane) (f : AxisId → AxisLease → AxisLease) : (x.mapAx f).peer = x.peer := rfl
@[simp] theorem Lane.mapAx_out (x : Lane) (f : AxisId → AxisLease → AxisLease) : (x.mapAx f).out = x.out := rfl
@[simp] theorem Lane.mapAx_fbk (x : Lane) (f : AxisId → AxisLease → AxisLease) : (x.mapAx f).fbk = x.fbk := rfl
@[simp] theorem Lane.mapAx_prof (x : Lane) (f : AxisId → AxisLease → AxisLease) : (x.mapAx f).prof = x.prof := rfl
@[simp] theorem Lane.mapAx_swNeg (x : Lane) (f : AxisId → AxisLease → AxisLease) : (x.mapAx f).swNeg = x.swNeg := rfl
@[simp] theorem Lane.mapAx_swPos (x : Lane) (f : AxisId → AxisLease → AxisLease) : (x.mapAx f).swPos = x.swPos := rfl
@[simp] theorem Lane.mapAx_stepIn (x : Lane) (f : AxisId → AxisLease → AxisLease) : (x.mapAx f).stepIn = x.stepIn := rfl
@[simp] theorem Lane.mapAx_loop (x : Lane) (f : AxisId → AxisLease → AxisLease) : (x.mapAx f).loop = x.loop := rfl
@[simp] theorem Lane.mapAx_sup (x : Lane) (f : AxisId → AxisLease → AxisLease) : (x.mapAx f).sup = x.sup := rfl
@[simp] theorem Lane.mapAx_comm (x : Lane) (f : AxisId → AxisLease → AxisLease) : (x.mapAx f).comm = x.comm := rfl
@[simp] theorem Lane.mapAx_pwm (x : Lane) (f : AxisId → AxisLease → AxisLease) : (x.mapAx f).pwm = x.pwm := rfl
@[simp] theorem Lane.mapAx_leg (x : Lane) (f : AxisId → AxisLease → AxisLease) : (x.mapAx f).leg = x.leg := rfl
@[simp] theorem Lane.mapAx_evLine (x : Lane) (f : AxisId → AxisLease → AxisLease) : (x.mapAx f).evLine = x.evLine := rfl
@[simp] theorem Lane.mapAx_bus (x : Lane) (f : AxisId → AxisLease → AxisLease) : (x.mapAx f).bus = x.bus := rfl
@[simp] theorem Lane.mapAx_chas (x : Lane) (f : AxisId → AxisLease → AxisLease) : (x.mapAx f).chas = x.chas := rfl
@[simp] theorem Lane.mapAx_detailOut (x : Lane) (f : AxisId → AxisLease → AxisLease) : (x.mapAx f).detailOut = x.detailOut := rfl
@[simp] theorem Lane.mapAx_shadowOut (x : Lane) (f : AxisId → AxisLease → AxisLease) : (x.mapAx f).shadowOut = x.shadowOut := rfl
@[simp] theorem Lane.mapAx_px (x : Lane) (f : AxisId → AxisLease → AxisLease) : (x.mapAx f).px = x.px := rfl
@[simp] theorem Lane.mapAx_sup22 (x : Lane) (f : AxisId → AxisLease → AxisLease) : (x.mapAx f).sup22 = x.sup22 := rfl
@[simp] theorem Lane.mapAx_fab (x : Lane) (f : AxisId → AxisLease → AxisLease) : (x.mapAx f).fab = x.fab := rfl
@[simp] theorem Lane.mapAx_car (x : Lane) (f : AxisId → AxisLease → AxisLease) : (x.mapAx f).car = x.car := rfl
@[simp] theorem Lane.mapAx_can (x : Lane) (f : AxisId → AxisLease → AxisLease) : (x.mapAx f).can = x.can := rfl
@[simp] theorem Lane.mapAx_job (x : Lane) (f : AxisId → AxisLease → AxisLease) : (x.mapAx f).job = x.job := rfl
@[simp] theorem Lane.mapAx_col (x : Lane) (f : AxisId → AxisLease → AxisLease) : (x.mapAx f).col = x.col := rfl
@[simp] theorem Lane.mapAx_nvm (x : Lane) (f : AxisId → AxisLease → AxisLease) : (x.mapAx f).nvm = x.nvm := rfl
@[simp] theorem Lane.mapAx_lease (x : Lane) (f : AxisId → AxisLease → AxisLease) : (x.mapAx f).lease = { x.lease with ax := x.lease.ax.mapFin f } := rfl
@[simp] theorem Lane.mapAx_cfg (x : Lane) (f : AxisId → AxisLease → AxisLease) : (x.mapAx f).cfg = x.cfg := rfl

@[simp] theorem Lane.modPeer_id (x : Lane) (y : LaneId) (f : Peer → Peer) : (x.modPeer y f).id = x.id := rfl
@[simp] theorem Lane.modPeer_now (x : Lane) (y : LaneId) (f : Peer → Peer) : (x.modPeer y f).now = x.now := rfl
@[simp] theorem Lane.modPeer_clk (x : Lane) (y : LaneId) (f : Peer → Peer) : (x.modPeer y f).clk = x.clk := rfl
@[simp] theorem Lane.modPeer_due (x : Lane) (y : LaneId) (f : Peer → Peer) : (x.modPeer y f).due = x.due := rfl
@[simp] theorem Lane.modPeer_tick (x : Lane) (y : LaneId) (f : Peer → Peer) : (x.modPeer y f).tick = x.tick := rfl
@[simp] theorem Lane.modPeer_start (x : Lane) (y : LaneId) (f : Peer → Peer) : (x.modPeer y f).start = x.start := rfl
@[simp] theorem Lane.modPeer_gat (x : Lane) (y : LaneId) (f : Peer → Peer) : (x.modPeer y f).gat = x.gat := rfl
@[simp] theorem Lane.modPeer_lease (x : Lane) (y : LaneId) (f : Peer → Peer) : (x.modPeer y f).lease = x.lease := rfl
@[simp] theorem Lane.modPeer_out (x : Lane) (y : LaneId) (f : Peer → Peer) : (x.modPeer y f).out = x.out := rfl
@[simp] theorem Lane.modPeer_fbk (x : Lane) (y : LaneId) (f : Peer → Peer) : (x.modPeer y f).fbk = x.fbk := rfl
@[simp] theorem Lane.modPeer_prof (x : Lane) (y : LaneId) (f : Peer → Peer) : (x.modPeer y f).prof = x.prof := rfl
@[simp] theorem Lane.modPeer_swNeg (x : Lane) (y : LaneId) (f : Peer → Peer) : (x.modPeer y f).swNeg = x.swNeg := rfl
@[simp] theorem Lane.modPeer_swPos (x : Lane) (y : LaneId) (f : Peer → Peer) : (x.modPeer y f).swPos = x.swPos := rfl
@[simp] theorem Lane.modPeer_stepIn (x : Lane) (y : LaneId) (f : Peer → Peer) : (x.modPeer y f).stepIn = x.stepIn := rfl
@[simp] theorem Lane.modPeer_loop (x : Lane) (y : LaneId) (f : Peer → Peer) : (x.modPeer y f).loop = x.loop := rfl
@[simp] theorem Lane.modPeer_sup (x : Lane) (y : LaneId) (f : Peer → Peer) : (x.modPeer y f).sup = x.sup := rfl
@[simp] theorem Lane.modPeer_comm (x : Lane) (y : LaneId) (f : Peer → Peer) : (x.modPeer y f).comm = x.comm := rfl
@[simp] theorem Lane.modPeer_pwm (x : Lane) (y : LaneId) (f : Peer → Peer) : (x.modPeer y f).pwm = x.pwm := rfl
@[simp] theorem Lane.modPeer_leg (x : Lane) (y : LaneId) (f : Peer → Peer) : (x.modPeer y f).leg = x.leg := rfl
@[simp] theorem Lane.modPeer_evLine (x : Lane) (y : LaneId) (f : Peer → Peer) : (x.modPeer y f).evLine = x.evLine := rfl
@[simp] theorem Lane.modPeer_bus (x : Lane) (y : LaneId) (f : Peer → Peer) : (x.modPeer y f).bus = x.bus := rfl
@[simp] theorem Lane.modPeer_chas (x : Lane) (y : LaneId) (f : Peer → Peer) : (x.modPeer y f).chas = x.chas := rfl
@[simp] theorem Lane.modPeer_detailOut (x : Lane) (y : LaneId) (f : Peer → Peer) : (x.modPeer y f).detailOut = x.detailOut := rfl
@[simp] theorem Lane.modPeer_shadowOut (x : Lane) (y : LaneId) (f : Peer → Peer) : (x.modPeer y f).shadowOut = x.shadowOut := rfl
@[simp] theorem Lane.modPeer_px (x : Lane) (y : LaneId) (f : Peer → Peer) : (x.modPeer y f).px = x.px := rfl
@[simp] theorem Lane.modPeer_sup22 (x : Lane) (y : LaneId) (f : Peer → Peer) : (x.modPeer y f).sup22 = x.sup22 := rfl
@[simp] theorem Lane.modPeer_fab (x : Lane) (y : LaneId) (f : Peer → Peer) : (x.modPeer y f).fab = x.fab := rfl
@[simp] theorem Lane.modPeer_car (x : Lane) (y : LaneId) (f : Peer → Peer) : (x.modPeer y f).car = x.car := rfl
@[simp] theorem Lane.modPeer_can (x : Lane) (y : LaneId) (f : Peer → Peer) : (x.modPeer y f).can = x.can := rfl
@[simp] theorem Lane.modPeer_job (x : Lane) (y : LaneId) (f : Peer → Peer) : (x.modPeer y f).job = x.job := rfl
@[simp] theorem Lane.modPeer_col (x : Lane) (y : LaneId) (f : Peer → Peer) : (x.modPeer y f).col = x.col := rfl
@[simp] theorem Lane.modPeer_nvm (x : Lane) (y : LaneId) (f : Peer → Peer) : (x.modPeer y f).nvm = x.nvm := rfl
@[simp] theorem Lane.modPeer_peer (x : Lane) (y : LaneId) (f : Peer → Peer) : (x.modPeer y f).peer = x.peer.set y (f (x.peer.get y)) := rfl
@[simp] theorem Lane.modPeer_cfg (x : Lane) (y : LaneId) (f : Peer → Peer) : (x.modPeer y f).cfg = x.cfg := rfl

@[simp] theorem Lane.setChan_id (x : Lane) (c : ChanId) (ch : Chan) : (x.setChan c ch).id = x.id := rfl
@[simp] theorem Lane.setChan_now (x : Lane) (c : ChanId) (ch : Chan) : (x.setChan c ch).now = x.now := rfl
@[simp] theorem Lane.setChan_clk (x : Lane) (c : ChanId) (ch : Chan) : (x.setChan c ch).clk = x.clk := rfl
@[simp] theorem Lane.setChan_due (x : Lane) (c : ChanId) (ch : Chan) : (x.setChan c ch).due = x.due := rfl
@[simp] theorem Lane.setChan_tick (x : Lane) (c : ChanId) (ch : Chan) : (x.setChan c ch).tick = x.tick := rfl
@[simp] theorem Lane.setChan_start (x : Lane) (c : ChanId) (ch : Chan) : (x.setChan c ch).start = x.start := rfl
@[simp] theorem Lane.setChan_gat (x : Lane) (c : ChanId) (ch : Chan) : (x.setChan c ch).gat = x.gat := rfl
@[simp] theorem Lane.setChan_lease (x : Lane) (c : ChanId) (ch : Chan) : (x.setChan c ch).lease = x.lease := rfl
@[simp] theorem Lane.setChan_peer (x : Lane) (c : ChanId) (ch : Chan) : (x.setChan c ch).peer = x.peer := rfl
@[simp] theorem Lane.setChan_out (x : Lane) (c : ChanId) (ch : Chan) : (x.setChan c ch).out = x.out := rfl
@[simp] theorem Lane.setChan_prof (x : Lane) (c : ChanId) (ch : Chan) : (x.setChan c ch).prof = x.prof := rfl
@[simp] theorem Lane.setChan_swNeg (x : Lane) (c : ChanId) (ch : Chan) : (x.setChan c ch).swNeg = x.swNeg := rfl
@[simp] theorem Lane.setChan_swPos (x : Lane) (c : ChanId) (ch : Chan) : (x.setChan c ch).swPos = x.swPos := rfl
@[simp] theorem Lane.setChan_stepIn (x : Lane) (c : ChanId) (ch : Chan) : (x.setChan c ch).stepIn = x.stepIn := rfl
@[simp] theorem Lane.setChan_loop (x : Lane) (c : ChanId) (ch : Chan) : (x.setChan c ch).loop = x.loop := rfl
@[simp] theorem Lane.setChan_sup (x : Lane) (c : ChanId) (ch : Chan) : (x.setChan c ch).sup = x.sup := rfl
@[simp] theorem Lane.setChan_comm (x : Lane) (c : ChanId) (ch : Chan) : (x.setChan c ch).comm = x.comm := rfl
@[simp] theorem Lane.setChan_pwm (x : Lane) (c : ChanId) (ch : Chan) : (x.setChan c ch).pwm = x.pwm := rfl
@[simp] theorem Lane.setChan_leg (x : Lane) (c : ChanId) (ch : Chan) : (x.setChan c ch).leg = x.leg := rfl
@[simp] theorem Lane.setChan_evLine (x : Lane) (c : ChanId) (ch : Chan) : (x.setChan c ch).evLine = x.evLine := rfl
@[simp] theorem Lane.setChan_bus (x : Lane) (c : ChanId) (ch : Chan) : (x.setChan c ch).bus = x.bus := rfl
@[simp] theorem Lane.setChan_chas (x : Lane) (c : ChanId) (ch : Chan) : (x.setChan c ch).chas = x.chas := rfl
@[simp] theorem Lane.setChan_detailOut (x : Lane) (c : ChanId) (ch : Chan) : (x.setChan c ch).detailOut = x.detailOut := rfl
@[simp] theorem Lane.setChan_shadowOut (x : Lane) (c : ChanId) (ch : Chan) : (x.setChan c ch).shadowOut = x.shadowOut := rfl
@[simp] theorem Lane.setChan_px (x : Lane) (c : ChanId) (ch : Chan) : (x.setChan c ch).px = x.px := rfl
@[simp] theorem Lane.setChan_sup22 (x : Lane) (c : ChanId) (ch : Chan) : (x.setChan c ch).sup22 = x.sup22 := rfl
@[simp] theorem Lane.setChan_fab (x : Lane) (c : ChanId) (ch : Chan) : (x.setChan c ch).fab = x.fab := rfl
@[simp] theorem Lane.setChan_car (x : Lane) (c : ChanId) (ch : Chan) : (x.setChan c ch).car = x.car := rfl
@[simp] theorem Lane.setChan_can (x : Lane) (c : ChanId) (ch : Chan) : (x.setChan c ch).can = x.can := rfl
@[simp] theorem Lane.setChan_job (x : Lane) (c : ChanId) (ch : Chan) : (x.setChan c ch).job = x.job := rfl
@[simp] theorem Lane.setChan_col (x : Lane) (c : ChanId) (ch : Chan) : (x.setChan c ch).col = x.col := rfl
@[simp] theorem Lane.setChan_nvm (x : Lane) (c : ChanId) (ch : Chan) : (x.setChan c ch).nvm = x.nvm := rfl
@[simp] theorem Lane.setChan_fbk (x : Lane) (c : ChanId) (ch : Chan) : (x.setChan c ch).fbk = x.fbk.set c ch := rfl
@[simp] theorem Lane.setChan_cfg (x : Lane) (c : ChanId) (ch : Chan) : (x.setChan c ch).cfg = x.cfg := rfl

@[simp] theorem Lane.modProf_id (x : Lane) (n : AxisId) (f : Profile → Profile) : (x.modProf n f).id = x.id := rfl
@[simp] theorem Lane.modProf_now (x : Lane) (n : AxisId) (f : Profile → Profile) : (x.modProf n f).now = x.now := rfl
@[simp] theorem Lane.modProf_clk (x : Lane) (n : AxisId) (f : Profile → Profile) : (x.modProf n f).clk = x.clk := rfl
@[simp] theorem Lane.modProf_due (x : Lane) (n : AxisId) (f : Profile → Profile) : (x.modProf n f).due = x.due := rfl
@[simp] theorem Lane.modProf_tick (x : Lane) (n : AxisId) (f : Profile → Profile) : (x.modProf n f).tick = x.tick := rfl
@[simp] theorem Lane.modProf_start (x : Lane) (n : AxisId) (f : Profile → Profile) : (x.modProf n f).start = x.start := rfl
@[simp] theorem Lane.modProf_gat (x : Lane) (n : AxisId) (f : Profile → Profile) : (x.modProf n f).gat = x.gat := rfl
@[simp] theorem Lane.modProf_lease (x : Lane) (n : AxisId) (f : Profile → Profile) : (x.modProf n f).lease = x.lease := rfl
@[simp] theorem Lane.modProf_peer (x : Lane) (n : AxisId) (f : Profile → Profile) : (x.modProf n f).peer = x.peer := rfl
@[simp] theorem Lane.modProf_out (x : Lane) (n : AxisId) (f : Profile → Profile) : (x.modProf n f).out = x.out := rfl
@[simp] theorem Lane.modProf_fbk (x : Lane) (n : AxisId) (f : Profile → Profile) : (x.modProf n f).fbk = x.fbk := rfl
@[simp] theorem Lane.modProf_swNeg (x : Lane) (n : AxisId) (f : Profile → Profile) : (x.modProf n f).swNeg = x.swNeg := rfl
@[simp] theorem Lane.modProf_swPos (x : Lane) (n : AxisId) (f : Profile → Profile) : (x.modProf n f).swPos = x.swPos := rfl
@[simp] theorem Lane.modProf_stepIn (x : Lane) (n : AxisId) (f : Profile → Profile) : (x.modProf n f).stepIn = x.stepIn := rfl
@[simp] theorem Lane.modProf_loop (x : Lane) (n : AxisId) (f : Profile → Profile) : (x.modProf n f).loop = x.loop := rfl
@[simp] theorem Lane.modProf_sup (x : Lane) (n : AxisId) (f : Profile → Profile) : (x.modProf n f).sup = x.sup := rfl
@[simp] theorem Lane.modProf_comm (x : Lane) (n : AxisId) (f : Profile → Profile) : (x.modProf n f).comm = x.comm := rfl
@[simp] theorem Lane.modProf_pwm (x : Lane) (n : AxisId) (f : Profile → Profile) : (x.modProf n f).pwm = x.pwm := rfl
@[simp] theorem Lane.modProf_leg (x : Lane) (n : AxisId) (f : Profile → Profile) : (x.modProf n f).leg = x.leg := rfl
@[simp] theorem Lane.modProf_evLine (x : Lane) (n : AxisId) (f : Profile → Profile) : (x.modProf n f).evLine = x.evLine := rfl
@[simp] theorem Lane.modProf_bus (x : Lane) (n : AxisId) (f : Profile → Profile) : (x.modProf n f).bus = x.bus := rfl
@[simp] theorem Lane.modProf_chas (x : Lane) (n : AxisId) (f : Profile → Profile) : (x.modProf n f).chas = x.chas := rfl
@[simp] theorem Lane.modProf_detailOut (x : Lane) (n : AxisId) (f : Profile → Profile) : (x.modProf n f).detailOut = x.detailOut := rfl
@[simp] theorem Lane.modProf_shadowOut (x : Lane) (n : AxisId) (f : Profile → Profile) : (x.modProf n f).shadowOut = x.shadowOut := rfl
@[simp] theorem Lane.modProf_px (x : Lane) (n : AxisId) (f : Profile → Profile) : (x.modProf n f).px = x.px := rfl
@[simp] theorem Lane.modProf_sup22 (x : Lane) (n : AxisId) (f : Profile → Profile) : (x.modProf n f).sup22 = x.sup22 := rfl
@[simp] theorem Lane.modProf_fab (x : Lane) (n : AxisId) (f : Profile → Profile) : (x.modProf n f).fab = x.fab := rfl
@[simp] theorem Lane.modProf_car (x : Lane) (n : AxisId) (f : Profile → Profile) : (x.modProf n f).car = x.car := rfl
@[simp] theorem Lane.modProf_can (x : Lane) (n : AxisId) (f : Profile → Profile) : (x.modProf n f).can = x.can := rfl
@[simp] theorem Lane.modProf_job (x : Lane) (n : AxisId) (f : Profile → Profile) : (x.modProf n f).job = x.job := rfl
@[simp] theorem Lane.modProf_col (x : Lane) (n : AxisId) (f : Profile → Profile) : (x.modProf n f).col = x.col := rfl
@[simp] theorem Lane.modProf_nvm (x : Lane) (n : AxisId) (f : Profile → Profile) : (x.modProf n f).nvm = x.nvm := rfl
@[simp] theorem Lane.modProf_prof (x : Lane) (n : AxisId) (f : Profile → Profile) : (x.modProf n f).prof = x.prof.modify n f := rfl
@[simp] theorem Lane.modProf_cfg (x : Lane) (n : AxisId) (f : Profile → Profile) : (x.modProf n f).cfg = x.cfg := rfl

@[simp] theorem Lane.modLoop_id (x : Lane) (n : AxisId) (f : LoopPart → LoopPart) : (x.modLoop n f).id = x.id := rfl
@[simp] theorem Lane.modLoop_now (x : Lane) (n : AxisId) (f : LoopPart → LoopPart) : (x.modLoop n f).now = x.now := rfl
@[simp] theorem Lane.modLoop_clk (x : Lane) (n : AxisId) (f : LoopPart → LoopPart) : (x.modLoop n f).clk = x.clk := rfl
@[simp] theorem Lane.modLoop_due (x : Lane) (n : AxisId) (f : LoopPart → LoopPart) : (x.modLoop n f).due = x.due := rfl
@[simp] theorem Lane.modLoop_tick (x : Lane) (n : AxisId) (f : LoopPart → LoopPart) : (x.modLoop n f).tick = x.tick := rfl
@[simp] theorem Lane.modLoop_start (x : Lane) (n : AxisId) (f : LoopPart → LoopPart) : (x.modLoop n f).start = x.start := rfl
@[simp] theorem Lane.modLoop_gat (x : Lane) (n : AxisId) (f : LoopPart → LoopPart) : (x.modLoop n f).gat = x.gat := rfl
@[simp] theorem Lane.modLoop_lease (x : Lane) (n : AxisId) (f : LoopPart → LoopPart) : (x.modLoop n f).lease = x.lease := rfl
@[simp] theorem Lane.modLoop_peer (x : Lane) (n : AxisId) (f : LoopPart → LoopPart) : (x.modLoop n f).peer = x.peer := rfl
@[simp] theorem Lane.modLoop_out (x : Lane) (n : AxisId) (f : LoopPart → LoopPart) : (x.modLoop n f).out = x.out := rfl
@[simp] theorem Lane.modLoop_fbk (x : Lane) (n : AxisId) (f : LoopPart → LoopPart) : (x.modLoop n f).fbk = x.fbk := rfl
@[simp] theorem Lane.modLoop_prof (x : Lane) (n : AxisId) (f : LoopPart → LoopPart) : (x.modLoop n f).prof = x.prof := rfl
@[simp] theorem Lane.modLoop_swNeg (x : Lane) (n : AxisId) (f : LoopPart → LoopPart) : (x.modLoop n f).swNeg = x.swNeg := rfl
@[simp] theorem Lane.modLoop_swPos (x : Lane) (n : AxisId) (f : LoopPart → LoopPart) : (x.modLoop n f).swPos = x.swPos := rfl
@[simp] theorem Lane.modLoop_stepIn (x : Lane) (n : AxisId) (f : LoopPart → LoopPart) : (x.modLoop n f).stepIn = x.stepIn := rfl
@[simp] theorem Lane.modLoop_sup (x : Lane) (n : AxisId) (f : LoopPart → LoopPart) : (x.modLoop n f).sup = x.sup := rfl
@[simp] theorem Lane.modLoop_comm (x : Lane) (n : AxisId) (f : LoopPart → LoopPart) : (x.modLoop n f).comm = x.comm := rfl
@[simp] theorem Lane.modLoop_pwm (x : Lane) (n : AxisId) (f : LoopPart → LoopPart) : (x.modLoop n f).pwm = x.pwm := rfl
@[simp] theorem Lane.modLoop_leg (x : Lane) (n : AxisId) (f : LoopPart → LoopPart) : (x.modLoop n f).leg = x.leg := rfl
@[simp] theorem Lane.modLoop_evLine (x : Lane) (n : AxisId) (f : LoopPart → LoopPart) : (x.modLoop n f).evLine = x.evLine := rfl
@[simp] theorem Lane.modLoop_bus (x : Lane) (n : AxisId) (f : LoopPart → LoopPart) : (x.modLoop n f).bus = x.bus := rfl
@[simp] theorem Lane.modLoop_chas (x : Lane) (n : AxisId) (f : LoopPart → LoopPart) : (x.modLoop n f).chas = x.chas := rfl
@[simp] theorem Lane.modLoop_detailOut (x : Lane) (n : AxisId) (f : LoopPart → LoopPart) : (x.modLoop n f).detailOut = x.detailOut := rfl
@[simp] theorem Lane.modLoop_shadowOut (x : Lane) (n : AxisId) (f : LoopPart → LoopPart) : (x.modLoop n f).shadowOut = x.shadowOut := rfl
@[simp] theorem Lane.modLoop_px (x : Lane) (n : AxisId) (f : LoopPart → LoopPart) : (x.modLoop n f).px = x.px := rfl
@[simp] theorem Lane.modLoop_sup22 (x : Lane) (n : AxisId) (f : LoopPart → LoopPart) : (x.modLoop n f).sup22 = x.sup22 := rfl
@[simp] theorem Lane.modLoop_fab (x : Lane) (n : AxisId) (f : LoopPart → LoopPart) : (x.modLoop n f).fab = x.fab := rfl
@[simp] theorem Lane.modLoop_car (x : Lane) (n : AxisId) (f : LoopPart → LoopPart) : (x.modLoop n f).car = x.car := rfl
@[simp] theorem Lane.modLoop_can (x : Lane) (n : AxisId) (f : LoopPart → LoopPart) : (x.modLoop n f).can = x.can := rfl
@[simp] theorem Lane.modLoop_job (x : Lane) (n : AxisId) (f : LoopPart → LoopPart) : (x.modLoop n f).job = x.job := rfl
@[simp] theorem Lane.modLoop_col (x : Lane) (n : AxisId) (f : LoopPart → LoopPart) : (x.modLoop n f).col = x.col := rfl
@[simp] theorem Lane.modLoop_nvm (x : Lane) (n : AxisId) (f : LoopPart → LoopPart) : (x.modLoop n f).nvm = x.nvm := rfl
@[simp] theorem Lane.modLoop_loop (x : Lane) (n : AxisId) (f : LoopPart → LoopPart) : (x.modLoop n f).loop = x.loop.modify n f := rfl
@[simp] theorem Lane.modLoop_cfg (x : Lane) (n : AxisId) (f : LoopPart → LoopPart) : (x.modLoop n f).cfg = x.cfg := rfl

@[simp] theorem Lane.modSup_id (x : Lane) (n : AxisId) (f : SupPart → SupPart) : (x.modSup n f).id = x.id := rfl
@[simp] theorem Lane.modSup_now (x : Lane) (n : AxisId) (f : SupPart → SupPart) : (x.modSup n f).now = x.now := rfl
@[simp] theorem Lane.modSup_clk (x : Lane) (n : AxisId) (f : SupPart → SupPart) : (x.modSup n f).clk = x.clk := rfl
@[simp] theorem Lane.modSup_due (x : Lane) (n : AxisId) (f : SupPart → SupPart) : (x.modSup n f).due = x.due := rfl
@[simp] theorem Lane.modSup_tick (x : Lane) (n : AxisId) (f : SupPart → SupPart) : (x.modSup n f).tick = x.tick := rfl
@[simp] theorem Lane.modSup_start (x : Lane) (n : AxisId) (f : SupPart → SupPart) : (x.modSup n f).start = x.start := rfl
@[simp] theorem Lane.modSup_gat (x : Lane) (n : AxisId) (f : SupPart → SupPart) : (x.modSup n f).gat = x.gat := rfl
@[simp] theorem Lane.modSup_lease (x : Lane) (n : AxisId) (f : SupPart → SupPart) : (x.modSup n f).lease = x.lease := rfl
@[simp] theorem Lane.modSup_peer (x : Lane) (n : AxisId) (f : SupPart → SupPart) : (x.modSup n f).peer = x.peer := rfl
@[simp] theorem Lane.modSup_out (x : Lane) (n : AxisId) (f : SupPart → SupPart) : (x.modSup n f).out = x.out := rfl
@[simp] theorem Lane.modSup_fbk (x : Lane) (n : AxisId) (f : SupPart → SupPart) : (x.modSup n f).fbk = x.fbk := rfl
@[simp] theorem Lane.modSup_prof (x : Lane) (n : AxisId) (f : SupPart → SupPart) : (x.modSup n f).prof = x.prof := rfl
@[simp] theorem Lane.modSup_swNeg (x : Lane) (n : AxisId) (f : SupPart → SupPart) : (x.modSup n f).swNeg = x.swNeg := rfl
@[simp] theorem Lane.modSup_swPos (x : Lane) (n : AxisId) (f : SupPart → SupPart) : (x.modSup n f).swPos = x.swPos := rfl
@[simp] theorem Lane.modSup_stepIn (x : Lane) (n : AxisId) (f : SupPart → SupPart) : (x.modSup n f).stepIn = x.stepIn := rfl
@[simp] theorem Lane.modSup_loop (x : Lane) (n : AxisId) (f : SupPart → SupPart) : (x.modSup n f).loop = x.loop := rfl
@[simp] theorem Lane.modSup_comm (x : Lane) (n : AxisId) (f : SupPart → SupPart) : (x.modSup n f).comm = x.comm := rfl
@[simp] theorem Lane.modSup_pwm (x : Lane) (n : AxisId) (f : SupPart → SupPart) : (x.modSup n f).pwm = x.pwm := rfl
@[simp] theorem Lane.modSup_leg (x : Lane) (n : AxisId) (f : SupPart → SupPart) : (x.modSup n f).leg = x.leg := rfl
@[simp] theorem Lane.modSup_evLine (x : Lane) (n : AxisId) (f : SupPart → SupPart) : (x.modSup n f).evLine = x.evLine := rfl
@[simp] theorem Lane.modSup_bus (x : Lane) (n : AxisId) (f : SupPart → SupPart) : (x.modSup n f).bus = x.bus := rfl
@[simp] theorem Lane.modSup_chas (x : Lane) (n : AxisId) (f : SupPart → SupPart) : (x.modSup n f).chas = x.chas := rfl
@[simp] theorem Lane.modSup_detailOut (x : Lane) (n : AxisId) (f : SupPart → SupPart) : (x.modSup n f).detailOut = x.detailOut := rfl
@[simp] theorem Lane.modSup_shadowOut (x : Lane) (n : AxisId) (f : SupPart → SupPart) : (x.modSup n f).shadowOut = x.shadowOut := rfl
@[simp] theorem Lane.modSup_px (x : Lane) (n : AxisId) (f : SupPart → SupPart) : (x.modSup n f).px = x.px := rfl
@[simp] theorem Lane.modSup_sup22 (x : Lane) (n : AxisId) (f : SupPart → SupPart) : (x.modSup n f).sup22 = x.sup22 := rfl
@[simp] theorem Lane.modSup_fab (x : Lane) (n : AxisId) (f : SupPart → SupPart) : (x.modSup n f).fab = x.fab := rfl
@[simp] theorem Lane.modSup_car (x : Lane) (n : AxisId) (f : SupPart → SupPart) : (x.modSup n f).car = x.car := rfl
@[simp] theorem Lane.modSup_can (x : Lane) (n : AxisId) (f : SupPart → SupPart) : (x.modSup n f).can = x.can := rfl
@[simp] theorem Lane.modSup_job (x : Lane) (n : AxisId) (f : SupPart → SupPart) : (x.modSup n f).job = x.job := rfl
@[simp] theorem Lane.modSup_col (x : Lane) (n : AxisId) (f : SupPart → SupPart) : (x.modSup n f).col = x.col := rfl
@[simp] theorem Lane.modSup_nvm (x : Lane) (n : AxisId) (f : SupPart → SupPart) : (x.modSup n f).nvm = x.nvm := rfl
@[simp] theorem Lane.modSup_sup (x : Lane) (n : AxisId) (f : SupPart → SupPart) : (x.modSup n f).sup = x.sup.modify n f := rfl
@[simp] theorem Lane.modSup_cfg (x : Lane) (n : AxisId) (f : SupPart → SupPart) : (x.modSup n f).cfg = x.cfg := rfl

@[simp] theorem Lane.modComm_id (x : Lane) (n : AxisId) (f : CommPart → CommPart) : (x.modComm n f).id = x.id := rfl
@[simp] theorem Lane.modComm_now (x : Lane) (n : AxisId) (f : CommPart → CommPart) : (x.modComm n f).now = x.now := rfl
@[simp] theorem Lane.modComm_clk (x : Lane) (n : AxisId) (f : CommPart → CommPart) : (x.modComm n f).clk = x.clk := rfl
@[simp] theorem Lane.modComm_due (x : Lane) (n : AxisId) (f : CommPart → CommPart) : (x.modComm n f).due = x.due := rfl
@[simp] theorem Lane.modComm_tick (x : Lane) (n : AxisId) (f : CommPart → CommPart) : (x.modComm n f).tick = x.tick := rfl
@[simp] theorem Lane.modComm_start (x : Lane) (n : AxisId) (f : CommPart → CommPart) : (x.modComm n f).start = x.start := rfl
@[simp] theorem Lane.modComm_gat (x : Lane) (n : AxisId) (f : CommPart → CommPart) : (x.modComm n f).gat = x.gat := rfl
@[simp] theorem Lane.modComm_lease (x : Lane) (n : AxisId) (f : CommPart → CommPart) : (x.modComm n f).lease = x.lease := rfl
@[simp] theorem Lane.modComm_peer (x : Lane) (n : AxisId) (f : CommPart → CommPart) : (x.modComm n f).peer = x.peer := rfl
@[simp] theorem Lane.modComm_out (x : Lane) (n : AxisId) (f : CommPart → CommPart) : (x.modComm n f).out = x.out := rfl
@[simp] theorem Lane.modComm_fbk (x : Lane) (n : AxisId) (f : CommPart → CommPart) : (x.modComm n f).fbk = x.fbk := rfl
@[simp] theorem Lane.modComm_prof (x : Lane) (n : AxisId) (f : CommPart → CommPart) : (x.modComm n f).prof = x.prof := rfl
@[simp] theorem Lane.modComm_swNeg (x : Lane) (n : AxisId) (f : CommPart → CommPart) : (x.modComm n f).swNeg = x.swNeg := rfl
@[simp] theorem Lane.modComm_swPos (x : Lane) (n : AxisId) (f : CommPart → CommPart) : (x.modComm n f).swPos = x.swPos := rfl
@[simp] theorem Lane.modComm_stepIn (x : Lane) (n : AxisId) (f : CommPart → CommPart) : (x.modComm n f).stepIn = x.stepIn := rfl
@[simp] theorem Lane.modComm_loop (x : Lane) (n : AxisId) (f : CommPart → CommPart) : (x.modComm n f).loop = x.loop := rfl
@[simp] theorem Lane.modComm_sup (x : Lane) (n : AxisId) (f : CommPart → CommPart) : (x.modComm n f).sup = x.sup := rfl
@[simp] theorem Lane.modComm_pwm (x : Lane) (n : AxisId) (f : CommPart → CommPart) : (x.modComm n f).pwm = x.pwm := rfl
@[simp] theorem Lane.modComm_leg (x : Lane) (n : AxisId) (f : CommPart → CommPart) : (x.modComm n f).leg = x.leg := rfl
@[simp] theorem Lane.modComm_evLine (x : Lane) (n : AxisId) (f : CommPart → CommPart) : (x.modComm n f).evLine = x.evLine := rfl
@[simp] theorem Lane.modComm_bus (x : Lane) (n : AxisId) (f : CommPart → CommPart) : (x.modComm n f).bus = x.bus := rfl
@[simp] theorem Lane.modComm_chas (x : Lane) (n : AxisId) (f : CommPart → CommPart) : (x.modComm n f).chas = x.chas := rfl
@[simp] theorem Lane.modComm_detailOut (x : Lane) (n : AxisId) (f : CommPart → CommPart) : (x.modComm n f).detailOut = x.detailOut := rfl
@[simp] theorem Lane.modComm_shadowOut (x : Lane) (n : AxisId) (f : CommPart → CommPart) : (x.modComm n f).shadowOut = x.shadowOut := rfl
@[simp] theorem Lane.modComm_px (x : Lane) (n : AxisId) (f : CommPart → CommPart) : (x.modComm n f).px = x.px := rfl
@[simp] theorem Lane.modComm_sup22 (x : Lane) (n : AxisId) (f : CommPart → CommPart) : (x.modComm n f).sup22 = x.sup22 := rfl
@[simp] theorem Lane.modComm_fab (x : Lane) (n : AxisId) (f : CommPart → CommPart) : (x.modComm n f).fab = x.fab := rfl
@[simp] theorem Lane.modComm_car (x : Lane) (n : AxisId) (f : CommPart → CommPart) : (x.modComm n f).car = x.car := rfl
@[simp] theorem Lane.modComm_can (x : Lane) (n : AxisId) (f : CommPart → CommPart) : (x.modComm n f).can = x.can := rfl
@[simp] theorem Lane.modComm_job (x : Lane) (n : AxisId) (f : CommPart → CommPart) : (x.modComm n f).job = x.job := rfl
@[simp] theorem Lane.modComm_col (x : Lane) (n : AxisId) (f : CommPart → CommPart) : (x.modComm n f).col = x.col := rfl
@[simp] theorem Lane.modComm_nvm (x : Lane) (n : AxisId) (f : CommPart → CommPart) : (x.modComm n f).nvm = x.nvm := rfl
@[simp] theorem Lane.modComm_comm (x : Lane) (n : AxisId) (f : CommPart → CommPart) : (x.modComm n f).comm = x.comm.modify n f := rfl
@[simp] theorem Lane.modComm_cfg (x : Lane) (n : AxisId) (f : CommPart → CommPart) : (x.modComm n f).cfg = x.cfg := rfl

@[simp] theorem Lane.modPwm_id (x : Lane) (n : AxisId) (f : PwmPart → PwmPart) : (x.modPwm n f).id = x.id := rfl
@[simp] theorem Lane.modPwm_now (x : Lane) (n : AxisId) (f : PwmPart → PwmPart) : (x.modPwm n f).now = x.now := rfl
@[simp] theorem Lane.modPwm_clk (x : Lane) (n : AxisId) (f : PwmPart → PwmPart) : (x.modPwm n f).clk = x.clk := rfl
@[simp] theorem Lane.modPwm_due (x : Lane) (n : AxisId) (f : PwmPart → PwmPart) : (x.modPwm n f).due = x.due := rfl
@[simp] theorem Lane.modPwm_tick (x : Lane) (n : AxisId) (f : PwmPart → PwmPart) : (x.modPwm n f).tick = x.tick := rfl
@[simp] theorem Lane.modPwm_start (x : Lane) (n : AxisId) (f : PwmPart → PwmPart) : (x.modPwm n f).start = x.start := rfl
@[simp] theorem Lane.modPwm_gat (x : Lane) (n : AxisId) (f : PwmPart → PwmPart) : (x.modPwm n f).gat = x.gat := rfl
@[simp] theorem Lane.modPwm_lease (x : Lane) (n : AxisId) (f : PwmPart → PwmPart) : (x.modPwm n f).lease = x.lease := rfl
@[simp] theorem Lane.modPwm_peer (x : Lane) (n : AxisId) (f : PwmPart → PwmPart) : (x.modPwm n f).peer = x.peer := rfl
@[simp] theorem Lane.modPwm_out (x : Lane) (n : AxisId) (f : PwmPart → PwmPart) : (x.modPwm n f).out = x.out := rfl
@[simp] theorem Lane.modPwm_fbk (x : Lane) (n : AxisId) (f : PwmPart → PwmPart) : (x.modPwm n f).fbk = x.fbk := rfl
@[simp] theorem Lane.modPwm_prof (x : Lane) (n : AxisId) (f : PwmPart → PwmPart) : (x.modPwm n f).prof = x.prof := rfl
@[simp] theorem Lane.modPwm_swNeg (x : Lane) (n : AxisId) (f : PwmPart → PwmPart) : (x.modPwm n f).swNeg = x.swNeg := rfl
@[simp] theorem Lane.modPwm_swPos (x : Lane) (n : AxisId) (f : PwmPart → PwmPart) : (x.modPwm n f).swPos = x.swPos := rfl
@[simp] theorem Lane.modPwm_stepIn (x : Lane) (n : AxisId) (f : PwmPart → PwmPart) : (x.modPwm n f).stepIn = x.stepIn := rfl
@[simp] theorem Lane.modPwm_loop (x : Lane) (n : AxisId) (f : PwmPart → PwmPart) : (x.modPwm n f).loop = x.loop := rfl
@[simp] theorem Lane.modPwm_sup (x : Lane) (n : AxisId) (f : PwmPart → PwmPart) : (x.modPwm n f).sup = x.sup := rfl
@[simp] theorem Lane.modPwm_comm (x : Lane) (n : AxisId) (f : PwmPart → PwmPart) : (x.modPwm n f).comm = x.comm := rfl
@[simp] theorem Lane.modPwm_leg (x : Lane) (n : AxisId) (f : PwmPart → PwmPart) : (x.modPwm n f).leg = x.leg := rfl
@[simp] theorem Lane.modPwm_evLine (x : Lane) (n : AxisId) (f : PwmPart → PwmPart) : (x.modPwm n f).evLine = x.evLine := rfl
@[simp] theorem Lane.modPwm_bus (x : Lane) (n : AxisId) (f : PwmPart → PwmPart) : (x.modPwm n f).bus = x.bus := rfl
@[simp] theorem Lane.modPwm_chas (x : Lane) (n : AxisId) (f : PwmPart → PwmPart) : (x.modPwm n f).chas = x.chas := rfl
@[simp] theorem Lane.modPwm_detailOut (x : Lane) (n : AxisId) (f : PwmPart → PwmPart) : (x.modPwm n f).detailOut = x.detailOut := rfl
@[simp] theorem Lane.modPwm_shadowOut (x : Lane) (n : AxisId) (f : PwmPart → PwmPart) : (x.modPwm n f).shadowOut = x.shadowOut := rfl
@[simp] theorem Lane.modPwm_px (x : Lane) (n : AxisId) (f : PwmPart → PwmPart) : (x.modPwm n f).px = x.px := rfl
@[simp] theorem Lane.modPwm_sup22 (x : Lane) (n : AxisId) (f : PwmPart → PwmPart) : (x.modPwm n f).sup22 = x.sup22 := rfl
@[simp] theorem Lane.modPwm_fab (x : Lane) (n : AxisId) (f : PwmPart → PwmPart) : (x.modPwm n f).fab = x.fab := rfl
@[simp] theorem Lane.modPwm_car (x : Lane) (n : AxisId) (f : PwmPart → PwmPart) : (x.modPwm n f).car = x.car := rfl
@[simp] theorem Lane.modPwm_can (x : Lane) (n : AxisId) (f : PwmPart → PwmPart) : (x.modPwm n f).can = x.can := rfl
@[simp] theorem Lane.modPwm_job (x : Lane) (n : AxisId) (f : PwmPart → PwmPart) : (x.modPwm n f).job = x.job := rfl
@[simp] theorem Lane.modPwm_col (x : Lane) (n : AxisId) (f : PwmPart → PwmPart) : (x.modPwm n f).col = x.col := rfl
@[simp] theorem Lane.modPwm_nvm (x : Lane) (n : AxisId) (f : PwmPart → PwmPart) : (x.modPwm n f).nvm = x.nvm := rfl
@[simp] theorem Lane.modPwm_pwm (x : Lane) (n : AxisId) (f : PwmPart → PwmPart) : (x.modPwm n f).pwm = x.pwm.modify n f := rfl
@[simp] theorem Lane.modPwm_cfg (x : Lane) (n : AxisId) (f : PwmPart → PwmPart) : (x.modPwm n f).cfg = x.cfg := rfl

@[simp] theorem Lane.modLeg_id (x : Lane) (i : LegId) (f : Leg → Leg) : (x.modLeg i f).id = x.id := rfl
@[simp] theorem Lane.modLeg_now (x : Lane) (i : LegId) (f : Leg → Leg) : (x.modLeg i f).now = x.now := rfl
@[simp] theorem Lane.modLeg_clk (x : Lane) (i : LegId) (f : Leg → Leg) : (x.modLeg i f).clk = x.clk := rfl
@[simp] theorem Lane.modLeg_due (x : Lane) (i : LegId) (f : Leg → Leg) : (x.modLeg i f).due = x.due := rfl
@[simp] theorem Lane.modLeg_tick (x : Lane) (i : LegId) (f : Leg → Leg) : (x.modLeg i f).tick = x.tick := rfl
@[simp] theorem Lane.modLeg_start (x : Lane) (i : LegId) (f : Leg → Leg) : (x.modLeg i f).start = x.start := rfl
@[simp] theorem Lane.modLeg_gat (x : Lane) (i : LegId) (f : Leg → Leg) : (x.modLeg i f).gat = x.gat := rfl
@[simp] theorem Lane.modLeg_lease (x : Lane) (i : LegId) (f : Leg → Leg) : (x.modLeg i f).lease = x.lease := rfl
@[simp] theorem Lane.modLeg_peer (x : Lane) (i : LegId) (f : Leg → Leg) : (x.modLeg i f).peer = x.peer := rfl
@[simp] theorem Lane.modLeg_out (x : Lane) (i : LegId) (f : Leg → Leg) : (x.modLeg i f).out = x.out := rfl
@[simp] theorem Lane.modLeg_fbk (x : Lane) (i : LegId) (f : Leg → Leg) : (x.modLeg i f).fbk = x.fbk := rfl
@[simp] theorem Lane.modLeg_prof (x : Lane) (i : LegId) (f : Leg → Leg) : (x.modLeg i f).prof = x.prof := rfl
@[simp] theorem Lane.modLeg_swNeg (x : Lane) (i : LegId) (f : Leg → Leg) : (x.modLeg i f).swNeg = x.swNeg := rfl
@[simp] theorem Lane.modLeg_swPos (x : Lane) (i : LegId) (f : Leg → Leg) : (x.modLeg i f).swPos = x.swPos := rfl
@[simp] theorem Lane.modLeg_stepIn (x : Lane) (i : LegId) (f : Leg → Leg) : (x.modLeg i f).stepIn = x.stepIn := rfl
@[simp] theorem Lane.modLeg_loop (x : Lane) (i : LegId) (f : Leg → Leg) : (x.modLeg i f).loop = x.loop := rfl
@[simp] theorem Lane.modLeg_sup (x : Lane) (i : LegId) (f : Leg → Leg) : (x.modLeg i f).sup = x.sup := rfl
@[simp] theorem Lane.modLeg_comm (x : Lane) (i : LegId) (f : Leg → Leg) : (x.modLeg i f).comm = x.comm := rfl
@[simp] theorem Lane.modLeg_pwm (x : Lane) (i : LegId) (f : Leg → Leg) : (x.modLeg i f).pwm = x.pwm := rfl
@[simp] theorem Lane.modLeg_evLine (x : Lane) (i : LegId) (f : Leg → Leg) : (x.modLeg i f).evLine = x.evLine := rfl
@[simp] theorem Lane.modLeg_bus (x : Lane) (i : LegId) (f : Leg → Leg) : (x.modLeg i f).bus = x.bus := rfl
@[simp] theorem Lane.modLeg_chas (x : Lane) (i : LegId) (f : Leg → Leg) : (x.modLeg i f).chas = x.chas := rfl
@[simp] theorem Lane.modLeg_detailOut (x : Lane) (i : LegId) (f : Leg → Leg) : (x.modLeg i f).detailOut = x.detailOut := rfl
@[simp] theorem Lane.modLeg_shadowOut (x : Lane) (i : LegId) (f : Leg → Leg) : (x.modLeg i f).shadowOut = x.shadowOut := rfl
@[simp] theorem Lane.modLeg_px (x : Lane) (i : LegId) (f : Leg → Leg) : (x.modLeg i f).px = x.px := rfl
@[simp] theorem Lane.modLeg_sup22 (x : Lane) (i : LegId) (f : Leg → Leg) : (x.modLeg i f).sup22 = x.sup22 := rfl
@[simp] theorem Lane.modLeg_fab (x : Lane) (i : LegId) (f : Leg → Leg) : (x.modLeg i f).fab = x.fab := rfl
@[simp] theorem Lane.modLeg_car (x : Lane) (i : LegId) (f : Leg → Leg) : (x.modLeg i f).car = x.car := rfl
@[simp] theorem Lane.modLeg_can (x : Lane) (i : LegId) (f : Leg → Leg) : (x.modLeg i f).can = x.can := rfl
@[simp] theorem Lane.modLeg_job (x : Lane) (i : LegId) (f : Leg → Leg) : (x.modLeg i f).job = x.job := rfl
@[simp] theorem Lane.modLeg_col (x : Lane) (i : LegId) (f : Leg → Leg) : (x.modLeg i f).col = x.col := rfl
@[simp] theorem Lane.modLeg_nvm (x : Lane) (i : LegId) (f : Leg → Leg) : (x.modLeg i f).nvm = x.nvm := rfl
@[simp] theorem Lane.modLeg_leg (x : Lane) (i : LegId) (f : Leg → Leg) : (x.modLeg i f).leg = x.leg.modify i f := rfl
@[simp] theorem Lane.modLeg_cfg (x : Lane) (i : LegId) (f : Leg → Leg) : (x.modLeg i f).cfg = x.cfg := rfl

@[simp] theorem Lane.modSensor_id (x : Lane) (i : Fin 8) (f : Sensor → Sensor) : (x.modSensor i f).id = x.id := rfl
@[simp] theorem Lane.modSensor_now (x : Lane) (i : Fin 8) (f : Sensor → Sensor) : (x.modSensor i f).now = x.now := rfl
@[simp] theorem Lane.modSensor_clk (x : Lane) (i : Fin 8) (f : Sensor → Sensor) : (x.modSensor i f).clk = x.clk := rfl
@[simp] theorem Lane.modSensor_due (x : Lane) (i : Fin 8) (f : Sensor → Sensor) : (x.modSensor i f).due = x.due := rfl
@[simp] theorem Lane.modSensor_tick (x : Lane) (i : Fin 8) (f : Sensor → Sensor) : (x.modSensor i f).tick = x.tick := rfl
@[simp] theorem Lane.modSensor_start (x : Lane) (i : Fin 8) (f : Sensor → Sensor) : (x.modSensor i f).start = x.start := rfl
@[simp] theorem Lane.modSensor_gat (x : Lane) (i : Fin 8) (f : Sensor → Sensor) : (x.modSensor i f).gat = x.gat := rfl
@[simp] theorem Lane.modSensor_lease (x : Lane) (i : Fin 8) (f : Sensor → Sensor) : (x.modSensor i f).lease = x.lease := rfl
@[simp] theorem Lane.modSensor_peer (x : Lane) (i : Fin 8) (f : Sensor → Sensor) : (x.modSensor i f).peer = x.peer := rfl
@[simp] theorem Lane.modSensor_out (x : Lane) (i : Fin 8) (f : Sensor → Sensor) : (x.modSensor i f).out = x.out := rfl
@[simp] theorem Lane.modSensor_fbk (x : Lane) (i : Fin 8) (f : Sensor → Sensor) : (x.modSensor i f).fbk = x.fbk := rfl
@[simp] theorem Lane.modSensor_prof (x : Lane) (i : Fin 8) (f : Sensor → Sensor) : (x.modSensor i f).prof = x.prof := rfl
@[simp] theorem Lane.modSensor_swNeg (x : Lane) (i : Fin 8) (f : Sensor → Sensor) : (x.modSensor i f).swNeg = x.swNeg := rfl
@[simp] theorem Lane.modSensor_swPos (x : Lane) (i : Fin 8) (f : Sensor → Sensor) : (x.modSensor i f).swPos = x.swPos := rfl
@[simp] theorem Lane.modSensor_stepIn (x : Lane) (i : Fin 8) (f : Sensor → Sensor) : (x.modSensor i f).stepIn = x.stepIn := rfl
@[simp] theorem Lane.modSensor_loop (x : Lane) (i : Fin 8) (f : Sensor → Sensor) : (x.modSensor i f).loop = x.loop := rfl
@[simp] theorem Lane.modSensor_sup (x : Lane) (i : Fin 8) (f : Sensor → Sensor) : (x.modSensor i f).sup = x.sup := rfl
@[simp] theorem Lane.modSensor_comm (x : Lane) (i : Fin 8) (f : Sensor → Sensor) : (x.modSensor i f).comm = x.comm := rfl
@[simp] theorem Lane.modSensor_pwm (x : Lane) (i : Fin 8) (f : Sensor → Sensor) : (x.modSensor i f).pwm = x.pwm := rfl
@[simp] theorem Lane.modSensor_leg (x : Lane) (i : Fin 8) (f : Sensor → Sensor) : (x.modSensor i f).leg = x.leg := rfl
@[simp] theorem Lane.modSensor_evLine (x : Lane) (i : Fin 8) (f : Sensor → Sensor) : (x.modSensor i f).evLine = x.evLine := rfl
@[simp] theorem Lane.modSensor_bus (x : Lane) (i : Fin 8) (f : Sensor → Sensor) : (x.modSensor i f).bus = x.bus := rfl
@[simp] theorem Lane.modSensor_detailOut (x : Lane) (i : Fin 8) (f : Sensor → Sensor) : (x.modSensor i f).detailOut = x.detailOut := rfl
@[simp] theorem Lane.modSensor_shadowOut (x : Lane) (i : Fin 8) (f : Sensor → Sensor) : (x.modSensor i f).shadowOut = x.shadowOut := rfl
@[simp] theorem Lane.modSensor_px (x : Lane) (i : Fin 8) (f : Sensor → Sensor) : (x.modSensor i f).px = x.px := rfl
@[simp] theorem Lane.modSensor_sup22 (x : Lane) (i : Fin 8) (f : Sensor → Sensor) : (x.modSensor i f).sup22 = x.sup22 := rfl
@[simp] theorem Lane.modSensor_fab (x : Lane) (i : Fin 8) (f : Sensor → Sensor) : (x.modSensor i f).fab = x.fab := rfl
@[simp] theorem Lane.modSensor_car (x : Lane) (i : Fin 8) (f : Sensor → Sensor) : (x.modSensor i f).car = x.car := rfl
@[simp] theorem Lane.modSensor_can (x : Lane) (i : Fin 8) (f : Sensor → Sensor) : (x.modSensor i f).can = x.can := rfl
@[simp] theorem Lane.modSensor_job (x : Lane) (i : Fin 8) (f : Sensor → Sensor) : (x.modSensor i f).job = x.job := rfl
@[simp] theorem Lane.modSensor_col (x : Lane) (i : Fin 8) (f : Sensor → Sensor) : (x.modSensor i f).col = x.col := rfl
@[simp] theorem Lane.modSensor_nvm (x : Lane) (i : Fin 8) (f : Sensor → Sensor) : (x.modSensor i f).nvm = x.nvm := rfl
@[simp] theorem Lane.modSensor_chas (x : Lane) (i : Fin 8) (f : Sensor → Sensor) : (x.modSensor i f).chas = { x.chas with sensors := x.chas.sensors.modify i f } := rfl
@[simp] theorem Lane.modSensor_cfg (x : Lane) (i : Fin 8) (f : Sensor → Sensor) : (x.modSensor i f).cfg = x.cfg := rfl

@[simp] theorem Lane.modPort_id (x : Lane) (p : PortId) (f : FabPort → FabPort) : (x.modPort p f).id = x.id := rfl
@[simp] theorem Lane.modPort_now (x : Lane) (p : PortId) (f : FabPort → FabPort) : (x.modPort p f).now = x.now := rfl
@[simp] theorem Lane.modPort_clk (x : Lane) (p : PortId) (f : FabPort → FabPort) : (x.modPort p f).clk = x.clk := rfl
@[simp] theorem Lane.modPort_due (x : Lane) (p : PortId) (f : FabPort → FabPort) : (x.modPort p f).due = x.due := rfl
@[simp] theorem Lane.modPort_tick (x : Lane) (p : PortId) (f : FabPort → FabPort) : (x.modPort p f).tick = x.tick := rfl
@[simp] theorem Lane.modPort_start (x : Lane) (p : PortId) (f : FabPort → FabPort) : (x.modPort p f).start = x.start := rfl
@[simp] theorem Lane.modPort_gat (x : Lane) (p : PortId) (f : FabPort → FabPort) : (x.modPort p f).gat = x.gat := rfl
@[simp] theorem Lane.modPort_lease (x : Lane) (p : PortId) (f : FabPort → FabPort) : (x.modPort p f).lease = x.lease := rfl
@[simp] theorem Lane.modPort_peer (x : Lane) (p : PortId) (f : FabPort → FabPort) : (x.modPort p f).peer = x.peer := rfl
@[simp] theorem Lane.modPort_out (x : Lane) (p : PortId) (f : FabPort → FabPort) : (x.modPort p f).out = x.out := rfl
@[simp] theorem Lane.modPort_fbk (x : Lane) (p : PortId) (f : FabPort → FabPort) : (x.modPort p f).fbk = x.fbk := rfl
@[simp] theorem Lane.modPort_prof (x : Lane) (p : PortId) (f : FabPort → FabPort) : (x.modPort p f).prof = x.prof := rfl
@[simp] theorem Lane.modPort_swNeg (x : Lane) (p : PortId) (f : FabPort → FabPort) : (x.modPort p f).swNeg = x.swNeg := rfl
@[simp] theorem Lane.modPort_swPos (x : Lane) (p : PortId) (f : FabPort → FabPort) : (x.modPort p f).swPos = x.swPos := rfl
@[simp] theorem Lane.modPort_stepIn (x : Lane) (p : PortId) (f : FabPort → FabPort) : (x.modPort p f).stepIn = x.stepIn := rfl
@[simp] theorem Lane.modPort_loop (x : Lane) (p : PortId) (f : FabPort → FabPort) : (x.modPort p f).loop = x.loop := rfl
@[simp] theorem Lane.modPort_sup (x : Lane) (p : PortId) (f : FabPort → FabPort) : (x.modPort p f).sup = x.sup := rfl
@[simp] theorem Lane.modPort_comm (x : Lane) (p : PortId) (f : FabPort → FabPort) : (x.modPort p f).comm = x.comm := rfl
@[simp] theorem Lane.modPort_pwm (x : Lane) (p : PortId) (f : FabPort → FabPort) : (x.modPort p f).pwm = x.pwm := rfl
@[simp] theorem Lane.modPort_leg (x : Lane) (p : PortId) (f : FabPort → FabPort) : (x.modPort p f).leg = x.leg := rfl
@[simp] theorem Lane.modPort_evLine (x : Lane) (p : PortId) (f : FabPort → FabPort) : (x.modPort p f).evLine = x.evLine := rfl
@[simp] theorem Lane.modPort_bus (x : Lane) (p : PortId) (f : FabPort → FabPort) : (x.modPort p f).bus = x.bus := rfl
@[simp] theorem Lane.modPort_chas (x : Lane) (p : PortId) (f : FabPort → FabPort) : (x.modPort p f).chas = x.chas := rfl
@[simp] theorem Lane.modPort_detailOut (x : Lane) (p : PortId) (f : FabPort → FabPort) : (x.modPort p f).detailOut = x.detailOut := rfl
@[simp] theorem Lane.modPort_shadowOut (x : Lane) (p : PortId) (f : FabPort → FabPort) : (x.modPort p f).shadowOut = x.shadowOut := rfl
@[simp] theorem Lane.modPort_px (x : Lane) (p : PortId) (f : FabPort → FabPort) : (x.modPort p f).px = x.px := rfl
@[simp] theorem Lane.modPort_sup22 (x : Lane) (p : PortId) (f : FabPort → FabPort) : (x.modPort p f).sup22 = x.sup22 := rfl
@[simp] theorem Lane.modPort_car (x : Lane) (p : PortId) (f : FabPort → FabPort) : (x.modPort p f).car = x.car := rfl
@[simp] theorem Lane.modPort_can (x : Lane) (p : PortId) (f : FabPort → FabPort) : (x.modPort p f).can = x.can := rfl
@[simp] theorem Lane.modPort_job (x : Lane) (p : PortId) (f : FabPort → FabPort) : (x.modPort p f).job = x.job := rfl
@[simp] theorem Lane.modPort_col (x : Lane) (p : PortId) (f : FabPort → FabPort) : (x.modPort p f).col = x.col := rfl
@[simp] theorem Lane.modPort_nvm (x : Lane) (p : PortId) (f : FabPort → FabPort) : (x.modPort p f).nvm = x.nvm := rfl
@[simp] theorem Lane.modPort_cfg (x : Lane) (p : PortId) (f : FabPort → FabPort) : (x.modPort p f).cfg = x.cfg := rfl

@[simp] theorem Lane.modSub_id (x : Lane) (j : Fin 16) (f : Sub → Sub) : (x.modSub j f).id = x.id := rfl
@[simp] theorem Lane.modSub_now (x : Lane) (j : Fin 16) (f : Sub → Sub) : (x.modSub j f).now = x.now := rfl
@[simp] theorem Lane.modSub_clk (x : Lane) (j : Fin 16) (f : Sub → Sub) : (x.modSub j f).clk = x.clk := rfl
@[simp] theorem Lane.modSub_due (x : Lane) (j : Fin 16) (f : Sub → Sub) : (x.modSub j f).due = x.due := rfl
@[simp] theorem Lane.modSub_tick (x : Lane) (j : Fin 16) (f : Sub → Sub) : (x.modSub j f).tick = x.tick := rfl
@[simp] theorem Lane.modSub_start (x : Lane) (j : Fin 16) (f : Sub → Sub) : (x.modSub j f).start = x.start := rfl
@[simp] theorem Lane.modSub_gat (x : Lane) (j : Fin 16) (f : Sub → Sub) : (x.modSub j f).gat = x.gat := rfl
@[simp] theorem Lane.modSub_lease (x : Lane) (j : Fin 16) (f : Sub → Sub) : (x.modSub j f).lease = x.lease := rfl
@[simp] theorem Lane.modSub_peer (x : Lane) (j : Fin 16) (f : Sub → Sub) : (x.modSub j f).peer = x.peer := rfl
@[simp] theorem Lane.modSub_out (x : Lane) (j : Fin 16) (f : Sub → Sub) : (x.modSub j f).out = x.out := rfl
@[simp] theorem Lane.modSub_fbk (x : Lane) (j : Fin 16) (f : Sub → Sub) : (x.modSub j f).fbk = x.fbk := rfl
@[simp] theorem Lane.modSub_prof (x : Lane) (j : Fin 16) (f : Sub → Sub) : (x.modSub j f).prof = x.prof := rfl
@[simp] theorem Lane.modSub_swNeg (x : Lane) (j : Fin 16) (f : Sub → Sub) : (x.modSub j f).swNeg = x.swNeg := rfl
@[simp] theorem Lane.modSub_swPos (x : Lane) (j : Fin 16) (f : Sub → Sub) : (x.modSub j f).swPos = x.swPos := rfl
@[simp] theorem Lane.modSub_stepIn (x : Lane) (j : Fin 16) (f : Sub → Sub) : (x.modSub j f).stepIn = x.stepIn := rfl
@[simp] theorem Lane.modSub_loop (x : Lane) (j : Fin 16) (f : Sub → Sub) : (x.modSub j f).loop = x.loop := rfl
@[simp] theorem Lane.modSub_sup (x : Lane) (j : Fin 16) (f : Sub → Sub) : (x.modSub j f).sup = x.sup := rfl
@[simp] theorem Lane.modSub_comm (x : Lane) (j : Fin 16) (f : Sub → Sub) : (x.modSub j f).comm = x.comm := rfl
@[simp] theorem Lane.modSub_pwm (x : Lane) (j : Fin 16) (f : Sub → Sub) : (x.modSub j f).pwm = x.pwm := rfl
@[simp] theorem Lane.modSub_leg (x : Lane) (j : Fin 16) (f : Sub → Sub) : (x.modSub j f).leg = x.leg := rfl
@[simp] theorem Lane.modSub_evLine (x : Lane) (j : Fin 16) (f : Sub → Sub) : (x.modSub j f).evLine = x.evLine := rfl
@[simp] theorem Lane.modSub_bus (x : Lane) (j : Fin 16) (f : Sub → Sub) : (x.modSub j f).bus = x.bus := rfl
@[simp] theorem Lane.modSub_chas (x : Lane) (j : Fin 16) (f : Sub → Sub) : (x.modSub j f).chas = x.chas := rfl
@[simp] theorem Lane.modSub_detailOut (x : Lane) (j : Fin 16) (f : Sub → Sub) : (x.modSub j f).detailOut = x.detailOut := rfl
@[simp] theorem Lane.modSub_shadowOut (x : Lane) (j : Fin 16) (f : Sub → Sub) : (x.modSub j f).shadowOut = x.shadowOut := rfl
@[simp] theorem Lane.modSub_px (x : Lane) (j : Fin 16) (f : Sub → Sub) : (x.modSub j f).px = x.px := rfl
@[simp] theorem Lane.modSub_sup22 (x : Lane) (j : Fin 16) (f : Sub → Sub) : (x.modSub j f).sup22 = x.sup22 := rfl
@[simp] theorem Lane.modSub_fab (x : Lane) (j : Fin 16) (f : Sub → Sub) : (x.modSub j f).fab = x.fab := rfl
@[simp] theorem Lane.modSub_can (x : Lane) (j : Fin 16) (f : Sub → Sub) : (x.modSub j f).can = x.can := rfl
@[simp] theorem Lane.modSub_job (x : Lane) (j : Fin 16) (f : Sub → Sub) : (x.modSub j f).job = x.job := rfl
@[simp] theorem Lane.modSub_col (x : Lane) (j : Fin 16) (f : Sub → Sub) : (x.modSub j f).col = x.col := rfl
@[simp] theorem Lane.modSub_nvm (x : Lane) (j : Fin 16) (f : Sub → Sub) : (x.modSub j f).nvm = x.nvm := rfl
@[simp] theorem Lane.modSub_car (x : Lane) (j : Fin 16) (f : Sub → Sub) : (x.modSub j f).car = { x.car with subs := x.car.subs.modify j f } := rfl
@[simp] theorem Lane.modSub_cfg (x : Lane) (j : Fin 16) (f : Sub → Sub) : (x.modSub j f).cfg = x.cfg := rfl

@[simp] theorem Lane.modCan_id (x : Lane) (c : CanId) (f : CanCtl → CanCtl) : (x.modCan c f).id = x.id := rfl
@[simp] theorem Lane.modCan_now (x : Lane) (c : CanId) (f : CanCtl → CanCtl) : (x.modCan c f).now = x.now := rfl
@[simp] theorem Lane.modCan_clk (x : Lane) (c : CanId) (f : CanCtl → CanCtl) : (x.modCan c f).clk = x.clk := rfl
@[simp] theorem Lane.modCan_due (x : Lane) (c : CanId) (f : CanCtl → CanCtl) : (x.modCan c f).due = x.due := rfl
@[simp] theorem Lane.modCan_tick (x : Lane) (c : CanId) (f : CanCtl → CanCtl) : (x.modCan c f).tick = x.tick := rfl
@[simp] theorem Lane.modCan_start (x : Lane) (c : CanId) (f : CanCtl → CanCtl) : (x.modCan c f).start = x.start := rfl
@[simp] theorem Lane.modCan_gat (x : Lane) (c : CanId) (f : CanCtl → CanCtl) : (x.modCan c f).gat = x.gat := rfl
@[simp] theorem Lane.modCan_lease (x : Lane) (c : CanId) (f : CanCtl → CanCtl) : (x.modCan c f).lease = x.lease := rfl
@[simp] theorem Lane.modCan_peer (x : Lane) (c : CanId) (f : CanCtl → CanCtl) : (x.modCan c f).peer = x.peer := rfl
@[simp] theorem Lane.modCan_out (x : Lane) (c : CanId) (f : CanCtl → CanCtl) : (x.modCan c f).out = x.out := rfl
@[simp] theorem Lane.modCan_fbk (x : Lane) (c : CanId) (f : CanCtl → CanCtl) : (x.modCan c f).fbk = x.fbk := rfl
@[simp] theorem Lane.modCan_prof (x : Lane) (c : CanId) (f : CanCtl → CanCtl) : (x.modCan c f).prof = x.prof := rfl
@[simp] theorem Lane.modCan_swNeg (x : Lane) (c : CanId) (f : CanCtl → CanCtl) : (x.modCan c f).swNeg = x.swNeg := rfl
@[simp] theorem Lane.modCan_swPos (x : Lane) (c : CanId) (f : CanCtl → CanCtl) : (x.modCan c f).swPos = x.swPos := rfl
@[simp] theorem Lane.modCan_stepIn (x : Lane) (c : CanId) (f : CanCtl → CanCtl) : (x.modCan c f).stepIn = x.stepIn := rfl
@[simp] theorem Lane.modCan_loop (x : Lane) (c : CanId) (f : CanCtl → CanCtl) : (x.modCan c f).loop = x.loop := rfl
@[simp] theorem Lane.modCan_sup (x : Lane) (c : CanId) (f : CanCtl → CanCtl) : (x.modCan c f).sup = x.sup := rfl
@[simp] theorem Lane.modCan_comm (x : Lane) (c : CanId) (f : CanCtl → CanCtl) : (x.modCan c f).comm = x.comm := rfl
@[simp] theorem Lane.modCan_pwm (x : Lane) (c : CanId) (f : CanCtl → CanCtl) : (x.modCan c f).pwm = x.pwm := rfl
@[simp] theorem Lane.modCan_leg (x : Lane) (c : CanId) (f : CanCtl → CanCtl) : (x.modCan c f).leg = x.leg := rfl
@[simp] theorem Lane.modCan_evLine (x : Lane) (c : CanId) (f : CanCtl → CanCtl) : (x.modCan c f).evLine = x.evLine := rfl
@[simp] theorem Lane.modCan_bus (x : Lane) (c : CanId) (f : CanCtl → CanCtl) : (x.modCan c f).bus = x.bus := rfl
@[simp] theorem Lane.modCan_chas (x : Lane) (c : CanId) (f : CanCtl → CanCtl) : (x.modCan c f).chas = x.chas := rfl
@[simp] theorem Lane.modCan_detailOut (x : Lane) (c : CanId) (f : CanCtl → CanCtl) : (x.modCan c f).detailOut = x.detailOut := rfl
@[simp] theorem Lane.modCan_shadowOut (x : Lane) (c : CanId) (f : CanCtl → CanCtl) : (x.modCan c f).shadowOut = x.shadowOut := rfl
@[simp] theorem Lane.modCan_px (x : Lane) (c : CanId) (f : CanCtl → CanCtl) : (x.modCan c f).px = x.px := rfl
@[simp] theorem Lane.modCan_sup22 (x : Lane) (c : CanId) (f : CanCtl → CanCtl) : (x.modCan c f).sup22 = x.sup22 := rfl
@[simp] theorem Lane.modCan_fab (x : Lane) (c : CanId) (f : CanCtl → CanCtl) : (x.modCan c f).fab = x.fab := rfl
@[simp] theorem Lane.modCan_car (x : Lane) (c : CanId) (f : CanCtl → CanCtl) : (x.modCan c f).car = x.car := rfl
@[simp] theorem Lane.modCan_job (x : Lane) (c : CanId) (f : CanCtl → CanCtl) : (x.modCan c f).job = x.job := rfl
@[simp] theorem Lane.modCan_col (x : Lane) (c : CanId) (f : CanCtl → CanCtl) : (x.modCan c f).col = x.col := rfl
@[simp] theorem Lane.modCan_nvm (x : Lane) (c : CanId) (f : CanCtl → CanCtl) : (x.modCan c f).nvm = x.nvm := rfl
@[simp] theorem Lane.modCan_can (x : Lane) (c : CanId) (f : CanCtl → CanCtl) : (x.modCan c f).can = { x.can with ctl := x.can.ctl.modify c f } := rfl
@[simp] theorem Lane.modCan_cfg (x : Lane) (c : CanId) (f : CanCtl → CanCtl) : (x.modCan c f).cfg = x.cfg := rfl

@[simp] theorem Lane.modFw_id (x : Lane) (f : FwLoad → FwLoad) : (x.modFw f).id = x.id := rfl
@[simp] theorem Lane.modFw_now (x : Lane) (f : FwLoad → FwLoad) : (x.modFw f).now = x.now := rfl
@[simp] theorem Lane.modFw_clk (x : Lane) (f : FwLoad → FwLoad) : (x.modFw f).clk = x.clk := rfl
@[simp] theorem Lane.modFw_due (x : Lane) (f : FwLoad → FwLoad) : (x.modFw f).due = x.due := rfl
@[simp] theorem Lane.modFw_tick (x : Lane) (f : FwLoad → FwLoad) : (x.modFw f).tick = x.tick := rfl
@[simp] theorem Lane.modFw_start (x : Lane) (f : FwLoad → FwLoad) : (x.modFw f).start = x.start := rfl
@[simp] theorem Lane.modFw_gat (x : Lane) (f : FwLoad → FwLoad) : (x.modFw f).gat = x.gat := rfl
@[simp] theorem Lane.modFw_lease (x : Lane) (f : FwLoad → FwLoad) : (x.modFw f).lease = x.lease := rfl
@[simp] theorem Lane.modFw_peer (x : Lane) (f : FwLoad → FwLoad) : (x.modFw f).peer = x.peer := rfl
@[simp] theorem Lane.modFw_out (x : Lane) (f : FwLoad → FwLoad) : (x.modFw f).out = x.out := rfl
@[simp] theorem Lane.modFw_fbk (x : Lane) (f : FwLoad → FwLoad) : (x.modFw f).fbk = x.fbk := rfl
@[simp] theorem Lane.modFw_prof (x : Lane) (f : FwLoad → FwLoad) : (x.modFw f).prof = x.prof := rfl
@[simp] theorem Lane.modFw_swNeg (x : Lane) (f : FwLoad → FwLoad) : (x.modFw f).swNeg = x.swNeg := rfl
@[simp] theorem Lane.modFw_swPos (x : Lane) (f : FwLoad → FwLoad) : (x.modFw f).swPos = x.swPos := rfl
@[simp] theorem Lane.modFw_stepIn (x : Lane) (f : FwLoad → FwLoad) : (x.modFw f).stepIn = x.stepIn := rfl
@[simp] theorem Lane.modFw_loop (x : Lane) (f : FwLoad → FwLoad) : (x.modFw f).loop = x.loop := rfl
@[simp] theorem Lane.modFw_sup (x : Lane) (f : FwLoad → FwLoad) : (x.modFw f).sup = x.sup := rfl
@[simp] theorem Lane.modFw_comm (x : Lane) (f : FwLoad → FwLoad) : (x.modFw f).comm = x.comm := rfl
@[simp] theorem Lane.modFw_pwm (x : Lane) (f : FwLoad → FwLoad) : (x.modFw f).pwm = x.pwm := rfl
@[simp] theorem Lane.modFw_leg (x : Lane) (f : FwLoad → FwLoad) : (x.modFw f).leg = x.leg := rfl
@[simp] theorem Lane.modFw_evLine (x : Lane) (f : FwLoad → FwLoad) : (x.modFw f).evLine = x.evLine := rfl
@[simp] theorem Lane.modFw_bus (x : Lane) (f : FwLoad → FwLoad) : (x.modFw f).bus = x.bus := rfl
@[simp] theorem Lane.modFw_chas (x : Lane) (f : FwLoad → FwLoad) : (x.modFw f).chas = x.chas := rfl
@[simp] theorem Lane.modFw_detailOut (x : Lane) (f : FwLoad → FwLoad) : (x.modFw f).detailOut = x.detailOut := rfl
@[simp] theorem Lane.modFw_shadowOut (x : Lane) (f : FwLoad → FwLoad) : (x.modFw f).shadowOut = x.shadowOut := rfl
@[simp] theorem Lane.modFw_px (x : Lane) (f : FwLoad → FwLoad) : (x.modFw f).px = x.px := rfl
@[simp] theorem Lane.modFw_sup22 (x : Lane) (f : FwLoad → FwLoad) : (x.modFw f).sup22 = x.sup22 := rfl
@[simp] theorem Lane.modFw_fab (x : Lane) (f : FwLoad → FwLoad) : (x.modFw f).fab = x.fab := rfl
@[simp] theorem Lane.modFw_car (x : Lane) (f : FwLoad → FwLoad) : (x.modFw f).car = x.car := rfl
@[simp] theorem Lane.modFw_can (x : Lane) (f : FwLoad → FwLoad) : (x.modFw f).can = x.can := rfl
@[simp] theorem Lane.modFw_col (x : Lane) (f : FwLoad → FwLoad) : (x.modFw f).col = x.col := rfl
@[simp] theorem Lane.modFw_nvm (x : Lane) (f : FwLoad → FwLoad) : (x.modFw f).nvm = x.nvm := rfl
@[simp] theorem Lane.modFw_job (x : Lane) (f : FwLoad → FwLoad) : (x.modFw f).job = { x.job with fw := f x.job.fw } := rfl
@[simp] theorem Lane.modFw_cfg (x : Lane) (f : FwLoad → FwLoad) : (x.modFw f).cfg = x.cfg := rfl

@[simp] theorem Lane.modRg_id (x : Lane) (f : Regather → Regather) : (x.modRg f).id = x.id := rfl
@[simp] theorem Lane.modRg_now (x : Lane) (f : Regather → Regather) : (x.modRg f).now = x.now := rfl
@[simp] theorem Lane.modRg_clk (x : Lane) (f : Regather → Regather) : (x.modRg f).clk = x.clk := rfl
@[simp] theorem Lane.modRg_due (x : Lane) (f : Regather → Regather) : (x.modRg f).due = x.due := rfl
@[simp] theorem Lane.modRg_tick (x : Lane) (f : Regather → Regather) : (x.modRg f).tick = x.tick := rfl
@[simp] theorem Lane.modRg_start (x : Lane) (f : Regather → Regather) : (x.modRg f).start = x.start := rfl
@[simp] theorem Lane.modRg_gat (x : Lane) (f : Regather → Regather) : (x.modRg f).gat = x.gat := rfl
@[simp] theorem Lane.modRg_lease (x : Lane) (f : Regather → Regather) : (x.modRg f).lease = x.lease := rfl
@[simp] theorem Lane.modRg_peer (x : Lane) (f : Regather → Regather) : (x.modRg f).peer = x.peer := rfl
@[simp] theorem Lane.modRg_out (x : Lane) (f : Regather → Regather) : (x.modRg f).out = x.out := rfl
@[simp] theorem Lane.modRg_fbk (x : Lane) (f : Regather → Regather) : (x.modRg f).fbk = x.fbk := rfl
@[simp] theorem Lane.modRg_prof (x : Lane) (f : Regather → Regather) : (x.modRg f).prof = x.prof := rfl
@[simp] theorem Lane.modRg_swNeg (x : Lane) (f : Regather → Regather) : (x.modRg f).swNeg = x.swNeg := rfl
@[simp] theorem Lane.modRg_swPos (x : Lane) (f : Regather → Regather) : (x.modRg f).swPos = x.swPos := rfl
@[simp] theorem Lane.modRg_stepIn (x : Lane) (f : Regather → Regather) : (x.modRg f).stepIn = x.stepIn := rfl
@[simp] theorem Lane.modRg_loop (x : Lane) (f : Regather → Regather) : (x.modRg f).loop = x.loop := rfl
@[simp] theorem Lane.modRg_sup (x : Lane) (f : Regather → Regather) : (x.modRg f).sup = x.sup := rfl
@[simp] theorem Lane.modRg_comm (x : Lane) (f : Regather → Regather) : (x.modRg f).comm = x.comm := rfl
@[simp] theorem Lane.modRg_pwm (x : Lane) (f : Regather → Regather) : (x.modRg f).pwm = x.pwm := rfl
@[simp] theorem Lane.modRg_leg (x : Lane) (f : Regather → Regather) : (x.modRg f).leg = x.leg := rfl
@[simp] theorem Lane.modRg_evLine (x : Lane) (f : Regather → Regather) : (x.modRg f).evLine = x.evLine := rfl
@[simp] theorem Lane.modRg_bus (x : Lane) (f : Regather → Regather) : (x.modRg f).bus = x.bus := rfl
@[simp] theorem Lane.modRg_chas (x : Lane) (f : Regather → Regather) : (x.modRg f).chas = x.chas := rfl
@[simp] theorem Lane.modRg_detailOut (x : Lane) (f : Regather → Regather) : (x.modRg f).detailOut = x.detailOut := rfl
@[simp] theorem Lane.modRg_shadowOut (x : Lane) (f : Regather → Regather) : (x.modRg f).shadowOut = x.shadowOut := rfl
@[simp] theorem Lane.modRg_px (x : Lane) (f : Regather → Regather) : (x.modRg f).px = x.px := rfl
@[simp] theorem Lane.modRg_sup22 (x : Lane) (f : Regather → Regather) : (x.modRg f).sup22 = x.sup22 := rfl
@[simp] theorem Lane.modRg_fab (x : Lane) (f : Regather → Regather) : (x.modRg f).fab = x.fab := rfl
@[simp] theorem Lane.modRg_car (x : Lane) (f : Regather → Regather) : (x.modRg f).car = x.car := rfl
@[simp] theorem Lane.modRg_can (x : Lane) (f : Regather → Regather) : (x.modRg f).can = x.can := rfl
@[simp] theorem Lane.modRg_col (x : Lane) (f : Regather → Regather) : (x.modRg f).col = x.col := rfl
@[simp] theorem Lane.modRg_nvm (x : Lane) (f : Regather → Regather) : (x.modRg f).nvm = x.nvm := rfl
@[simp] theorem Lane.modRg_job (x : Lane) (f : Regather → Regather) : (x.modRg f).job = { x.job with rg := f x.job.rg } := rfl
@[simp] theorem Lane.modRg_cfg (x : Lane) (f : Regather → Regather) : (x.modRg f).cfg = x.cfg := rfl

@[simp] theorem Lane.modCf_id (x : Lane) (f : CentreFind → CentreFind) : (x.modCf f).id = x.id := rfl
@[simp] theorem Lane.modCf_now (x : Lane) (f : CentreFind → CentreFind) : (x.modCf f).now = x.now := rfl
@[simp] theorem Lane.modCf_clk (x : Lane) (f : CentreFind → CentreFind) : (x.modCf f).clk = x.clk := rfl
@[simp] theorem Lane.modCf_due (x : Lane) (f : CentreFind → CentreFind) : (x.modCf f).due = x.due := rfl
@[simp] theorem Lane.modCf_tick (x : Lane) (f : CentreFind → CentreFind) : (x.modCf f).tick = x.tick := rfl
@[simp] theorem Lane.modCf_start (x : Lane) (f : CentreFind → CentreFind) : (x.modCf f).start = x.start := rfl
@[simp] theorem Lane.modCf_gat (x : Lane) (f : CentreFind → CentreFind) : (x.modCf f).gat = x.gat := rfl
@[simp] theorem Lane.modCf_lease (x : Lane) (f : CentreFind → CentreFind) : (x.modCf f).lease = x.lease := rfl
@[simp] theorem Lane.modCf_peer (x : Lane) (f : CentreFind → CentreFind) : (x.modCf f).peer = x.peer := rfl
@[simp] theorem Lane.modCf_out (x : Lane) (f : CentreFind → CentreFind) : (x.modCf f).out = x.out := rfl
@[simp] theorem Lane.modCf_fbk (x : Lane) (f : CentreFind → CentreFind) : (x.modCf f).fbk = x.fbk := rfl
@[simp] theorem Lane.modCf_prof (x : Lane) (f : CentreFind → CentreFind) : (x.modCf f).prof = x.prof := rfl
@[simp] theorem Lane.modCf_swNeg (x : Lane) (f : CentreFind → CentreFind) : (x.modCf f).swNeg = x.swNeg := rfl
@[simp] theorem Lane.modCf_swPos (x : Lane) (f : CentreFind → CentreFind) : (x.modCf f).swPos = x.swPos := rfl
@[simp] theorem Lane.modCf_stepIn (x : Lane) (f : CentreFind → CentreFind) : (x.modCf f).stepIn = x.stepIn := rfl
@[simp] theorem Lane.modCf_loop (x : Lane) (f : CentreFind → CentreFind) : (x.modCf f).loop = x.loop := rfl
@[simp] theorem Lane.modCf_sup (x : Lane) (f : CentreFind → CentreFind) : (x.modCf f).sup = x.sup := rfl
@[simp] theorem Lane.modCf_comm (x : Lane) (f : CentreFind → CentreFind) : (x.modCf f).comm = x.comm := rfl
@[simp] theorem Lane.modCf_pwm (x : Lane) (f : CentreFind → CentreFind) : (x.modCf f).pwm = x.pwm := rfl
@[simp] theorem Lane.modCf_leg (x : Lane) (f : CentreFind → CentreFind) : (x.modCf f).leg = x.leg := rfl
@[simp] theorem Lane.modCf_evLine (x : Lane) (f : CentreFind → CentreFind) : (x.modCf f).evLine = x.evLine := rfl
@[simp] theorem Lane.modCf_bus (x : Lane) (f : CentreFind → CentreFind) : (x.modCf f).bus = x.bus := rfl
@[simp] theorem Lane.modCf_chas (x : Lane) (f : CentreFind → CentreFind) : (x.modCf f).chas = x.chas := rfl
@[simp] theorem Lane.modCf_detailOut (x : Lane) (f : CentreFind → CentreFind) : (x.modCf f).detailOut = x.detailOut := rfl
@[simp] theorem Lane.modCf_shadowOut (x : Lane) (f : CentreFind → CentreFind) : (x.modCf f).shadowOut = x.shadowOut := rfl
@[simp] theorem Lane.modCf_px (x : Lane) (f : CentreFind → CentreFind) : (x.modCf f).px = x.px := rfl
@[simp] theorem Lane.modCf_sup22 (x : Lane) (f : CentreFind → CentreFind) : (x.modCf f).sup22 = x.sup22 := rfl
@[simp] theorem Lane.modCf_fab (x : Lane) (f : CentreFind → CentreFind) : (x.modCf f).fab = x.fab := rfl
@[simp] theorem Lane.modCf_car (x : Lane) (f : CentreFind → CentreFind) : (x.modCf f).car = x.car := rfl
@[simp] theorem Lane.modCf_can (x : Lane) (f : CentreFind → CentreFind) : (x.modCf f).can = x.can := rfl
@[simp] theorem Lane.modCf_col (x : Lane) (f : CentreFind → CentreFind) : (x.modCf f).col = x.col := rfl
@[simp] theorem Lane.modCf_nvm (x : Lane) (f : CentreFind → CentreFind) : (x.modCf f).nvm = x.nvm := rfl
@[simp] theorem Lane.modCf_job (x : Lane) (f : CentreFind → CentreFind) : (x.modCf f).job = { x.job with cf := f x.job.cf } := rfl
@[simp] theorem Lane.modCf_cfg (x : Lane) (f : CentreFind → CentreFind) : (x.modCf f).cfg = x.cfg := rfl

@[simp] theorem Lane.modEl_id (x : Lane) (f : EndLearn → EndLearn) : (x.modEl f).id = x.id := rfl
@[simp] theorem Lane.modEl_now (x : Lane) (f : EndLearn → EndLearn) : (x.modEl f).now = x.now := rfl
@[simp] theorem Lane.modEl_clk (x : Lane) (f : EndLearn → EndLearn) : (x.modEl f).clk = x.clk := rfl
@[simp] theorem Lane.modEl_due (x : Lane) (f : EndLearn → EndLearn) : (x.modEl f).due = x.due := rfl
@[simp] theorem Lane.modEl_tick (x : Lane) (f : EndLearn → EndLearn) : (x.modEl f).tick = x.tick := rfl
@[simp] theorem Lane.modEl_start (x : Lane) (f : EndLearn → EndLearn) : (x.modEl f).start = x.start := rfl
@[simp] theorem Lane.modEl_gat (x : Lane) (f : EndLearn → EndLearn) : (x.modEl f).gat = x.gat := rfl
@[simp] theorem Lane.modEl_lease (x : Lane) (f : EndLearn → EndLearn) : (x.modEl f).lease = x.lease := rfl
@[simp] theorem Lane.modEl_peer (x : Lane) (f : EndLearn → EndLearn) : (x.modEl f).peer = x.peer := rfl
@[simp] theorem Lane.modEl_out (x : Lane) (f : EndLearn → EndLearn) : (x.modEl f).out = x.out := rfl
@[simp] theorem Lane.modEl_fbk (x : Lane) (f : EndLearn → EndLearn) : (x.modEl f).fbk = x.fbk := rfl
@[simp] theorem Lane.modEl_prof (x : Lane) (f : EndLearn → EndLearn) : (x.modEl f).prof = x.prof := rfl
@[simp] theorem Lane.modEl_swNeg (x : Lane) (f : EndLearn → EndLearn) : (x.modEl f).swNeg = x.swNeg := rfl
@[simp] theorem Lane.modEl_swPos (x : Lane) (f : EndLearn → EndLearn) : (x.modEl f).swPos = x.swPos := rfl
@[simp] theorem Lane.modEl_stepIn (x : Lane) (f : EndLearn → EndLearn) : (x.modEl f).stepIn = x.stepIn := rfl
@[simp] theorem Lane.modEl_loop (x : Lane) (f : EndLearn → EndLearn) : (x.modEl f).loop = x.loop := rfl
@[simp] theorem Lane.modEl_sup (x : Lane) (f : EndLearn → EndLearn) : (x.modEl f).sup = x.sup := rfl
@[simp] theorem Lane.modEl_comm (x : Lane) (f : EndLearn → EndLearn) : (x.modEl f).comm = x.comm := rfl
@[simp] theorem Lane.modEl_pwm (x : Lane) (f : EndLearn → EndLearn) : (x.modEl f).pwm = x.pwm := rfl
@[simp] theorem Lane.modEl_leg (x : Lane) (f : EndLearn → EndLearn) : (x.modEl f).leg = x.leg := rfl
@[simp] theorem Lane.modEl_evLine (x : Lane) (f : EndLearn → EndLearn) : (x.modEl f).evLine = x.evLine := rfl
@[simp] theorem Lane.modEl_bus (x : Lane) (f : EndLearn → EndLearn) : (x.modEl f).bus = x.bus := rfl
@[simp] theorem Lane.modEl_chas (x : Lane) (f : EndLearn → EndLearn) : (x.modEl f).chas = x.chas := rfl
@[simp] theorem Lane.modEl_detailOut (x : Lane) (f : EndLearn → EndLearn) : (x.modEl f).detailOut = x.detailOut := rfl
@[simp] theorem Lane.modEl_shadowOut (x : Lane) (f : EndLearn → EndLearn) : (x.modEl f).shadowOut = x.shadowOut := rfl
@[simp] theorem Lane.modEl_px (x : Lane) (f : EndLearn → EndLearn) : (x.modEl f).px = x.px := rfl
@[simp] theorem Lane.modEl_sup22 (x : Lane) (f : EndLearn → EndLearn) : (x.modEl f).sup22 = x.sup22 := rfl
@[simp] theorem Lane.modEl_fab (x : Lane) (f : EndLearn → EndLearn) : (x.modEl f).fab = x.fab := rfl
@[simp] theorem Lane.modEl_car (x : Lane) (f : EndLearn → EndLearn) : (x.modEl f).car = x.car := rfl
@[simp] theorem Lane.modEl_can (x : Lane) (f : EndLearn → EndLearn) : (x.modEl f).can = x.can := rfl
@[simp] theorem Lane.modEl_col (x : Lane) (f : EndLearn → EndLearn) : (x.modEl f).col = x.col := rfl
@[simp] theorem Lane.modEl_nvm (x : Lane) (f : EndLearn → EndLearn) : (x.modEl f).nvm = x.nvm := rfl
@[simp] theorem Lane.modEl_job (x : Lane) (f : EndLearn → EndLearn) : (x.modEl f).job = { x.job with el := f x.job.el } := rfl
@[simp] theorem Lane.modEl_cfg (x : Lane) (f : EndLearn → EndLearn) : (x.modEl f).cfg = x.cfg := rfl

@[simp] theorem Lane.modRt_id (x : Lane) (f : RotateTest → RotateTest) : (x.modRt f).id = x.id := rfl
@[simp] theorem Lane.modRt_now (x : Lane) (f : RotateTest → RotateTest) : (x.modRt f).now = x.now := rfl
@[simp] theorem Lane.modRt_clk (x : Lane) (f : RotateTest → RotateTest) : (x.modRt f).clk = x.clk := rfl
@[simp] theorem Lane.modRt_due (x : Lane) (f : RotateTest → RotateTest) : (x.modRt f).due = x.due := rfl
@[simp] theorem Lane.modRt_tick (x : Lane) (f : RotateTest → RotateTest) : (x.modRt f).tick = x.tick := rfl
@[simp] theorem Lane.modRt_start (x : Lane) (f : RotateTest → RotateTest) : (x.modRt f).start = x.start := rfl
@[simp] theorem Lane.modRt_gat (x : Lane) (f : RotateTest → RotateTest) : (x.modRt f).gat = x.gat := rfl
@[simp] theorem Lane.modRt_lease (x : Lane) (f : RotateTest → RotateTest) : (x.modRt f).lease = x.lease := rfl
@[simp] theorem Lane.modRt_peer (x : Lane) (f : RotateTest → RotateTest) : (x.modRt f).peer = x.peer := rfl
@[simp] theorem Lane.modRt_out (x : Lane) (f : RotateTest → RotateTest) : (x.modRt f).out = x.out := rfl
@[simp] theorem Lane.modRt_fbk (x : Lane) (f : RotateTest → RotateTest) : (x.modRt f).fbk = x.fbk := rfl
@[simp] theorem Lane.modRt_prof (x : Lane) (f : RotateTest → RotateTest) : (x.modRt f).prof = x.prof := rfl
@[simp] theorem Lane.modRt_swNeg (x : Lane) (f : RotateTest → RotateTest) : (x.modRt f).swNeg = x.swNeg := rfl
@[simp] theorem Lane.modRt_swPos (x : Lane) (f : RotateTest → RotateTest) : (x.modRt f).swPos = x.swPos := rfl
@[simp] theorem Lane.modRt_stepIn (x : Lane) (f : RotateTest → RotateTest) : (x.modRt f).stepIn = x.stepIn := rfl
@[simp] theorem Lane.modRt_loop (x : Lane) (f : RotateTest → RotateTest) : (x.modRt f).loop = x.loop := rfl
@[simp] theorem Lane.modRt_sup (x : Lane) (f : RotateTest → RotateTest) : (x.modRt f).sup = x.sup := rfl
@[simp] theorem Lane.modRt_comm (x : Lane) (f : RotateTest → RotateTest) : (x.modRt f).comm = x.comm := rfl
@[simp] theorem Lane.modRt_pwm (x : Lane) (f : RotateTest → RotateTest) : (x.modRt f).pwm = x.pwm := rfl
@[simp] theorem Lane.modRt_leg (x : Lane) (f : RotateTest → RotateTest) : (x.modRt f).leg = x.leg := rfl
@[simp] theorem Lane.modRt_evLine (x : Lane) (f : RotateTest → RotateTest) : (x.modRt f).evLine = x.evLine := rfl
@[simp] theorem Lane.modRt_bus (x : Lane) (f : RotateTest → RotateTest) : (x.modRt f).bus = x.bus := rfl
@[simp] theorem Lane.modRt_chas (x : Lane) (f : RotateTest → RotateTest) : (x.modRt f).chas = x.chas := rfl
@[simp] theorem Lane.modRt_detailOut (x : Lane) (f : RotateTest → RotateTest) : (x.modRt f).detailOut = x.detailOut := rfl
@[simp] theorem Lane.modRt_shadowOut (x : Lane) (f : RotateTest → RotateTest) : (x.modRt f).shadowOut = x.shadowOut := rfl
@[simp] theorem Lane.modRt_px (x : Lane) (f : RotateTest → RotateTest) : (x.modRt f).px = x.px := rfl
@[simp] theorem Lane.modRt_sup22 (x : Lane) (f : RotateTest → RotateTest) : (x.modRt f).sup22 = x.sup22 := rfl
@[simp] theorem Lane.modRt_fab (x : Lane) (f : RotateTest → RotateTest) : (x.modRt f).fab = x.fab := rfl
@[simp] theorem Lane.modRt_car (x : Lane) (f : RotateTest → RotateTest) : (x.modRt f).car = x.car := rfl
@[simp] theorem Lane.modRt_can (x : Lane) (f : RotateTest → RotateTest) : (x.modRt f).can = x.can := rfl
@[simp] theorem Lane.modRt_col (x : Lane) (f : RotateTest → RotateTest) : (x.modRt f).col = x.col := rfl
@[simp] theorem Lane.modRt_nvm (x : Lane) (f : RotateTest → RotateTest) : (x.modRt f).nvm = x.nvm := rfl
@[simp] theorem Lane.modRt_job (x : Lane) (f : RotateTest → RotateTest) : (x.modRt f).job = { x.job with rt := f x.job.rt } := rfl
@[simp] theorem Lane.modRt_cfg (x : Lane) (f : RotateTest → RotateTest) : (x.modRt f).cfg = x.cfg := rfl

/-! ## Lanes of the node -/

@[simp] theorem State.on_view (s : State) (x : LaneId) (f : Lane → Lane) : (s.on x f).view = s.view := rfl
@[simp] theorem State.on_commons (s : State) (x : LaneId) (f : Lane → Lane) : (s.on x f).commons = s.commons := rfl
@[simp] theorem State.on_pending (s : State) (x : LaneId) (f : Lane → Lane) : (s.on x f).pending = s.pending := rfl
@[simp] theorem State.onEarly_view (s : State) (x : LaneId) (f : Lane → Lane) : (s.onEarly x f).view = s.view := rfl
@[simp] theorem State.onEarly_commons (s : State) (x : LaneId) (f : Lane → Lane) : (s.onEarly x f).commons = s.commons := rfl
@[simp] theorem State.onEarly_pending (s : State) (x : LaneId) (f : Lane → Lane) : (s.onEarly x f).pending = s.pending := rfl
@[simp] theorem State.onCan_view (s : State) (c : CanId) (f : Lane → Lane) : (s.onCan c f).view = s.view := rfl
@[simp] theorem State.onCan_commons (s : State) (c : CanId) (f : Lane → Lane) : (s.onCan c f).commons = s.commons := rfl
@[simp] theorem State.onCan_pending (s : State) (c : CanId) (f : Lane → Lane) : (s.onCan c f).pending = s.pending := rfl

end Sys2Proof.Machine
end

