-- ==== Sys2Proof/Laws/Ops.lean ====
section
/-! SUPPORT. What the shared operations on the node can do: one lemma per operation, to be cited instead of unfolding it. -/

namespace Sys2Proof.Machine

/-! ## A node with one lane replaced -/

@[simp] theorem State.withLane_view (s : State) (x : LaneId) (y : Lane) : (s.withLane x y).view = s.view := rfl
@[simp] theorem State.withLane_commons (s : State) (x : LaneId) (y : Lane) : (s.withLane x y).commons = s.commons := rfl
@[simp] theorem State.withLane_pending (s : State) (x : LaneId) (y : Lane) : (s.withLane x y).pending = s.pending := rfl
@[simp] theorem State.withLane_get_self (s : State) (x : LaneId) (y : Lane) : (s.withLane x y).lanes.get x = y := by
  simp [State.withLane]
@[simp] theorem State.withLane_get_ne (s : State) {x z : LaneId} (y : Lane) (h : z ≠ x) : (s.withLane x y).lanes.get z = s.lanes.get z := by
  simp [State.withLane, h]

/-- A command of one lane gives the node with that lane replaced by what the meaning makes of it. -/
theorem State.on_eq (s : State) (x : LaneId) (f : Lane → Lane) : s.on x f = s.withLane x (f (s.lane x)) := rfl

/-- A command of one lane that falls before step 2 of the tick gives the node with that lane replaced. -/
theorem State.onEarly_eq (s : State) (x : LaneId) (f : Lane → Lane) : s.onEarly x f = s.withLane x (f (s.early x)) := rfl

/-- Where no step 2 is due, a command before step 2 and one behind it find the same lane. -/
theorem State.early_eq_lane (s : State) (x : LaneId) (h : (s.lanes.get x).due = none) : s.early x = s.lane x := by
  simp only [State.early, State.lane, Lane.ready, Lane.settle, h]

/-- A lane after a message on a CAN bus: acted on where it hears the bus, else as it was. -/
theorem State.onCan_get (s : State) (c : CanId) (f : Lane → Lane) (x : LaneId) :
    (s.onCan c f).lanes.get x = if (s.lane x).onBus c then f (s.lane x) else s.lanes.get x := by
  simp only [State.onCan, State.lane, PerLane.get_mapL]
  rfl

theorem State.onCan_get_off (s : State) {c : CanId} (f : Lane → Lane) {x : LaneId} (h : (s.lane x).onBus c = false) :
    (s.onCan c f).lanes.get x = s.lanes.get x := by
  simp [State.onCan_get, h]

/-- A lane after a service message: acted on through the voice that relays to it, else where it hears the bus, else as it was. -/
theorem State.onSvc_get (s : State) (h : SvcHdr) (f : Lane → Lane) (x : LaneId) :
    (s.onSvc h f).lanes.get x =
      match s.relayVoice h (s.lane x) with
      | some v => (s.lane x).asRelayed v h.can f
      | none => if (s.lane x).onBus h.can then f (s.lane x) else s.lanes.get x := by
  simp only [State.onSvc, State.lane, PerLane.get_mapL] <;> rfl

@[simp] theorem State.onSvc_view (s : State) (h : SvcHdr) (f : Lane → Lane) : (s.onSvc h f).view = s.view := rfl
@[simp] theorem State.onSvc_commons (s : State) (h : SvcHdr) (f : Lane → Lane) : (s.onSvc h f).commons = s.commons := rfl
@[simp] theorem State.onSvc_pending (s : State) (h : SvcHdr) (f : Lane → Lane) : (s.onSvc h f).pending = s.pending := rfl

theorem State.onSvc_get_off (s : State) {h : SvcHdr} (f : Lane → Lane) {x : LaneId} (hr : s.relayVoice h (s.lane x) = none)
    (hb : (s.lane x).onBus h.can = false) : (s.onSvc h f).lanes.get x = s.lanes.get x := by
  simp [State.onSvc_get, hr, hb]

/-- Nothing is relayed to a lane that has the bus itself, nor to one outside GATHER. -/
theorem State.relayVoice_isobus (s : State) (h : SvcHdr) {l : Lane} (hl : l.isobus h.can = true) : s.relayVoice h l = none := by
  simp [State.relayVoice, hl]
theorem State.relayVoice_state (s : State) (h : SvcHdr) {l : Lane} (hl : l.start.state ≠ .gather) : s.relayVoice h l = none := by
  simp [State.relayVoice, hl]

@[simp] theorem State.onReq_view (s : State) (o : ReqFrom) (f : Lane → Option SvcHdr → Lane) : (s.onReq o f).view = s.view := by
  cases o <;> rfl
@[simp] theorem State.onReq_commons (s : State) (o : ReqFrom) (f : Lane → Option SvcHdr → Lane) : (s.onReq o f).commons = s.commons := by
  cases o <;> rfl
@[simp] theorem State.onReq_pending (s : State) (o : ReqFrom) (f : Lane → Option SvcHdr → Lane) : (s.onReq o f).pending = s.pending := by
  cases o <;> rfl

@[simp] theorem State.noteExport_lanes (s : State) : s.noteExport.lanes = s.lanes := rfl
@[simp] theorem State.noteExport_view (s : State) : s.noteExport.view = s.view := rfl
@[simp] theorem State.noteExport_pending (s : State) : s.noteExport.pending = s.pending := rfl

@[simp] theorem State.tickLane_pending (s : State) (x : LaneId) (t : TickIn) : (s.tickLane x t).pending = s.pending := by
  unfold State.tickLane
  rfl

@[simp] theorem State.linkFrame_view (s : State) (x : LaneId) (r : LinkRx) : (s.linkFrame x r).view = s.view := by
  unfold State.linkFrame
  dsimp only
  split <;> rfl
@[simp] theorem State.linkFrame_commons (s : State) (x : LaneId) (r : LinkRx) : (s.linkFrame x r).commons = s.commons := by
  unfold State.linkFrame
  dsimp only
  split <;> rfl
@[simp] theorem State.linkFrame_pending (s : State) (x : LaneId) (r : LinkRx) : (s.linkFrame x r).pending = s.pending := by
  unfold State.linkFrame
  dsimp only
  split <;> rfl

/-- A section of a link frame concerns its sender and its receiver alone. -/
theorem State.linkFrame_get_ne (s : State) (x : LaneId) (r : LinkRx) {z : LaneId} (hx : z ≠ x) (hs : z ≠ r.sender) :
    (s.linkFrame x r).lanes.get z = s.lanes.get z := by
  unfold State.linkFrame
  dsimp only
  split <;> simp [hx, hs]

@[simp] theorem State.readExport_view (s : State) (h : SvcHdr) : (s.readExport h).view = s.view := rfl
@[simp] theorem State.readExport_pending (s : State) (h : SvcHdr) : (s.readExport h).pending = s.pending := rfl
@[simp] theorem State.readObject_view (s : State) (h : SvcHdr) (i : Nat) : (s.readObject h i).view = s.view := rfl
@[simp] theorem State.readObject_commons (s : State) (h : SvcHdr) (i : Nat) : (s.readObject h i).commons = s.commons := rfl
@[simp] theorem State.readObject_pending (s : State) (h : SvcHdr) (i : Nat) : (s.readObject h i).pending = s.pending := rfl

/-- A lane after an object read: answered from what it showed last where it hears the bus, else as it was. -/
theorem State.readObject_get (s : State) (h : SvcHdr) (i : Nat) {x : LaneId} (hr : s.relayVoice h (s.lane x) = none) :
    (s.readObject h i).lanes.get x =
      if (s.lane x).onBus h.can then (s.lane x).objectRead (s.view.get x) ((s.lane x).paramBytes i) s.commons h i
      else s.lanes.get x := by
  simp only [State.lane] at hr
  simp only [State.readObject, State.lane, PerLane.get_mapL, hr]
  rfl

@[simp] theorem State.commonsDown_view (s : State) : s.commonsDown.view = s.view := rfl
@[simp] theorem State.commonsDown_pending (s : State) : s.commonsDown.pending = s.pending := rfl
@[simp] theorem State.commonsBack_view (s : State) : s.commonsBack.view = s.view := rfl
@[simp] theorem State.commonsBack_pending (s : State) : s.commonsBack.pending = s.pending := rfl
@[simp] theorem State.windowClose_view (s : State) : s.windowClose.view = s.view := rfl
@[simp] theorem State.windowClose_pending (s : State) : s.windowClose.pending = s.pending := rfl
@[simp] theorem State.windowClose_lanes (s : State) : s.windowClose.lanes = s.lanes := rfl

/-- A lane of another place after a tick: itself, but for the note that it heard a frame of the node's address. -/
theorem State.tickLane_get_ne (s : State) {x y : LaneId} (t : TickIn) (h : y ≠ x) :
    ∃ tx, (s.tickLane x t).lanes.get y = (s.lanes.get y).hearOwn tx := by
  unfold State.tickLane
  dsimp only
  rw [PerLane.get_mapL, PerLane.get_set_ne _ _ h, State.noteExport_lanes]
  exact ⟨_, rfl⟩

@[simp] theorem State.tickLane_view_ne (s : State) {x y : LaneId} (t : TickIn) (h : y ≠ x) : (s.tickLane x t).view.get y = s.view.get y := by
  unfold State.tickLane
  dsimp only
  rw [PerLane.get_set_ne _ _ h, State.noteExport_view]

theorem Lane.hearOwn_cases (l tx : Lane) : l.hearOwn tx = { l with can := { l.can with heard := true } } ∨ l.hearOwn tx = l := by
  unfold Lane.hearOwn
  dsimp only
  split
  · exact .inl rfl
  · exact .inr rfl

end Sys2Proof.Machine
end

