-- ==== Sys2Proof/Laws/Faults.lean ====
section
/-! SUPPORT. What the fault collector keeps: every event raised is recorded, and a record held stays. -/

namespace Sys2Proof.Machine

theorem foldl_keeps {α β : Type} (P : β → Prop) (f : β → α → β) (h : ∀ b a, P b → P (f b a)) (xs : List α) (b : β) (hb : P b) :
    P (xs.foldl f b) := by
  induction xs generalizing b with
  | nil => exact hb
  | cons a as ih => exact ih _ (h _ _ hb)

/-- A fault stop concerns the profile generator of its axis alone (R210). -/
theorem Lane.faultStop_eq (l : Lane) (n : AxisId) : l.faultStop n = { l with prof := (l.faultStop n).prof } := by
  unfold Lane.faultStop
  split <;> rfl

/-- The axes an L2 event makes the lane leave change nothing but lease state and the stops of their moves (R401, R210). -/
theorem Lane.leaveAxes_eq (l : Lane) (xs : List Nat) :
    l.leaveAxes xs = { l with lease := (l.leaveAxes xs).lease, prof := (l.leaveAxes xs).prof } := by
  refine foldl_keeps (fun y : Lane => y = { l with lease := y.lease, prof := y.prof }) _ ?_ xs l rfl
  intro b a hb
  split
  · rw [Lane.faultStop_eq, hb]; rfl
  · exact hb

@[simp] theorem Lane.leaveAxes_col (l : Lane) (xs : List Nat) : (l.leaveAxes xs).col = l.col := by rw [Lane.leaveAxes_eq]

@[simp] theorem ColPart.enter_held (c : ColPart) (r : Rec) : (c.enter r).held = c.held := by
  unfold ColPart.enter; split <;> rfl

@[simp] theorem Lane.enterSafe_held (l : Lane) (lv : Level) : (l.enterSafe lv).col.held = l.col.held := by
  unfold Lane.enterSafe
  split
  · rfl
  · split <;> rfl

/-- A record taken keeps the records held before it. -/
theorem Lane.recordOne_held (l : Lane) (r : Raise) : ∀ h ∈ l.col.held, h ∈ (l.recordOne r).col.held := by
  intro h hh
  unfold Lane.recordOne
  dsimp only
  split
  · simp [hh]
  · split
    · simp [hh]
    · simp [hh]
  · split
    · simp [hh]
    · simp [hh]
  · simp [hh]

/-- An event taken is held, with its context value (R397). -/
theorem Lane.recordOne_self (l : Lane) (r : Raise) : ∃ h ∈ (l.recordOne r).col.held, h.r.ev = r.ev ∧ h.r.ctx = r.ctx := by
  unfold Lane.recordOne
  dsimp only
  have key : ∀ y : Lane,
      y.col.held = l.col.held ++
        [⟨{ count := l.tick.count % 2 ^ 32, ev := r.ev, level := l.raisedLevel r, lane := if r.commons then 3 else l.id.code
            first := l.col.slot0.isNone && r.ev != .col013, recovered := false, inst := r.subj.inst, ctx := r.ctx
            epoch := l.epochOf r.subj },
          r.subj, if l.raisedLevel r = .l2 then l.axesOf r else [], false, false, l.latches r.ev (l.raisedLevel r)⟩] →
      ∃ h ∈ y.col.held, h.r.ev = r.ev ∧ h.r.ctx = r.ctx := by
    intro y hy
    rw [hy]
    simp
  apply key
  split
  · simp
  · split <;> simp
  · split <;> simp
  · simp

/-- What the collector holds after a list of events. -/
theorem Lane.foldRecord_held (rs : List Raise) (l : Lane) :
    (∀ h ∈ l.col.held, h ∈ (rs.foldl Lane.recordOne l).col.held) ∧
   ∀ r ∈ rs, ∃ h ∈ (rs.foldl Lane.recordOne l).col.held, h.r.ev = r.ev ∧ h.r.ctx = r.ctx := by
  induction rs generalizing l with
  | nil => simp
  | cons a as ih =>
    obtain ⟨i1, i2⟩ := ih (l.recordOne a)
    refine ⟨fun h hh => i1 h (Lane.recordOne_held l a h hh), ?_⟩
    intro r hr
    rcases List.mem_cons.mp hr with rfl | hr
    · obtain ⟨h, h1, h2⟩ := Lane.recordOne_self l r
      exact ⟨h, i1 h h1, h2⟩
    · exact i2 r hr

/-- The collector's order drops nothing. -/
theorem mem_insertRaise (x : Raise) (ys : List Raise) (z : Raise) : z ∈ insertRaise x ys ↔ z = x ∨ z ∈ ys := by
  induction ys with
  | nil => simp [insertRaise]
  | cons y ys ih =>
    unfold insertRaise
    split
    · simp [ih]; constructor <;> rintro (h | h | h) <;> simp [h]
    · simp

/-- The ordered events are the events raised (R404). -/
theorem mem_ordered (rs : List Raise) (z : Raise) : z ∈ ordered rs ↔ z ∈ rs := by
  have : ∀ acc : List Raise, z ∈ rs.foldl (fun acc r => insertRaise r acc) acc ↔ z ∈ acc ∨ z ∈ rs := by
    induction rs with
    | nil => simp
    | cons a as ih =>
      intro acc
      rw [List.foldl_cons, ih, mem_insertRaise, List.mem_cons]
      simp [or_comm, or_left_comm, or_assoc]
  simpa [ordered] using this []

/-- Every event raised in the tick is recorded at its close. -/
theorem Lane.collect_records (l : Lane) {ev ctx} (h : l.Raised ev ctx) : l.collect.Records ev ctx := by
  obtain ⟨r, hr, h1, h2⟩ := h
  obtain ⟨k, hk, e1, e2⟩ := (Lane.foldRecord_held (ordered l.col.raised) { l with col := { l.col with raised := [], news := [] } }).2 r ((mem_ordered _ _).mpr hr)
  exact ⟨k, hk, e1.trans h1, e2.trans h2⟩

theorem Lane.raise_raised (l : Lane) (ev : Ev) (sub : Subject) (v : Int) : (l.raise ev sub v).Raised ev (ctxOf sub v) := by
  simp [Lane.Raised, Lane.raise, Lane.push]

end Sys2Proof.Machine
end

