-- ==== Sys2Proof/Laws/Gate.lean ====
section
/-! SUPPORT. What the operations on the legs of an axis leave alone. -/

namespace Sys2Proof.Machine

/-- What a change of legs cannot reach: a property that each change of one leg keeps is kept by a change of every leg of an axis. -/
theorem Lane.modLegs_keeps {P : Lane → Prop} (hP : ∀ y k f, P y → P (Lane.modLeg y k f)) (x : Lane) (n : AxisId) (f : Nat → Leg → Leg)
    (h : P x) : P (x.modLegs n f) := by
  unfold Lane.modLegs
  generalize x.cfg.legsOf x.id n.val = is
  induction is generalizing x with
  | nil => exact h
  | cons i is ih =>
    rw [List.foldl_cons]
    apply ih
    split
    · exact hP _ _ _ h
    · exact h

@[simp] theorem Lane.modLegs_pwm (x : Lane) (n : AxisId) (f : Nat → Leg → Leg) : (x.modLegs n f).pwm = x.pwm :=
  Lane.modLegs_keeps (P := fun y => y.pwm = x.pwm) (fun _ _ _ h => h) x n f rfl
@[simp] theorem Lane.modLegs_cfg (x : Lane) (n : AxisId) (f : Nat → Leg → Leg) : (x.modLegs n f).cfg = x.cfg :=
  Lane.modLegs_keeps (P := fun y => y.cfg = x.cfg) (fun _ _ _ h => h) x n f rfl
@[simp] theorem Lane.modLegs_col (x : Lane) (n : AxisId) (f : Nat → Leg → Leg) : (x.modLegs n f).col = x.col :=
  Lane.modLegs_keeps (P := fun y => y.col = x.col) (fun _ _ _ h => h) x n f rfl

/-- A change of the legs of an axis changes legs alone. -/
theorem Lane.modLegs_eq (x : Lane) (n : AxisId) (f : Nat → Leg → Leg) : x.modLegs n f = { x with leg := (x.modLegs n f).leg } :=
  Lane.modLegs_keeps (P := fun y => y = { x with leg := y.leg })
    (fun y k f h => by rw [h]; rfl) x n f rfl

/-- The steps of the two edges of a leg touch legs and events alone. -/
theorem Lane.adaptSteps_eq (x : Lane) (k : LegId) (m : LegMeas) :
    x.adaptSteps k m = { x with leg := (x.adaptSteps k m).leg, col := (x.adaptSteps k m).col } := by
  unfold Lane.adaptSteps
  dsimp only
  repeat' split
  all_goals rfl

/-- The end of a hold starts no time base and stops none. -/
@[simp] theorem Lane.endHold_started (x : Lane) (m : AxisId) (leg mv : Nat) (n : AxisId) :
    ((x.endHold m leg mv).pwm.get n).started = (x.pwm.get n).started := by
  unfold Lane.endHold Lane.modPwm
  simp only [Lane.raise_pwm]
  by_cases h : n = m
  · subst h; simp
  · simp [h]

/-- A high-side supply in undervoltage starts no time base and stops none. -/
@[simp] theorem Lane.supplyLow_started (x : Lane) (k : LegId) (mv : Nat) (n : AxisId) :
    ((x.supplyLow k mv).pwm.get n).started = (x.pwm.get n).started := by
  unfold Lane.supplyLow
  dsimp only
  repeat' split
  all_goals first | rfl | (rw [Lane.endHold_started]; rfl)

/-- What a valley brings to a leg starts no time base and stops none. -/
@[simp] theorem Lane.adaptLeg_started (x : Lane) (i : Nat) (m : Option LegMeas) (n : AxisId) :
    ((x.adaptLeg i m).pwm.get n).started = (x.pwm.get n).started := by
  unfold Lane.adaptLeg
  dsimp only
  repeat' split
  all_goals first | rfl | (rw [Lane.supplyLow_started]; first | rfl | (rw [Lane.adaptSteps_eq]; rfl)) | (rw [Lane.adaptSteps_eq]; rfl)

@[simp] theorem Lane.hallApply_pwm (x : Lane) (n : AxisId) : (x.hallApply n).pwm = x.pwm := by
  unfold Lane.hallApply
  dsimp only
  split <;> simp

end Sys2Proof.Machine
end

