-- ==== Sys2Proof/Laws/Jobs.lean ====
section
/-! SUPPORT. What a job's change of state does, once for every job; a journal item reads as it was written last. -/

namespace Sys2Proof.Machine

/-- A journal item reads as it was written last, whatever its copies held (R556). -/
@[simp] theorem NvItem.read?_write {α : Type} (i : NvItem α) (v : α) : (i.write v).read? = some v := by
  obtain ⟨a, b⟩ := i
  unfold NvItem.write
  cases a <;> cases b <;> dsimp only
  · rfl
  · rename_i y
    unfold NvItem.read?
    dsimp only
    cases y.ok <;> simp <;> omega
  · rename_i x
    unfold NvItem.read?
    dsimp only
    cases x.ok <;> simp
  · rename_i x y
    split
    · rename_i h
      unfold NvItem.read?
      dsimp only
      cases y.ok <;> simp <;> omega
    · rename_i h
      unfold NvItem.read?
      dsimp only
      cases x.ok <;> simp

@[simp] theorem NvItem.read_write {α : Type} (i : NvItem α) (v d : α) : (i.write v).read d = v := by
  unfold NvItem.read
  rw [NvItem.read?_write]
  rfl

theorem Tab.getD_modify {n : Nat} {α : Type} (t : Tab n α) (f : α → α) (d : α) {j : Nat} (h : j < n) (k : Nat) :
    (t.modify ⟨j, h⟩ f).getD k d = if k = j then f (t.getD j d) else t.getD k d := by
  unfold Tab.getD Tab.modify Tab.set Tab.get
  simp only [List.getD_eq_getElem?_getD, List.getElem?_set]
  by_cases e : k = j
  · subst e
    simp [t.len, h]
  · simp [e, Ne.symm e]

/-- A job that goes to a state takes it with its cause, and no other job changes. -/
theorem Lane.jobTo_jobSt (x : Lane) {j : Nat} (h : j < 10) (st cause k : Nat) :
    (x.jobTo j st cause).jobSt k = if k = j then { x.jobSt j with state := st, cause := cause } else x.jobSt k := by
  simp [Lane.jobTo, Lane.modJob, h, Lane.jobSt, Tab.getD_modify]

/-- A job that goes to a state changes its own record and the journal's list of jobs alone. -/
theorem Lane.jobTo_frame (x : Lane) (j st cause : Nat) :
    x.jobTo j st cause = { x with job := { x.job with st := (x.jobTo j st cause).job.st }, nvm := { x.nvm with job := (x.jobTo j st cause).nvm.job } } := by
  unfold Lane.jobTo Lane.modJob
  dsimp only
  split <;> rfl

/-- A job that lets go of its axis keeps every job's state, and runs no more. -/
theorem Lane.releaseJob_jobSt (x : Lane) (k : Nat) : x.releaseJob.jobSt k = x.jobSt k := by
  unfold Lane.releaseJob
  dsimp only
  cases hr : x.job.run <;> cases ha : x.jobAxis <;> dsimp only
  all_goals try rfl
  split
  · unfold Lane.stopJob
    rw [hr, ha]
    dsimp only
    split
    · unfold Lane.request
      repeat' split
      all_goals rfl
    · rfl
  · rfl

@[simp] theorem Lane.releaseJob_run (x : Lane) : x.releaseJob.job.run = none := rfl
@[simp] theorem Lane.releaseJob_writes (x : Lane) : x.releaseJob.job.writes = [] := rfl

/-- Whether a job may start does not rest on the lane's CAN functions. -/
theorem Lane.startRefusal_can (x : Lane) (k : CanPart) (j axis : Nat) (all resume : Bool) :
    ({ x with can := k } : Lane).startRefusal j axis all resume = x.startRefusal j axis all resume := by
  have subject : ({ x with can := k } : Lane).subjectOk j axis = x.subjectOk j axis := rfl
  have absent : ({ x with can := k } : Lane).subjectAbsent j axis = x.subjectAbsent j axis := rfl
  have speed : ({ x with can := k } : Lane).jobSpeed = x.jobSpeed := rfl
  have image : ({ x with can := k } : Lane).regatherReady = x.regatherReady := rfl
  have motion : ({ x with can := k } : Lane).otherMotion axis = x.otherMotion axis := rfl
  have level : ({ x with can := k } : Lane).service = x.service := rfl
  unfold Lane.startRefusal
  dsimp only
  simp only [subject, absent, speed, image, motion, level]
  rfl

/-- The parameters a job takes do not rest on the lane's CAN functions. -/
theorem Lane.takeParams_can (x : Lane) (k : CanPart) (j : Nat) :
    ({ x with can := k } : Lane).takeParams j = { x.takeParams j with can := k } := rfl

end Sys2Proof.Machine
end

