-- ==== Sys2Proof/Laws/Memory.lean ====
section
/-! SUPPORT. The addressed stores: every operation keeps the canonical form, a byte reads as last written, and every other byte stays. -/

namespace Sys2Proof.Machine

/-! ## The canonical form -/

theorem Mem.above_mono {lo hi : Nat} (h : lo ≤ hi) (m : Mem) (w : m.above hi = true) : m.above lo = true := by
  cases m with
  | nil => rfl
  | cons c m =>
    simp only [Mem.above, Bool.and_eq_true, decide_eq_true_eq] at w ⊢
    exact ⟨⟨Nat.le_trans h w.1.1, w.1.2⟩, w.2⟩

theorem Mem.above_filter (p : Host.Cell → Bool) (m : Mem) : ∀ {lo : Nat}, m.above lo = true → Mem.above lo (m.filter p) = true := by
  induction m with
  | nil => exact fun h => h
  | cons c m ih =>
    intro lo h
    simp only [Mem.above, Bool.and_eq_true, decide_eq_true_eq] at h
    rw [List.filter_cons]
    split
    · simp only [Mem.above, Bool.and_eq_true, decide_eq_true_eq]
      exact ⟨h.1, ih h.2⟩
    · exact Mem.above_mono (by omega) _ (ih h.2)

theorem Mem.above_put (m : Mem) (k : Nat) (v : Byte) (hv : v ≠ erased) :
    ∀ {lo : Nat}, lo ≤ k → (∀ c ∈ m, c.1 ≠ k) → m.above lo = true → (m.put k v).above lo = true := by
  induction m with
  | nil =>
    intro lo h _ _
    simp [Mem.put, Mem.above, h, hv]
  | cons c m ih =>
    intro lo h n w
    obtain ⟨a, b⟩ := c
    have ne : a ≠ k := n (a, b) (by simp)
    simp only [Mem.above, Bool.and_eq_true, decide_eq_true_eq] at w
    unfold Mem.put
    split
    · rename_i lt
      simp only [Mem.above, Bool.and_eq_true, decide_eq_true_eq]
      exact ⟨⟨h, by simp [hv]⟩, ⟨by omega, w.1.2⟩, w.2⟩
    · simp only [Mem.above, Bool.and_eq_true, decide_eq_true_eq]
      exact ⟨w.1, ih (by omega) (fun c hc => n c (by simp [hc])) w.2⟩

theorem Mem.wf_write (m : Mem) (k : Nat) (v : Byte) (h : m.wf = true) : (m.write k v).wf = true := by
  unfold Mem.write
  dsimp only
  split
  · exact Mem.above_filter _ m h
  · exact Mem.above_put _ k v (by assumption) (Nat.zero_le k) (by simp) (Mem.above_filter _ m h)

theorem Mem.wf_writeList (vs : List Byte) : ∀ (m : Mem) (k : Nat), m.wf = true → (m.writeList k vs).wf = true := by
  induction vs with
  | nil => exact fun _ _ h => h
  | cons v vs ih => exact fun m k h => ih _ _ (m.wf_write k v h)

theorem Mem.wf_erase (m : Mem) (lo hi : Nat) (h : m.wf = true) : (m.erase lo hi).wf = true := Mem.above_filter _ m h

theorem Mem.wf_program (vs : List Byte) : ∀ (m : Mem) (k : Nat), m.wf = true → (m.program k vs).wf = true := by
  induction vs with
  | nil => exact fun _ _ h => h
  | cons v vs ih => exact fun m k h => ih _ _ (m.wf_write k _ h)

/-- The stores of every lane are canonical right after reset. -/
theorem State.reset_stores_wf (x : LaneId) :
    (State.reset.lanes.get x).nvm.flash.wf = true ∧ (State.reset.lanes.get x).nvm.slot0.wf = true ∧
      (State.reset.lanes.get x).nvm.slot1.wf = true := by
  cases x <;> exact ⟨rfl, rfl, rfl⟩

/-! ## Reading -/

theorem Mem.read_put_self (m : Mem) (k : Nat) (v : Byte) (n : ∀ c ∈ m, c.1 ≠ k) : (m.put k v).read k = v := by
  induction m with
  | nil => simp [Mem.put, Mem.read]
  | cons c m ih =>
    obtain ⟨a, b⟩ := c
    have ne : a ≠ k := n (a, b) (by simp)
    unfold Mem.put
    split
    · simp [Mem.read]
    · simp only [Mem.read]
      rw [if_neg (Ne.symm ne)]
      exact ih fun c hc => n c (by simp [hc])

theorem Mem.read_put_ne (m : Mem) {k j : Nat} (v : Byte) (h : j ≠ k) : (m.put k v).read j = m.read j := by
  induction m with
  | nil => simp [Mem.put, Mem.read, h]
  | cons c m ih =>
    obtain ⟨a, b⟩ := c
    unfold Mem.put
    split
    · simp [Mem.read, h]
    · simp only [Mem.read]
      split
      · rfl
      · exact ih

theorem Mem.read_filter_self (m : Mem) (k : Nat) : Mem.read (m.filter fun c => c.1 != k) k = erased := by
  induction m with
  | nil => rfl
  | cons c m ih =>
    obtain ⟨a, b⟩ := c
    rw [List.filter_cons]
    split
    · rename_i h
      simp only [Mem.read]
      rw [if_neg (by rintro rfl; simp at h)]
      exact ih
    · exact ih

theorem Mem.read_filter_ne (m : Mem) {k j : Nat} (h : j ≠ k) : Mem.read (m.filter fun c => c.1 != k) j = m.read j := by
  induction m with
  | nil => rfl
  | cons c m ih =>
    obtain ⟨a, b⟩ := c
    rw [List.filter_cons]
    split
    · simp only [Mem.read]
      split
      · rfl
      · exact ih
    · rename_i e
      have e' : a = k := by simpa using e
      simp only [Mem.read]
      rw [if_neg (by omega)]
      exact ih

/-- A byte reads as last written, whatever the store. -/
@[simp] theorem Mem.read_write_self (m : Mem) (k : Nat) (v : Byte) : (m.write k v).read k = v := by
  unfold Mem.write
  dsimp only
  split
  · rename_i h
    rw [h]
    exact m.read_filter_self k
  · exact Mem.read_put_self _ k v (by simp)

/-- A write leaves every other byte. -/
theorem Mem.read_write_ne (m : Mem) {k j : Nat} (v : Byte) (h : j ≠ k) : (m.write k v).read j = m.read j := by
  unfold Mem.write
  dsimp only
  split
  · exact m.read_filter_ne h
  · rw [Mem.read_put_ne _ v h]
    exact m.read_filter_ne h

/-- Bytes written leave every byte below them. -/
theorem Mem.read_writeList_below (vs : List Byte) : ∀ (m : Mem) {k j : Nat}, j < k → (m.writeList k vs).read j = m.read j := by
  induction vs with
  | nil => exact fun _ _ _ _ => rfl
  | cons v vs ih =>
    intro m k j h
    simp only [Mem.writeList]
    rw [ih _ (by omega), Mem.read_write_ne _ _ (by omega)]

/-- Bytes written leave every byte behind them. -/
theorem Mem.read_writeList_behind (vs : List Byte) :
    ∀ (m : Mem) {k j : Nat}, k + vs.length ≤ j → (m.writeList k vs).read j = m.read j := by
  induction vs with
  | nil => exact fun _ _ _ _ => rfl
  | cons v vs ih =>
    intro m k j h
    simp only [List.length_cons] at h
    simp only [Mem.writeList]
    rw [ih _ (by omega), Mem.read_write_ne _ _ (by omega)]

/-- Bytes read as they were written. -/
@[simp] theorem Mem.readList_writeList (vs : List Byte) : ∀ (m : Mem) (k : Nat), (m.writeList k vs).readList k vs.length = vs := by
  induction vs with
  | nil => exact fun _ _ => rfl
  | cons v vs ih =>
    intro m k
    simp only [Mem.writeList, List.length_cons, Mem.readList]
    rw [ih, Mem.read_writeList_below _ _ (by omega), Mem.read_write_self]

end Sys2Proof.Machine
end

