-- ==== Sys2Proof/Laws/Serve.lean ====
section
/-! SUPPORT. What a service request does to a lane that admits it, once for every service. -/

namespace Sys2Proof.Machine

theorem Lane.Took.refl (x : Lane) : x.Took x := rfl

theorem Lane.Took.trans {x y z : Lane} (h1 : x.Took y) (h2 : y.Took z) : x.Took z := by
  unfold Lane.Took at *
  rw [h2, h1]

theorem Lane.heardFrom_took (x : Lane) (c : CanId) (src : Nat) : x.Took (x.heardFrom c src) := by
  unfold Lane.heardFrom
  split <;> rfl

theorem Lane.modCan_took (x : Lane) (c : CanId) (f : CanCtl → CanCtl) : x.Took (x.modCan c f) := rfl

theorem Lane.canSend_took (x : Lane) (c : CanId) (dst : Nat) (m : CanMsg) : x.Took (x.canSend c dst m) := rfl

theorem Lane.sendService_took (x : Lane) (c : CanId) (dst : Nat) (bs : List Byte) : x.Took (x.sendService c dst bs) := by
  unfold Lane.sendService
  split
  · rfl
  · dsimp only
    split
    · exact x.canSend_took c dst _
    · exact (x.modCan_took c _).trans (Lane.canSend_took _ _ _ _)

theorem Lane.relay_took (x : Lane) (h : SvcHdr) (code : Nat) : x.Took (x.relay h code) := by
  unfold Lane.relay
  split
  · rfl
  · generalize x.id.others = os
    have key : ∀ z, x.Took z → x.Took (os.foldl (fun l y =>
        if !h.names l.cfg y then l
        else if 8 ≤ (l.peerOf y).silent then l.sendService h.can h.src (respBytes h code y.code 7 [])
        else { l with can := { l.can with waits := l.can.waits ++ [{ h := h, code := code, lane := y, at_ := l.tick.count }] } }) z) := by
      induction os with
      | nil => exact fun _ hz => hz
      | cons o os ih =>
        intro z hz
        apply ih
        dsimp only
        split
        · exact hz
        · split
          · exact hz.trans (Lane.sendService_took _ _ _ _)
          · exact hz.trans rfl
    exact key x rfl

/-- A request that a lane admits is served: the service's effect on the lane as it took the request, its session touched, its answer given. -/
theorem Lane.serve_admitted {x : Lane} {h : SvcHdr} {session workshop : Bool} (a : x.Admits h session workshop) (code : Nat)
    (f : Lane → Served) :
    ∃ z, x.Took z ∧ x.serve h code session workshop f = ((f z).1.touch h).respond h code (f z).2.1 (f z).2.2 := by
  obtain ⟨_, h2, h3, h4, h5, h6, h7⟩ := a
  have t1 := x.heardFrom_took h.can h.src
  have t := t1.trans ((x.heardFrom h.can h.src).relay_took h code)
  refine ⟨_, t, ?_⟩
  have c1 : (x.heardFrom h.can h.src).isobus h.can = true := by rw [t1]; exact h2
  have c2 : ((x.heardFrom h.can h.src).canCtl h.can).addr = h.dst := by
    unfold Lane.heardFrom
    split <;> exact h3.symm
  have c4 : ((x.heardFrom h.can h.src).relay h code).serves_ = true := by rw [t]; exact h4
  have c5 : h.names ((x.heardFrom h.can h.src).relay h code).cfg ((x.heardFrom h.can h.src).relay h code).id = true := by
    rw [t]
    exact h5
  have c6 : session = true → ((x.heardFrom h.can h.src).relay h code).inSession h = true := by
    rw [t]
    exact h6
  have c7 : workshop = true → ((x.heardFrom h.can h.src).relay h code).start.workshop = true := by
    rw [t]
    exact h7
  unfold Lane.serve
  dsimp only
  rw [if_neg (by simp [c1, c2]), if_neg (by simp [c4, c5]), if_neg (by cases session <;> simp_all), if_neg (by cases workshop <;> simp_all)]

/-- A request outside a session of its address leaves the sessions alone. -/
theorem Lane.touch_outside (x : Lane) (h : SvcHdr) (n : x.inSession h = false) : x.touch h = x := by
  unfold Lane.touch
  unfold Lane.inSession at n
  split <;> simp_all

theorem Lane.touch_can (x : Lane) (h : SvcHdr) : x.touch h = { x with can := (x.touch h).can } := by
  unfold Lane.touch
  repeat' split
  all_goals rfl

theorem Lane.respond_can (x : Lane) (h : SvcHdr) (code result : Nat) (data : List Byte) :
    x.respond h code result data = { x with can := (x.respond h code result data).can } := by
  unfold Lane.respond Lane.sendService
  dsimp only
  repeat' split
  all_goals rfl

/-- A service message that a lane admits reaches it and is served: the effect the service gives, and its answer. -/
theorem State.onSvc_served {s : State} {l : LaneId} {x : Lane} {h : SvcHdr} {session workshop : Bool} (hx : s.lane l = x)
    (a : x.Admits h session workshop) {code : Nat} {f : Lane → Lane × Nat × List Byte} {result : Nat} {data : List Byte} {e : Lane → Lane}
    (he : ∀ z, x.Took z → f z = (e z, result, data)) :
    s.Served (s.onSvc h fun y => y.serve h code session workshop f) h l code result data e := by
  subst hx
  obtain ⟨z, hz, hr⟩ := Lane.serve_admitted a code f
  refine ⟨⟨z, hz, ?_⟩, rfl, rfl, rfl⟩
  rw [State.onSvc_get, s.relayVoice_isobus h a.2.1]
  dsimp only
  rw [if_pos a.1, hr, he z hz]

/-- What a service leaves on the lane, but for its CAN functions, which carry the answer. -/
theorem State.Served.lane {s t : State} {h : SvcHdr} {l : LaneId} {code result : Nat} {data : List Byte} {e : Lane → Lane}
    (hs : s.Served t h l code result data e) :
    ∃ z, (s.lane l).Took z ∧ t.lanes.get l = { e z with can := (t.lanes.get l).can } := by
  obtain ⟨⟨z, hz, he⟩, _⟩ := hs
  refine ⟨z, hz, ?_⟩
  rw [he, Lane.respond_can]
  generalize (Lane.respond _ _ _ _ _).can = c
  rw [Lane.touch_can]

end Sys2Proof.Machine
end

