-- ==== Sys2Proof/Machine/Balls.lean ====
section
/-! DEFINITION. The package: its grid and the ball of each signal of each lane (R564, R565, Table 22.2). -/

namespace Sys2Proof.Machine

/-- The row names of the grid, from row 1 to row 34 (R564). -/
def ballRows : List String :=
  ["A", "B", "C", "D", "E", "F", "G", "H", "J", "K", "L", "M", "N", "P", "T", "U", "V",
   "W", "Y", "AA", "AB", "AC", "AD", "AE", "AF", "AG", "AH", "AJ", "AK", "AL", "AM", "AN", "AP", "AT"]

/-- The signals of lane A's columns 2 to 11 in the rows from V on; GND stands for l_GND (Table 22.2). -/
def lowerRows : List (List String) :=
  [["VG", "VG", "VBUS"],
   ["VSUP", "VSUP", "VSUP", "VSUP", "VSUP", "VSUP"],
   ["VSUP", "VSUP", "VSUP", "VSUP", "VSUP", "VSUP"],
   ["RES0_EXC_P", "RES0_EXC_N", "RES0_SIN_P", "RES0_SIN_N", "RES0_COS_P", "RES0_COS_N"],
   ["RES1_EXC_P", "RES1_EXC_N", "RES1_SIN_P", "RES1_SIN_N", "RES1_COS_P", "RES1_COS_N"],
   ["INC0_A", "INC0_B", "INC0_Z", "INC1_A", "INC1_B", "INC1_Z"],
   ["INC2_A", "INC2_B", "INC2_Z", "INC3_A", "INC3_B", "INC3_Z"],
   ["SSI0_CLK_P", "SSI0_CLK_N", "SSI0_DAT_P", "SSI0_DAT_N", "SSI1_CLK_P", "SSI1_CLK_N", "SSI1_DAT_P", "SSI1_DAT_N"],
   ["AIN0", "AIN1", "AIN2", "AIN3", "AIN4", "AIN5", "AIN6", "AIN7", "VSNS0", "VSNS1"],
   ["PASS0_A", "PASS0_B", "PASS1_A", "PASS1_B", "STEP", "DIR"],
   ["CFG_SCK", "CFG_CSN", "CFG_MOSI", "CFG_MISO", "IDSCL", "IDSDA", "IDPWR"],
   ["CAN0_TXD", "CAN0_RXD", "CAN1_TXD", "CAN1_RXD"],
   ["DP0_P", "DP0_N", "GND", "DP1_P", "DP1_N"],
   ["SYNC", "ALIVE", "DRVINH", "IGN", "WAKE", "WORKSHOP", "BENCH", "RESETN", "DBG_CLK", "DBG_IO"]]

/-- Two digits of a leg number. -/
def legDigits (n : Nat) : String := String.ofList [Char.ofNat (48 + n / 10), Char.ofNat (48 + n % 10)]

/-- The signal of lane A's ball in a row (0 to 33) and a column (1 to 11); what no entry names is l_GND (R565). -/
def laneASignal (row col : Nat) : String :=
  if col < 2 then "GND"
  else if row < 16 then
    match (["GH", "SW", "BS", "VISO", "GL", "SNP", "SNN"] : List String)[col - 2]? with
    | some s => s ++ legDigits row
    | none => "GND"
  else ((lowerRows.getD (row - 16) []).getD (col - 2) "GND")

/-- The lane and the lane A column that a column of the grid stands for; none where columns are depopulated (Table 22.1, R565). -/
def ballColumn (col : Nat) : Option (LaneId × Nat) :=
  if 1 ≤ col ∧ col ≤ 11 then some (.a, col)
  else if 13 ≤ col ∧ col ≤ 22 then some (.b, col - 11)
  else if 24 ≤ col ∧ col ≤ 34 then some (.c, 35 - col)
  else none

/-- The lane and the signal of a ball (R565). -/
def ballSignal (row col : Nat) : Option (LaneId × String) :=
  if row < 34 then (ballColumn col).map fun x => (x.1, laneASignal row x.2) else none

/-- The balls of a lane's signal: row name and column. -/
def ballsOf (lane : LaneId) (signal : String) : List (String × Nat) :=
  (List.range 34).flatMap fun r => (List.range 35).filterMap fun c =>
    if ballSignal r c = some (lane, signal) then some (ballRows.getD r "", c) else none

end Sys2Proof.Machine
end

