-- ==== Sys2Proof/WellFormed.lean ====
section
/-! DEFINITION. Which commands the environment can send: operands within the ranges that the buses, ports and registers give them. -/

namespace Sys2Proof

open Sys2Proof.Machine

/-- A CAN source address (ISO 11783-5): 0 to 253, or 254 where none was claimed. -/
def wfSource (src : Nat) : Bool := src ≤ 254

/-- A CAN destination address; 255 is global. -/
def wfDest (dst : Nat) : Bool := dst ≤ 255

/-- A PGN has 18 bits. -/
def wfPgn (pgn : Nat) : Bool := pgn < 2 ^ 18

/-- A service request's header (Table 19.4): a target of two bits, a tag of six. -/
def wfHdr (h : SvcHdr) : Bool := h.src ≤ 253 && h.dst ≤ 253 && h.target ≤ 3 && h.tag < 64

/-- The bytes of a service message carried by the transport protocol: at most 1,785, header and fields included (R501). -/
def wfData (n : Nat) (bs : List Byte) : Bool := bs.length ≤ n

/-- A job number (Table 20.1). -/
def wfJob (j : Nat) : Bool := 1 ≤ j && j ≤ 9

/-- A fabric frame as a port delivers it: at most 1,522 bytes. -/
def wfFrame (bs : List Byte) : Bool := bs.length ≤ 1522

/-- A time within a tick, clocks: no tick of a running lane is longer than 10,040 clocks but where ALIGN steps. -/
def wfClock (t : Nat) : Bool := t < 20000

/-- Where a request comes from. -/
def wfFrom : ReqFrom → Bool
  | .service h => wfHdr h
  | .lane _ => true

/-- The samples of a tick: no more than the lane has converters for. -/
def wfTick (t : TickIn) : Bool :=
  t.elec.cur.length ≤ 16 && t.elec.node.length ≤ 16 && t.elec.peak.length ≤ 16 && t.fbk.resS.length ≤ 2 && t.fbk.resC.length ≤ 2 &&
  t.fbk.ain.length ≤ 8 && t.fabTx.length ≤ 2 && t.late.all (· < 12)

/-- The command is well formed; a link delay is at most 200 ns, which is 80 clocks (R17). -/
def Instr.wf : Instr → Bool
  | .tick _ t => wfTick t
  | .linkFrameReceive l f => f.sender != l && (match f.loopback with | some d => 0 ≤ d && d ≤ 80 | none => true)
  | .linkDown l o => o != l
  | .syncPinEdge _ t => wfClock t
  | .feedbackEdge _ _ t _ _ _ => wfClock t
  | .stepEdge _ t _ _ => wfClock t
  | .prechargeEnd _ mv => mv.length ≤ 16
  | .operateEntry _ ps => ps.length ≤ 16
  | .move o _ _ => wfFrom o
  | .jog o _ _ => wfFrom o
  | .stop o _ => wfFrom o
  | .resume o _ => wfFrom o
  | .limits o _ v a d j => wfFrom o && v < 2 ^ 32 && a < 2 ^ 32 && d < 2 ^ 32 && j < 2 ^ 32
  | .stepOn o _ => wfFrom o
  | .stepOff o _ => wfFrom o
  | .modeRequest o _ m => wfFrom o && m < 256
  | .hello _ _ t bs => wfClock t && wfFrame bs
  | .timeFrame _ _ t bs => wfClock t && wfFrame bs
  | .linkNotice _ _ t bs => wfClock t && wfFrame bs
  | .safeFrame _ _ t bs => wfClock t && wfFrame bs
  | .prepare _ _ t bs => wfClock t && wfFrame bs
  | .ready _ _ t bs => wfClock t && wfFrame bs
  | .refuse _ _ t bs => wfClock t && wfFrame bs
  | .abort _ _ t bs => wfClock t && wfFrame bs
  | .blockRequest _ _ t bs => wfClock t && wfFrame bs
  | .blockData _ _ t bs => wfClock t && wfFrame bs
  | .addressClaimed _ src name => wfSource src && name < 2 ^ 64
  | .request _ src dst pgn => wfSource src && wfDest dst && wfPgn pgn
  | .guidanceSystemCommand _ src dst g => wfSource src && wfDest dst && g.raw < 2 ^ 16 && g.status < 4
  | .groundBasedSpeed _ src _ => wfSource src
  | .dm3Dm11 _ src pgn => wfSource src && (pgn == 0xFECC || pgn == 0xFED3)
  | .transportProtocolFrame _ src dst _ d => wfSource src && wfDest dst && d.length == 8
  | .objectRead h _ => wfHdr h
  | .objectWrite h _ v => wfHdr h && wfData 1777 v
  | .sealConfirm h _ => wfHdr h
  | .healthReport h => wfHdr h
  | .acknowledge h lanes classes => wfHdr h && lanes < 16 && classes < 2 ^ 16
  | .imageWrite h _ _ d => wfHdr h && wfData 1777 d
  | .journalRead h _ _ => wfHdr h
  | .sessionChallenge h => wfHdr h
  | .sessionResponse h r => wfHdr h && r.length == 16
  | .sessionClose h => wfHdr h
  | .keyChange h d => wfHdr h && wfData 1777 d
  | .jobRestart h v => wfHdr h && v < 256
  | .fwBlockWrite h _ d => wfHdr h && wfData 1777 d
  | .recordExportRead h => wfHdr h
  | .jobStart h j a => wfHdr h && wfJob j && a < 256
  | .jobSuspend h j => wfHdr h && wfJob j
  | .jobResume h j => wfHdr h && wfJob j
  | .jobCancel h j => wfHdr h && wfJob j
  | .jobStatus h j => wfHdr h && wfJob j
  | .canErrorPassive _ _ tec rec_ => tec ≤ 255 && rec_ ≤ 255
  | .pwmValley _ _ ms => ms.length ≤ 3
  | .eventLineFire _ _ ss => ss.length ≤ 16
  | .resetnRelease _ t bs => t + bs.length ≤ 2 ^ 24
  | .powerOn _ => true
  | .brownOut _ => true
  | .resetnLow _ _ => true
  | .disconnectOpen _ _ => true
  | .disconnectHoldupExpiry _ => true
  | .gateSupplyLow _ => true
  | .laneWatchdog _ => true
  | .debugReset _ => true
  | .debugHalt _ => true
  | .debugHaltEnd _ => true
  | .wake _ _ => true
  | .bootStart _ => true
  | .signatureCheckDone _ _ => true
  | .selftestDone _ _ => true
  | .gatherDone _ _ => true
  | .alignExit _ => true
  | .alignTimeout _ => true
  | .discoveryTimeout _ => true
  | .commonsLoss => true
  | .tickOutlier _ => true
  | .tickSplit _ => true
  | .sourceLocked _ _ => true
  | .sourceLost _ _ => true
  | .sourceResearch _ _ => true
  | .tickFenceOverrun _ _ => true
  | .boundaryWorkOverrun _ _ => true
  | .enginePublishLate _ _ => true
  | .tickLoss _ _ => true
  | .tickNotClosed _ => true
  | .wakeDisagree _ => true
  | .powerDown _ => true
  | .parkWaitEnd _ => true
  | .sleepTimeout _ => true
  | .listenTimeout _ => true
  | .leaseExpiry _ _ => true
  | .renewWithheld _ _ => true
  | .unplannedClaim _ _ => true
  | .successorClaim _ _ => true
  | .marverCycleTimeout _ => true
  | .rotationDue _ => true
  | .healthReportSend _ => true
  | .axisOrphaned _ _ => true
  | .feedbackStandstill _ _ => true
  | .ssiFrame _ _ _ _ _ => true
  | .holdReduction _ _ => true
  | .limitDebounce _ _ _ => true
  | .chatterEnd _ _ _ => true
  | .switchDisagree _ _ _ => true
  | .stepSettled _ => true
  | .thetaWrite _ => true
  | .setpointBlendTimeout _ _ => true
  | .outputBlendTimeout _ _ => true
  | .override_ _ => true
  | .observerLost _ _ => true
  | .borrowTimeout _ _ => true
  | .recatchEnd _ _ => true
  | .recatchFail _ _ => true
  | .observerDisagree _ _ => true
  | .pumpAlignEnd _ _ => true
  | .pumpStartFail _ _ => true
  | .pumpRestart _ _ => true
  | .hallpassCommutate _ _ => true
  | .phaseCurrentSum _ _ => true
  | .shootThrough _ _ _ => true
  | .driverInterlock _ _ _ => true
  | .absolutePulseClip _ _ => true
  | .hsSupplyUv _ _ _ => true
  | .overcurrentTrip _ _ t => decide (t.clk < 10100)
  | .identificationDone _ _ _ _ => true
  | .chopperFault _ => true
  | .overvoltageTrip _ _ => true
  | .elementCrosscheckFail _ _ => true
  | .pairDisagreement _ _ => true
  | .canSpeedAccept _ => true
  | .guidanceTimeout _ => true
  | .pressureFollowFail _ _ => true
  | .accumulatorLow _ => true
  | .wheelAngleXchk _ _ => true
  | .anneal _ _ => true
  | .stopTimeout _ => true
  | .stopHoldEnd _ => true
  | .phyLinkUp _ _ => true
  | .phyLinkLoss _ _ => true
  | .timeFramesMissing _ _ => true
  | .portUpTimeout _ _ => true
  | .helloSend _ _ => true
  | .masterSequenceStale _ => true
  | .masterExclusionEnd _ => true
  | .holdoverExpiry _ => true
  | .commitDeadline _ _ => true
  | .commitFire _ _ => true
  | .shareTakeover _ _ => true
  | .shareFallback _ _ => true
  | .guidanceMachineInfo _ _ => true
  | .wheelBasedSpeed _ _ => true
  | .dm1 _ _ => true
  | .canBusOff _ _ => true
  | .canBusOffRecovery _ _ => true
  | .voiceTakeover _ => true
  | .laneRestartAfterYield _ => true
  | .imageWriteVerify _ _ => true
  | .challengeExpiry _ => true
  | .sessionIdleTimeout _ => true
  | .lockoutEnd _ => true
  | .serviceResponseTimeout _ => true
  | .tagWriteDone _ _ => true
  | .centreOriginShift _ => true
  | .endStopFound _ => true
  | .pedalLearnEnd _ => true
  | .valveStepSettled _ => true
  | .bridgeAlignEnd _ => true
  | .rotateTestHoldEnd _ => true
  | .stagedSignatureCheck _ _ => true
  | .fwLaneSwitch _ => true
  | .fwJoinTimeout _ => true
  | .standstillSwitch _ => true
  | .fwSwitchTimeout _ => true
  | .regatherSwitch _ => true
  | .regatherTimeout _ => true
  | .recorderWindowEnd => true
  | .disconnectReclose _ => true
  | .gateSupplyReturn _ => true
  | .collectorRegisterError _ _ => true
  | .commonsReturn => true

end Sys2Proof
end

