-- ==== Sys2Proof/Tests/Slice0.lean ====
section
/-! SUPPORT. Own tests: an ill-formed term per check, values worked out in the spec, and for every statement with hypotheses a state and operands that meet them. -/

namespace Sys2Proof.Tests

open Sys2Proof Sys2Proof.Machine

set_option Elab.async false

/-! ## Small states -/

/-- The node after reset with lane A changed. -/
def node (f : Lane → Lane) : State := State.reset.withLane .a (f (State.reset.lanes.get .a))

/-- Lane A of that node, as the next command finds it. -/
def ofA (f : Lane → Lane) : Lane := (node f).lane .a

/-- Lane A with a state of Table 3.1. -/
def inState (st : LState) : Lane := ofA fun x => { x with start.state := st }

/-- A lane with a configuration. -/
def withCfg (c : Cfg) (x : Lane) : Lane := { x with gat.cfg := c }

/-- Lane A in OPERATE as holder of axis 0, of a kind and with further records. -/
def holder (kind : Int) (c : Cfg) : Lane :=
  ofA fun x => withCfg ((0x10000001, [kind]) :: (0x10000002, [0, 0, 0]) :: c)
    { x with start.state := .operate, lease.ax := x.lease.ax.set 0 { role := .holder, absentHw := false, counter := 4 } }

/-- A service request to every lane, from address 0xF9 on CAN0 to the node. -/
def toAll : SvcHdr := { src := 0xF9, dst := 0x13, target := 3 }

/-- A service request to lane A. -/
def toA : SvcHdr := { src := 0xF9, dst := 0x13, target := 0 }

/-- A lane with CAN0 in ISOBUS mode at address 0x13, all three lanes in the mask, a session of 0xF9 and WORKSHOP. -/
def served (x : Lane) : Lane :=
  { x with
    gat.cfg := [(0x02000012, [7]), (0x41000001, [1])] ++ x.gat.cfg
    can.ctl := x.can.ctl.set 0 { addr := 0x13 }
    can.session := some { src := 0xF9, challenge := [] }
    start.workshop := true }

/-! ## Well-formed commands: one ill-formed term per check -/

theorem test_wf_tick : (Instr.tick .a { fabTx := [0, 0, 0] }).wf = false := by decide
theorem test_wf_source : (Instr.groundBasedSpeed 0 255 0).wf = false := by decide
theorem test_wf_destination : (Instr.request 0 0 256 0).wf = false := by decide
theorem test_wf_pgn : (Instr.request 0 0 255 0x40000).wf = false := by decide
theorem test_wf_header : (Instr.healthReport { toAll with target := 4 }).wf = false := by decide
theorem test_wf_tag : (Instr.healthReport { toAll with tag := 64 }).wf = false := by decide
theorem test_wf_data : (Instr.keyChange toAll (List.replicate 1778 0)).wf = false := by decide +kernel
theorem test_wf_job : (Instr.jobStart toAll 10 0).wf = false ∧ (Instr.jobStatus toAll 0).wf = false := by decide
theorem test_wf_axis : (Instr.jobStart toAll 1 256).wf = false := by decide
theorem test_wf_frame : (Instr.hello .a 0 0 (List.replicate 1523 0)).wf = false := by decide +kernel
theorem test_wf_clock : (Instr.syncPinEdge .a 20000).wf = false := by decide
theorem test_wf_from : (Instr.move (.service { toAll with src := 254 }) 0 0).wf = false := by decide
theorem test_wf_limits : (Instr.limits (.lane .a) 0 (2 ^ 32) 0 0 0).wf = false := by decide
theorem test_wf_mode : (Instr.modeRequest (.lane .a) 0 256).wf = false := by decide
theorem test_wf_link : (Instr.linkFrameReceive .a { sender := .a, sect := .marker, arrival := 128 }).wf = false := by decide
theorem test_wf_direction : (Instr.linkDown .b .b).wf = false := by decide
theorem test_wf_legs : (Instr.prechargeEnd .a (List.replicate 17 0)).wf = false := by decide
theorem test_wf_probes : (Instr.operateEntry .a (List.replicate 17 0)).wf = false := by decide
theorem test_wf_name : (Instr.addressClaimed 0 0 (2 ^ 64)).wf = false := by decide
theorem test_wf_guidance : (Instr.guidanceSystemCommand 0 0 255 { raw := 65536, status := 1 }).wf = false := by decide
theorem test_wf_diagnostic : (Instr.dm3Dm11 0 0 0xFECA).wf = false := by decide
theorem test_wf_packet : (Instr.transportProtocolFrame 0 0 255 true [1]).wf = false := by decide
theorem test_wf_acknowledge : (Instr.acknowledge toAll 16 0).wf = false := by decide
theorem test_wf_response : (Instr.sessionResponse toAll []).wf = false := by decide
theorem test_wf_restart : (Instr.jobRestart toAll 256).wf = false := by decide
theorem test_wf_counts : (Instr.canErrorPassive .a 0 256 0).wf = false := by decide
theorem test_wf_samples : (Instr.eventLineFire .a 0 (List.replicate 17 0)).wf = false := by decide
theorem test_wf_measures : (Instr.pwmValley .a 0 (List.replicate 4 {})).wf = false := by decide
theorem test_wf_flash : (Instr.resetnRelease .a (2 ^ 24) [0]).wf = false := by decide
theorem test_wf_good : (Instr.jobStart toAll 9 255).wf = true ∧ (Instr.tick .a {}).wf = true := by decide

/-! ## Values the spec gives -/

/-- Table 4.5, the check values over the ASCII digits 1 to 9. -/
theorem test_crc_checks :
    crc32c [0x31, 0x32, 0x33, 0x34, 0x35, 0x36, 0x37, 0x38, 0x39] = 0xE3069283 ∧
    crc16 [0x31, 0x32, 0x33, 0x34, 0x35, 0x36, 0x37, 0x38, 0x39] = 0x29B1 := by decide +kernel
/-- Chapter 1: STATUS.AXIS[10].ROLE is 0x700A0004; chapter 9: AXIS[0].SCHED.VEL.KP is 0x16000205. -/
theorem test_object_ids : (statusDef? 0x700A0004).isSome = true ∧ (objDef? 0x16000205).isSome = true ∧ (statusDef? 0x70FF0004).isSome = false := by
  decide +kernel
/-- Table 2.3: the median of three boundaries; of two, their mean. -/
theorem test_median : median2 [0, 30, -10] = 0 ∧ median2 [0, 30] = 30 ∧ median2 [5] = 10 := by decide
/-- R237: a quotient rounds to nearest, ties away from zero. -/
theorem test_rounding : roundDiv 5 2 = 3 ∧ roundDiv (-5) 2 = -3 ∧ roundDiv 4 3 = 1 ∧ roundDiv 1 0 = 0 := by decide
/-- R556: a journal item reads as written last, the older copy being replaced. -/
theorem test_journal_item : (((({} : NvItem Nat).write 1).write 2).write 3).read 0 = 3 ∧ ((({} : NvItem Nat).write 1).write 2).c0 = some ⟨1, true, 1⟩ := by
  decide
/-- R90: programming clears bits only. -/
theorem test_program : Mem.read (Mem.program [(5, 0x0F)] 5 [0x35, 0xA0]) 5 = 0x05 ∧ Mem.read (Mem.program [(5, 0x0F)] 5 [0x35, 0xA0]) 6 = 0xA0 := by
  decide
/-- FIPS 180-4's value for the three characters abc. -/
theorem test_sha256 : sha256Nat [0x61, 0x62, 0x63] = 0xba7816bf8f01cfea414140de5dae2223b00361a396177a9cb410ff61f20015ad := by decide +kernel
/-- R565's examples: leg 7's high-side gates, CAN0 of lane B, a port of lane C. -/
theorem test_balls :
    ballsOf .a "GH07" = [("H", 2)] ∧ ballsOf .b "GH07" = [("H", 13)] ∧ ballsOf .c "GH07" = [("H", 33)] ∧
    ballsOf .b "CAN0_TXD" = [("AJ", 13)] ∧ ballsOf .c "DP1_P" = [("AK", 30)] := by decide +kernel
/-- Table 19.4 and R5: the fields of a service message, least significant byte first. -/
theorem test_service_bytes :
    canCommand 0 0xEF00 0xF9 0x13 [0x01, 0x03, 0, 0, 0x04, 0x00, 0x0A, 0x70] = some (.objectRead toAll (.id 0x700A0004)) ∧
    canCommand 0 0xEF00 0xF9 0x13 [0x01, 0x03, 0] = none ∧
    canCommand 1 0xEE00 5 255 [1, 0, 0, 0, 0, 0, 0, 0x80] = some (.addressClaimed 1 5 0x8000000000000001) := by decide
/-- Table 1.11 and Table 1.3: the marker has 16 bytes and the frame 1,250. -/
theorem test_link_frame : ((ofA id).sectionBytes .marker).length = 16 ∧ ((ofA id).sectionBytes .outputs).length = 200 := by decide +kernel
/-- The table gives its commands no bits, so no word spells one. -/
theorem test_no_words : decodeTableWord 32 0 = none ∧ State.reset.withFetchWord 32 7 = State.reset := ⟨by decide, rfl⟩
/-- R568, R59: the supply rises and the lane runs BOOT from its first tick. -/
theorem test_power_on : ∃ t, exec (.powerOn .b) State.reset = .next t ∧ (t.lanes.get .b).start.state = .boot ∧ (t.lanes.get .a).start.state = .off :=
  ⟨_, rfl, by decide +kernel⟩
/-- R13, R399: the loss of the commons is one SUP-030 of each lane that is awake. -/
theorem test_commons_loss : ∃ t, exec .commonsLoss (node fun x => { x with start.state := .operate }) = .next t ∧
    (t.lanes.get .a).col.raised.map (·.ev) = [.sup030] ∧ (t.lanes.get .b).col.raised = [] := ⟨_, rfl, by decide +kernel⟩


/-! ## Witnesses: a state and operands that meet the hypotheses of each clause -/

theorem witness_StepRunsTheFrontCommand : State.reset.pending = [] := by decide
theorem witness_BusOffLanesHearNothing :
    ((node fun x => { x with can.ctl := x.can.ctl.set 0 { err := 2 } }).lanes.get .a).onBus toAll.can = false := by decide +kernel
theorem witness_CommonsAndStatusChangeAtTheirOwnCommands :
    (∃ t, exec .commonsLoss State.reset = .next t ∧ t.commons ≠ State.reset.commons) ∧
    ∃ t, exec (.tick .a {}) (node fun x => { x with tick.count := 7 }) = .next t ∧
      t.view.get .a ≠ (node fun x => { x with tick.count := 7 }).view.get .a :=
  ⟨⟨_, rfl, by decide +kernel⟩, ⟨_, rfl, by decide +kernel⟩⟩
theorem witness_TickLeavesTheOtherLanes : LaneId.b ≠ LaneId.a := by decide
theorem witness_EveryStepKeepsTheRecorderTidy :
    State.reset.commons.Tidy ∧ ∃ t, step { State.reset with pending := [.commonsLoss] } = .next t :=
  ⟨by unfold Commons.Tidy; decide +kernel, _, rfl⟩
theorem witness_RestartsBeginAtBoot :
    ((ofA id).start.state = .off ∧ (ofA id).start.supplyUp = false ∧ (ofA id).start.resetnLow = false) ∧
    (let x := ofA fun x => { x with start.resetnLow := true, start.supplyUp := true }; x.start.resetnLow ∧ x.start.supplyUp) ∧
    (ofA fun x => { x with start.bench := true }).start.bench ∧
    (let x := ofA fun x => { x with start.notClosed := 40 }; 40 ≤ x.start.notClosed ∧ x.start.wdReset = false) ∧
    (let s := node fun x => { x with start.state := .operate, start.wdReset := true, start.departing := 1 }
     let z := (s.noteExport.lanes.get .a).finishTick {}
     z.start.wdReset ∧ z.start.departing = 1 ∧ z.start.halted = false) ∧
    (inState .sleep).wakes .linkPattern ∧
    (let x := ofA fun x => { x with sup22.isOpen := true, start.brown := true }
     x.sup22.isOpen ∧ x.start.state = .off ∧ x.start.brown ∧ x.start.resetnLow = false) ∧
    (ofA fun x => { x with sup22.isOpen := true, start.brown := true, start.resetnLow := true }).start.resetnLow := by decide +kernel
theorem witness_LossOfSupplyLeavesTheLaneOff :
    (inState .armed).start.state ≠ .off ∧ (10000 : Nat) ≤ 10000 ∧
    (let x := ofA fun x => { x with sup22.isOpen := true, start.state := .armed }; x.sup22.isOpen ∧ x.start.state ≠ .off) ∧
    ((inState .armed).sup22.isOpen = false ∧ (inState .armed).start.state ≠ .off) := by decide +kernel
theorem witness_DebugHaltNeedsBench :
    (let x := holder 1 []; let y := { x with start.bench := true }
     y.start.bench ∧ y.start.halted = false ∧ y.cfg.axisOfLeg y.id 0 = some 0 ∧ x.start.bench = false) ∧
    (ofA fun x => { x with start.halted := true }).start.halted := by decide +kernel
theorem witness_DebugResetNeedsBench :
    (ofA fun x => { x with start.bench := true }).start.bench ∧ (ofA id).start.bench = false := by decide +kernel
/-- Axis 0 as a pump in OPERATE whose time base has not started: its valley falls on every boundary, or not on this one. -/
def stopped (phase : Nat) (c : Cfg) : Lane :=
  { holder 3 c with pwm := (holder 3 c).pwm.set 0 { running := true }, bus := { phase := phase } }
theorem witness_DebugHaltEndRestartsTheTimeBases :
    (ofA fun x => { x with start.halted := true }).start.halted ∧
    (let x := stopped 0 []; (x.pwm.get 0).started = false ∧ (x.pwm.get 0).running ∧ (x.pwm.get 0).applied = false ∧ x.valleyNow 0 ∧ x.baseRuns 0) ∧
    (stopped 1 [(0x10000010, [2])]).valleyNow 0 = false ∧ ({ stopped 0 [] with start.state := .armed } : Lane).baseRuns 0 = false := by decide +kernel

/-- A key pair's public key, made for these tests. -/
def testKey : Nat × Nat :=
  (0x60fed4ba255a9d31c961eb74c6356d68c049b8923b61fa6ce669622e60f29fb6, 0x7903fe1008b8bc99a41ae9e95628bc64f2f1b20c2d7e9f5177a3c294d4462299)

/-- Bytes of a memory from an address. -/
def cells (a : Nat) : List Byte → Mem
  | [] => []
  | b :: bs => if b = erased then cells (a + 1) bs else (a, b) :: cells (a + 1) bs

/-- A package without a body: its header gives 64 bytes after it and is else erased; the signature was made outside with the private key of `testKey`. -/
def signedPackage : Mem :=
  cells 12 [0, 0, 0, 64] ++
  cells 128 (beBytes 32 0xf9ebe464147cc102d92324d099d927c1a50e42d57a08a116ffec0a29819d8c65 ++
    beBytes 32 0xf4c02e7a9a8b8eaca72b4c8d3ffdee90aa4db43ee12ddf2349f915ffc51168b8)

/-- A lane whose slots hold that package and whose boot store has its key. -/
def signing (x : Lane) : Lane := { x with nvm.bootKey := testKey, nvm.slot0 := signedPackage, nvm.slot1 := signedPackage }

/-- A lane in BOOT that has read its slot record. -/
def booting (x : Lane) : Lane := { x with start.state := .boot, start.booted := true }

theorem witness_BootAndSelfTestDecideTheWay :
    ((inState .boot).start.state = .boot ∧ (inState .boot).start.booted = false ∧ (inState .boot).nvm.job.read [] = []) ∧
    (let x := ofA fun x => booting (signing x)
     packageValid x.nvm.bootKey (x.slotMem x.start.slot) ∧ x.start.booted ∧ x.start.bootHeld = false ∧ x.start.triedOther = false) ∧
    (let x := ofA fun x => { booting x with nvm.bootKey := testKey }
     packageValid x.nvm.bootKey (x.slotMem x.start.slot) = false ∧ x.start.booted ∧ x.start.triedOther = false ∧ x.col.raised = []) ∧
    (ofA fun x => { booting x with start.triedOther := true }).start.triedOther ∧
    (ofA fun x => { x with nvm.confirmed := { c0 := some ⟨1, false, 0⟩ } }).nvm.confirmed.lost ∧
    (ofA fun x => { x with nvm.key := { c0 := some ⟨1, false, []⟩ } }).nvm.key.lost ∧ (inState .selftest).start.state = .selftest := by
  decide +kernel
theorem witness_GatherTakesRejectsOrActivatesAnImage :
    let x := ofA fun x => { x with start.state := .gather, gat.imageState := 1 }
    let y := ofA fun x => { x with start.state := .gather, gat.imageState := 1, nvm.areas := x.nvm.areas.write { active := 0, pending := true } }
    (x.start.state = .gather ∧ x.gat.imageState = 1 ∧ (x.nvm.areas.read {}).pending = false ∧ (x.gatherArea 0 []).toOption.isNone) ∧
    (y.start.state = .gather ∧ y.gat.imageState = 1 ∧ (y.nvm.areas.read {}).pending ∧ y.nvm.regather.read none = none ∧
      (y.gatherArea 1 []).toOption.isNone) := by decide +kernel

/-- A record of an image body (R95). -/
def record (id : Nat) (v : List Byte) : List Byte := beBytes 4 id ++ beBytes 2 v.length ++ v

/-- An image of a node without axes and without the fabric: its header by Table 4.1, sync order PIN, FREE, and the mirror records of Table 4.2. -/
def bareImage : List Byte :=
  let body := record 0x01000010 [1, 0] ++ record 0x02000010 [0] ++ record 0x02000011 [0] ++ record 0x02000012 [7]
  let head := beBytes 4 0x47544852 ++ [1, 0] ++ beBytes 4 (64 + body.length) ++ beBytes 4 (crc32c body) ++ beBytes 4 0 ++ [0, 0, 7, 0] ++
    List.replicate 38 0
  head ++ beBytes 4 (crc32c head) ++ body

/-- Every check of Table 4.6 but the processors' load, which the spec leaves to the firmware, passes on an area. -/
def passes (x : Lane) (area : Nat) : Bool :=
  match gatherImage x.id x.nvm.flashId (fun off n => x.nvm.flash.readList (0x100000 * area + off) n) with
  | .error _ => false
  | .ok img =>
    let c := laneCfg img.recs x.id.code
    let ts := c.judgeTags x.id x.nvm []
    let good := ts.filter fun t => t.tag.isSome && !unavailable ts (t.exp / 0x10000)
    let c2 := c.over ((good.flatMap fun t => c.tagValues t.exp (t.tag.getD [])).map fun (v : Nat × Int) => (v.1, [v.2]))
    let others := ((List.range 3).filter fun i => img.head.mask.testBit i && i != x.id.code).map fun i => (LaneId.ofMod i, laneCfg img.recs i)
    let absent := c2.absentOn x.id ts
    let axes := allAxes.filter fun n => !absent n.val
    (c2.crossBad x.id others absent fun n => unavailable ts (0x1000 + n)).isNone && decide (((List.range 32).map fun p => c2.engineCost p axes).foldl max 0 ≤ 4400)

/-- An area that passes these checks is accepted, whatever the processors' load is, where it stays within the limits of R51. -/
theorem accepted_of_passes (x : Lane) (area : Nat) (h : passes x area = true)
    (load : ∀ c axes, (Config.coreLoad c axes).load ≤ 75 ∧ (Config.coreLoad c axes).tickFits = true ∧ (Config.coreLoad c axes).boundaryFits = true) :
    ∃ g, x.gatherArea area [] = .ok g := by
  have fits : ∀ (c : Cfg) (axes : List AxisId), ((List.range 32).map fun p => c.engineCost p axes).foldl max 0 ≤ 4400 → c.loadBad axes = none := by
    intro c axes he
    obtain ⟨h1, h2, h3⟩ := load c (axes.map (·.val))
    unfold Cfg.loadBad Cfg.loads
    dsimp only
    rw [h2, h3, if_neg (by split <;> simp <;> omega), if_neg (by omega)]
  unfold passes at h
  unfold Lane.gatherArea
  cases hi : gatherImage x.id x.nvm.flashId (fun off n => x.nvm.flash.readList (0x100000 * area + off) n) with
  | error r => rw [hi] at h; cases h
  | ok img =>
    rw [hi] at h
    dsimp only at h ⊢
    rw [Bool.and_eq_true, Option.isNone_iff_eq_none, decide_eq_true_eq] at h
    rw [h.1]
    dsimp only
    rw [fits _ _ h.2]
    exact ⟨_, rfl⟩

theorem witness_accepted_image : passes (ofA fun x => { x with nvm.flash := cells 0 bareImage }) 0 = true := by decide +kernel

/-- Lane A with what lane B showed it. -/
def seeing (p : Peer) (f : Lane → Lane) : Lane := ofA fun x => f { x with peer := x.peer.set .b p }

theorem witness_AlignArmedAndOperateFollowTheirConditions :
    (let x := ofA fun x => { x with
       start := { x.start with state := .align, equalSeal := true, digestsDone := true, discovered := true }, tick.alignErr := some 80 }
     x.start.state = .align ∧ x.alignReady) ∧
    ((inState .align).start.state = .align ∧ (inState .align).alignReady = false) ∧
    (let x := ofA fun x => { x with start.state := .align, start.inState := 4800 }; 4800 ≤ x.start.inState ∧ x.start.tim008 = false) ∧
    (let x := ofA fun x => { x with start.state := .armed, start.inState := 800 }
     x.start.state = .armed ∧ x.start.ready = false ∧ x.cfg.lanePrechargeTime ≤ x.start.inState) ∧
    (let x := ofA fun x => withCfg [(0x10000001, [1]), (0x10000002, [0, 0, 0]), (0x11000001, [1]), (0x12000011, [8 * 65536])]
       { x with start.state := .armed, start.inState := 800, lease.ax := x.lease.ax.set 0 { absentHw := false } }
     x.cfg.refreshes 0 ∧ x.cfg.axisOfLeg x.id 0 = some 0 ∧ (x.ax 0).absent = false ∧ (7999 : Int) * 65536 < x.cfg.legGateBootUv 0 * 1000) ∧
    (let x := ofA fun x => { x with start.state := .armed, start.readyPrev := true }
     x.start.state = .armed ∧ x.start.readyPrev ∧ x.partners = (false, false)) ∧
    (let x := seeing { markerPrev := some { state := .armed, ready := true } } fun x => { x with start.state := .armed, start.readyPrev := true }
     x.partners = (true, false)) ∧
    (let x := seeing { markerPrev := some { state := .operate } } fun x => withCfg [(0x10000001, [1])]
       { x with start.state := .armed, start.readyPrev := true, lease.ax := x.lease.ax.set 0 { absentHw := false } }
     x.partners = (false, true) ∧ x.cfg.hasAxis 0 ∧ (x.ax 0).absent = false ∧ x.cfg.hasAxis 1 = false) := by decide +kernel
theorem witness_PowerDownEndsEveryLease :
    (let x := ofA fun x => { x with start.wakeRun := x.start.wakeRun.set .b 40 }
     LaneId.b ∈ x.id.others ∧ 40 ≤ x.start.wakeRun.get .b ∧ x.start.opr001.get .b = false) ∧
    ((ofA id).id.others.all fun p => decide ((ofA id).start.wakeRun.get p < 40)) ∧
    (let x := seeing { markerPrev := some { state := .operate } } fun x => { x with
       start := { x.start with state := .operate, quietOwn := 200000, quietPeer := x.start.quietPeer.set .b 200000 } }
     x.start.state = .operate ∧ x.start.sinceP = none ∧ 200000 ≤ x.start.quietOwn ∧
       LaneId.b ∈ x.id.others ∧ (x.peerOf .b).markerPrev = some { state := .operate } ∧ 200000 ≤ x.start.quietPeer.get .b) ∧
    ((ofA id).start.quietOwn < 200000 ∧ LaneId.all.all (fun p => decide ((ofA id).start.quietPeer.get p < 200000))) ∧
    (let x := ofA fun x => { x with start.sinceP := some 40000, start.state := .operate }
     x.start.sinceP = some 40000 ∧ x.cfg.laneParkWait ≤ 40000 ∧ x.start.state = .operate ∧ x.listens = false) ∧
    (let x := ofA fun x => { x with start.quietAlone := 200000, start.state := .stopped }
     200000 ≤ x.start.quietAlone ∧ x.start.state = .stopped) ∧
    (let x := ofA fun x => withCfg [(0x02000003, [2])] { x with start.state := .listen, start.listenTicks := 80000 }
     x.start.state = .listen ∧ x.cfg.laneListenMaxtime ≠ 0 ∧ x.cfg.laneListenMaxtime * 40000 ≤ x.start.listenTicks) := by decide +kernel

theorem witness_TickAdvancesTheTimer :
    (inState .operate).start.state = .operate ∧ (inState .operate).start.halted = false ∧ (inState .operate).start.restartNow = false ∧
    (inState .operate).start.wdReset = false ∧ (inState .armed).start.state = .armed := by decide +kernel
theorem witness_TicksOfHaltedAndSleepingLanes :
    (let x := ofA fun x => { x with start.halted := true, start.state := .operate }; x.start.halted ∧ x.start.state = .operate ∧ x.start.wdReset = false) ∧
    (inState .sleep).start.state = .sleep ∧ (inState .listen).start.state = .listen := by decide +kernel
/-- A section from lane B. -/
def fromB (s : LinkSection) (t : Int) : LinkRx := { sender := .b, sect := s, arrival := t }
theorem witness_LinkFramesAreTakenOrMissed :
    let tx : Lane := { id := .b, start := { state := .operate }, lease := { pubOut := some {} } }
    let x := seeing { everUp := true, marker := some { state := .operate } } fun x => { x with start.state := .operate }
    ((fromB .marker 5128).sect = .marker ∧ x.hears tx (fromB .marker 5128) ∧
      (fromB .marker 5128).arrival - 128 - (x.peerOf tx.id).delay ≤ 5000 ∧ (fromB .marker 5128).loopback = none) ∧
    x.hears tx (fromB .marker 10001) = false ∧ (x.hears tx (fromB .outputs 200) ∧ tx.due = none ∧ tx.lease.pubOut = some {}) ∧
    (x.hears tx (fromB .state 300) ∧ tx.detailOut.voice = false) ∧
    (let z := seeing { everUp := true, silent := 7 } fun x => { x with start.state := .operate }
     LaneId.b ≠ z.id ∧ z.hearsLinks ∧ (z.peerOf .b).marker = none ∧ (z.peerOf .b).down = false ∧ 7 ≤ (z.peerOf .b).silent ∧ (z.peerOf .b).everUp) ∧
    (let z := inState .operate; z.hearsLinks ∧ (z.peerOf .b).marker = none ∧ (z.peerOf .b).everUp = false) := by decide +kernel
theorem witness_CommonsComesAndGoes :
    ((node fun x => { x with start.state := .operate }).lanes.get .a).col.commonsUp ∧
    aliveState ((node fun x => { x with start.state := .operate }).lanes.get .a).start.state ∧
    ({ windows := [{ lane := 0, len := 1, left := 0, isOpen := true, ticks := [], num := 0 }], nextNum := 1 } : Commons).windows[0]?.isSome := by
  decide +kernel
theorem witness_MisalignmentAndExternalSources :
    (let m : Peer := { marker := some { state := .operate }, boundary := -200 }
     let x := ofA fun x => { x with start.state := .operate, peer := (x.peer.set .b m).set .c m, tick.outlierRun := 7 }
     x.col.raised = [] ∧ x.alignOthers.length = 2 ∧ 160 < absI x.offset2 ∧ x.tick.outlierRun = 7) ∧
    (let x := seeing { marker := some { state := .operate }, boundary := 161 } fun x => { x with start.state := .operate, tick.splitRun := 7 }
     x.alignOthers = [.b] ∧ 160 < absI (x.peerOf .b).boundary ∧ x.tick.splitRun = 7) ∧
    ((inState .operate).alignOthers.length ≠ 2 ∧ (inState .operate).alignOthers.length ≠ 1) ∧
    (let x := ofA fun x => { x with tick.pin := { state := 1, meas := some (-80), lockRun := 7 }, tick.fabric := { state := 1, meas := some 80, lockRun := 7 } }
     x.tick.pin.state = 1 ∧ x.tick.pin.meas = some (-80) ∧ absI (-80) ≤ 80 ∧ x.tick.pin.lockRun = 7 ∧
     x.tick.fabric.state = 1 ∧ x.tick.fabric.meas = some 80 ∧ x.tick.fabric.lockRun = 7) ∧
    (let x := ofA fun x => { x with tick.pin := { state := 2, expected := true, missRun := 39 } }
     x.tick.pin.state = 2 ∧ x.tick.pin.meas = none ∧ x.tick.pin.expected ∧ x.tick.pin.missRun = 39) ∧
    (let x := ofA fun x => { x with tick.pin := { state := 3, meas := some 800, backRun := 399 } }
     x.tick.pin.state = 3 ∧ x.tick.pin.meas = some 800 ∧ absI 800 ≤ 800 ∧ x.tick.pin.backRun = 399) ∧
    (let x := ofA fun x => { x with tick.pin.state := 1 }
     x.tick.pin.state ≠ 0 ∧ x.cfg.tickSyncPinDir = 0 ∧ x.tick.pinPhase = none ∧ x.tick.pin.meas = none ∧
       2 * (((5000 : Nat) : Int) - x.cfg.tickSyncPinOffset) ≤ 10000 + x.tick.corr + x.tick.step) ∧
    (ofA fun x => withCfg [(0x01000011, [1])] x).cfg.tickSyncPinDir ≠ 0 := by decide +kernel
theorem witness_OverrunsAndTimerFaults :
    closesTicks (inState .safe).start.state ∧ aliveState (inState .operate).start.state ∧ (0 : Nat) < 1 ∧ (inState .operate).start.state ≠ .boot ∧ 100 < absI (-101) ∧ absI (-100) ≤ 100 ∧
    (ofA fun x => { x with start.closed := false, start.state := .operate }).start.closed = false ∧
    (ofA fun x => withCfg [(0x30000002, [1])] { x with start.state := .operate }).cfg.faultCollectorDirect ∧
    (inState .operate).cfg.faultCollectorDirect = false := by decide +kernel

theorem witness_LeaseLossAndClaims :
    (let x := holder 1 []
     x.start.state = .operate ∧ (x.ax 0).role = .holder ∧ x.lease.stopped = false ∧ (x.ax 0).leaving = false ∧ (x.ax 0).counter ≠ 0) ∧
    (let x := ofA fun x => { x with start.state := .operate, lease.ax := x.lease.ax.set 0 { role := .holder } }
     (x.ax 0).role = .holder ∧ (x.ax 0).counter = 0) ∧
    (let x := ofA fun x => withCfg [(0x10000001, [1])] { x with
       start.state := .operate, lease.ax := x.lease.ax.set 0 { role := .standby, absentHw := false, orphan := 23 } }
     x.orphanNow 0 ∧ 3 * (x.cfg.leaseLen + x.cfg.leaseGuard) ≤ (x.ax 0).orphan + 1 ∧ (x.ax 0).lse010 = false ∧
       x.withholds 0 = none ∧ ((x.publish).endorse).withholds 0 = none) ∧
    ((inState .armed).orphanNow 0 = false) ∧
    (let p : Peer := { lastMarker := some { state := .operate }, marker := some { state := .operate }
                       pub := some { entries := (Tab.fill 12 {}).set 0 { valid := true, role := .holder, prim := 65536, epoch := 7 } } }
     let x := seeing p fun x => withCfg [(0x10000001, [1])] { x with
       start.state := .operate, lease.ax := x.lease.ax.set 0 { role := .standby, absentHw := false, withheld := 3 } }
     ((x.publish).endorse).withholds 0 = some 65536 ∧ x.cfg.leaseLen ≤ (x.ax 0).withheld + 1 ∧ (x.ax 0).lse002 = false) ∧
    (let x := ofA fun x => withCfg [(0x10000001, [1])] { x with
       start.state := .operate, tick.count := 40, lease.ax := x.lease.ax.set 0 { role := .standby, absentHw := false, lastRenew := 30, named := true } }
     x.mayClaim 0 ∧ x.position 0 ≠ 0 ∧ x.position 0 * (x.cfg.leaseLen + x.cfg.leaseGuard) ≤ x.tick.count - (x.ax 0).lastRenew ∧ (x.ax 0).named) ∧
    (let x := ofA fun x => withCfg [(0x10000001, [1])] { x with
       start.state := .operate, tick.count := 31, lease.ax := x.lease.ax.set 0 { role := .standby, absentHw := false, lastRenew := 30 } }
     x.mayClaim 0 ∧ x.tick.count - (x.ax 0).lastRenew < x.position 0 * (x.cfg.leaseLen + x.cfg.leaseGuard) ∧ (x.ax 0).named = false) := by
  decide +kernel
theorem witness_MarverRotationAndReportFallDue :
    (let x := ofA fun x => { x with start.state := .operate, lease.marver.ticks := 160000 }
     x.start.state = .operate ∧ 160000 ≤ x.lease.marver.ticks ∧ x.lease.marver.late = false) ∧
    (ofA id).lease.marver.ticks < 160000 ∧
    (let x := seeing { lastMarker := some { state := .operate } } fun x => withCfg [(0x10000001, [1])] { x with
       start.state := .operate, tick.count := 100000, lease.stillRun := 80000, lease.ax := x.lease.ax.set 0 { role := .holder, absentHw := false } }
     x.start.state = .operate ∧ x.rotateAxes ≠ [] ∧ 2 ≤ x.service ∧ x.lease.yieldPlan = [] ∧ x.cfg.leaseRotateMode = 1) ∧
    (let x := seeing { lastMarker := some { state := .operate } } fun x => withCfg [(0x10000001, [1]), (0x03000010, [2])] { x with
       start.state := .operate, tick.count := 200000000, lease.ax := x.lease.ax.set 0 { role := .holder, absentHw := false } }
     x.cfg.leaseRotateMode = 2 ∧ x.rotateAxes ≠ [] ∧ x.steerSlow) ∧
    (ofA id).rotateAxes = [] ∧ (ofA id).tick.count % 40 = 0 ∧ (ofA fun x => { x with tick.count := 39 }).tick.count % 40 ≠ 0 := by decide +kernel

theorem witness_FeedbackChannelsTakeTheirInputs :
    (let x := ofA fun x => withCfg [(0x13000001, [1])] { x with start.state := .operate, clk := 100, fbk := x.fbk.set 0 { la := { last := some 80 } } }
     x.start.state = .operate ∧ x.cfg.feedbackMode 0 = 1 ∧ x.cfg.feedbackInvert 0 = 0 ∧ (x.fbk.get 0).la.raw = (x.fbk.get 0).la.lvl ∧
       (x.fbk.get 0).lb.raw = (x.fbk.get 0).lb.lvl ∧ (x.fbk.get 0).lz.raw = (x.fbk.get 0).lz.lvl ∧ (x.fbk.get 0).la.last = some 80 ∧
       80 + max (x.cfg.feedbackTmin 0) 20 ≤ x.clk + 300 ∧ x.clk + 0 < 80 + max (x.cfg.feedbackTmin 0) 20 + 1) ∧
    (let x := ofA fun x => withCfg [(0x13000001, [1])] { x with fbk := x.fbk.set 0 { accepted := 2, quietRun := 100000, edgeNow := false } }
     x.cfg.feedbackMode 0 ≠ 0 ∧ x.cfg.feedbackSpeedStill 0 ≤ (x.fbk.get 0).quietRun ∧ (x.fbk.get 0).edgeNow = false) ∧
    ((ofA id).fbk.get 0).accepted = 0 ∧ ((ofA id).fbk.get 6).ssiStart = none ∧
    (let x := ofA fun x => withCfg [(0x13060001, [6]), (0x13060062, [0])] { x with start.state := .operate, fbk := x.fbk.set 6 { ssiStart := some (0, 0) } }
     (x.fbk.get 6).ssiStart.isSome ∧ x.cfg.feedbackMode 6 ≠ 0 ∧ x.cfg.feedbackSsiCode 6 = 0 ∧ 2 ^ 25 - 1 < 2 ^ x.cfg.feedbackSsiBits 6 ∧ (x.fbk.get 6).ssiHave = false) := by
  decide +kernel
theorem witness_RequestsReachTheirAxes :
    ((holder 1 []).cfg.kind 0 = .steer ∧ ((holder 1 []).ax 0).role = .holder) ∧
    (let x := ofA fun x => withCfg [(0x10000001, [1])] x; x.cfg.kind 0 = .steer ∧ (x.ax 0).role ≠ .holder ∧ x.start.state ≠ .unsealed) ∧
    (ofA id).cfg.kind 0 ≠ .steer ∧ (ofA id).cfg.hasAxis 0 = false ∧
    (served (holder 1 [])).cfg.kind 0 = .steer ∧ (served (holder 1 [])).cfg.kind 1 ≠ .steer ∧ (served (holder 1 [])).cfg.hasAxis 0 ∧
    (served (holder 1 [])).commands 0 ∧ (served (holder 1 [])).commands 1 = false ∧
    (holder 1 [(0x10010001, [1]), (0x10010090, [0])]).cfg.axisFollowLead 1 = 0 := by decide +kernel
/-- What a service of the lane asks of it. -/
theorem witness_Admits : (served (holder 1 [])).Admits toAll true true := by unfold Lane.Admits; decide +kernel
theorem witness_Admits_outside :
    (let x := { served (holder 1 []) with can.session := none }; x.Admits toAll false false ∧ x.inSession toAll = false) ∧
    let x := { served (holder 1 []) with start.workshop := false }; x.Admits toAll true false ∧ x.start.workshop = false := by
  unfold Lane.Admits
  decide +kernel
theorem witness_SwitchesStepsAndAngles :
    (let x := holder 1 []; x.cfg.kind 0 = .steer ∧ (x.ax 0).role = .holder ∧ (x.prof.get 0).phase = .rest ∧ (x.prof.get 0).holdOn = false ∧
       (x.prof.get 0).holdCount < x.cfg.axisProfileHoldDelay 0 ∧ x.cfg.axisProfileHoldPct 0 < 100) ∧
    (let x := { holder 1 [] with prof := (ofA id).prof.set 0 { holdCount := 20000 } }
     x.cfg.axisProfileHoldDelay 0 ≤ (x.prof.get 0).holdCount) ∧
    (let x := ofA fun x => { x with
       start.state := .operate, swPos := x.swPos.set 0 { raw := true, seen := true, run := 40 }, lease.ax := x.lease.ax.set 0 { role := .standby } }
     (x.swPos.get 0).seen ∧ (x.swPos.get 0).raw ≠ (x.swPos.get 0).deb ∧ x.cfg.axisProfileLimitTDeb 0 ≤ (x.swPos.get 0).run ∧
       (x.ax 0).role = .standby ∧ x.start.state = .operate) ∧
    (let x := { holder 1 [] with
       swNeg := (ofA id).swNeg.set 0 { raw := true, seen := true, run := 40 }, prof := (ofA id).prof.set 0 { phase := .cruise, motion := .position } }
     (x.swNeg.get 0).seen ∧ (x.swNeg.get 0).raw ∧ (x.swNeg.get 0).deb = false ∧ (x.swNeg.get 0).chatter = false ∧
       x.cfg.axisProfileLimitTDeb 0 ≤ (x.swNeg.get 0).run ∧ (x.ax 0).role = .holder ∧ x.endLearn 0 = false ∧ (x.prof.get 0).moving ∧
       (x.prof.get 0).stopNext = 0) ∧
    (let x := ofA fun x => { x with swNeg := x.swNeg.set 0 { chatter := true } }
     (x.swNeg.get 0).chatter ∧ (x.swNeg.get 0).trans.all (fun t => decide (t + x.cfg.axisProfileLimitChatterWin 0 ≤ x.tick.count))) ∧
    (let x := ofA fun x => { x with prof := x.prof.set 0 { disagree := 4000 } }
     (x.prof.get 0).disagree = x.cfg.axisProfileLimitChatterWin 0) ∧
    ((ofA id).cfg.stepinEdge = 0 ∧ (ofA id).stepIn.step = {} ∧ (ofA id).stepIn.dir = {}) ∧
    (let x := ofA fun x => { x with clk := 200, stepIn := { tk := some 100, tint := 50, settled := false } }
     x.stepIn.tk.isSome ∧ x.stepIn.settled = false ∧ 2 * (x.stepIn.tint : Int) ≤ x.stepIn.age x.tick.count 0 x.clk) ∧
    (let x := ofA fun x => { x with tick.count := 2, stepIn := { tk := some 100, tint := 10000, first := true, settled := false } }
     x.stepIn.tk.isSome ∧ x.stepIn.settled = false ∧ 2 * (x.stepIn.tint : Int) ≤ x.stepIn.age x.tick.count 0 x.clk) ∧
    (ofA id).stepIn.settled ∧
    (40000 ≤ (ofA fun x => { x with bus.thetaTick := 40000 }).bus.thetaTick ∧ (ofA id).bus.thetaTick < 40000) := by decide +kernel
theorem witness_BlendsAndOverrideAreBounded :
    (let x := { holder 1 [] with sup := (ofA id).sup.set 0 { blend := true, blendTick := 8000, ob := some 0, obTick := 8000 } }
     (x.sup.get 0).blend ∧ (x.sup.get 0).blendRaised = false ∧ x.commands 0 ∧ x.cfg.axisHandoverTmax 0 ≤ (x.sup.get 0).blendTick ∧
       (x.sup.get 0).ob.isSome ∧ (x.sup.get 0).obRaised = false ∧ x.cfg.axisHandoverTmax 0 ≤ (x.sup.get 0).obTick ∧ (x.sup.get 1).blend = false) ∧
    (let x := { holder 1 [(0x20000020, [3])] with chas.override := 8, sup := (ofA id).sup.set 0 { mode := 0 } }
     x.holdsFeel = false ∧ x.cfg.steerOverrideFeel < 12 ∧ x.chas.overFired = false ∧ x.cfg.steerOverrideTime ≤ x.overrideSeen ∧ x.cfg.kind 0 = .steer ∧
       x.cfg.axisModeOverride 0 ∧ (x.sup.get 0).mode = 0 ∧ x.commands 0 ∧ (x.prof.get 0).jobOwns = false ∧ x.commands 1 = false ∧ (x.ax 1).yieldedTo ≠ some x.id) ∧
    (let x := { holder 2 [(0x20000020, [0])] with chas.override := 8 }
     x.holdsFeel ∧ x.settle.holdsFeel ∧ x.settle.cfg.steerOverrideTime ≤ x.settle.chas.override ∧ x.settle.chas.overFired = false) ∧
    (ofA id).overrideSeen < (ofA id).cfg.steerOverrideTime ∧
    (let h := holder 1 []
     let x := { h with lease.ax := h.lease.ax.set 0 { role := .standby, absentHw := false, yieldedTo := some .a } }
     x.commands 0 = false ∧ (x.ax 0).yieldedTo = some x.id) := by decide +kernel

theorem witness_LostObserversBorrowOrRecatch :
    (let x := { holder 3 [(0x17000010, [4])] with comm := (ofA id).comm.set 0 { phase := 4, lossRun := 2 } }
     x.cfg.motor 0 ∧ x.obsIsSource 0 ∧ x.cfg.axisCommObsLossn 0 ≤ (x.comm.get 0).lossRun ∧ x.lender 0 (·.detail) = none) ∧
    (let h := holder 3 [(0x17000010, [4])]
     let p : Peer := { lastMarker := some { state := .operate }, pubLast := some { entries := (Tab.fill 12 {}).set 0 { valid := true } } }
     let d : Detail := { motors := (Tab.fill 12 none).set 0 (some { flag := true }) }
     let x := { h with comm := h.comm.set 0 { phase := 4, lossRun := 2 }, peer := h.peer.set .b p, px := h.px.set .b { detail := some d } }
     x.obsIsSource 0 ∧ x.lender 0 (·.detail) = some .b) ∧
    (let x := { holder 3 [] with comm := (ofA id).comm.set 0 { borrow := some (1, 100000) } }
     (x.comm.get 0).borrow = some (1, 100000) ∧ x.cfg.axisCommBorrowMax 0 ≤ 100000) ∧
    (let x := { holder 3 [] with comm := (ofA id).comm.set 0 { recatch := some (2, false), locked := true } }
     (x.comm.get 0).recatch.isSome ∧ (x.comm.get 0).locked) ∧
    (let x := { holder 1 [] with comm := (ofA id).comm.set 0 { recatch := some (9, true) } }
     (x.comm.get 0).recatch = some (9, true) ∧ (x.comm.get 0).locked = false ∧ x.cfg.kind 0 ≠ .pump) := by decide +kernel
theorem witness_PumpsStartAndCommutationIsChecked :
    (let x := { holder 3 [] with comm := (ofA id).comm.set 0 { phase := 1, phaseTick := 100000 } }
     x.cfg.kind 0 = .pump ∧ (x.comm.get 0).phase = 1 ∧ x.cfg.axisCommStartTalign 0 ≤ (x.comm.get 0).phaseTick) ∧
    (let x := { holder 3 [] with comm := (ofA id).comm.set 0 { phase := 3, phaseTick := 2000, fails := 254 } }
     (x.comm.get 0).phase = 3 ∧ x.cfg.axisCommStartHandwin 0 ≤ (x.comm.get 0).phaseTick ∧ (x.comm.get 0).locked = false ∧ (x.ax 0).role = .holder ∧
       x.cfg.axisCommStartRetry 0 ≤ satInc 255 (x.comm.get 0).fails) ∧
    (let x := { holder 3 [] with comm := (ofA id).comm.set 0 { phase := 5, phaseTick := 1000000 } }
     (x.comm.get 0).phase = 5 ∧ x.cfg.axisCommStartCoast 0 ≤ (x.comm.get 0).phaseTick ∧
       absI (radToRpm (x.cfg.axisCommPolepairs 0) (x.comm.get 0).oW) < (x.cfg.axisCommPumpRestart 0 : Int) * 65536) ∧
    (let x := { holder 3 [] with comm := (ofA id).comm.set 0 { disRun := 2, sumRun := 4 } }
     x.cfg.axisCommObsLossn 0 ≤ (x.comm.get 0).disRun ∧ (x.comm.get 0).disRaised = false ∧ 4 ≤ (x.comm.get 0).sumRun ∧ (x.comm.get 0).sumRaised = false) ∧
    (let x := holder 3 [(0x17000010, [3]), (0x17000011, [0]), (0x17000060, [1])]
     let y := { x with pwm := x.pwm.set 0 { started := true }, fbk := x.fbk.set 0 { la := { lvl := true } } }
     x.cfg.hallpass 0 ∧ (x.pwm.get 0).started = false ∧ hallPattern (x.hallState 0) = none ∧
     y.cfg.hallpass 0 ∧ (y.pwm.get 0).started ∧ y.baseRuns 0 ∧ (hallPattern (y.hallState 0)).isSome ∧ y.cfg.legsOf y.id 0 ≠ []) ∧
    (holder 3 []).cfg.hallpass 0 = false := by decide +kernel
theorem witness_ReloadsTakeTheShadowRegisters :
    let x := { holder 3 [] with pwm := (ofA id).pwm.set 0 { running := true, started := true } }
    let y := { x with gat.cfg := (0x10000010, [2]) :: x.gat.cfg, bus.phase := 1 }
    (x.pwm.get 0).running ∧ x.baseRuns 0 ∧ (x.pwm.get 0).applied = false ∧ (x.pwm.get 0).started ∧ x.valleyNow 0 ∧
    ({ x with start.halted := true } : Lane).baseRuns 0 = false ∧ y.baseRuns 0 ∧
    (let z := { x with gat.cfg := [(0x17000010, [3]), (0x17000060, [1])] ++ x.gat.cfg }
     z.cfg.hallpass 0 ∧ z.baseRuns 0 ∧ z.valleyNow 0 ∧ (z.pwm.get 0).running ∧ (z.pwm.get 0).started) ∧
    (let z := { holder 4 [(0x10000010, [2])] with pwm := (ofA id).pwm.set 0 { running := true, started := true } }
     z.cfg.kind 0 = .valve ∧ z.baseRuns 0 ∧ z.valleyNow 0 = false ∧ (z.pwm.get 0).running ∧ (z.pwm.get 0).started) ∧
    y.valleyNow 0 = false ∧ y.cfg.kind 0 ≠ .valve ∧ y.cfg.hallpass 0 = false ∧ 0 ∈ y.cfg.legsOf y.id 0 ∧ 3 ∉ y.cfg.legsOf y.id 0 ∧
    (y.leg.get 0).refreshing = false := by decide +kernel
theorem witness_LegEventsActOnTheirLeg :
    (let h := holder 3 [(0x02000100, [0x1000]), (0x02000101, [2]), (0x02000102, [2])]
     let x := { h with pwm := h.pwm.set 0 { started := true }, evLine := h.evLine.set 1 { occ := 1 } }
     let y := { x with evLine := x.evLine.set 0 { occ := 1 } }
     x.cfg.lineOn 0 ∧ (x.evLine.get 0).now < x.lineEvents 0 x.tickLen ∧ (x.evLine.get 0).occ + 1 < x.cfg.lanePwmEvPrescale 0 ∧
       x.cfg.lanePwmEvDest 0 = 2 ∧ (y.evLine.get 0).now < y.lineEvents 0 y.tickLen ∧ y.cfg.lanePwmEvPrescale 0 ≤ (y.evLine.get 0).occ + 1 ∧
       h.lineEvents 0 h.tickLen ≤ (h.evLine.get 0).now ∧ h.cfg.lineOn 1 = false) ∧
    (let x := ofA fun x => { x with bus.clipAt := some 0, tick.count := 39999, leg := x.leg.set 0 { clip := true } }
     (x.leg.get 0).clip ∧ x.bus.clipAt = some 0 ∧ x.tick.count < 0 + 40000 ∧ (x.leg.get 1).clip = false ∧ (ofA id).bus.clipAt = none) ∧
    (let x := holder 1 [(0x11000001, [1]), (0x12000010, [1]), (0x12000011, [8 * 65536])]
     let y := { x with leg := x.leg.set 0 { iso := true }, pwm := x.pwm.set 0 { hold := 2 } }
     x.supplySeen 0 ∧ y.supplySeen 0 ∧ ({ x with start.state := .armed } : Lane).supplySeen 0 = false ∧
       x.cfg.legFunction 0 = 1 ∧ (x.cfg.legGateHssupply 0 = 1 ∧ (x.leg.get 0).iso = false) ∧ (7999 : Int) * 65536 < x.cfg.legGateBootUv 0 * 1000 ∧
       ¬ ((8001 : Int) * 65536 < x.cfg.legGateBootUv 0 * 1000) ∧ (y.leg.get 0).iso ∧ y.cfg.axisOfLeg y.id 0 = some 0 ∧ (y.pwm.get 0).hold = 2 ∧
       x.cfg.axisOfLeg x.id 0 = some 0 ∧ (x.pwm.get 0).hold ≠ 2 ∧ x.cfg.legFunction 3 = 0) ∧
    (let c : Cfg := [(0x11000001, [1]), (0x12000010, [1]), (0x12000011, [8 * 65536])]
     c.legFunction 0 = 1 ∧ (7999 : Int) * 65536 < c.legGateBootUv 0 * 1000 ∧ c.axisOfLeg .a 0 = none ∧ c.legGateHssupply 0 = 1 ∧ ((ofA id).leg.get 0).iso = false) ∧
    Cfg.legGateHssupply [(0x11000001, [1])] 0 ≠ 1 ∧
    (let x := { holder 4 [(0x11000002, [1])] with
       pwm := (ofA id).pwm.set 0 { started := true, length := 10000 }, leg := (ofA id).leg.set 0 { off := false, duty := 160000 } }
     x.cfg.axisOfLeg x.id 0 = some 0 ∧ x.cfg.legPwmDutymode 0 = 1 ∧ (x.pwm.get 0).started ∧ (x.leg.get 0).off = false ∧ (x.pwm.get 0).length ≠ 0 ∧
       (x.pwm.get 0).length * 16 ≤ (x.leg.get 0).duty) := by decide +kernel
/-- Axis 0 with the low sides of its triad held on since long ago. -/
def shorted (c : Cfg) : Lane :=
  let h := holder 1 ((0x11000001, [1]) :: (0x11000002, [1]) :: (0x12000022, [65536]) :: c)
  { h with pwm := h.pwm.set 0 { hold := 1, forced := 2, started := true }, leg := h.leg.set 0 { edgeAge := 100000, loFor := 100000 } }
theorem witness_TripsTurnTheAxisOff :
    (let x := shorted []
     let y := { x with pwm := x.pwm.set 0 { forced := 2, started := true } }
     x.cfg.axisOfLeg x.id 0 = some 0 ∧ y.tripReal 0 0 0 (.soft 1000000) ∧ y.tripReal 0 0 0 (.desat true 1000000) ∧
       y.tripReal 0 0 0 (.desat false 1000000) = false ∧ y.tripReal 0 0 0 (.soft 0) = false ∧
       (y.pwm.get 0).hold = 0 ∧ (y.pwm.get 0).trip = none ∧ (y.pwm.get 0).tripOff = false ∧ (y.pwm.get 0).identDue = false ∧
       x.tripReal 0 0 0 (.hard 100000000) ∧ (x.pwm.get 0).hold ≠ 0) ∧
    (let x := { holder 1 [(0x10000080, [1])] with pwm := (ofA id).pwm.set 0 { identDue := true, trip := some (0, 1) } }
     (x.pwm.get 0).identDue ∧ (x.pwm.get 0).trip = some (0, 1) ∧ x.cfg.axisShortPost 0 = 1) := by decide +kernel
theorem witness_BusOvervoltageAndChopperFaultAct :
    ((ofA id).cfg.laneBusVov2 < 100 * 65536 ∧ (ofA id).bus.vov2 = false ∧ 0 ≤ (ofA id).cfg.laneBusVov2 ∧ (ofA id).bus.chopCount < 4) ∧
    (let x := { holder 5 [] with bus.chopCount := 4 }
     allAxes.find? (fun m => x.cfg.kind m.val == .chopper) = some 0 ∧ (x.ax 0).role = .holder ∧ 4 ≤ x.bus.chopCount ∧ x.bus.chopRaised = false) := by
  decide +kernel

theorem witness_ChassisChecksAct :
    (let h := holder 1 []
     let p : Peer := { lastMarker := some { state := .operate } }
     let e (v : Q) : PeerX := { detail := some { elems := (Tab.fill 8 none).set 0 (some v) } }
     let x := { h with peer := (h.peer.set .b p).set .c p, px := (h.px.set .b (e 0)).set .c (e 0)
                       chas.sensors := h.chas.sensors.set 0 { prev := some (1000 * 65536), run := 100000 } }
     let y := { h with peer := h.peer.set .b p, px := h.px.set .b (e 0)
                       chas.sensors := h.chas.sensors.set 0 { prev := some (1000 * 65536), pairRun := 100000 } }
     (x.judgeSensors.chas.sensors.get 0).failed = false ∧ x.cfg.sensorXtime 0 ≤ (x.judgeSensors.chas.sensors.get 0).run ∧
     (y.judgeSensors.chas.sensors.get 0).failed = false ∧ (y.judgeSensors.chas.sensors.get 0).pair = false ∧
       y.cfg.sensorXtime 0 ≤ (y.judgeSensors.chas.sensors.get 0).pairRun) ∧
    (let x := ofA fun x => { x with chas.canRun := 400000 }; x.chas.canOk = false ∧ x.cfg.brakeSpeedCantime ≤ x.chas.canRun) ∧
    (let x := { holder 1 [] with chas.guide := some (0, 0), tick.count := 400000 }
     x.chas.guide = some (0, 0) ∧ 0 + x.cfg.steerGuideTimeout ≤ x.tick.count ∧ x.chas.guideOut = false) ∧
    (let x := ofA fun x => { x with chas.prsRun := x.chas.prsRun.set 0 8000, chas.xchkRun := x.chas.xchkRun.set 0 400, chas.accRun := 4000 }
     x.chas.prsRun.get 0 = x.cfg.brakePrsTime ∧ x.chas.xchkRun.get 0 = x.cfg.axisLoopXchkTime 0 ∧ 4000 ≤ x.chas.accRun ∧ x.chas.accRaised = false) := by
  decide +kernel
/-- A held fault of class PWR at L1. -/
def heldFault : Held :=
  { r := { count := 0, ev := .pwr010, level := .l1, lane := 0, first := true, recovered := false, inst := 0, ctx := 0, epoch := 0 }, subj := .none, axes := [] }
theorem witness_QuietClassesAndStopsEnd :
    (let x := ofA fun x => { x with start.state := .operate, col.held := [heldFault] }
     x.recoverable .pwr ∧ x.quietNow FaultClass.pwr.code < x.cfg.faultAnnealTime) ∧
    (let x := ofA fun x => { x with start.state := .operate, col.held := [heldFault], col.quiet := Tab.fill 16 100000000 }
     x.recoverable .pwr ∧ x.cfg.faultAnnealTime ≤ x.quietNow FaultClass.pwr.code ∧ x.recoveryLimit .pwr = false) ∧
    (ofA fun x => { x with nvm.recoveries := x.nvm.recoveries.write { total := 1000 } }).recoveryLimit .pwr ∧
    (let x := ofA fun x => { x with start.state := .safe, col.held := [heldFault], col.quiet := Tab.fill 16 100000000 }
     let y := ofA fun x => { x with
       start.state := .safe, col.held := [{ heldFault with r := { heldFault.r with ev := .cor001, level := .l4 } }, heldFault], col.quiet := Tab.fill 16 100000000 }
     x.recoverable .pwr ∧ x.recoveryLimit .pwr = false ∧ x.start.state = .safe ∧ (x.recover .pwr).allHighRecovered ∧
     y.recoverable .pwr ∧ y.recoveryLimit .pwr = false ∧ (y.recover .pwr).allHighRecovered = false) ∧
    (let x := ofA fun x => { x with start.state := .operate, tick.count := 800000, col.stopS := some 0 }
     x.start.state = .operate ∧ x.col.stopS = some 0 ∧ 0 + x.cfg.faultStopTmax * 40000 ≤ x.tick.count ∧ x.col.stopStill = none) ∧
    (let x := ofA fun x => { x with start.state := .operate, tick.count := 799999, col.stopS := some 0 }
     x.tick.count < 0 + x.cfg.faultStopTmax * 40000) ∧
    (let x := ofA fun x => { x with start.state := .operate, tick.count := 1200000, col.stopStill := some 0 }
     x.col.stopStill = some 0 ∧ 0 + x.cfg.faultStopThold * 40000 ≤ x.tick.count ∧ x.start.sinceP = none ∧ x.col.raised = []) := by decide +kernel

/-- A frame of a class from node 1 to every node, its payload padded with zeros to its size. -/
def frame (cls : Nat) (payload : List Byte) (n : Nat) : FabFrame :=
  { cls := cls, src := 1, dst := 63, hop := 2, seq := 9, stamp := 100, epoch := 0, payload := payload ++ List.replicate (n - payload.length) 0 }

/-- Node 2 with its fabric block running, DP0 UP, and further changes. -/
def onFabric (c : Cfg) (f : Lane → Lane) : Lane :=
  ofA fun x => f (withCfg ((0x02000011, [2]) :: c)
    { x with start.state := .operate, fab.running := true, fab.ports := x.fab.ports.set 0 { state := 3, phy := true, txCounts := [0] } })

/-- A lane takes a frame on DP0 and consumes it. -/
def takes (x : Lane) (f : FabFrame) (kind : FabFrame → Bool) : Bool :=
  match (Lane.fabReceive { x with now := 200 } 0 (f.bytes 0)).2 with | some g => kind g && g == f | none => false

theorem witness_FabricFramesAreReadAsWritten :
    let f := frame 5 [1, 1] 26
    f.cls < 6 ∧ f.src < 64 ∧ f.dst < 64 ∧ 0 < f.hop ∧ f.hop < 256 ∧ f.seq < 2 ^ 16 ∧ f.stamp < 2 ^ 32 ∧ f.epoch < 2 ^ 16 ∧ f.port < 256 ∧
      f.size ≤ (fabMax f.cls).getD 0 := by decide +kernel
theorem witness_RefusedFramesActOnTheFabricAlone :
    (Lane.fabReceive { ofA id with now := 0 } 0 []).2 = none ∧ (Lane.fabReceive { onFabric [] id with now := 0 } 0 [3]).2 = none := by decide +kernel
theorem witness_PortsFollowTheirLink :
    (let x := onFabric [] fun x => { x with fab.ports := x.fab.ports.set 1 { state := 1, phy := false }, fab.alignAt := some 0, tick.count := 2000 }
     x.fab.running ∧ ((x.fab.ports.get 1).state ≠ 0 ∧ (x.fab.ports.get 1).phy = false) ∧
       ((x.fab.ports.get 0).phy ∧ (x.fab.ports.get 0).state = 3 ∧ (x.fab.ports.get 0).helloNext ≤ x.tick.count) ∧
       x.fab.alignAt = some 0 ∧ 0 + 2000 ≤ x.tick.count ∧ (x.fab.ports.get 1).upSeen = false ∧ (x.fab.ports.get 1).fab011 = false) ∧
    (let x := onFabric [] fun x => { x with fab.ports := x.fab.ports.set 0 { state := 3, phy := true, missRun := 1, helloNext := 1 } }
     1 ≤ (x.fab.ports.get 0).missRun ∧ (x.fab.ports.get 0).state = 3 ∧ (x.fab.ports.get 0).phy ∧ (x.fab.ports.get 0).timeNow = false ∧
       (x.fab.ports.get 0).down = 0 ∧ x.tick.count < (x.fab.ports.get 0).helloNext) ∧
    ((onFabric [] id).fab.ports.get 0).missRun = 0 ∧ (onFabric [] fun x => { x with fab.ports := x.fab.ports.set 1 { state := 0 } }).fab.ports.get 1 = { state := 0 } := by decide +kernel
theorem witness_HellosAndNoticesKeepTheMap :
    takes (onFabric [] id) (frame 5 [1, 2] 26) (frameIs 5 (some 1)) ∧ takes (onFabric [] id) (frame 5 [1, 3] 26) (frameIs 5 (some 1)) ∧
    takes (onFabric [] id) (frame 5 [2, 1, 0, 1, 0, 1] 26) (frameIs 5 (some 2)) ∧
    ((onFabric [] id).node = 2 ∧ (onFabric [] id).cfg.expected 0 ≠ some 3 ∧ (1 + 65536 - (onFabric [] id).fab.epoch) % 65536 = 1) := by decide +kernel
theorem witness_TimeFramesMeasureAndSelect :
    takes (onFabric [] id) (frame 0 [] 32) (frameIs 0 none) ∧
    (let x := onFabric [] fun x => { x with
       fab.up := some 0, fab.ports := x.fab.ports.set 0 { seqRun := 4 }, fab.holdover := true, fab.valid := true, fab.holdRun := 128 }
     x.fab.up = some 0 ∧ 4 ≤ (x.fab.ports.get 0).seqRun ∧ x.fab.running ∧ x.fab.holdover ∧ x.fab.valid ∧ 128 ≤ x.fab.holdRun) ∧
    (onFabric [] id).fab.up = none ∧ (onFabric [] id).fab.holdRun < 128 := by decide +kernel

theorem witness_SafeFramesGiveSignals :
    let x := onFabric [(0x40000100, [2 ^ 19 + 5])] id
    let f := frame 1 (List.replicate 80 0 ++ [0x80, 0, 5, 0, 0, 0, 0, 7]) 192
    takes x f (frameIs 1 none) ∧ x.cfg.fabricSubSig 0 ≠ 0 ∧ x.cfg.fabricSubSig 0 / 2 ^ 19 = f.src ∧
      ((List.range 14).find? fun i => beNat (slice (f.payload.drop 72) (8 + 8 * i) 3) == 2 ^ 23 + x.cfg.fabricSubSig 0 % 2 ^ 19) = some 0 ∧
      x.cfg.fabricSubSig 1 = 0 := by decide +kernel
/-- A PREPARE of class 1 with one share of axis 0 for node 2. -/
def prepareFrame : FabFrame := frame 2 ([1, 1, 0, 7, 0, 0, 1, 0, 1, 0, 0, 0, 0, 0, 0, 0] ++ [2, 0, 0, 0, 0, 0, 0, 9, 0, 0, 0, 0]) 28
/-- Node 2 as a member that has node 1 for its coordinator. -/
def member (f : Lane → Lane) : Lane :=
  onFabric [(0x10000001, [4])] fun x => f { x with lease.pubOut := some {}, car.elected := 1, car.ranks := [(1, 1)] }
theorem witness_PreparesAreArmedOrRefused :
    (let x := member id
     takes x prepareFrame (frameIs 2 (some 1)) ∧ x.lease.pubOut.isSome ∧ (prepareFrame.payload.getD 1 0).toNat = 1 ∧
       ((shareEntries prepareFrame.payload).filter fun q => q.node == x.node) ≠ [] ∧ (x.carClass 1).answered ≠ some (7, 1) ∧
       ({ x with car := { x.car with cands := putNode 1 x.tick.count x.car.cands } } : Lane).elect.car.elected = 1 ∧
       ({ x with car := { x.car with cands := putNode 1 x.tick.count x.car.cands } } : Lane).elect.refusal 1 1 256
         ((shareEntries prepareFrame.payload).filter fun q => q.node == x.node) = some (2, 0)) ∧
    (let x := member fun x => { x with car.armed := [{ cls := 1, num := 7, src := 1, fire := 256, shares := [] }] }
     takes x (frame 2 [4, 1, 0, 7] 26) (frameIs 2 (some 4)) ∧ (∃ a ∈ x.car.armed, a.cls = 1 ∧ a.num = 7 ∧ a.src = 1)) := by
  refine ⟨by decide +kernel, by decide +kernel, _, List.mem_singleton.2 rfl, rfl, rfl, rfl⟩
theorem witness_a_share_can_be_armed :
    let x := member fun x => { x with tick.source := 2, tick.fabric := { state := 2, lastMeas := some 0 }, lease.ax := x.lease.ax.set 0 { role := .standby, absentHw := false } }
    let e : Lane := ({ x with car := { x.car with cands := putNode 1 x.tick.count x.car.cands } } : Lane).elect
    takes x prepareFrame (frameIs 2 (some 1)) ∧ x.lease.pubOut.isSome ∧ e.car.elected = 1 ∧ (e.carClass 1).answered ≠ some (7, 1) ∧
      e.refusal 1 1 256 ((shareEntries prepareFrame.payload).filter fun q => q.node == x.node) = none := by decide +kernel
/-- A commit of class 1 that asks node 1 for a share of axis 0. -/
def commitOf (fire : Nat) (answers : List (Nat × Bool)) : Commit :=
  { cls := 1, num := 7, fire := fire, x := 0, shares := [{ node := 1, axis := 0, share := 9 }], answers := answers }
theorem witness_AnswersDecideTheCommit :
    (let x := member fun x => { x with car.prepared := [commitOf 256 []] }
     takes x (frame 2 [2, 1, 0, 7, 0, 0, 0, 0, 1] 26) (frameIs 2 (some 2)) ∧ takes x (frame 2 [3, 1, 0, 7, 0, 0, 0, 0, 1] 26) (frameIs 2 (some 3)) ∧
       x.lease.pubOut.isSome ∧ x.car.prepared = [commitOf 256 []] ∧ (commitOf 256 []).closed = false ∧ 1 < diff32 256 (x.fabTick % 2 ^ 32) ∧
       (commitOf 256 []).answers.any (fun a => a.1 == 1) = false ∧ (commitOf 256 []).shares.any (fun q => q.node == 1) ∧
       1 < diff32 (commitOf 256 []).fire (x.fabTick % 2 ^ 32) ∧ diff32 (commitOf 0 []).fire (x.fabTick % 2 ^ 32) < 1 ∧ x.cfg.fabricCommitMode 1 = 1 ∧ (withCfg [(0x40010010, [0])] x).cfg.fabricCommitMode 1 = 0 ∧ (commitOf 256 []).aborted = false) ∧
    (let x := onFabric [(0x40010010, [0])] fun x => { x with car.prepared := [commitOf 1 [(1, true)]] }
     x.car.prepared = [commitOf 1 [(1, true)]] ∧ (commitOf 1 [(1, true)]).fire = (x.fabTick + 1) % 2 ^ 32 ∧ (commitOf 1 []).shares ≠ [] ∧
       x.cfg.fabricCommitMode 1 = 0 ∧ (commitOf 1 [(1, true)]).shares.all (fun q => (commitOf 1 [(1, true)]).answers.contains (q.node, true)) ∧
       (commitOf 1 [(1, true)]).answers.all (·.2)) := by decide +kernel
theorem witness_SharesFireOrFallBack :
    (let x := member fun x => { x with car.armed := [{ cls := 1, num := 7, src := 1, fire := 1, shares := [(0, 9)] }] }
     x.car.prepared = [] ∧ 1 = (x.fabTick + 1) % 2 ^ 32 ∧ x.car.armed = [{ cls := 1, num := 7, src := 1, fire := 1, shares := [(0, 9)] }]) ∧
    ((ofA id).car.armed = [] ∧ (ofA id).car.prepared = [] ∧ (ofA id).otherFired 0 = none ∧ (ofA id).car.fell.get 0) ∧
    (let x := member fun x => { x with px := x.px.set .b { shadow := some ((Tab.fill 12 {}).set 0 { share1 := some 9 }) } }
     x.otherFired 0 = some 9 ∧ x.car.firedAt.get 0 = none ∧ x.cfg.kind 0 = .valve) ∧
    (let x := member fun x => { x with car.anyAt := x.car.anyAt.set 0 (some 0), car.fell := Tab.fill 12 false, tick.count := 200 }
     x.car.anyAt.get 0 = some 0 ∧ x.car.fell.get 0 = false ∧ 0 + x.cfg.fabricCommitHold 1 ≤ x.tick.count) := by decide +kernel
/-- Node 2 staging a package from node 1. -/
def stagingFrom (src : Nat) (f : Lane → Lane) : Lane :=
  onFabric [(0x60070001, [src])] fun x => f { x with job.run := some 7, job.st := x.job.st.set 7 { state := 1 }, job.fw := { asked := some 880, next := 880 } }
theorem witness_BlocksMoveBetweenNodes :
    let x := stagingFrom 1 id
    let f := frame 4 [2, 1, 0, 0, 0, 0, 0, 0, 0, 0, 3, 0x70, 0, 2, 0, 0, 0xAA, 0xBB] 26
    takes x (frame 3 [1, 1] 26) (frameIs 3 (some 1)) ∧ x.serves_ ∧ (f.payload.getD 1 0) = 1 ∧ x.fab.running ∧ x.node ≠ 0 ∧
      takes x (frame 3 [1, 0] 26) (frameIs 3 (some 1)) ∧ takes x f (frameIs 4 (some 2)) ∧ x.staging ∧ x.cfg.jobSource = f.src ∧
      x.job.fw.asked = some (beNat (slice f.payload 8 4)) ∧ slice f.payload 16 (beNat (slice f.payload 12 2)) = [0xAA, 0xBB] ∧
      (onFabric [] id).staging = false := by decide +kernel

theorem witness_BusErrorsAndTheVoice :
    let x := seeing { lastMarker := some { state := .armed } } fun x => withCfg [(0x41000001, [1])] { x with start.state := .operate, can.quiet := 100000 }
    let y := { x with peer := x.peer.set .c { lastMarker := some { state := .armed } } }
    (x.canRuns 0 ∧ x.canRuns 1 = false ∧ (x.canCtl 0).err = 0 ∧ x.isobus 0 ∧ x.isobus 1 = false ∧ (x.canCtl 0).mute = false) ∧
    (ofA fun x => { x with can.ctl := x.can.ctl.set 0 { err := 2 } }).can.ctl.get 0 = { err := 2 } ∧
    (y.can.voice = false ∧ y.topVoice ∧ y.voicesSeen = [] ∧ y.can.heard = false ∧ y.cfg.laneVoiceQuiet ≤ y.can.quiet + 1 ∧ y.aloneUnwitnessed = false) ∧
    (ofA id).topVoice = false := by decide +kernel
theorem witness_CanMessagesAndPacketsAreTaken_name :
    (ofA id).ownName 0 < (ofA id).ownName 0 + 1 ∧ (ofA id).ownName 0 - 1 < (ofA id).ownName 0 := by
  have h : ∀ (x : Lane) (c : CanId), 0 < x.ownName c := fun x c => by
    unfold Lane.ownName
    exact Nat.lt_of_lt_of_le (Nat.two_pow_pos 63) (Nat.le_add_left _ _)
  have k := h (ofA id) 0
  generalize (ofA id).ownName 0 = n at k ⊢
  omega
theorem witness_no_free_address :
    ({ names := (List.range 254).map fun a => (a, 1) } : CanCtl).freeAddr = none ∧ ({} : CanCtl).freeAddr = some 128 := by decide +kernel
theorem witness_CanMessagesAndPacketsAreTaken :
    (let x := ofA fun x => { served x with start.state := .operate, can.session := none }
     x.onBus 0 ∧ x.isobus 0 ∧ x.can.voice = false ∧ (0xFAFF : Nat) ≤ 0xFAFF ∧ 0xF9 ≠ (x.canCtl 0).addr ∧ x.can.session = none ∧ (x.canCtl 0).addr ≠ 255 ∧
       (x.canCtl 0).inConns = []) ∧
    (let x := ofA fun x => { served x with start.state := .operate, can.voice := true, tick.count := 1 }; x.talks 0) ∧
    (let c : InConn := { src := 0xF9, bam := true, pgn := 0xFECA, size := 9, packets := 2 }
     let x := ofA fun x => { served x with start.state := .operate, can.ctl := x.can.ctl.set 0 { addr := 0x13, inConns := [c] } }
     (x.canCtl 0).inConns = [c] ∧ c.src = 0xF9 ∧ c.bam ∧ c.got + 1 < c.packets ∧ { c with got := 1 }.packets ≤ 2) := by decide +kernel
theorem witness_TheVoiceSendsAndAnswers :
    (let x := ofA fun x => { served x with start.state := .operate, can.voice := true, tick.count := 1 }
     x.talks 0 ∧ x.onBus 0 ∧ (x.canCtl 0).gmiNext ≤ x.tick.count ∧ (x.canCtl 0).speedNext ≤ x.tick.count ∧ (x.canCtl 0).dm1Next ≤ x.tick.count ∧
       x.cfg.laneImageRole = 0) ∧ (ofA id).talks 0 = false := by decide +kernel

/-- A lane that holds axis 0 and admits services to every lane. -/
def server (f : Lane → Lane) : Lane := f (served (holder 1 []))
theorem witness_ObjectsAreReadAndWritten :
    ((State.reset.view.get .a).statusBytes {} 0x70000001).isSome ∧ (State.reset.view.get .a).statusBytes {} 0x60090003 = none ∧
    (ObjRef.id 0x60090003).toId ≠ 0x60090010 ∧ (ObjRef.name "JOB[9].DATA").toId = 0x60090010 ∧ (ObjRef.name "JOB.RESTART").toId = 0x60000001 ∧
      (ObjRef.name "JOB[7].BLOCK").toId = 0x60070010 ∧
    ((server id).paramBytes 0x60090003).isSome ∧ (State.reset.view.get .a).statusBytes {} 0 = none ∧ (server id).paramBytes 0 = none ∧
    knownObject 0 = false ∧ ((jobObject 0x60090003).getD none).any (fun o => o.ty.size == 4 && o.allows 5) ∧
      ((jobObject 0x60090001).getD none).any (fun o => o.ty.size == 1 && !o.allows 200) ∧ jobObject 0x10000001 = none ∧
    (let x := server fun x => { x with job.st := x.job.st.set 9 { state := 1 } }
     (x.jobSt 9).state = 1 ∧ ({} : Commons).present ∧ x.col.commonsUp ∧ (Commons.export_ {} x).isSome) ∧ ((server id).jobSt 9).state ≠ 1 := by
  decide +kernel
theorem witness_SealsReportsAndAcknowledgement :
    (let x := server fun x => { x with start.state := .unsealed }
     x.start.state = .unsealed ∧ (0 : Word) = x.gat.sealVal ∧ x.serves_ ∧ toAll.names x.cfg x.id ∧ x.inSession toAll ∧ x.start.workshop) ∧
    ((server id).start.state ≠ .unsealed ∧ (1 : Nat) ≤ 1 ∧ (100 : Nat) ≤ 100 ∧ toAll.target = 3 ∧ (1 : Nat).testBit (server id).id.code ∧
      (2 : Nat).testBit (server id).id.code = false ∧ toA.target ≠ 3 ∧ toA.names (server id).cfg (server id).id) := by decide +kernel
theorem witness_ImagesAreWrittenAndVerified :
    let w : ImgWrite := { area := 1, next := 4, data := [1, 2, 3, 4], last := false }
    let x := server fun x => { x with can.img := some w }
    let v := server fun x => { x with can.img := some { w with last := true }, nvm.flash := cells 0x100000 [1, 2, 3, 4] }
    (¬ (x.start.state = .gather ∧ x.gat.imageState = 1) ∧ 4 + [(5 : Byte)].length ≤ 0x100000 ∧ x.can.img = some w ∧
      w.area = 1 - (x.nvm.areas.read {}).active % 2 ∧ w.next = 4) ∧
    (server id).can.img = none ∧ v.nvm.flash.readList (1 * 0x100000) 4 = [1, 2, 3, 4] ∧ x.nvm.flash.readList (1 * 0x100000) 4 ≠ [1, 2, 3, 4] := by
  decide +kernel
theorem witness_SessionsAreOpenedAndEnd :
    (let x := server fun x => { x with can.voice := true }
     x.onBus 0 ∧ x.isobus 0 ∧ toAll.dst = (x.canCtl 0).addr ∧ x.can.voice ∧ x.can.locked = none ∧ (∀ q, x.can.session = some q → q.src = toAll.src)) ∧
    ((server fun x => { x with can.locked := some 0 }).can.locked.isSome ∧
      ∃ q, (server fun x => { x with can.session := some { src := 1, challenge := [] } }).can.session = some q ∧ q.src ≠ toAll.src) ∧
    (let x := server fun x => { x with can.chal := some { src := 0xF9, bytes := [], at_ := 0 }, tick.count := 39999 }
     x.can.chal = some { src := 0xF9, bytes := [], at_ := 0 } ∧ x.tick.count < 0 + 40000 ∧ x.can.wrong < 2) ∧
    (server id).can.chal = none ∧ (server id).can.session.isSome := by
  refine ⟨⟨by decide +kernel, by decide +kernel, by decide +kernel, by decide +kernel, by decide +kernel, ?_⟩,
    ⟨by decide +kernel, _, rfl, by decide +kernel⟩, by decide +kernel, by decide +kernel, by decide +kernel⟩
  intro q h
  cases h
  rfl
theorem witness_RequestsNeedSessionAndWorkshop :
    let w : SvcWait := { h := toAll, code := 5, lane := .b, at_ := 0 }
    (ofA fun x => { x with can.waits := [w], tick.count := 402 }).can.waits = [w] ∧ w.at_ + 402 ≤ (ofA fun x => { x with tick.count := 402 }).tick.count := by
  decide +kernel

/-- The server with a job in a state. -/
def withJob (j st : Nat) (x : Lane) : Lane := { x with job := { x.job with run := some j, axis := 0, st := x.job.st.set (Fin.ofNat 10 j) { state := st } } }
theorem witness_JobCommandsChangeTheState :
    ((server fun x => { x with start.state := .unsealed, chas.speed := some 0 }).takeParams 5).startRefusal 5 0 true false = none ∧
    ((server id).takeParams 2).startRefusal 2 0 false false = some 21 ∧ (server id).subjectAbsent 2 0 = false ∧
    ((server (withJob 2 1)).jobSt 2).state = 1 ∧ ((server id).jobSt 2).state ≠ 1 ∧
    (let x := server (withJob 2 3); (x.jobSt 2).state = 3 ∧ ({ x with chas.speed := some 0 } : Lane).startRefusal 2 x.job.axis true true = none) ∧
    (let x := { server (withJob 1 3) with chas.speed := some 0 }; x.noChatter) ∧ ((server id).jobSt 2).state = 0 ∧
    (let x := { server (withJob 7 3) with chas.speed := some 0, job.fw := { stand := true } }
     (x.jobSt 7).state = 3 ∧ x.startRefusal 7 x.job.axis true true = none ∧ x.job.fw.stand ∧ x.standReady = false) ∧
    (let x := { server (withJob 2 3) with chas.speed := some 0, swNeg := (ofA id).swNeg.set 0 { chatter := true } }
     (x.jobSt 2).state = 3 ∧ x.startRefusal 2 x.job.axis true true = none ∧ x.noChatter = false) ∧
    (let x := server (withJob 2 3); x.startRefusal 2 x.job.axis true true ≠ none) := by decide +kernel
theorem witness_RestartsAndTagWritesComplete :
    (let m : Peer := { lastMarker := some { state := .operate } }
     let x := server fun x => { x with peer := (x.peer.set .b m).set .c m }
     x.start.state = .operate ∧ x.service = 3 ∧ (server id).service < 3 ∧ (server fun x => { x with start.state := .stopped }).start.state ≠ .operate) ∧
    (let x := ofA fun x => { x with start.state := .stopped, start.restart := true }
     x.start.state = .stopped ∧ x.start.restart ∧ x.job.run = none ∧ x.job.fw.switching = false ∧ x.job.rg.switching = false ∧
       allAxes.all (fun n => (x.ax n).counter == 0)) ∧
    (let x := ofA fun x => withJob 7 1 { x with start.state := .stopped, start.restart := true, job.fw := { switching := true } }
     x.start.state = .stopped ∧ x.start.restart ∧ x.job.run = some 7 ∧ (x.jobSt 7).busy ∧ x.job.fw.switching ∧ x.job.fw.switched = false ∧
       allAxes.all (fun n => (x.ax n).counter == 0)) ∧
    (holder 1 []).lease.ax.get 0 ≠ {} ∧ ((holder 1 []).ax 0).counter ≠ 0 ∧
    (let t : TagBytes := List.replicate 192 7
     let w : TagWrite := { owner := .inl (0, 0), data := List.replicate 96 1 }
     let x := withJob 2 1 (ofA fun x => { x with gat.tags := x.gat.tags.set 0 [some t], job.writes := [w] })
     x.job.run = some 2 ∧ x.job.writes = [w] ∧ x.tagOfOwner w.owner = some t ∧ w.data.length = 96 ∧ 96 ≤ t.length ∧ (x.jobSt 2).busy) ∧
    (let x := ofA fun x => { withJob 1 1 x with tick.count := 5 }
     let y := { x with job.cf := { phase := 6, c := some 3 }, job.written := true, job.writtenAt := 4 }
     y.job.run = some 1 ∧ y.job.axis = 0 ∧ (y.jobSt 1).state = 1 ∧ y.job.cf.phase = 6 ∧ y.job.cf.c = some 3 ∧ y.job.written ∧
       y.job.writtenAt < y.tick.count ∧ y.jobPeers 1 = [] ∧ x.job.written = false) ∧
    (let p : PeerX := { jobs := { run := some 1, part := true, partAt := 4 } }
     let x := seeing { lastMarker := some { state := .operate }, markerPrev := some { state := .operate } } fun x =>
       { withJob 1 1 x with start.state := .operate, tick.count := 5, px := x.px.set .b p }
     let y := { x with job.toldAt := some 4 }
     y.jobPeers 1 ≠ [] ∧ y.job.toldAt = some 4 ∧ 4 < y.tick.count ∧ (y.jobPeers 1).all (fun q => q.2.part && decide (q.2.partAt < y.tick.count)) ∧
       x.job.toldAt = none) := by decide +kernel
theorem witness_MeasuringJobsTakeTheirSteps :
    (let x := ofA fun x => { withJob 2 1 x with job.el := { zero := 400 } }
     x.job.run = some 2 ∧ (x.jobSt 2).state = 1 ∧ 400 ≤ x.job.el.zero ∧ x.job.el.stage = 1) ∧
    (let x := ofA fun x => { withJob 2 1 x with job.el := { zero := 400, stage := 2, neg := -1000000 } }
     x.job.el.stage = 2 ∧ x.job.el.neg < -(x.cfg.steerAngleMax : Int) ∧ roundDiv (x.measured 0) 65536 ≤ (x.cfg.steerAngleMax : Int)) ∧
    (let x := ofA fun x => { withJob 2 1 x with job.el := { zero := 400, stage := 2, neg := -1000000 }, prof := x.prof.set 0 { origin := -65536000000 } }
     (x.cfg.steerAngleMax : Int) < roundDiv (x.measured 0) 65536) ∧ (ofA id).job.el.zero < 400 ∧
    (let x := ofA fun x => { withJob 3 1 x with job.pl := { r1 := some (0, 65536), r2 := some (65536, 131072), ticks := 4000000 } }
     x.job.run = some 3 ∧ (x.jobSt 3).state = 1 ∧ x.job.pl.writing = false ∧ x.job.pl.r1 = some (0, 65536) ∧ x.job.pl.r2 = some (65536, 131072) ∧
       x.cfg.jobPedalTime ≤ x.job.pl.ticks ∧ (65535 : Int) - 0 < 65536 ∧ (ofA id).job.pl.ticks < x.cfg.jobPedalTime ∧ x.tagWrite 3 (.inr 1) [] = none ∧
       let y := { x with gat.sensorTags := Tab.fill 8 (some (List.replicate 192 7)) }
       (y.tagWrite 3 (.inr 1) [(104, i32Bytes 0), (108, i32Bytes 65536)]).isSome ∧ (y.tagWrite 3 (.inr 2) [(104, i32Bytes 65536)]).isSome) ∧
    (let x := withJob 4 1 { holder 4 [] with job.vc.ticks := 100000 }
     x.job.run = some 4 ∧ (x.jobSt 4).state = 1 ∧ x.job.vc.done = false ∧ x.commands 0 ∧ x.cfg.jobValveSettle ≤ x.job.vc.ticks ∧
       x.job.vc.k + 1 < x.cfg.jobValvePoints ∧ (ofA id).job.vc.ticks < x.cfg.jobValveSettle) ∧
    (let x := withJob 4 1 { holder 4 [] with job.vc := { ticks := 100000, k := 7, pts := [(131072, 0)] } }
     x.cfg.jobValvePoints ≤ x.job.vc.k + 1 ∧ x.job.vc.pts ≠ [] ∧ x.job.vc.pts.all (fun p => decide (x.pressure 0 ≤ p.1) && decide (65536 < p.1)) ∧
       let y := { x with job.vc := { ticks := 100000, k := 7 }, gat.tags := x.gat.tags.set 0 [some (List.replicate 192 7)] }
       pressuresAscend ((y.job.vc.pts ++ [(y.pressure 0, (y.valveJob 0).getD 0)]).map (·.1)) ∧ (y.tagWrite 4 (.inl (0, 0)) [(104, [1])]).isSome) ∧
    (let x := ofA fun x => { withJob 5 1 x with gat.tags := x.gat.tags.set 0 [some (List.replicate 192 7)] }
     (x.tagWrite 5 (.inl (0, 0)) [(106, [1])]).isSome ∧ (ofA id).tagWrite 5 (.inl (0, 0)) [] = none) ∧
    (let x := ofA fun x => { withJob 5 1 x with job.bt := { stage := 2, ticks := 4000 } }
     x.job.run = some 5 ∧ (x.jobSt 5).state = 1 ∧ x.job.bt.stage = 2 ∧ 4000 ≤ x.job.bt.ticks ∧ (ofA id).job.bt.ticks < 4000) ∧
    (let x := ofA fun x => { withJob 6 1 x with job.rt := { axes := [0, 1], held := 40000, moves := 3 } }
     x.job.run = some 6 ∧ (x.jobSt 6).state = 1 ∧ x.job.rt.due = false ∧ 40000 ≤ x.job.rt.held ∧ 3 ≤ x.job.rt.moves ∧ x.job.rt.seen = x.job.rt.orig ∧
       x.job.rt.axes = [0, 1] ∧ (ofA id).job.rt.moves < 3 ∧ ({ seen := some LaneId.b } : RotateTest).seen ≠ ({} : RotateTest).orig) := by decide +kernel
theorem witness_PackagesAndImagesSwitchLaneByLane :
    (let x := server fun x => { withJob 7 1 x with job.fw := { next := 880 } }
     toAll.target = 3 ∧ x.staging ∧ x.cfg.jobSource = 0 ∧ x.job.fw.next + 1773 ≤ slotSize ∧ x.job.fw.next ≠ 0) ∧
    (let x := ofA fun x => { withJob 7 1 x with job.fw := { complete := true } }
     x.job.run = some 7 ∧ (x.jobSt 7).busy ∧ x.job.fw.complete ∧ x.job.fw.passed = false ∧ x.allPassed = false ∧
       packageValid (signing x).nvm.bootKey ((signing x).slotMem (signing x).otherSlot) ∧
       packageValid testKey (x.slotMem x.otherSlot) = false) ∧
    (let m : Peer := { lastMarker := some { state := .operate } }
     let h := holder 1 [(0x02000012, [7])]
     let x := withJob 7 1 { h with peer := (h.peer.set .b m).set .c m, job.fw := { complete := true, passed := true } }
     x.job.fw.switching = false ∧ x.job.fw.switched = false ∧ x.job.fw.stand = false ∧ x.allPassed ∧ x.start.state = .operate ∧ x.service = 3 ∧
       x.legsOnAll ∧ (x.fwOrder.find? fun z => !x.fwSwitched z) = some x.id) ∧
    (let x := ofA fun x => { withJob 7 1 x with start.state := .unsealed, job.fw := { passed := true } }; x.allPassed ∧ x.start.state = .unsealed) ∧
    (let x := ofA fun x => { withJob 7 1 x with start.state := .operate, job.fw := { standAt := some 8, stand := true }, tick.count := 7 }
     x.job.fw.standAt = some 8 ∧ 8 ≤ x.tick.count + 1 ∧ (ofA id).tick.count + 1 < 8) ∧
    (let x := ofA fun x => { withJob 7 1 x with
       start.booted := true, start.ticks := 8000000, nvm.slotRec := x.nvm.slotRec.write { oldSlot := some 0, joinMax := 8000000 }, job.fw := { stand := true, sinceFirst := some 24000000 } }
     (x.jobSt 7).busy ∧ x.slotRec.oldSlot = some 0 ∧ x.job.fw.switched = false ∧ x.start.booted ∧ x.slotRec.joinMax ≤ x.start.ticks ∧
       x.job.fw.stand ∧ x.job.fw.sinceFirst = some 24000000 ∧ (ofA id).start.ticks < x.slotRec.joinMax) ∧
    (let m : Peer := { lastMarker := some { state := .operate } }
     let h := holder 1 [(0x02000012, [7])]
     let x := withJob 8 1 { h with peer := (h.peer.set .b m).set .c m, job.rg := { ticks := 24000000 } }
     x.job.run = some 8 ∧ x.job.rg.switching = false ∧ x.job.rg.back = none ∧ x.start.state = .operate ∧ x.service = 3 ∧ (x.jobSt 8).state = 1 ∧
       (x.rgOrder.find? fun z => !x.rgSwitched z) = some x.id ∧ (x.jobSt 8).busy ∧ 24000000 ≤ x.job.rg.ticks ∧
       (let y := withJob 8 5 { x with job.rg := { back := some 17, switched := true } }
        y.job.rg.back = some 17 ∧ y.start.state = .operate ∧ y.service = 3 ∧ (y.rgOrder.reverse.find? y.rgSwitched) = some y.id) ∧
       (withJob 8 1 (ofA id)).service ≠ 3 ∧ (ofA id).job.rg.ticks < 24000000) := by decide +kernel

end Sys2Proof.Tests
end

/-! What a debug halt request does to a lane (R334, R335). -/

namespace Sys2Proof.Machine

/-- Refused: BENCH was low at the reset release, or the halt stands already. -/
theorem Lane.debugHalt_eq_self {x : Lane} (h : x.start.bench = false ∨ x.start.halted) : x.debugHalt = x := by
  have hg : ¬(x.start.bench && !x.start.halted) := by
    rcases h with hb | hh
    · simp [hb]
    · simp [hh]
  exact if_neg hg

theorem Lane.debugHalt_start {x : Lane} (hb : x.start.bench) (hh : x.start.halted = false) :
    x.debugHalt.start = { x.start with halted := true, haltSeen := true } := by
  simp [Lane.debugHalt, hb, hh]

/-- Accepted or refused, a debug halt request reaches the start-up state and the legs alone. -/
theorem Lane.debugHalt_frame (x : Lane) : x.debugHalt = { x with start := x.debugHalt.start, leg := x.debugHalt.leg } := by
  unfold Lane.debugHalt
  split <;> rfl

/-- Of a leg, a debug halt request reaches the held levels alone. -/
theorem Lane.debugHalt_leg_frame (x : Lane) (i : LegId) :
    x.debugHalt.leg.get i = { x.leg.get i with haltHs := (x.debugHalt.leg.get i).haltHs, haltLs := (x.debugHalt.leg.get i).haltLs } := by
  unfold Lane.debugHalt
  split
  · simp only [Tab.get_mapFin]
  · rfl

/-- Accepted, the outputs of a leg of an axis hold the levels they have at the clock of the halt (R335). -/
theorem Lane.debugHalt_leg_levels {x : Lane} (hb : x.start.bench) (hh : x.start.halted = false) {i : LegId} {n : AxisId}
    (hn : x.cfg.axisOfLeg x.id i.val = some n) :
    ((x.debugHalt.leg.get i).haltHs, (x.debugHalt.leg.get i).haltLs) = x.legLevels n i x.now := by
  simp [Lane.debugHalt, hb, hh, hn]

theorem exec_debugHalt (l : LaneId) (s : State) : exec (.debugHalt l) s = .next (s.withLane l (s.lane l).debugHalt) := by
  rw [← State.on_eq s l Lane.debugHalt]
  rfl

/-- Settles O12: the lane's `debugHalt` is the successor where BENCH was high and no halt stands, and the identity elsewhere. -/
theorem debugHaltNeedsBench : Obligations.DebugHaltNeedsBench := by
  unfold Obligations.DebugHaltNeedsBench
  rintro s l x rfl
  constructor
  · intro hb hh
    exact ⟨_, exec_debugHalt l s, Lane.debugHalt_start hb hh, Lane.debugHalt_frame _,
      fun i => ⟨Lane.debugHalt_leg_frame _ i, fun _ hn => Lane.debugHalt_leg_levels hb hh hn⟩⟩
  · intro h
    rw [exec_debugHalt, Lane.debugHalt_eq_self h]

end Sys2Proof.Machine

/-! What a reset does to a lane (R552, Table 21.3), and when a debug reset request makes one (R555). -/

namespace Sys2Proof.Machine

/-- The faults that stay latched over a reset: a FAULT RESTART alone keeps any (R414). -/
def Lane.keptFaults (x : Lane) (k : ResetKind) : List Held := if k = .faultRestart then x.col.held.filter (·.latched) else []

/-- The journal's event records and the index of its next write after a reset: the restarts that a lane makes itself write the waiting records (R418). -/
def Lane.journalOverReset (x : Lane) (k : ResetKind) : List Rec × Nat :=
  if k = .faultRestart ∨ k = .laneRestart then
    ((x.nvm.events ++ x.col.toJournal).drop ((x.nvm.events ++ x.col.toJournal).length - 4096),
      (x.nvm.eventNext + x.col.toJournal.length) % 4096)
  else (x.nvm.events, x.nvm.eventNext)

/-- What a reset of any kind leaves: registers as at power-on, the kept faults acknowledged and their axes absent, the journal as `journalOverReset` says. -/
theorem Lane.reset_eq (x : Lane) (k : ResetKind) :
    x.reset k = { x.blank .boot k with
      start := { (x.blank .boot k).start with latchKept := !(x.keptFaults k).isEmpty, brown := false, resets := x.start.resets + 1 }
      lease := { ax := Tab.ofFn fun n => { absentFault := (x.keptFaults k).any fun h => h.r.level == .l2 && h.axes.contains n.val } }
      col := { held := (x.keptFaults k).map fun h => { h with acked := true } }
      nvm := { x.nvm with
        latches := x.nvm.latches.write (x.keptFaults k)
        events := (x.journalOverReset k).1
        eventNext := (x.journalOverReset k).2 } } := by
  by_cases hk : k = .faultRestart ∨ k = .laneRestart
  · simp [Lane.reset, Lane.journalOverReset, hk, Lane.keptFaults, Lane.blank, Lane.writeRecords, Tab.mapFin]
  · simp [Lane.reset, Lane.journalOverReset, hk, Lane.keptFaults, Lane.blank, Tab.mapFin]

/-- After a reset an axis of the lane stands as at power-on but for the absence that a kept fault causes. -/
theorem Lane.reset_ax (x : Lane) (k : ResetKind) (n : AxisId) :
    (x.reset k).ax n = { absentFault := (x.keptFaults k).any fun h => h.r.level == .l2 && h.axes.contains n.val } := by
  rw [Lane.reset_eq]
  exact Tab.get_ofFn _ n

theorem Lane.reset_ax_of_ne (x : Lane) {k : ResetKind} (hk : k ≠ .faultRestart) (n : AxisId) : (x.reset k).ax n = {} := by
  have hnone : x.keptFaults k = [] := if_neg hk
  rw [Lane.reset_ax, hnone]
  rfl

theorem Lane.reset_col (x : Lane) (k : ResetKind) : (x.reset k).col =
    { held := if k = .faultRestart then (x.col.held.filter (·.latched)).map fun h => { h with acked := true } else [] } := by
  rw [Lane.reset_eq, Lane.keptFaults]
  split <;> rfl

theorem Lane.reset_journal (x : Lane) (k : ResetKind) :
    if k = .faultRestart ∨ k = .laneRestart then
      (x.reset k).nvm.events = (x.nvm.events ++ x.col.toJournal).drop ((x.nvm.events ++ x.col.toJournal).length - 4096) ∧
        (x.reset k).nvm.eventNext = (x.nvm.eventNext + x.col.toJournal.length) % 4096
    else (x.reset k).nvm.events = x.nvm.events ∧ (x.reset k).nvm.eventNext = x.nvm.eventNext := by
  rw [Lane.reset_eq, Lane.journalOverReset]
  split <;> simp only [and_self]

/-- A reset of any kind takes the lane back to BOOT. -/
theorem Lane.reset_restarted (x : Lane) (k : ResetKind) : x.Restarted (x.reset k) k := by
  refine ⟨?_, x.reset_journal k, fun hk => x.reset_ax_of_ne hk, fun n => ?_, ?_⟩
  · rw [← x.reset_col k, x.reset_eq k]
    rfl
  · rw [x.reset_ax k n]
  · rw [x.reset_eq k]
    exact ⟨rfl, rfl, rfl, rfl, rfl, rfl, rfl⟩

/-- Accepted: BENCH was high at the reset release. -/
theorem Lane.debugReset_of_bench {x : Lane} (hb : x.start.bench) : x.debugReset = x.reset .debugReset := if_pos hb

/-- Refused: BENCH was low at the reset release. -/
theorem Lane.debugReset_of_not_bench {x : Lane} (hb : x.start.bench = false) : x.debugReset = x := by
  simp [Lane.debugReset, hb]

theorem exec_debugReset (l : LaneId) (s : State) : exec (.debugReset l) s = .next (s.withLane l (s.lane l).debugReset) := by
  rw [← State.on_eq s l Lane.debugReset]
  rfl

/-- Settles O13: the lane's `debugReset` is the successor, a reset where BENCH was high and the identity elsewhere. -/
theorem debugResetNeedsBench : Obligations.DebugResetNeedsBench := by
  unfold Obligations.DebugResetNeedsBench
  rintro s l x rfl
  constructor
  · intro hb
    refine ⟨_, exec_debugReset l s, ?_⟩
    rw [Lane.debugReset_of_bench hb]
    exact Lane.reset_restarted _ _
  · intro hb
    rw [exec_debugReset, Lane.debugReset_of_not_bench hb]

end Sys2Proof.Machine

/-! Every command completes and leaves the queue, and the recorder of the commons stays tidy through each of them (R546 to R549). -/

namespace Sys2Proof.Machine

/-! ## The ring -/

theorem ticksSize_eq_sum (ts : List RecTick) : ticksSize ts = (ts.map fun t => t.bytes.length).sum := List.sum_eq_foldl.symm

theorem ticksSize_cons (t : RecTick) (ts : List RecTick) : ticksSize (t :: ts) = t.bytes.length + ticksSize ts := by
  simp [ticksSize_eq_sum]

theorem ticksSize_append (ts us : List RecTick) : ticksSize (ts ++ us) = ticksSize ts + ticksSize us := by
  simp [ticksSize_eq_sum]

/-- Trimming drops whole ticks from the oldest end: the position moves by what they held, and what is left fits the ring area. -/
theorem trimRing_fits (ts : List RecTick) (base : Nat) :
    let kept := trimRing (ticksSize ts) ts base
    base ≤ kept.1 ∧ kept.1 + ticksSize kept.2 = base + ticksSize ts ∧ ticksSize kept.2 ≤ ringSize := by
  induction ts generalizing base with
  | nil => simp [trimRing, ticksSize]
  | cons t ts ih =>
    simp only [trimRing]
    split
    · have hrest : ticksSize (t :: ts) - t.bytes.length = ticksSize ts := by rw [ticksSize_cons]; omega
      rw [hrest]
      obtain ⟨hle, hsum, hfit⟩ := ih (base + t.bytes.length)
      rw [ticksSize_cons]
      exact ⟨by omega, by omega, hfit⟩
    · exact ⟨Nat.le_refl _, rfl, Nat.le_of_not_lt (by assumption)⟩

/-! ## The windows -/

/-- What R547 asks of the windows: one open at most, and numbers below the next to be given. -/
def windowsTidy (ws : List RecWindow) (next : Nat) : Prop := (ws.filter fun w => w.isOpen).length ≤ 1 ∧ ∀ w ∈ ws, w.num < next

theorem Commons.tidy_iff (c : Commons) :
    c.Tidy ↔ (c.used = ticksSize c.ring ∧ c.used ≤ ringSize) ∧ windowsTidy c.windows c.nextNum := by
  simp only [Commons.Tidy, Commons.openWindows, windowsTidy, and_assoc]

/-- Windows that are dropped, or changed but for their number and without being opened, leave the rest tidy. -/
theorem windowsTidy.map {ws : List RecWindow} {next : Nat} (h : windowsTidy ws next) (f : RecWindow → RecWindow)
    (hnum : ∀ w, (f w).num = w.num) (hopen : ∀ w, (f w).isOpen = true → w.isOpen = true) : windowsTidy (ws.map f) next := by
  obtain ⟨hone, hlt⟩ := h
  constructor
  · have hsub : ((ws.map f).filter fun w => w.isOpen).length ≤ (ws.filter fun w => w.isOpen).length := by
      rw [List.filter_map, List.length_map, ← List.countP_eq_length_filter, ← List.countP_eq_length_filter]
      exact List.countP_mono_left fun w _ hw => hopen w hw
    omega
  · simpa [hnum] using hlt

theorem windowsTidy.sublist {ws vs : List RecWindow} {next : Nat} (h : windowsTidy ws next) (hs : vs.Sublist ws) : windowsTidy vs next :=
  ⟨Nat.le_trans (hs.filter _).length_le h.1, fun w hw => h.2 w (hs.subset hw)⟩

/-- A window opened beside closed ones, with the next number. -/
theorem windowsTidy.open_new {ws : List RecWindow} {next : Nat} (h : windowsTidy ws next) (w : RecWindow) (hnum : w.num = next) :
    windowsTidy (ws.map (fun w => { w with isOpen := false }) ++ [w]) (next + 1) := by
  obtain ⟨-, hlt⟩ := h
  have hclosed : (ws.map fun w => { w with isOpen := false }).filter (fun w => w.isOpen) = [] := by simp
  constructor
  · rw [List.filter_append, hclosed, List.nil_append]
    exact List.length_filter_le _ _
  · intro v hv
    rcases List.mem_append.mp hv with hv | hv
    · obtain ⟨u, hu, rfl⟩ := List.mem_map.mp hv
      exact Nat.lt_succ_of_lt (hlt u hu)
    · rw [List.mem_singleton.mp hv, hnum]
      exact Nat.lt_succ_self next

theorem makeRoom_sublist (need : Nat) (kept : List Nat) (ws : List RecWindow) : (makeRoom need kept ws).Sublist ws := by
  induction ws generalizing need with
  | nil => exact List.Sublist.refl _
  | cons w ws ih =>
    unfold makeRoom
    dsimp only
    split
    · exact List.Sublist.refl _
    · split
      · exact (ih _).cons_cons w
      · exact (ih _).cons w

/-! ## What the commons does -/

theorem Commons.Tidy.record {c : Commons} (h : c.Tidy) (t : RecTick) : (c.record t).Tidy := by
  rw [Commons.tidy_iff] at h ⊢
  obtain ⟨⟨hused, -⟩, hws⟩ := h
  have hall : c.used + t.bytes.length = ticksSize (c.ring ++ [t]) := by
    rw [ticksSize_append, hused, ticksSize_cons]
    rfl
  obtain ⟨hle, hsum, hfit⟩ := trimRing_fits (c.ring ++ [t]) c.base
  have hleft : (c.record t).used = ticksSize (c.record t).ring := by
    simp only [Commons.record, hall]
    omega
  refine ⟨⟨hleft, ?_⟩, hws.map _ ?_ ?_⟩
  · rw [hleft]
    simpa only [Commons.record, hall] using hfit
  · intro w
    split <;> rfl
  · intro w hw
    split at hw <;> exact hw

theorem Commons.Tidy.fitWindows {c : Commons} (h : c.Tidy) (kept : List Nat) : (c.fitWindows kept).Tidy := by
  rw [Commons.tidy_iff] at h ⊢
  exact ⟨h.1, h.2.sublist (makeRoom_sublist _ _ _)⟩

theorem Commons.Tidy.count {c : Commons} (h : c.Tidy) (x : LaneId) : (c.count x).Tidy := by
  rw [Commons.tidy_iff] at h ⊢
  refine ⟨h.1, h.2.map _ ?_ ?_⟩
  · intro w
    split <;> rfl
  · intro w hw
    split at hw <;> exact hw

theorem Commons.Tidy.windowEnd {c : Commons} (h : c.Tidy) : c.windowEnd.Tidy := by
  rw [Commons.tidy_iff] at h ⊢
  refine ⟨h.1, h.2.map _ ?_ ?_⟩
  · intro w
    split <;> rfl
  · intro w hw
    split at hw
    · cases hw
    · exact hw

/-- A trigger extends the open window, or closes it and opens the next one. -/
theorem Commons.Tidy.trigger {c : Commons} (h : c.Tidy) (l : Lane) (kept : List Nat) : (c.trigger l kept).Tidy := by
  rw [Commons.tidy_iff] at h ⊢
  obtain ⟨hring, hws⟩ := h
  unfold Commons.trigger
  dsimp only
  split
  · refine ⟨hring, hws.map _ ?_ ?_⟩
    · intro w
      split <;> rfl
    · intro w hw
      split at hw <;> exact hw
  · split
    · exact ⟨hring, (hws.sublist (makeRoom_sublist _ _ _)).open_new _ rfl⟩
    · exact ⟨hring, (hws.sublist (makeRoom_sublist _ _ _)).map _ (fun _ => rfl) (fun _ hw => by cases hw)⟩

theorem Commons.Tidy.close {c : Commons} (h : c.Tidy) (l : Lane) (kept : List Nat) : (c.close l kept).Tidy := by
  unfold Commons.close
  split
  · exact h
  · have hrec : (match l.recordTick c with | some t => (c.record t).fitWindows kept | none => c).Tidy := by
      split
      · exact (h.record _).fitWindows kept
      · exact h
    dsimp only
    split
    · exact (hrec.count l.id).trigger l kept
    · exact hrec.count l.id

theorem Commons.Tidy.closeTick {c : Commons} (h : c.Tidy) (l : Lane) (t : TickIn) : (c.closeTick l t).Tidy := by
  unfold Commons.closeTick
  dsimp only
  split
  · exact h.close l _
  · exact h.close l _

theorem State.tickLane_tidy {s : State} (h : s.commons.Tidy) (x : LaneId) (t : TickIn) : (s.tickLane x t).commons.Tidy := by
  have hnote : s.noteExport.commons.Tidy := h
  exact hnote.closeTick _ t

/-! ## Every command -/

/-- What each command does to the queue and the recorder: nothing to the queue, and the recorder's areas stay together. -/
theorem exec_completes (c : Instr) (s : State) : ∃ t, exec c s = .next t ∧ t.pending = s.pending ∧ (s.commons.Tidy → t.commons.Tidy) := by
  cases c
  case tick x t => exact ⟨_, rfl, s.tickLane_pending x t, fun h => State.tickLane_tidy h x t⟩
  case linkFrameReceive x r => exact ⟨_, rfl, s.linkFrame_pending x r, fun h => by rw [State.linkFrame_commons]; exact h⟩
  case recorderWindowEnd => exact ⟨_, rfl, rfl, fun h => h.windowEnd⟩
  case objectRead h o =>
    refine ⟨_, rfl, ?_, fun hs => ?_⟩
    · split <;> rfl
    · split <;> exact hs
  case move o _ _ => exact ⟨_, rfl, State.onReq_pending _ _ _, fun h => by rw [State.onReq_commons]; exact h⟩
  case jog o _ _ => exact ⟨_, rfl, State.onReq_pending _ _ _, fun h => by rw [State.onReq_commons]; exact h⟩
  case stop o _ => exact ⟨_, rfl, State.onReq_pending _ _ _, fun h => by rw [State.onReq_commons]; exact h⟩
  case resume o _ => exact ⟨_, rfl, State.onReq_pending _ _ _, fun h => by rw [State.onReq_commons]; exact h⟩
  case limits o _ _ _ _ _ => exact ⟨_, rfl, State.onReq_pending _ _ _, fun h => by rw [State.onReq_commons]; exact h⟩
  case stepOn o _ => exact ⟨_, rfl, State.onReq_pending _ _ _, fun h => by rw [State.onReq_commons]; exact h⟩
  case stepOff o _ => exact ⟨_, rfl, State.onReq_pending _ _ _, fun h => by rw [State.onReq_commons]; exact h⟩
  case modeRequest o _ _ => exact ⟨_, rfl, State.onReq_pending _ _ _, fun h => by rw [State.onReq_commons]; exact h⟩
  all_goals exact ⟨_, rfl, rfl, fun h => h⟩

/-- Settles O7: a step runs one command or idles, and `exec_completes` holds for every command. -/
theorem everyStepKeepsTheRecorderTidy : Obligations.EveryStepKeepsTheRecorderTidy := by
  unfold Obligations.EveryStepKeepsTheRecorderTidy
  intro s t hs ht
  unfold step at ht
  split at ht
  · cases ht
    exact hs
  · rename_i c rest _
    obtain ⟨u, hu, -, htidy⟩ := exec_completes c { s with pending := rest }
    rw [hu] at ht
    cases ht
    exact htidy hs

/-- Settles O2, by the same case split over the commands. -/
theorem everyCommandCompletesAndKeepsTheQueue : Obligations.EveryCommandCompletesAndKeepsTheQueue := by
  unfold Obligations.EveryCommandCompletesAndKeepsTheQueue
  intro c s
  obtain ⟨t, ht, hq, -⟩ := exec_completes c s
  exact ⟨t, ht, hq⟩

/-- Settles O1: the step's two cases on the queue. -/
theorem stepRunsTheFrontCommand : Obligations.StepRunsTheFrontCommand := by
  unfold Obligations.StepRunsTheFrontCommand
  constructor
  · intro c s
    rfl
  · intro s hs
    unfold step
    rw [hs]

/-- Settles O8: nothing is recorded after reset, and nothing is tidy. -/
theorem theRecorderIsTidyAfterReset : Obligations.TheRecorderIsTidyAfterReset := by
  unfold Obligations.TheRecorderIsTidyAfterReset
  rw [Commons.tidy_iff]
  exact ⟨⟨rfl, Nat.zero_le _⟩, Nat.zero_le _, fun w hw => absurd hw List.not_mem_nil⟩

/-- A lane without supply holds no lease: every axis as at power-on. -/
theorem Lane.fresh_ax (x : LaneId) (n : AxisId) : (Lane.fresh x).ax n = {} := Tab.get_fill _ n

theorem State.reset_lane (x : LaneId) : State.reset.lanes.get x = .fresh x := by
  cases x <;> rfl

/-- Settles O9: each lane is the fresh lane of its place. -/
theorem resetLeavesEveryLaneOff : Obligations.ResetLeavesEveryLaneOff := by
  unfold Obligations.ResetLeavesEveryLaneOff
  refine ⟨rfl, rfl, rfl, fun x => ?_⟩
  rw [State.reset_lane]
  refine ⟨rfl, rfl, rfl, rfl, rfl, fun n => ?_⟩
  rw [Lane.fresh_ax]
  exact ⟨rfl, rfl⟩

/-- Settles O3: each of these commands is an operation on its lane alone, and its meaning gives the successor. -/
theorem laneCommandsCompleteOnTheirLane : Obligations.LaneCommandsCompleteOnTheirLane := by
  unfold Obligations.LaneCommandsCompleteOnTheirLane
  intro s l
  simp only [List.forall_mem_cons, List.not_mem_nil, false_implies, implies_true, and_true, forall_and]
  and_intros
  all_goals intros; exact ⟨_, rfl⟩

end Sys2Proof.Machine

/-! A fabric frame is read as it was written (R452, Tables 17.2 and 17.3). -/

namespace Sys2Proof.Machine

/-! ## Bytes of numbers -/

theorem byteOf_toNat {n : Nat} (h : n < 256) : (byteOf n).toNat = n := by
  simp only [byteOf, BitVec.toNat_ofNat]
  omega

theorem beBytes_length (k v : Nat) : (beBytes k v).length = k := by
  induction k with
  | zero => rfl
  | succ k ih => simp [beBytes, ih]

theorem leBytes_length (k v : Nat) : (leBytes k v).length = k := by
  induction k generalizing v with
  | zero => rfl
  | succ k ih => simp [leBytes, ih]

/-- Bytes stored most significant first read as the number, modulo what they can hold. -/
theorem beNat_beBytes (k v : Nat) : beNat (beBytes k v) = v % 256 ^ k := by
  have key : ∀ (k a : Nat), (beBytes k v).foldl (fun a b => a * 256 + b.toNat) a = a * 256 ^ k + v % 256 ^ k := by
    intro k
    induction k with
    | zero => intro a; simp [beBytes, Nat.mod_one]
    | succ k ih =>
      intro a
      have hsplit : v % 256 ^ (k + 1) = 256 ^ k * (v / 256 ^ k % 256) + v % 256 ^ k := by
        rw [Nat.pow_succ, Nat.mod_mul]
        omega
      rw [beBytes, List.foldl_cons, ih, hsplit, byteOf, BitVec.toNat_ofNat, Nat.add_mul, Nat.mul_assoc, ← Nat.pow_succ', Nat.add_assoc,
        Nat.mul_comm (256 ^ k)]
  rw [beNat, key k 0, Nat.zero_mul, Nat.zero_add]

theorem leNat_leBytes (k v : Nat) : leNat (leBytes k v) = v % 256 ^ k := by
  induction k generalizing v with
  | zero => simp [leBytes, leNat, Nat.mod_one]
  | succ k ih =>
    have hsplit : v % 256 ^ (k + 1) = v % 256 + 256 * (v / 256 % 256 ^ k) := by rw [Nat.pow_succ', Nat.mod_mul]
    rw [leBytes, leNat, ih, hsplit, byteOf, BitVec.toNat_ofNat]

theorem slice_length_append (as bs cs : List Byte) : slice (as ++ (bs ++ cs)) as.length bs.length = bs := by
  simp [slice]

/-! ## Check sums -/

/-- A check sum step by shifts and a 32-bit polynomial stays within 32 bits. -/
theorem crc32Byte_lt {c : Nat} (b : Byte) (h : c < 2 ^ 32) : crc32Byte c b < 2 ^ 32 := by
  have bit : ∀ c < 2 ^ 32, crc32Bit c < 2 ^ 32 := by
    intro c hc
    unfold crc32Bit
    split
    · exact Nat.xor_lt_two_pow (by omega) (by decide)
    · omega
  have hb : c ^^^ b.toNat < 2 ^ 32 := Nat.xor_lt_two_pow h (by have := b.isLt; omega)
  exact bit _ (bit _ (bit _ (bit _ (bit _ (bit _ (bit _ (bit _ hb)))))))

theorem crc32cByte_lt {c : Nat} (b : Byte) (h : c < 2 ^ 32) : crc32cByte c b < 2 ^ 32 := by
  have bit : ∀ c < 2 ^ 32, crc32cBit c < 2 ^ 32 := by
    intro c hc
    unfold crc32cBit
    split
    · exact Nat.xor_lt_two_pow (by omega) (by decide)
    · omega
  have hb : c ^^^ b.toNat < 2 ^ 32 := Nat.xor_lt_two_pow h (by have := b.isLt; omega)
  exact bit _ (bit _ (bit _ (bit _ (bit _ (bit _ (bit _ (bit _ hb)))))))

theorem crc32_lt (bs : List Byte) : crc32 bs < 2 ^ 32 :=
  Nat.xor_lt_two_pow (foldl_keeps (· < 2 ^ 32) crc32Byte (fun _ b h => crc32Byte_lt b h) bs _ (by decide)) (by decide)

theorem crc32c_lt (bs : List Byte) : crc32c bs < 2 ^ 32 :=
  Nat.xor_lt_two_pow (foldl_keeps (· < 2 ^ 32) crc32cByte (fun _ b h => crc32cByte_lt b h) bs _ (by decide)) (by decide)

/-! ## The parts of a frame -/

/-- The Ethernet header of a frame (Table 17.2). -/
def FabFrame.etherHead (f : FabFrame) (plane : Nat) : List Byte :=
  [0x03, 0xD5, 0x00, byteOf plane, 0, 0, 0x02, 0xD5, 0x00, byteOf plane, byteOf f.src, byteOf f.port, 0x88, 0xB5]

/-- Dravun header, payload and pad: what the end-to-end check covers. -/
def FabFrame.body (f : FabFrame) (plane : Nat) : List Byte :=
  f.header plane ++ (f.payload ++ List.replicate (26 - f.payload.length) 0)

/-- The bytes that the FCS covers. -/
def FabFrame.covered (f : FabFrame) (plane : Nat) : List Byte :=
  f.etherHead plane ++ (f.body plane ++ beBytes 4 (crc32c (f.body plane)))

/-- The FCS as sent. -/
def FabFrame.fcs (f : FabFrame) (plane : Nat) : Nat :=
  if f.bad then crc32 (f.covered plane) ^^^ 0xFFFFFFFF else crc32 (f.covered plane)

theorem FabFrame.bytes_eq (f : FabFrame) (plane : Nat) : f.bytes plane = f.covered plane ++ leBytes 4 (f.fcs plane) := by
  simp only [FabFrame.bytes, FabFrame.fcs, FabFrame.covered, FabFrame.etherHead, FabFrame.body, List.append_assoc]

theorem FabFrame.etherHead_length (f : FabFrame) (plane : Nat) : (f.etherHead plane).length = 14 := rfl

theorem FabFrame.header_length (f : FabFrame) (plane : Nat) : (f.header plane).length = 16 := by
  simp [FabFrame.header, beBytes_length]

theorem FabFrame.body_length (f : FabFrame) (plane : Nat) : (f.body plane).length = 16 + max f.payload.length 26 := by
  simp only [FabFrame.body, List.length_append, FabFrame.header_length, List.length_replicate]
  omega

theorem FabFrame.covered_length (f : FabFrame) (plane : Nat) : (f.covered plane).length = 34 + max f.payload.length 26 := by
  simp only [FabFrame.covered, List.length_append, FabFrame.body_length, beBytes_length, FabFrame.etherHead, List.length_cons, List.length_nil]
  omega

theorem FabFrame.bytes_length (f : FabFrame) (plane : Nat) : (f.bytes plane).length = f.size := by
  rw [FabFrame.bytes_eq, List.length_append, FabFrame.covered_length, leBytes_length, FabFrame.size]
  omega

/-- The payload stands behind the 30 bytes of the two headers. -/
theorem FabFrame.bytes_payload (f : FabFrame) (plane : Nat) : slice (f.bytes plane) 30 f.payload.length = f.payload := by
  have h := slice_length_append (f.etherHead plane ++ f.header plane) f.payload
    (List.replicate (26 - f.payload.length) 0 ++ (beBytes 4 (crc32c (f.body plane)) ++ leBytes 4 (f.fcs plane)))
  rw [List.length_append, FabFrame.header_length, FabFrame.etherHead_length] at h
  simpa only [FabFrame.bytes_eq, FabFrame.covered, FabFrame.body, List.append_assoc] using h

theorem FabFrame.bytes_body (f : FabFrame) (plane : Nat) : slice (f.bytes plane) 14 ((f.bytes plane).length - 22) = f.body plane := by
  have h := slice_length_append (f.etherHead plane) (f.body plane) (beBytes 4 (crc32c (f.body plane)) ++ leBytes 4 (f.fcs plane))
  rw [FabFrame.etherHead_length] at h
  rw [FabFrame.bytes_length, FabFrame.size, show 38 + max f.payload.length 26 - 22 = (f.body plane).length by rw [FabFrame.body_length]; omega]
  simpa only [FabFrame.bytes_eq, FabFrame.covered, List.append_assoc] using h

/-- The end-to-end check as sent. -/
theorem FabFrame.bytes_check (f : FabFrame) (plane : Nat) :
    slice (f.bytes plane) ((f.bytes plane).length - 8) 4 = beBytes 4 (crc32c (f.body plane)) := by
  have h := slice_length_append (f.etherHead plane ++ f.body plane) (beBytes 4 (crc32c (f.body plane))) (leBytes 4 (f.fcs plane))
  rw [beBytes_length, List.length_append] at h
  rw [FabFrame.bytes_length, FabFrame.size,
    show 38 + max f.payload.length 26 - 8 = (f.etherHead plane).length + (f.body plane).length by
      rw [FabFrame.body_length, FabFrame.etherHead_length]; omega]
  simpa only [FabFrame.bytes_eq, FabFrame.covered, List.append_assoc] using h

theorem FabFrame.bytes_covered_length (f : FabFrame) (plane : Nat) : (f.bytes plane).length - 4 = (f.covered plane).length := by
  rw [FabFrame.bytes_length, FabFrame.size, FabFrame.covered_length]
  omega

theorem FabFrame.bytes_take (f : FabFrame) (plane : Nat) : (f.bytes plane).take ((f.bytes plane).length - 4) = f.covered plane := by
  rw [FabFrame.bytes_covered_length, FabFrame.bytes_eq, List.take_left]

theorem FabFrame.bytes_fcs (f : FabFrame) (plane : Nat) :
    slice (f.bytes plane) ((f.bytes plane).length - 4) 4 = leBytes 4 (f.fcs plane) := by
  rw [FabFrame.bytes_covered_length, FabFrame.bytes_eq, slice, List.drop_left, List.take_of_length_le (Nat.le_of_eq (leBytes_length _ _))]

/-- The end-to-end check always holds; the FCS holds unless a forwarder inverted it (R459). -/
theorem FabFrame.checks_eq (f : FabFrame) (plane : Nat) :
    (beNat (beBytes 4 (crc32c (f.body plane))) == crc32c (f.body plane) && leNat (leBytes 4 (f.fcs plane)) == crc32 (f.covered plane)) =
      !f.bad := by
  have hbody := crc32c_lt (f.body plane)
  have hfcs := crc32_lt (f.covered plane)
  rw [beNat_beBytes, leNat_leBytes, Nat.mod_eq_of_lt (by omega), beq_self_eq_true, Bool.true_and]
  unfold FabFrame.fcs
  cases f.bad with
  | false => simpa using hfcs
  | true =>
    have hinv : crc32 (f.covered plane) ^^^ 0xFFFFFFFF < 256 ^ 4 := Nat.xor_lt_two_pow (n := 32) hfcs (by decide)
    have hne : crc32 (f.covered plane) ^^^ 0xFFFFFFFF ≠ crc32 (f.covered plane) := fun heq => by
      have hbit := congrArg (Nat.testBit · 0) heq
      simp only [Nat.testBit_xor] at hbit
      exact (by decide : ∀ b : Bool, (b ^^ Nat.testBit 0xFFFFFFFF 0) ≠ b) _ hbit
    rw [if_pos rfl, Nat.mod_eq_of_lt hinv]
    exact beq_eq_false_iff_ne.mpr hne

/-- The two headers, each byte at its place. -/
theorem FabFrame.bytes_headers (f : FabFrame) (plane : Nat) : ∃ rest, f.bytes plane =
    [0x03, 0xD5, 0x00, byteOf plane, 0, 0, 0x02, 0xD5, 0x00, byteOf plane, byteOf f.src, byteOf f.port, 0x88, 0xB5,
      byteOf (16 + f.cls), byteOf (64 * plane + f.src), byteOf f.dst, byteOf f.hop] ++ (beBytes 2 f.seq ++ (beBytes 2 f.payload.length ++
      (beBytes 4 f.stamp ++ (beBytes 2 f.epoch ++ rest)))) := by
  rw [FabFrame.bytes_eq, FabFrame.covered, FabFrame.body, FabFrame.header, FabFrame.etherHead]
  simp only [List.append_assoc, List.cons_append, List.nil_append]
  exact ⟨_, rfl⟩

/-- The largest frame of any class holds 938 bytes (Table 17.4). -/
theorem fabMax_some {cls : Nat} (h : cls < 6) : ∃ m ≤ 938, fabMax cls = some m := by
  match cls, h with
  | 0, _ => exact ⟨_, by decide, rfl⟩
  | 1, _ => exact ⟨_, by decide, rfl⟩
  | 2, _ => exact ⟨_, by decide, rfl⟩
  | 3, _ => exact ⟨_, by decide, rfl⟩
  | 4, _ => exact ⟨_, by decide, rfl⟩
  | 5, _ => exact ⟨_, by decide, rfl⟩

/-- Settles O39: each field is at its place (`bytes_headers`, `bytes_payload`), in range, and the checks are those sent (`checks_eq`). -/
theorem fabricFramesAreReadAsWritten : Obligations.FabricFramesAreReadAsWritten := by
  unfold Obligations.FabricFramesAreReadAsWritten
  intro f plane hplane hcls hsrc hdst hhop hhop' hseq hstamp hepoch hport hmax
  obtain ⟨m, hm, hfab⟩ := fabMax_some hcls
  have hsize : f.size ≤ m := hmax m hfab
  have hlen : f.payload.length < 2 ^ 16 := by unfold FabFrame.size at hsize; omega
  obtain ⟨rest, hrest⟩ := f.bytes_headers plane
  have at14 : ((f.bytes plane).getD 14 0).toNat = 16 + f.cls := by
    rw [hrest]; exact byteOf_toNat (by omega)
  have at15 : ((f.bytes plane).getD 15 0).toNat = 64 * plane + f.src := by
    rw [hrest]; exact byteOf_toNat (by omega)
  have at16 : ((f.bytes plane).getD 16 0).toNat = f.dst := by rw [hrest]; exact byteOf_toNat (by omega)
  have at17 : ((f.bytes plane).getD 17 0).toNat = f.hop := by rw [hrest]; exact byteOf_toNat hhop'
  have at11 : ((f.bytes plane).getD 11 0).toNat = f.port := by rw [hrest]; exact byteOf_toNat hport
  have at20 : ((f.bytes plane).getD 20 0).toNat * 256 + ((f.bytes plane).getD 21 0).toNat = f.payload.length := by
    have h20 : (f.bytes plane).getD 20 0 = byteOf (f.payload.length / 256 ^ 1) := by rw [hrest]; rfl
    have h21 : (f.bytes plane).getD 21 0 = byteOf (f.payload.length / 256 ^ 0) := by rw [hrest]; rfl
    rw [h20, h21, byteOf, byteOf, BitVec.toNat_ofNat, BitVec.toNat_ofNat]
    omega
  have dest : slice (f.bytes plane) 0 6 = [0x03, 0xD5, 0x00, byteOf plane, 0, 0] := by rw [hrest]; rfl
  have kind : slice (f.bytes plane) 12 2 = [0x88, 0xB5] := by rw [hrest]; rfl
  have seq : beNat (slice (f.bytes plane) 18 2) = f.seq := by
    rw [show slice (f.bytes plane) 18 2 = beBytes 2 f.seq by rw [hrest]; rfl, beNat_beBytes, Nat.mod_eq_of_lt (by omega)]
  have stamp : beNat (slice (f.bytes plane) 22 4) = f.stamp := by
    rw [show slice (f.bytes plane) 22 4 = beBytes 4 f.stamp by rw [hrest]; rfl, beNat_beBytes, Nat.mod_eq_of_lt (by omega)]
  have epoch : beNat (slice (f.bytes plane) 26 2) = f.epoch := by
    rw [show slice (f.bytes plane) 26 2 = beBytes 2 f.epoch by rw [hrest]; rfl, beNat_beBytes, Nat.mod_eq_of_lt (by omega)]
  have hcls' : (16 + f.cls) % 16 = f.cls := by omega
  have hsrc' : (64 * plane + f.src) % 64 = f.src := by omega
  have hdst' : f.dst % 64 = f.dst := by omega
  have taken : ¬((f.bytes plane).length < 64 ∨ slice (f.bytes plane) 0 6 ≠ [0x03, 0xD5, 0x00, byteOf plane, 0, 0] ∨
      slice (f.bytes plane) 12 2 ≠ [0x88, 0xB5] ∨ (16 + f.cls) / 16 ≠ 1 ∨ (64 * plane + f.src) / 64 ≠ plane ∨
      (f.bytes plane).length ≠ 38 + max f.payload.length 26 ∨ f.hop = 0) := by
    rw [dest, kind, FabFrame.bytes_length, FabFrame.size]
    simp only [ne_eq, not_true_eq_false, false_or, not_or]
    omega
  unfold fabParse
  simp only [at14, at15, at16, at17, at11, at20, hcls', hsrc', hdst', hfab]
  rw [if_neg taken, if_neg (by rw [FabFrame.bytes_length]; omega), FabFrame.bytes_payload, FabFrame.bytes_body, FabFrame.bytes_check,
    FabFrame.bytes_take, FabFrame.bytes_fcs, FabFrame.checks_eq, seq, stamp, epoch]

end Sys2Proof.Machine

/-! What the start of a tick leaves alone: the parts that each block's boundary work can change. -/

namespace Sys2Proof.Machine

theorem State.tickLane_get_self (s : State) (x : LaneId) (t : TickIn) : ∃ c : Commons,
    (s.tickLane x t).lanes.get x = ((((s.lanes.get x).finishTick t).beginTick t).wearNote c) := by
  unfold State.tickLane
  dsimp only
  rw [PerLane.get_mapL, PerLane.get_set_self, State.noteExport_lanes]
  have hself (y : Lane) : y.hearOwn y = y := by simp [Lane.hearOwn]
  exact ⟨_, hself _⟩

theorem State.tickLane_view_self (s : State) (x : LaneId) (t : TickIn) : (s.tickLane x t).view.get x = (s.lanes.get x).finishTick t := by
  unfold State.tickLane
  dsimp only
  rw [PerLane.get_set_self, State.noteExport_lanes]

theorem Lane.wearNote_eq (l : Lane) (c : Commons) : l.wearNote c = { l with col := (l.wearNote c).col } := by
  unfold Lane.wearNote
  split <;> rfl

/-! ## Legs and event lines -/

/-- Event lines and legs may have changed. -/
def Lane.LinesOnly (x y : Lane) : Prop := y = { x with evLine := y.evLine, leg := y.leg }

theorem Lane.LinesOnly.trans {x y z : Lane} (h : x.LinesOnly y) (h' : y.LinesOnly z) : x.LinesOnly z := by
  unfold Lane.LinesOnly at *
  rw [h', h]

theorem Lane.modLeg_linesOnly (x : Lane) (k : LegId) (f : Leg → Leg) : x.LinesOnly (x.modLeg k f) := rfl

theorem Lane.lineOccurs_linesOnly (x : Lane) (k : Fin 8) (samples : List Q) : x.LinesOnly (x.lineOccurs k samples) := by
  unfold Lane.lineOccurs
  dsimp only
  split
  · rfl
  · split
    · rfl
    · split
      · refine foldl_keeps x.LinesOnly _ ?_ _ _ rfl
        intro y i hy
        split
        · exact hy.trans (y.modLeg_linesOnly _ _)
        · exact hy
      · rfl

theorem Lane.lineClose_linesOnly (x : Lane) (len : Nat) : x.LinesOnly (x.lineClose len) := by
  unfold Lane.lineClose
  refine foldl_keeps x.LinesOnly _ ?_ _ x rfl
  intro y k hy
  refine Lane.LinesOnly.trans (foldl_keeps x.LinesOnly _ ?_ _ y hy) rfl
  intro z j hz
  exact hz.trans (z.lineOccurs_linesOnly _ _)

/-- Time bases, legs, event lines and the bus may have changed. -/
def Lane.GatesOnly (x y : Lane) : Prop := y = { x with evLine := y.evLine, leg := y.leg, pwm := y.pwm, bus := y.bus }

theorem Lane.GatesOnly.trans {x y z : Lane} (h : x.GatesOnly y) (h' : y.GatesOnly z) : x.GatesOnly z := by
  unfold Lane.GatesOnly at *
  rw [h', h]

theorem Lane.LinesOnly.gates {x y : Lane} (h : x.LinesOnly y) : x.GatesOnly y := by
  unfold Lane.LinesOnly at h
  unfold Lane.GatesOnly
  rw [h]

theorem Lane.modLegs_gatesOnly (x : Lane) (n : AxisId) (f : Nat → Leg → Leg) : x.GatesOnly (x.modLegs n f) := by
  unfold Lane.GatesOnly
  rw [Lane.modLegs_eq]

theorem Lane.modPwm_gatesOnly (x : Lane) (n : AxisId) (f : PwmPart → PwmPart) : x.GatesOnly (x.modPwm n f) := rfl

theorem Lane.pwmBoundary_gatesOnly (x : Lane) (len : Nat) : x.GatesOnly (x.pwmBoundary len) := by
  unfold Lane.pwmBoundary
  dsimp only
  refine foldl_keeps x.GatesOnly _ ?_ _ _ ((x.lineClose_linesOnly len).gates.trans rfl)
  intro y n hy
  have hlegs (f : PwmPart → PwmPart) (g : Nat → Leg → Leg) : x.GatesOnly ((y.modPwm n f).modLegs n g) :=
    (hy.trans (y.modPwm_gatesOnly n f)).trans (Lane.modLegs_gatesOnly _ n g)
  split
  · exact hy
  · split
    · exact ((hlegs _ _).trans (Lane.modPwm_gatesOnly _ n _)).trans (Lane.modLegs_gatesOnly _ n _)
    · exact (hlegs _ _).trans (Lane.modPwm_gatesOnly _ n _)

/-! ## Leases -/

/-- Lease state and events may have changed. -/
def Lane.LeasesOnly (x y : Lane) : Prop := y = { x with lease := y.lease, col := y.col }

theorem Lane.boundaryLease_leasesOnly (x : Lane) : x.LeasesOnly x.boundaryLease := by
  unfold Lane.boundaryLease
  refine foldl_keeps x.LeasesOnly _ ?_ _ _ rfl
  intro y n hy
  unfold Lane.LeasesOnly at *
  rw [hy]
  rfl

/-! ## The fabric block -/

/-- The fabric block and what it gives the external synchronisation may have changed. -/
def Lane.FabricOnly (x y : Lane) : Prop :=
  y = { x with fab := y.fab, tick := { x.tick with fabOffset := y.tick.fabOffset, fabric := y.tick.fabric } }

theorem Lane.FabricOnly.trans {x y z : Lane} (h : x.FabricOnly y) (h' : y.FabricOnly z) : x.FabricOnly z := by
  unfold Lane.FabricOnly at *
  rw [h', h]

theorem Lane.modPort_fabricOnly (x : Lane) (p : PortId) (f : FabPort → FabPort) : x.FabricOnly (x.modPort p f) := rfl

theorem Lane.fabSend_eq (x : Lane) (cls dst : Nat) (payload : List Byte) :
    x.fabSend cls dst payload = { x with fab := (x.fabSend cls dst payload).fab } := by
  unfold Lane.fabSend
  split
  · rfl
  · dsimp only
    split
    · rfl
    · refine foldl_keeps (fun y : Lane => y = { x with fab := y.fab }) _ ?_ _ _ rfl
      intro y w hy
      rw [hy]
      rfl

theorem Lane.fabSend_fabricOnly (x : Lane) (cls dst : Nat) (payload : List Byte) : x.FabricOnly (x.fabSend cls dst payload) := by
  unfold Lane.FabricOnly
  rw [Lane.fabSend_eq]

theorem Lane.placeBoundary_fabricOnly (x : Lane) : x.FabricOnly x.placeBoundary := by
  unfold Lane.placeBoundary
  dsimp only
  split
  · split <;> rfl
  · rfl

theorem Lane.fabricMeas_fabricOnly (x : Lane) (e : Int) : x.FabricOnly (x.fabricMeas e) := by
  unfold Lane.fabricMeas
  split <;> rfl

/-- The TIME frame that a port with link sends at a boundary, as `Lane.fabBoundary` writes it (R466). -/
def Lane.sendTime (tx : List Nat) (l : Lane) (p : PortId) : Lane :=
  let q := l.fab.ports.get p
  if q.state != 0 && q.phy then
    let t := tx.getD p.val 10
    let (l, f) := l.newFrame 0 63 (l.timePayload p t)
    l.modPort p fun q => (q.transmit 0 { f with port := p.val }) |> fun q => { q with txCounts := (((l.clk + t) % 2 ^ 32) :: q.txCounts).take 5 }
  else l

theorem Lane.FabricOnly.withFab {x y : Lane} (h : x.FabricOnly y) (f : FabPart) : x.FabricOnly { y with fab := f } := h.trans rfl

theorem Lane.fabBoundary_fabricOnly (x : Lane) (tx : List Nat) : x.FabricOnly (x.fabBoundary tx) := by
  unfold Lane.fabBoundary
  split
  · rfl
  · refine foldl_keeps x.FabricOnly _ (fun y n hy => hy.trans (y.fabSend_fabricOnly _ _ _)) _ _ ?_
    refine Lane.FabricOnly.withFab ?_ _
    have hports (y : Lane) (hy : x.FabricOnly y) : x.FabricOnly ((List.finRange 2).foldl (Lane.sendTime tx) y) := by
      refine foldl_keeps x.FabricOnly _ ?_ _ y hy
      intro z p hz
      unfold Lane.sendTime
      dsimp only
      split
      · exact hz.withFab _
      · exact hz
    have hmeas (y : Lane) (c : Bool) (e : Int) (hy : x.FabricOnly y) : x.FabricOnly (if c then y.fabricMeas e else y) := by
      cases c
      · exact hy
      · exact hy.trans (y.fabricMeas_fabricOnly e)
    split
    · refine foldl_keeps x.FabricOnly _ (fun y w hy => hy.trans (y.modPort_fabricOnly _ _)) _ _ ?_
      refine Lane.FabricOnly.withFab ?_ _
      refine Lane.FabricOnly.withFab ?_ _
      refine hports _ ?_
      refine hmeas _ _ _ ?_
      exact Lane.FabricOnly.withFab x.placeBoundary_fabricOnly _
    · refine hports _ ?_
      refine hmeas _ _ _ ?_
      exact Lane.FabricOnly.withFab x.placeBoundary_fabricOnly _

end Sys2Proof.Machine

/-! Resets and losses of supply (R553, R555, R568, R569), and what ends a debug halt (R336). -/

namespace Sys2Proof.Machine

/-! ## Another lane's tick -/

/-- Settles O6: of another lane, a tick reaches the note of a heard frame alone (`tickLane_get_ne`). -/
theorem tickLeavesTheOtherLanes : Obligations.TickLeavesTheOtherLanes := by
  unfold Obligations.TickLeavesTheOtherLanes
  intro x y i s hne
  refine ⟨_, rfl, ?_, ?_, State.tickLane_view_ne s i hne, State.tickLane_pending s x i⟩
  all_goals
    obtain ⟨tx, htx⟩ := State.tickLane_get_ne s i hne
    rw [htx]
    rcases Lane.hearOwn_cases (s.lanes.get y) tx with h | h <;> rw [h]
  · exact fun _ => rfl
  · exact id

/-! ## Resets -/

@[simp] theorem Lane.reset_tick (x : Lane) (k : ResetKind) : (x.reset k).tick = {} := by rw [Lane.reset_eq]; rfl
@[simp] theorem Lane.reset_start (x : Lane) (k : ResetKind) : (x.reset k).start =
    { (x.blank .boot k).start with latchKept := !(x.keptFaults k).isEmpty, brown := false, resets := x.start.resets + 1 } := by
  rw [Lane.reset_eq]
@[simp] theorem Lane.reset_sup22 (x : Lane) (k : ResetKind) : (x.reset k).sup22 = (x.blank .boot k).sup22 := by rw [Lane.reset_eq]

/-- A reset reads of a lane its number, its records and non-volatile content, the gate supply, and what `blank` keeps: any other lane that agrees in these restarts alike, but for the fields of the supply. -/
theorem Lane.Restarted.of_reset {x w y : Lane} {k : ResetKind} (h : w.Restarted y k) (hid : w.id = x.id) (hgate : w.bus.gateLow = x.bus.gateLow)
    (hcol : w.col = x.col) (hnvm : w.nvm = x.nvm)
    (hpins : w.start.ign = x.start.ign ∧ w.start.wake = x.start.wake ∧ w.start.workshop = x.start.workshop ∧ w.start.benchPin = x.start.benchPin) :
    x.Restarted y k := by
  obtain ⟨hign, hwake, hshop, hbench⟩ := hpins
  unfold Lane.Restarted at *
  rw [hid, hgate, hcol, hnvm, hign, hwake, hshop, hbench] at h
  exact h

theorem Lane.powerOn_restarted {x : Lane} (hoff : x.start.state = .off) (hup : x.start.supplyUp = false) (hr : x.start.resetnLow = false) :
    x.Restarted x.powerOn (if x.start.brown then .brownOut else .powerOn) ∧ x.powerOn.start.supplyUp = true ∧ x.powerOn.tick.count = 0 := by
  have heq : x.powerOn = Lane.reset { x with start := { x.start with supplyUp := true }, sup22 := { x.sup22 with isOpen := false } }
      (if x.start.brown then .brownOut else .powerOn) := by
    simp [Lane.powerOn, hoff, hup, hr]
  rw [heq]
  refine ⟨(Lane.reset_restarted _ _).of_reset rfl rfl rfl rfl ⟨rfl, rfl, rfl, rfl⟩, ?_, ?_⟩
  · simp [Lane.blank]
  · simp

theorem Lane.resetnUp_restarted {x : Lane} (hlow : x.start.resetnLow) (hup : x.start.supplyUp) :
    x.Restarted x.resetnUp .resetn ∧ x.resetnUp.start.resetnLow = false ∧ x.resetnUp.tick.count = 0 := by
  have heq : x.resetnUp = Lane.reset { x with start := { x.start with resetnLow := false } } .resetn := by
    simp [Lane.resetnUp, hlow, hup]
  rw [heq]
  refine ⟨(Lane.reset_restarted _ _).of_reset rfl rfl rfl rfl ⟨rfl, rfl, rfl, rfl⟩, ?_, ?_⟩
  · simp [Lane.blank]
  · simp

theorem Lane.wakeUp_restarted {x : Lane} {w : WakeBy} (hw : x.wakes w) :
    x.Restarted (x.wakeUp w) .wake ∧ (x.wakeUp w).start.wakePattern = true ∧ (x.wakeUp w).tick.count = 0 := by
  have heq : x.wakeUp w = { x.reset .wake with
      start := { (x.reset .wake).start with wakePattern := true }, sup22 := { (x.reset .wake).sup22 with isOpen := false } } := if_pos hw
  obtain ⟨hall, hjournal, hax, habsent, hpins⟩ := x.reset_restarted .wake
  rw [heq]
  refine ⟨⟨?_, hjournal, hax, habsent, hpins⟩, rfl, by simp⟩
  rw [hall]

theorem Lane.disconnectClose_restarted {x : Lane} (hopen : x.sup22.isOpen) (hoff : x.start.state = .off) (hbrown : x.start.brown)
    (hr : x.start.resetnLow = false) :
    x.Restarted x.disconnectClose .brownOut ∧ x.disconnectClose.sup22.isOpen = false ∧ x.disconnectClose.start.supplyUp = true ∧
      x.disconnectClose.tick.count = 0 := by
  have heq : x.disconnectClose = Lane.reset { x with
      sup22 := { x.sup22 with isOpen := false, holdup := false }, start := { x.start with supplyUp := true } } .brownOut := by
    simp [Lane.disconnectClose, hopen, hoff, hbrown, hr]
  rw [heq]
  refine ⟨(Lane.reset_restarted _ _).of_reset rfl rfl rfl rfl ⟨rfl, rfl, rfl, rfl⟩, ?_, ?_, ?_⟩
  · simp [Lane.blank]
  · simp [Lane.blank]
  · simp

/-- Where l_RESETN holds the lane in OFF the disconnect closes and nothing restarts. -/
theorem Lane.disconnectClose_held {x : Lane} (hopen : x.sup22.isOpen) (hoff : x.start.state = .off) (hbrown : x.start.brown)
    (hr : x.start.resetnLow) : x.disconnectClose =
      { x with sup22 := { x.sup22 with isOpen := false, holdup := false }, start := { x.start with supplyUp := true } } := by
  simp [Lane.disconnectClose, hopen, hoff, hbrown, hr]

/-! ## The reset of the collector's timer -/

theorem Lane.fabBoundary_start (x : Lane) (tx : List Nat) : (x.fabBoundary tx).start = x.start := by rw [x.fabBoundary_fabricOnly tx]
theorem Lane.boundaryLease_start (x : Lane) : x.boundaryLease.start = x.start := by rw [x.boundaryLease_leasesOnly]
theorem Lane.pwmBoundary_start (x : Lane) (len : Nat) : (x.pwmBoundary len).start = x.start := by rw [x.pwmBoundary_gatesOnly len]
theorem Lane.canBoundary_start (x : Lane) : x.canBoundary.start = x.start := rfl
theorem Lane.loopBoundary_start (x : Lane) : x.loopBoundary.start = x.start := rfl
theorem Lane.boundaryTick_start (x : Lane) : x.boundaryTick.start = x.start := rfl
theorem Lane.shiftInbox_start (x : Lane) : x.shiftInbox.start = x.start := rfl
theorem Lane.foldl_modComm_start (x : Lane) (f : AxisId → CommPart → CommPart) (ns : List AxisId) :
    (ns.foldl (fun y n => y.modComm n (f n)) x).start = x.start :=
  foldl_keeps (fun y : Lane => y.start = x.start) (fun y n => y.modComm n (f n)) (fun _ _ h => h) ns x rfl

/-- A lane that closes ticks: it is in none of the states without one (R82, Table 3.1). -/
def Lane.live (x : Lane) : Bool := decide (3 ≤ x.start.state.code) && x.start.state != .sleep && x.start.state != .listen

/-- What the blocks do at a boundary of such a lane, before its counts move on: the calls of `Lane.boundary`. -/
def Lane.boundaryBlocks (l : Lane) (i : TickIn) : Lane :=
  let y := allAxes.foldl (fun y n => y.modComm n fun k => { k with set1 := l.setState n }) l
  let z := ((y.pwmBoundary l.tickLen).shiftInbox).boundaryTick.boundaryLease
  ((({ z with detailOut := l.detail, shadowOut := l.shadow, bus := { z.bus with phase := (z.bus.phase + 1) % 32 } } : Lane).fabBoundary
    i.fabTx).canBoundary).loopBoundary

/-- The counts that move on at that boundary. -/
def Lane.boundaryCounts (l x : Lane) : Lane :=
  { l with
    prof := x.prof.mapFin fun n p =>
      { p with carried := if x.commands n && decide ((x.ax n).heldSince ≠ x.tick.count) then some (x.profShare n) else none }
    bus := { l.bus with thetaTick := satInc 40000 l.bus.thetaTick }
    start := { l.start with
      ticks := l.start.ticks + 1, inState := l.start.inState + 1, readyPrev := l.start.ready, departing := l.start.departing - 1 }
    col := { l.col with datapath := none, lockstep := none }
    can := { l.can with session := l.can.session.map fun s => { s with idle := s.idle + 1 } } }

theorem Lane.boundary_live {x : Lane} (i : TickIn) (hlive : x.live) (hh : x.start.halted = false) :
    x.boundary i = (x.boundaryBlocks i).boundaryCounts x := by
  have h1 : ¬(!x.live) = true := by simp [hlive]
  have h2 : ¬x.start.halted = true := by simp [hh]
  exact (if_neg h1).trans (if_neg h2)

/-- At the boundary of any other lane its tick counts, its inbox moves on and it sends one departure marker fewer (R33, R82, R133). -/
theorem Lane.boundary_idle {x : Lane} (i : TickIn) (hlive : x.live = false) :
    x.boundary i = { (x.shiftInbox).boundaryTick with start := { x.start with
      departing := x.start.departing - 1, ticks := x.start.ticks + 1, inState := x.start.inState + 1
      listenTicks := if x.start.state = .listen then x.start.listenTicks + 1 else 0 } } := by
  have h : (!x.live) = true := by simp [hlive]
  exact if_pos h

theorem Lane.boundaryBlocks_start (x : Lane) (i : TickIn) : (x.boundaryBlocks i).start = x.start := by
  simp only [Lane.boundaryBlocks, Lane.loopBoundary_start, Lane.canBoundary_start, Lane.fabBoundary_start, Lane.boundaryLease_start,
    Lane.boundaryTick_start, Lane.shiftInbox_start, Lane.pwmBoundary_start, Lane.foldl_modComm_start]

/-- A boundary sends one departure marker fewer, and leaves a reset that the timer has ordered. -/
theorem Lane.boundary_departing {x : Lane} (i : TickIn) (hh : x.start.halted = false) :
    (x.boundary i).start.departing = x.start.departing - 1 ∧ (x.boundary i).start.wdReset = x.start.wdReset := by
  cases hlive : x.live
  · rw [Lane.boundary_idle i hlive]
    exact ⟨rfl, rfl⟩
  · rw [Lane.boundary_live i hlive hh, Lane.boundaryCounts]
    dsimp only
    rw [Lane.boundaryBlocks_start]
    exact ⟨rfl, rfl⟩

/-- The boundary after the last departure marker resets the lane (R408). -/
theorem Lane.beginTick_watchdog {x : Lane} (i : TickIn) (hwd : x.start.wdReset) (hd : x.start.departing = 1) (hh : x.start.halted = false) :
    (x.beginTick i).start.state = .boot ∧ (x.beginTick i).start.cause = .watchdog ∧ (x.beginTick i).tick.count = 0 ∧
      ∀ n, (x.beginTick i).ax n = {} := by
  obtain ⟨hdep, hres⟩ := x.boundary_departing i hh
  have hreset : ((x.boundary i).samplePins i).watchdogReset = ((x.boundary i).samplePins i).reset .watchdog := by
    refine if_pos ⟨?_, ?_⟩
    · simp [Lane.samplePins, hres, hwd]
    · simp [Lane.samplePins, hdep, hd]
  have hboot : (((x.boundary i).samplePins i).reset .watchdog).start.state = .boot := by simp [Lane.blank]
  have hbegin : x.beginTick i = (((x.boundary i).samplePins i).reset .watchdog).wakeTick := by
    unfold Lane.beginTick
    simp only [hreset, hboot]
  rw [hbegin]
  refine ⟨hboot, ?_, ?_, fun n => ?_⟩
  · simp [Lane.wakeTick, Lane.blank]
  · simp [Lane.wakeTick]
  · exact Lane.reset_ax_of_ne _ (by decide) n

theorem State.tickLane_watchdog (s : State) (l : LaneId) (i : TickIn) {z : Lane} (hz : (s.lanes.get l).finishTick i = z)
    (hwd : z.start.wdReset) (hd : z.start.departing = 1) (hh : z.start.halted = false) :
    ((s.tickLane l i).lanes.get l).start.state = .boot ∧ ((s.tickLane l i).lanes.get l).start.cause = .watchdog ∧
      ((s.tickLane l i).lanes.get l).tick.count = 0 ∧ ∀ n, ((s.tickLane l i).lanes.get l).ax n = {} := by
  obtain ⟨c, hc⟩ := s.tickLane_get_self l i
  rw [hc, hz, Lane.wearNote_eq]
  exact Lane.beginTick_watchdog i hwd hd hh

/-- Settles O10: each source is a reset of the lane (`reset_restarted`), the timer's one at a boundary (`beginTick_watchdog`). -/
theorem restartsBeginAtBoot : Obligations.RestartsBeginAtBoot := by
  unfold Obligations.RestartsBeginAtBoot
  rintro s l x rfl
  refine ⟨?_, ?_, ?_, ?_, ?_, ?_, ?_⟩
  · exact fun hoff hup hr => ⟨_, rfl, Lane.powerOn_restarted hoff hup hr⟩
  · intro a bs hlow hup
    have hprog : (s.lane l).programmed a bs = { s.lane l with nvm := { (s.lane l).nvm with flash := Mem.writeList (s.lane l).nvm.flash a bs } } :=
      if_pos hlow
    refine ⟨((s.lane l).programmed a bs).resetnUp, rfl, ?_⟩
    rw [hprog]
    exact Lane.resetnUp_restarted hlow hup
  · intro hb
    refine ⟨_, exec_debugReset l s, ?_⟩
    rw [Lane.debugReset_of_bench hb]
    exact ⟨Lane.reset_restarted _ _, by simp⟩
  · intro hn hw
    have heq : (s.lane l).watchdog = { s.lane l with start := { (s.lane l).start with departing := 3, wdReset := true } } := by
      simp [Lane.watchdog, hn, hw]
    rw [← heq]
    rfl
  · intro i z hwd hd hh
    exact ⟨_, rfl, s.tickLane_watchdog l i rfl hwd hd hh⟩
  · exact fun w hw => ⟨_, rfl, Lane.wakeUp_restarted hw⟩
  · intro hopen hoff hbrown
    constructor
    · exact fun hr => ⟨_, rfl, Lane.disconnectClose_restarted hopen hoff hbrown hr⟩
    · intro hr
      rw [← Lane.disconnectClose_held hopen hoff hbrown hr]
      rfl

/-! ## Loss of supply -/

theorem Lane.brownOut_of_supplied {x : Lane} (h : x.start.state ≠ .off ∨ x.start.supplyUp) :
    x.brownOut = { x.goOff with start := { x.goOff.start with supplyUp := false, brown := true, departing := 3 }, tick := { count := x.tick.count } } := by
  refine if_neg ?_
  rintro ⟨hoff, hup⟩
  rcases h with h | h
  · exact h hoff
  · simp [h] at hup

theorem Lane.blank_ax (x : Lane) (st : LState) (k : ResetKind) (n : AxisId) : (x.blank st k).ax n = {} := Tab.get_fill _ n

/-- A lane that goes to OFF keeps its number and its non-volatile content. -/
theorem Lane.goOff_wentOff (x : Lane) : x.WentOff x.goOff := ⟨rfl, x.blank_ax _ _, rfl, rfl, rfl, rfl⟩

theorem Lane.brownOut_wentOff {x : Lane} (h : x.start.state ≠ .off ∨ x.start.supplyUp) :
    x.WentOff x.brownOut ∧ x.brownOut.start.supplyUp = false ∧ x.brownOut.start.departing = 3 ∧ x.brownOut.tick = { count := x.tick.count } ∧
      x.brownOut.sup22.isOpen = x.sup22.isOpen := by
  rw [Lane.brownOut_of_supplied h]
  exact ⟨x.goOff_wentOff, rfl, rfl, rfl, rfl⟩

theorem Lane.holdupExpiry_of_open {x : Lane} (hopen : x.sup22.isOpen) (hoff : x.start.state ≠ .off) (hsleep : x.start.state ≠ .sleep) :
    x.holdupExpiry = x.brownOut := if_pos ⟨hopen, hsleep, .inl hoff⟩

theorem Lane.resetnDown_wentOff (x : Lane) {ns : Nat} (h : 10000 ≤ ns) :
    x.WentOff (x.resetnDown ns) ∧ (x.resetnDown ns).start.resetnLow = true ∧ (x.resetnDown ns).start.cfgFloat = true ∧
      (x.resetnDown ns).start.departing = 0 := by
  have heq : x.resetnDown ns = { Lane.goOff { x with start := { x.start with resetnLow := true } } with
      start := { (Lane.goOff { x with start := { x.start with resetnLow := true } }).start with cfgFloat := true } } := if_neg (by omega)
  rw [heq]
  exact ⟨Lane.goOff_wentOff { x with start := { x.start with resetnLow := true } }, rfl, rfl, rfl⟩

/-- With l_VG low no axis has its gates free (R570). -/
theorem Lane.gatesFree_of_gateLow {x : Lane} (h : x.bus.gateLow) (n : AxisId) : x.gatesFree n = false := by
  simp [Lane.gatesFree, h]

theorem Lane.disconnectOpen_eq {x : Lane} (v : Q) (hopen : x.sup22.isOpen = false) (hoff : x.start.state ≠ .off) :
    x.disconnectOpen v =
      { x.raise .sup002 .none (roundDiv (v * 1000) 65536) with sup22 := { x.sup22 with isOpen := true, holdup := true, vsup := v } } := by
  simp [Lane.disconnectOpen, hopen, hoff]

theorem Lane.disconnectClose_running {x : Lane} (hopen : x.sup22.isOpen) (hoff : x.start.state ≠ .off) (hsleep : x.start.state ≠ .sleep) :
    x.disconnectClose = { x with sup22 := { x.sup22 with isOpen := false, holdup := false } } := by
  simp [Lane.disconnectClose, hopen, hoff, hsleep]

/-- Settles O11: brown-out and l_RESETN blank the lane (`goOff_wentOff`), the disconnect's switch is its own field, and `gatesFree` reads l_VG. -/
theorem lossOfSupplyLeavesTheLaneOff : Obligations.LossOfSupplyLeavesTheLaneOff := by
  unfold Obligations.LossOfSupplyLeavesTheLaneOff
  rintro s l x rfl
  refine ⟨⟨?_, ?_, ?_⟩, ?_, ?_, ?_, rfl⟩
  · intro h
    obtain ⟨hoff, hup, hdep, htick, -⟩ := Lane.brownOut_wentOff h
    exact ⟨_, rfl, hoff, hup, hdep, htick⟩
  · intro hopen hoff hsleep
    obtain ⟨hwent, hup, hdep, -, hstill⟩ := Lane.brownOut_wentOff (.inl hoff)
    refine ⟨(s.lane l).holdupExpiry, rfl, ?_⟩
    rw [Lane.holdupExpiry_of_open hopen hoff hsleep]
    exact ⟨hwent, hup, hdep, hstill.trans hopen⟩
  · exact fun ns hns => ⟨_, rfl, (s.lane l).resetnDown_wentOff hns⟩
  · intro v hopen hoff
    rw [← Lane.disconnectOpen_eq v hopen hoff]
    rfl
  · intro hopen hoff hsleep
    rw [← Lane.disconnectClose_running hopen hoff hsleep]
    rfl
  · exact ⟨(s.lane l).gateSupply true, rfl, rfl, fun n => Lane.gatesFree_of_gateLow rfl n⟩

/-! ## The end of a debug halt -/

theorem Lane.debugHaltEnd_of_halted {x : Lane} (h : x.start.halted) : x.debugHaltEnd =
    { x with start := { x.start with halted := false }
             pwm := x.pwm.mapFin fun _ w => { w with started := false, dither := 0, pos := 0, lenNow := 0 }
             leg := x.leg.mapFin fun _ y => { y with off := true } } := if_pos h

/-- A time base that has not started stays so at a boundary that is no valley, and where it does not run (R317). -/
theorem Lane.reload_unstarted {x : Lane} {n : AxisId} (ms : List LegMeas) (hs : (x.pwm.get n).started = false)
    (h : x.valleyNow n = false ∨ x.baseRuns n = false) : x.reload n ms = x := by
  refine if_pos ?_
  rcases h with h | h
  · simp [h, hs]
  · simp [h]

theorem Lane.foldl_adaptLeg_started (x : Lane) (is : List Nat) (m : Nat → Option LegMeas) (n : AxisId) :
    ((is.foldl (fun y i => y.adaptLeg i (m i)) x).pwm.get n).started = (x.pwm.get n).started :=
  foldl_keeps (fun y : Lane => (y.pwm.get n).started = (x.pwm.get n).started) _ (fun y i h => by rw [Lane.adaptLeg_started, h]) _ _ rfl

/-- What a valley does before the shadow registers are loaded: the legs of the axis end their off-time and are measured, and the period begins (R317, R320). -/
def Lane.beginPeriod (l : Lane) (n : AxisId) (ms : List LegMeas) : Lane :=
  let c := l.cfg
  let ls := c.legsOf l.id n.val
  let l := l.modLegs n fun i x => { l.refreshAt n i { x with off := x.off && c.hallpass n.val } with interlock := 0, off := false }
  let l := ls.foldl (fun l i => l.adaptLeg i ms[ls.idxOf i]?) l
  l.modPwm n fun w =>
    { w with dither := if w.started then (w.dither + 1) % 16 else 0, length := if w.started then w.lenNow else w.length
             lenNow := 0, pos := 0, started := true }

/-- The shadow registers of an axis come into force. -/
def Lane.loadShadows (l : Lane) (n : AxisId) : Lane :=
  let l := l.modPwm n fun w => { w with forced := w.forcedNext, applied := true }
  l.modLegs n fun i x => { x with duty := l.limitDuty n i x x.shadow }

/-- Under HALLPASS the pattern of the Hall state is put on the legs. -/
def Lane.loadHall (l : Lane) (n : AxisId) : Lane := ((l.readHall n).hallLoad n).hallApply n

/-- A reload point that is taken: the period begins at a valley, the shadow registers come into force, and the Hall pattern where the axis commutates by it. -/
theorem Lane.reload_eq {x : Lane} {n : AxisId} (ms : List LegMeas) (hrun : (x.pwm.get n).running) (hb : x.baseRuns n)
    (happ : (x.pwm.get n).applied = false) (hs : (x.pwm.get n).started ∨ x.valleyNow n)
    (hvalve : x.cfg.kind n.val ≠ .valve ∨ x.valleyNow n) :
    x.reload n ms =
      (fun y : Lane => if x.cfg.hallpass n.val then y.loadHall n else y)
        ((if x.valleyNow n then x.beginPeriod n ms else x).loadShadows n) := by
  refine if_neg ?_
  simp only [hrun, hb, happ, Bool.not_true, Bool.false_eq_true, false_or, not_or, not_and]
  constructor
  · intro hns hv
    simp_all
  · intro hk hv
    simp_all

theorem Lane.loadHall_started (x : Lane) (n : AxisId) :
    ((x.loadHall n).pwm.get n).started = (x.pwm.get n).started ∧ ((x.loadHall n).pwm.get n).dither = (x.pwm.get n).dither := by
  simp [Lane.loadHall, Lane.hallLoad, Lane.readHall, Lane.modPwm]

theorem Lane.loadShadows_started (x : Lane) (n : AxisId) :
    ((x.loadShadows n).pwm.get n).started = (x.pwm.get n).started ∧ ((x.loadShadows n).pwm.get n).dither = (x.pwm.get n).dither := by
  simp [Lane.loadShadows, Lane.modPwm]

theorem Lane.beginPeriod_first {x : Lane} {n : AxisId} (ms : List LegMeas) (hs : (x.pwm.get n).started = false) :
    ((x.beginPeriod n ms).pwm.get n).started = true ∧ ((x.beginPeriod n ms).pwm.get n).dither = 0 := by
  have hlegs (f : Nat → Leg → Leg) (is : List Nat) (m : Nat → Option LegMeas) :
      ((is.foldl (fun y i => y.adaptLeg i (m i)) (x.modLegs n f)).pwm.get n).started = false := by
    rw [Lane.foldl_adaptLeg_started, Lane.modLegs_pwm, hs]
  unfold Lane.beginPeriod
  simp only [Lane.modPwm, Tab.get_modify_self]
  refine ⟨trivial, ?_⟩
  rw [hlegs]
  rfl

/-- At its first valley a time base that runs starts with dither phase 0 (R317). -/
theorem Lane.reload_first_valley {x : Lane} {n : AxisId} (ms : List LegMeas) (hs : (x.pwm.get n).started = false)
    (hrun : (x.pwm.get n).running) (happ : (x.pwm.get n).applied = false) (hv : x.valleyNow n) (hb : x.baseRuns n) :
    ((x.reload n ms).pwm.get n).started = true ∧ ((x.reload n ms).pwm.get n).dither = 0 := by
  have hfirst := Lane.beginPeriod_first ms hs
  have hload := (x.beginPeriod n ms).loadShadows_started n
  rw [Lane.reload_eq ms hrun hb happ (.inr hv) (.inr hv), if_pos hv]
  dsimp only
  split
  · have hhall := ((x.beginPeriod n ms).loadShadows n).loadHall_started n
    exact ⟨hhall.1.trans (hload.1.trans hfirst.1), hhall.2.trans (hload.2.trans hfirst.2)⟩
  · exact ⟨hload.1.trans hfirst.1, hload.2.trans hfirst.2⟩

/-- Settles O14: `debugHaltEnd` puts each time base before its first valley, and `reload` starts it at the next one where it runs. -/
theorem debugHaltEndRestartsTheTimeBases : Obligations.DebugHaltEndRestartsTheTimeBases := by
  unfold Obligations.DebugHaltEndRestartsTheTimeBases
  rintro s l x rfl
  constructor
  · intro hh
    refine ⟨(s.lane l).debugHaltEnd, rfl, ?_⟩
    rw [Lane.debugHaltEnd_of_halted hh]
    exact ⟨rfl, rfl, fun n => Tab.get_mapFin _ _ _, fun i => Tab.get_mapFin _ _ _⟩
  · rintro w n ms rfl hs hrun happ
    constructor
    · intro h
      have hsame : (s.early l).reload n ms = s.early l := Lane.reload_unstarted ms hs h
      rw [← hsame]
      rfl
    · intro hv hb
      exact ⟨_, rfl, Lane.reload_first_valley ms hs hrun happ hv hb⟩

end Sys2Proof.Machine

/-! BOOT and SELFTEST decide the way of a lane (R59, R60, R62, R402, R556). -/

namespace Sys2Proof.Machine

/-! ## What a job that ends can reach -/

/-- A job's operations reach the job block, what it drives and reports, and the lane's stores: nothing of start-up, leases, feedback, configuration or the fabric. -/
def Lane.JobReach (x y : Lane) : Prop :=
  y = { x with gat := { x.gat with idPower := y.gat.idPower }, prof := y.prof, sup := y.sup, pwm := y.pwm, job := y.job, col := y.col, nvm := y.nvm } ∧
    ∀ r ∈ x.col.raised, r ∈ y.col.raised

theorem Lane.JobReach.refl (x : Lane) : x.JobReach x := ⟨rfl, fun _ h => h⟩

theorem Lane.JobReach.trans {x y z : Lane} (h : x.JobReach y) (h' : y.JobReach z) : x.JobReach z := by
  obtain ⟨hy, hr⟩ := h
  obtain ⟨hz, hr'⟩ := h'
  refine ⟨?_, fun r hrx => hr' r (hr r hrx)⟩
  rw [hz, hy]

theorem Lane.JobReach.start {x y : Lane} (h : x.JobReach y) : y.start = x.start := by rw [h.1]

theorem Lane.push_jobReach (x : Lane) (r : Raise) : x.JobReach (x.push r) :=
  ⟨rfl, fun _ h => List.mem_append_left _ h⟩

theorem Lane.modJob_jobReach (x : Lane) (j : Nat) (f : JobSt → JobSt) : x.JobReach (x.modJob j f) := by
  unfold Lane.modJob
  split
  · exact ⟨rfl, fun _ h => h⟩
  · exact Lane.JobReach.refl x

theorem Lane.jobTo_jobReach (x : Lane) (j st cause : Nat) : x.JobReach (x.jobTo j st cause) := by
  rw [Lane.jobTo_frame]
  exact ⟨rfl, fun _ h => h⟩

theorem Lane.request_jobReach (x : Lane) (n : AxisId) (r : ProfReq) (o : ReqBy) : x.JobReach (x.request n r o) := by
  unfold Lane.request
  split
  · exact Lane.JobReach.refl x
  · split
    · exact ⟨rfl, fun _ h => h⟩
    · exact ⟨rfl, fun _ h => h⟩

theorem Lane.stopJob_jobReach (x : Lane) : x.JobReach x.stopJob := by
  unfold Lane.stopJob
  split
  · split
    · exact x.request_jobReach _ _ _
    · exact Lane.JobReach.refl x
  · exact Lane.JobReach.refl x

theorem Lane.releaseJob_jobReach (x : Lane) : x.JobReach x.releaseJob := by
  have hstep (y : Lane) (h : x.JobReach y) : x.JobReach { y with
      gat := { y.gat with idPower := y.gat.idPower && y.start.state == .gather }
      job := { y.job with run := none, axis := 0xFF, writes := [], partner := false, partnerSusp := none } } :=
    h.trans ⟨rfl, fun _ h => h⟩
  refine hstep _ ?_
  split
  · split
    · exact x.stopJob_jobReach.trans ⟨rfl, fun _ h => h⟩
    · exact ⟨rfl, fun _ h => h⟩
  · exact Lane.JobReach.refl x

theorem Lane.raise_jobReach (x : Lane) (ev : Ev) (sub : Subject) (v : Int) : x.JobReach (x.raise ev sub v) := x.push_jobReach _

theorem Lane.failJob_jobReach (x : Lane) (j cause : Nat) : x.JobReach (x.failJob j cause) := by
  have hraise : x.JobReach (if j = 1 then x.raise .job020 (.axis x.job.axis) cause else x.raiseJob .job001 j cause) := by
    split
    · exact x.raise_jobReach _ _ _
    · exact x.push_jobReach _
  have hckpt (y : Lane) : y.JobReach (if j = 7 then y.clearSlotCkpt else y) := by
    split
    · exact ⟨rfl, fun _ h => h⟩
    · exact Lane.JobReach.refl y
  have hrelease (y : Lane) : y.JobReach (if y.job.run = some j then y.releaseJob else y) := by
    split
    · exact y.releaseJob_jobReach
    · exact Lane.JobReach.refl y
  exact ((hraise.trans (hckpt _)).trans (Lane.jobTo_jobReach _ j 7 cause)).trans (hrelease _)

theorem Lane.failRegather_jobReach (x : Lane) : x.JobReach ((x.raiseJob .job012 8 12).failJob 8 12) :=
  (x.push_jobReach _).trans (Lane.failJob_jobReach _ _ _)

/-- What the journal's note of a job does at boot. -/
theorem Lane.bootJob_jobReach (x : Lane) (k : JobCkpt) : x.JobReach (x.bootJob k) := by
  unfold Lane.bootJob
  dsimp only
  split
  · exact x.modJob_jobReach _ _
  · split
    · exact Lane.JobReach.refl x
    · split
      · exact Lane.JobReach.trans (y := { x with job := { x.job with run := some 7, axis := 0xFF } }) ⟨rfl, fun _ h => h⟩
          ((Lane.modJob_jobReach _ _ _).trans ⟨rfl, fun _ h => h⟩)
      · split
        · split
          · split
            · exact Lane.JobReach.trans (y := { x with job := { x.job with run := some 8, axis := 0xFF } }) ⟨rfl, fun _ h => h⟩
                ((Lane.modJob_jobReach _ _ _).trans ⟨rfl, fun _ h => h⟩)
            · refine Lane.JobReach.trans ?_ (Lane.failRegather_jobReach _)
              exact ⟨rfl, fun _ h => h⟩
          · refine Lane.JobReach.trans ?_ (Lane.failRegather_jobReach _)
            exact ⟨rfl, fun _ h => h⟩
        · split
          · exact (x.push_jobReach _).trans (Lane.jobTo_jobReach _ _ _ _)
          · exact x.failJob_jobReach _ _

theorem Lane.bootJobs_jobReach (x : Lane) : x.JobReach x.bootJobs :=
  foldl_keeps x.JobReach _ (fun y k h => h.trans (y.bootJob_jobReach k)) _ _ (Lane.JobReach.refl x)

/-! ## Boot -/

/-- The check of a stored item reaches the note of a fall-back and the events (R556). -/
def Lane.ItemsOnly (x y : Lane) : Prop :=
  y = { x with gat := y.gat, col := y.col } ∧ ∀ r ∈ x.col.raised, r ∈ y.col.raised

theorem Lane.ItemsOnly.trans {x y z : Lane} (h : x.ItemsOnly y) (h' : y.ItemsOnly z) : x.ItemsOnly z := by
  obtain ⟨hy, hr⟩ := h
  obtain ⟨hz, hr'⟩ := h'
  refine ⟨?_, fun r hrx => hr' r (hr r hrx)⟩
  rw [hz, hy]

theorem Lane.fellBack_itemsOnly (x : Lane) (lost : Bool) (item : Nat) : x.ItemsOnly (x.fellBack lost item) := by
  unfold Lane.fellBack
  split
  · exact ⟨rfl, fun _ h => List.mem_append_left _ h⟩
  · exact ⟨rfl, fun _ h => h⟩

theorem Lane.Raised.itemsOnly {x y : Lane} {ev : Ev} {ctx : Word} (h : x.Raised ev ctx) (hy : x.ItemsOnly y) : y.Raised ev ctx := by
  obtain ⟨r, hr, hev⟩ := h
  exact ⟨r, hy.2 r hr, hev⟩

theorem Lane.Raised.jobReach {x y : Lane} {ev : Ev} {ctx : Word} (h : x.Raised ev ctx) (hy : x.JobReach y) : y.Raised ev ctx := by
  obtain ⟨r, hr, hev⟩ := h
  exact ⟨r, hy.2 r hr, hev⟩

theorem Lane.fellBack_raised (x : Lane) {lost : Bool} (h : lost) (item : Nat) : (x.fellBack lost item).Raised .mem004 (ctxOf .none item) := by
  rw [Lane.fellBack, if_pos h]
  exact x.raise_raised _ _ _

/-- The state in which the boot code checks the journal: BENCH sampled, the recorded slot taken (R59). -/
def Lane.bootSlot (x : Lane) : Lane :=
  { x with start := { x.start with bench := x.start.benchPin, booted := true, slot := (x.nvm.slotRec.read {}).slot % 2 } }

/-- The items behind the first of the journal's check, in its order. -/
def Lane.checkItems (l : Lane) : Lane :=
  let l := l.fellBack l.nvm.slotRec.lost 3
  let l := l.fellBack l.nvm.areas.lost 4
  let l := l.fellBack l.nvm.key.lost 5
  let l := l.fellBack (l.nvm.recoveries.lost || l.nvm.ignition.lost) 6
  let l := l.fellBack l.nvm.latches.lost 7
  let l := l.fellBack (l.nvm.job.lost || l.nvm.regather.lost) 21
  let l := l.nvm.cals.foldl (fun l c => l.fellBack c.lost 1) l
  allAxes.foldl (fun l n => l.fellBack (l.nvm.theta.get n).lost 1) l

theorem Lane.bootStart_eq {x : Lane} (hs : x.start.state = .boot) (hb : x.start.booted = false) :
    x.bootStart = (x.bootSlot.fellBack x.nvm.confirmed.lost 2).checkItems := by
  refine if_neg ?_
  simp [hs, hb]

/-- The items behind the key, in the order of the journal's check. -/
theorem Lane.checkItems_behind_key (x : Lane) : ∃ y, x.ItemsOnly y ∧ (y.fellBack x.nvm.key.lost 5).ItemsOnly x.checkItems := by
  have h := (x.fellBack_itemsOnly x.nvm.slotRec.lost 3).trans (Lane.fellBack_itemsOnly _ (x.fellBack x.nvm.slotRec.lost 3).nvm.areas.lost 4)
  have hfold {α : Type} (f : Lane → α → Bool) (as : List α) (y z : Lane) (hz : y.ItemsOnly z) :
      y.ItemsOnly (as.foldl (fun l a => l.fellBack (f l a) 1) z) :=
    foldl_keeps y.ItemsOnly (fun l a => l.fellBack (f l a) 1) (fun w a hw => hw.trans (w.fellBack_itemsOnly _ _)) as z hz
  refine ⟨_, h, ?_⟩
  have hkey : x.nvm.key.lost = ((x.fellBack x.nvm.slotRec.lost 3).fellBack (x.fellBack x.nvm.slotRec.lost 3).nvm.areas.lost 4).nvm.key.lost := by
    rw [h.1]
  rw [hkey]
  exact hfold (fun l n => (l.nvm.theta.get n).lost) _ _ _ (hfold (fun _ (c : NvItem CalCopy) => c.lost) _ _ _
    (((Lane.fellBack_itemsOnly _ _ 6).trans (Lane.fellBack_itemsOnly _ _ 7)).trans (Lane.fellBack_itemsOnly _ _ 21)))

theorem Lane.checkItems_itemsOnly (x : Lane) : x.ItemsOnly x.checkItems := by
  obtain ⟨y, hy, hz⟩ := x.checkItems_behind_key
  exact (hy.trans (y.fellBack_itemsOnly _ _)).trans hz

theorem Lane.boot_eq {x : Lane} (hs : x.start.state = .boot) (hb : x.start.booted = false) :
    x.bootStart.bootJobs.start = x.bootSlot.start ∧ (x.nvm.confirmed.lost → x.bootStart.bootJobs.Raised .mem004 (ctxOf .none 2)) ∧
      (x.nvm.key.lost → x.bootStart.bootJobs.Raised .mem004 (ctxOf .none 5)) ∧
      (x.nvm.job.read [] = [] → x.bootStart.bootJobs =
        { x with start := x.bootStart.bootJobs.start, gat := x.bootStart.bootJobs.gat, col := x.bootStart.bootJobs.col }) := by
  have hfirst := x.bootSlot.fellBack_itemsOnly x.nvm.confirmed.lost 2
  have hrest := (x.bootSlot.fellBack x.nvm.confirmed.lost 2).checkItems_itemsOnly
  have hitems : x.bootSlot.ItemsOnly x.bootStart := by
    rw [Lane.bootStart_eq hs hb]
    exact hfirst.trans hrest
  have hjobs := x.bootStart.bootJobs_jobReach
  refine ⟨?_, fun hlost => ?_, fun hlost => ?_, fun hnone => ?_⟩
  · rw [hjobs.start, hitems.1]
  · refine Lane.Raised.jobReach ?_ hjobs
    rw [Lane.bootStart_eq hs hb]
    exact (Lane.fellBack_raised _ hlost 2).itemsOnly hrest
  · refine Lane.Raised.jobReach ?_ hjobs
    obtain ⟨y, -, hy⟩ := (x.bootSlot.fellBack x.nvm.confirmed.lost 2).checkItems_behind_key
    rw [Lane.bootStart_eq hs hb]
    refine Lane.Raised.itemsOnly (Lane.fellBack_raised _ ?_ 5) hy
    rw [hfirst.1]
    exact hlost
  · have hsame : x.bootStart.bootJobs = x.bootStart := by
      unfold Lane.bootJobs
      rw [hitems.1]
      dsimp only [Lane.bootSlot]
      rw [hnone]
      rfl
    rw [hsame, hitems.1]
    rfl

theorem Lane.signatureDone_idle {x : Lane} (h : x.start.booted = false ∨ x.start.bootHeld) : x.signatureDone = x := by
  refine if_pos ?_
  rcases h with h | h <;> simp [h]

section

variable {x : Lane} (hs : x.start.state = .boot) (hb : x.start.booted) (hheld : x.start.bootHeld = false)
include hs hb hheld

/-- A good slot leads to SELFTEST. -/
theorem Lane.signatureDone_good (hgood : packageValid x.nvm.bootKey (x.slotMem x.start.slot)) (htried : x.start.triedOther = false) :
    x.signatureDone = { x with start := { x.start with state := .selftest, inState := 0 } } := by
  simp [Lane.signatureDone, hs, hb, hheld, hgood, htried, Lane.goto]

/-- A good other slot is recorded, with MEM-001. -/
theorem Lane.signatureDone_other (hgood : packageValid x.nvm.bootKey (x.slotMem x.start.slot)) (htried : x.start.triedOther) :
    x.signatureDone = { x.raise .mem001 .none ((1 - x.start.slot : Nat) : Int) with
      start := { x.start with state := .selftest, inState := 0 }
      nvm := { x.nvm with slotRec := x.nvm.slotRec.write { x.nvm.slotRec.read {} with slot := x.start.slot } } } := by
  simp [Lane.signatureDone, hs, hb, hheld, hgood, htried, Lane.goto]

/-- A failed slot leads to the other one. -/
theorem Lane.signatureDone_failed (hbad : packageValid x.nvm.bootKey (x.slotMem x.start.slot) = false) (htried : x.start.triedOther = false) :
    x.signatureDone = { x with start := { x.start with slot := 1 - x.start.slot, triedOther := true } } := by
  simp [Lane.signatureDone, hs, hb, hheld, hbad, htried]

theorem Lane.signatureDone_both_failed (hbad : packageValid x.nvm.bootKey (x.slotMem x.start.slot) = false) (htried : x.start.triedOther) :
    x.signatureDone = ((Lane.raise { x with start := { x.start with bootHeld := true } } .mem002 .none 0).collect).writeJournal := by
  simp [Lane.signatureDone, hs, hb, hheld, hbad, htried]

end

theorem Lane.Records.writeJournal {x : Lane} {ev : Ev} {ctx : Word} (h : x.Records ev ctx) : x.writeJournal.Records ev ctx := h

/-- MEM-002 is of L3 or L4 and holds the lane in BOOT: neither start-up state nor leases change (R60, R402). -/
theorem Lane.recordOne_mem002 (x : Lane) {r : Raise} (hev : r.ev = .mem002) (hlv : r.level = none) :
    (x.recordOne r).start = x.start ∧ (x.recordOne r).lease = x.lease := by
  have hown : x.ownLevel r = .l3 := by simp [Lane.ownLevel, hev, hlv, Ev.level]
  have hlevel : x.raisedLevel r = .l3 ∨ x.raisedLevel r = .l4 := by
    simp only [Lane.raisedLevel, hown]
    split
    · exact .inl rfl
    · split
      · exact .inr rfl
      · exact .inl rfl
  unfold Lane.recordOne
  rcases hlevel with h | h <;> simp [h, hev]

theorem Lane.collect_mem002 (x : Lane) (h : x.col.raised = []) :
    ((x.raise .mem002 .none 0).collect).writeJournal.start = x.start ∧ ((x.raise .mem002 .none 0).collect).writeJournal.lease = x.lease := by
  have hone : ordered (x.raise .mem002 .none 0).col.raised = [{ ev := .mem002, subj := .none, ctx := ctxOf .none 0, clk := x.now }] := by
    simp [Lane.raise, Lane.push, h, ordered, insertRaise]
  have hcollect : ((x.raise .mem002 .none 0).collect).start = x.start ∧ ((x.raise .mem002 .none 0).collect).lease = x.lease := by
    unfold Lane.collect
    rw [hone]
    exact Lane.recordOne_mem002 _ rfl rfl
  exact hcollect

/-! ## Self-test -/

theorem Lane.toSafe_inSafe (x : Lane) (lv : Level) : (x.toSafe lv).InSafe := by
  refine ⟨rfl, rfl, rfl, fun n => ?_⟩
  unfold Lane.toSafe Lane.clearCounters Lane.mapAx Lane.ax
  dsimp only
  rw [Tab.get_mapFin]
  exact ⟨rfl, rfl⟩

/-- A failed test is recorded and puts the lane into SAFE (R62). -/
theorem Lane.selftestFailed_safe (x : Lane) (ev : Ev) (sub : Subject) (v : Int) :
    (x.selftestFailed ev sub v).InSafe ∧ (x.selftestFailed ev sub v).Records ev (ctxOf sub v) :=
  ⟨Lane.toSafe_inSafe _ _, Lane.collect_records _ (x.raise_raised ev sub v)⟩

theorem Lane.selftestDone_eq {x : Lane} (hs : x.start.state = .selftest) (r : SelfTest) : x.selftestDone r =
    match r with
    | .pass => { x with start := { x.start with state := .gather, inState := 0 }, gat := { x.gat with imageState := 1, idPower := true } }
    | .logic t => x.selftestFailed .cor001 .none t
    | .memory a => x.selftestFailed .mem003 .none a
    | .offState g => x.selftestFailed .pwr001 (.leg g) 0
    | .selfTrip g h => x.selftestFailed .pwr002 (.leg g) (b2i h)
    | .adcReference d => x.selftestFailed .sup001 .none d := by
  unfold Lane.selftestDone
  rw [if_neg (by simp [hs])]
  cases r <;> rfl

/-- Settles O15: the boot's two steps on the slots (`boot_eq`, `signatureDone_*`) and the verdict of the self-tests (`selftestDone_eq`). -/
theorem bootAndSelfTestDecideTheWay : Obligations.BootAndSelfTestDecideTheWay := by
  unfold Obligations.BootAndSelfTestDecideTheWay
  constructor
  · rintro s l x rfl hs
    refine ⟨fun hb => ⟨_, rfl, Lane.boot_eq hs hb⟩, fun hb hheld ok => ⟨?_, ?_, ?_, ?_⟩, fun h ok => ?_⟩
    · intro hgood htried
      rw [← Lane.signatureDone_good hs hb hheld hgood htried]
      rfl
    · intro hgood htried
      refine ⟨(s.lane l).signatureDone, rfl, ?_⟩
      rw [Lane.signatureDone_other hs hb hheld hgood htried]
      exact ⟨rfl, Lane.raise_raised _ _ _ _, rfl, rfl⟩
    · intro hbad htried
      rw [← Lane.signatureDone_failed hs hb hheld hbad htried]
      rfl
    · intro hbad htried
      refine ⟨(s.lane l).signatureDone, rfl, ?_⟩
      rw [Lane.signatureDone_both_failed hs hb hheld hbad htried]
      exact ⟨(Lane.collect_records _ (Lane.raise_raised _ _ _ _)).writeJournal, fun h =>
        Lane.collect_mem002 { s.lane l with start := { (s.lane l).start with bootHeld := true } } h⟩
    · have hsame : (s.lane l).signatureDone = s.lane l := Lane.signatureDone_idle h
      rw [← hsame]
      rfl
  · rintro s l x rfl hs
    have hexec (r : SelfTest) : exec (.selftestDone l r) s = .next (s.withLane l ((s.lane l).selftestDone r)) := rfl
    refine ⟨?_, ?_, ?_, ?_, ?_, ?_⟩
    · rw [hexec, Lane.selftestDone_eq hs]
    · intro t
      exact ⟨_, by rw [hexec, Lane.selftestDone_eq hs], Lane.selftestFailed_safe _ _ _ _⟩
    · intro a
      exact ⟨_, by rw [hexec, Lane.selftestDone_eq hs], Lane.selftestFailed_safe _ _ _ _⟩
    · intro g
      exact ⟨_, by rw [hexec, Lane.selftestDone_eq hs], Lane.selftestFailed_safe _ _ _ _⟩
    · intro g h
      exact ⟨_, by rw [hexec, Lane.selftestDone_eq hs], Lane.selftestFailed_safe _ _ _ _⟩
    · intro d
      exact ⟨_, by rw [hexec, Lane.selftestDone_eq hs], Lane.selftestFailed_safe _ _ _ _⟩

end Sys2Proof.Machine

/-! GATHER takes, rejects or activates an image (R63, R88, R102, R104, R108, R543). -/

namespace Sys2Proof.Machine

/-! ## Taking an image -/

theorem Lane.raiseTags_itemsOnly (x : Lane) (ts : List TagResult) :
    x.raiseTags ts = { x with col := { x.col with raised := (x.raiseTags ts).col.raised } } ∧
      ∀ r ∈ x.col.raised, r ∈ (x.raiseTags ts).col.raised := by
  refine foldl_keeps (fun y : Lane => y = { x with col := { x.col with raised := y.col.raised } } ∧ ∀ r ∈ x.col.raised, r ∈ y.col.raised)
    _ ?_ ts x ⟨rfl, fun _ h => h⟩
  rintro y t ⟨hy, hr⟩
  dsimp only
  split
  · refine ⟨?_, fun r h => List.mem_append_left _ (hr r h)⟩
    rw [hy]
    rfl
  · exact ⟨hy, hr⟩

/-- The lane with an image's configuration in force and its parts as at the start, before the tags' events are raised. -/
def Lane.takeParts (l : Lane) (g : Gathered) (raised : Bool) : Lane :=
  let c := g.cfg
  let ts := g.tags
  let slots (n : Nat) : List (Option TagResult) := (List.range 3).map fun s => tagOf ts (inst 0x10000030 n + 0x10 * s)
  let rec_ := if g.img.head.flags.testBit 0 then some (BitVec.ofNat 32 g.img.head.predecessor) else none
  let l := { l with gat :=
    { imageState := 2, cause := 0, sealVal := BitVec.ofNat 32 g.img.head.sealVal, cfg := c, fellBack := l.gat.fellBack || raised
      predecessor := rec_, idPower := l.gat.idPower
      tagStat := Tab.ofFn fun n => tagStatOf ts n.val
      ids := tagOwners.map fun o =>
        let k := o / 0x10000
        let up : Bool := if k / 0x100 = 0x10 then !c.absentOn l.id ts (k % 0x100) else c.ownerHw o l.id.code && !unavailable ts k
        if up then some (idDigest ts o) else none
      tags := Tab.ofFn fun n => (slots n.val).map fun (r : Option TagResult) => r.bind (·.tag)
      calJournal := Tab.ofFn fun n => (slots n.val).map fun (r : Option TagResult) => match r with | some t => t.journal | none => false
      sensorBad := Tab.ofFn fun i => unavailable ts (if i.val = 0 then 0x2001 else 0x2100 + i.val)
      sensorTags := Tab.ofFn fun i => (tagOf ts (if i.val = 0 then 0x20010030 else inst 0x21000030 i.val)).bind (·.tag)
      valveCurve := Tab.ofFn fun n => if c.kind n.val = AxisKind.valve then valvePoints ts n.val else none
      engineCalc := g.engine
      treact := Tab.ofFn fun k => c.reaction l.id (k.val + 1) } }
  let l := l.freshParts fun n => c.startOrigin ts n.val
  let l := { l with tick := { l.tick with loadMax := 0, loadCalc := g.load } }
  l.mapAx fun n a => { a with absentHw := c.absentOn l.id ts n.val }

/-- The blocks that start with the image. -/
def Lane.startBlocks (l : Lane) : Lane :=
  let l := { l with can := { l.can with
    ctl := l.can.ctl.mapFin fun _ x => { err := x.err, tec := x.tec, rec_ := x.rec_, names := x.names }
    resetDue := false, distance := 0 }, job := { l.job with params := [] } }
  (l.startSources.freshFab).freshCar

theorem Lane.takeImage_eq (x : Lane) (g : Gathered) (raised : Bool) :
    x.takeImage g raised = ((x.takeParts g raised).raiseTags g.tags).startBlocks := rfl

/-- What an accepted image leaves: its configuration and seal in force; start-up state and stores stay, and the events raised before are kept. -/
theorem Lane.takeImage_keeps (x : Lane) (g : Gathered) (raised : Bool) :
    let y := x.takeImage g raised
    y.gat.imageState = 2 ∧ y.gat.cause = 0 ∧ y.gat.cfg = g.cfg ∧ y.gat.sealVal = BitVec.ofNat 32 g.img.head.sealVal ∧ y.nvm = x.nvm ∧
      y.start = x.start ∧ ∀ r ∈ x.col.raised, r ∈ y.col.raised := by
  obtain ⟨htags, hraised⟩ := (x.takeParts g raised).raiseTags_itemsOnly g.tags
  have hgat : (x.takeImage g raised).gat = (x.takeParts g raised).gat := by
    rw [Lane.takeImage_eq, htags]
    rfl
  have hnvm : (x.takeImage g raised).nvm = (x.takeParts g raised).nvm := by
    rw [Lane.takeImage_eq, htags]
    rfl
  have hstart : (x.takeImage g raised).start = (x.takeParts g raised).start := by
    rw [Lane.takeImage_eq, htags]
    rfl
  have hcol : (x.takeImage g raised).col = ((x.takeParts g raised).raiseTags g.tags).col := rfl
  dsimp only
  rw [hgat, hnvm, hstart, hcol]
  exact ⟨rfl, rfl, rfl, rfl, rfl, rfl, hraised⟩

/-! ## The verdicts of GATHER -/

/-- A lane with an accepted image goes on: to ALIGN where its seal is confirmed, else to UNSEALED. -/
def Lane.leaveGather (l : Lane) : Lane :=
  let l := { l with gat := { l.gat with idPower := false } }
  if l.nvm.confirmed.read? = some l.gat.sealVal then
    let l := ((l.goto .align).alignSources).fabAlign
    { l with start := { l.start with discovered := false, digestsDone := false, equalSeal := false, outvoted := false, cfg020 := false, tim008 := false } }
  else l.goto .unsealed

theorem Lane.leaveGather_keeps (x : Lane) :
    let y := x.leaveGather
    y.gat = { x.gat with idPower := false } ∧ y.nvm = x.nvm ∧ y.col = x.col ∧
      y.start.state = if x.nvm.confirmed.read? = some x.gat.sealVal then LState.align else .unsealed := by
  unfold Lane.leaveGather
  dsimp only
  split <;> exact ⟨rfl, rfl, rfl, rfl⟩

/-- A rejected image leaves the lane in GATHER with the event of the check. -/
def Lane.imageRejected (l : Lane) (r : Rejected) : Lane :=
  let l := (l.raiseTags r.tags).raiseWord (cfgEvent r.why.code) r.why.ctx
  { l with gat := { imageState := 3, cause := r.why.code, fellBack := l.gat.fellBack, idPower := l.gat.idPower } }

theorem Lane.imageRejected_keeps (x : Lane) (r : Rejected) :
    let y := x.imageRejected r
    y = { x with col := { x.col with raised := y.col.raised }, gat := y.gat } ∧ y.gat.imageState = 3 ∧ y.gat.cause = r.why.code ∧
      y.Raised (cfgEvent r.why.code) (BitVec.ofNat 32 (toField 32 r.why.ctx)) ∧ ∀ q ∈ x.col.raised, q ∈ y.col.raised := by
  obtain ⟨htags, hraised⟩ := x.raiseTags_itemsOnly r.tags
  refine ⟨?_, rfl, rfl, ?_, fun q hq => List.mem_append_left _ (hraised q hq)⟩
  · unfold Lane.imageRejected
    rw [htags]
    rfl
  · exact ⟨_, List.mem_append_right _ (List.mem_singleton_self _), rfl, rfl⟩

/-- The verdict on the active area. -/
def Lane.readActive (l : Lane) (area : Nat) (bus : IdBus) : Lane :=
  match l.gatherArea area bus with
  | .ok g => (l.takeImage g false).leaveGather
  | .error r => l.imageRejected r

theorem Lane.readActive_ok {x : Lane} {area : Nat} {bus : IdBus} {g : Gathered} (h : x.gatherArea area bus = .ok g) :
    x.readActive area bus = (x.takeImage g false).leaveGather := by
  rw [Lane.readActive, h]

theorem Lane.readActive_error {x : Lane} {area : Nat} {bus : IdBus} {r : Rejected} (h : x.gatherArea area bus = .error r) :
    x.readActive area bus = x.imageRejected r := by
  rw [Lane.readActive, h]

/-- An accepted image, as the lane leaves GATHER with it. -/
theorem Lane.accepted_keeps (x : Lane) (g : Gathered) :
    let y := (x.takeImage g false).leaveGather
    y.gat.imageState = 2 ∧ y.gat.cause = 0 ∧ y.gat.cfg = g.cfg ∧ y.gat.sealVal = BitVec.ofNat 32 g.img.head.sealVal ∧ y.gat.idPower = false ∧
      y.nvm = x.nvm ∧ y.start.state = (if x.nvm.confirmed.read? = some (BitVec.ofNat 32 g.img.head.sealVal) then LState.align else .unsealed) ∧
      ∀ r ∈ x.col.raised, r ∈ y.col.raised := by
  obtain ⟨hstate, hcause, hcfg, hseal, hnvm, -, hraised⟩ := x.takeImage_keeps g false
  obtain ⟨hgat, hnvm', hcol, hgoes⟩ := (x.takeImage g false).leaveGather_keeps
  dsimp only
  rw [hgat, hnvm', hcol, hgoes, hnvm, hseal]
  exact ⟨hstate, hcause, hcfg, rfl, rfl, rfl, rfl, hraised⟩

/-- Whatever the verdict on the active area: the stores stay, the events raised before are kept, and the lane is in one of the three states. -/
theorem Lane.readActive_keeps {x : Lane} (hs : x.start.state = .gather) (area : Nat) (bus : IdBus) :
    let y := x.readActive area bus
    y.nvm = x.nvm ∧ (∀ r ∈ x.col.raised, r ∈ y.col.raised) ∧
      (y.start.state = .align ∨ y.start.state = .unsealed ∨ y.start.state = .gather ∧ y.gat.imageState = 3) := by
  dsimp only
  cases h : x.gatherArea area bus with
  | ok g =>
    obtain ⟨-, -, -, -, -, hnvm, hgoes, hraised⟩ := x.accepted_keeps g
    rw [Lane.readActive_ok h]
    refine ⟨hnvm, hraised, ?_⟩
    rw [hgoes]
    split
    · exact .inl rfl
    · exact .inr (.inl rfl)
  | error r =>
    obtain ⟨hall, hstate, -, -, hraised⟩ := x.imageRejected_keeps r
    rw [Lane.readActive_error h]
    refine ⟨by rw [hall], hraised, .inr (.inr ⟨?_, hstate⟩)⟩
    rw [hall]
    exact hs

/-- A pending image that is refused is cleared with CFG-011 before the active area is read (R104, R543). -/
def Lane.rejectPending (l : Lane) (ar : Areas) (rg : Bool) (bus : IdBus) (code : Nat) : Lane :=
  let l := { l with
    nvm := { l.nvm with areas := l.nvm.areas.write { active := ar.active, pending := false } }
    job := if rg then { l.job with rg := { l.job.rg with back := some 18 } } else l.job }
  (l.raiseWord .cfg011 code).readActive ar.active bus

theorem Lane.rejectPending_keeps {x : Lane} (hs : x.start.state = .gather) (ar : Areas) (rg : Bool) (bus : IdBus) (code : Nat) :
    let y := x.rejectPending ar rg bus code
    y.Raised .cfg011 (BitVec.ofNat 32 (toField 32 code)) ∧
      y.nvm = { x.nvm with areas := x.nvm.areas.write { active := ar.active, pending := false } } ∧
      (y.start.state = .align ∨ y.start.state = .unsealed ∨ y.start.state = .gather ∧ y.gat.imageState = 3) := by
  obtain ⟨hnvm, hraised, hstates⟩ := Lane.readActive_keeps (x := Lane.raiseWord { x with
    nvm := { x.nvm with areas := x.nvm.areas.write { active := ar.active, pending := false } }
    job := if rg then { x.job with rg := { x.job.rg with back := some 18 } } else x.job } .cfg011 code) hs ar.active bus
  exact ⟨⟨_, hraised _ (List.mem_append_right _ (List.mem_singleton_self _)), rfl, rfl⟩, hnvm, hstates⟩

/-- The journal with the pending area made active, and its seal confirmed where a REGATHER ordered it (R88, R543). -/
def Lane.activatePending (l : Lane) (ar : Areas) (rg : Bool) (g : Gathered) : Lane :=
  { l with nvm := { l.nvm with
    areas := l.nvm.areas.write { active := 1 - ar.active, pending := false }
    confirmed := if rg then l.nvm.confirmed.write (BitVec.ofNat 32 g.img.head.sealVal) else l.nvm.confirmed } }

theorem Lane.gatherDone_idle {x : Lane} (bus : IdBus) (h : x.start.state ≠ .gather ∨ x.gat.imageState ≠ 1) : x.gatherDone bus = x := if_pos h

section

variable {x : Lane} (hs : x.start.state = .gather) (hi : x.gat.imageState = 1)
include hs hi

theorem Lane.gatherDone_active (bus : IdBus) (hp : (x.nvm.areas.read {}).pending = false) :
    x.gatherDone bus = x.readActive (x.nvm.areas.read {}).active bus := by
  have h : ¬(x.start.state ≠ .gather ∨ x.gat.imageState ≠ 1) := by simp [hs, hi]
  have h' : (!(x.nvm.areas.read {}).pending) = true := by simp [hp]
  exact (if_neg h).trans (if_pos h')

theorem Lane.gatherDone_refused {bus : IdBus} (hp : (x.nvm.areas.read {}).pending) {r : Rejected}
    (hr : x.gatherArea (1 - (x.nvm.areas.read {}).active) bus = .error r) :
    x.gatherDone bus = (x.raiseTags r.tags).rejectPending (x.nvm.areas.read {}) (x.nvm.regather.read none).isSome bus r.why.code := by
  have h : ¬(x.start.state ≠ .gather ∨ x.gat.imageState ≠ 1) := by simp [hs, hi]
  have h' : ¬(!(x.nvm.areas.read {}).pending) = true := by simp [hp]
  refine (if_neg h).trans ((if_neg h').trans ?_)
  rw [hr]
  rfl

theorem Lane.gatherDone_not_kept {bus : IdBus} (hp : (x.nvm.areas.read {}).pending) {g : Gathered}
    (hg : x.gatherArea (1 - (x.nvm.areas.read {}).active) bus = .ok g) (hrg : (x.nvm.regather.read none).isSome)
    (hk : x.regatherKeeps g (x.nvm.areas.read {}).active = false) :
    x.gatherDone bus = x.rejectPending (x.nvm.areas.read {}) (x.nvm.regather.read none).isSome bus (Config.unnamedCause 2) := by
  have h : ¬(x.start.state ≠ .gather ∨ x.gat.imageState ≠ 1) := by simp [hs, hi]
  have h' : ¬(!(x.nvm.areas.read {}).pending) = true := by simp [hp]
  refine (if_neg h).trans ((if_neg h').trans ?_)
  rw [hg]
  exact if_pos (by simp [hrg, hk])

theorem Lane.gatherDone_activated {bus : IdBus} (hp : (x.nvm.areas.read {}).pending) {g : Gathered}
    (hg : x.gatherArea (1 - (x.nvm.areas.read {}).active) bus = .ok g)
    (hk : (x.nvm.regather.read none).isSome → x.regatherKeeps g (x.nvm.areas.read {}).active) :
    x.gatherDone bus = ((x.activatePending (x.nvm.areas.read {}) (x.nvm.regather.read none).isSome g).takeImage g false).leaveGather := by
  have h : ¬(x.start.state ≠ .gather ∨ x.gat.imageState ≠ 1) := by simp [hs, hi]
  have h' : ¬(!(x.nvm.areas.read {}).pending) = true := by simp [hp]
  refine (if_neg h).trans ((if_neg h').trans ?_)
  rw [hg]
  exact if_neg (by simpa using hk)

end

/-- Settles O16: the verdict on the active area (`readActive`), and before it the one on a pending area (`gatherDone_*`). -/
theorem gatherTakesRejectsOrActivatesAnImage : Obligations.GatherTakesRejectsOrActivatesAnImage := by
  unfold Obligations.GatherTakesRejectsOrActivatesAnImage
  have hexec (s : State) (l : LaneId) (bus : IdBus) : exec (.gatherDone l bus) s = .next (s.withLane l ((s.lane l).gatherDone bus)) := rfl
  constructor
  · rintro s l x bus rfl
    refine ⟨fun h => ?_, fun hs hi hp => ⟨fun g hg => ?_, fun r hr => ?_⟩⟩
    · rw [hexec, Lane.gatherDone_idle bus h]
    · obtain ⟨hstate, hcause, hcfg, hseal, hpower, hnvm, hgoes, -⟩ := (s.lane l).accepted_keeps g
      refine ⟨_, hexec s l bus, ?_⟩
      rw [Lane.gatherDone_active hs hi bus hp, Lane.readActive_ok hg]
      exact ⟨hstate, hcause, hcfg, hseal, hpower, hnvm, hgoes⟩
    · obtain ⟨hall, hstate, hcause, hev, -⟩ := (s.lane l).imageRejected_keeps r
      refine ⟨_, hexec s l bus, ?_⟩
      rw [Lane.gatherDone_active hs hi bus hp, Lane.readActive_error hr]
      exact ⟨by rw [hall]; exact hs, hev, hstate, hcause, hall⟩
  · rintro s l x bus rfl hs hi hp act rg back
    refine ⟨fun g hg hk => ?_, fun g hg hrg hk => ?_, fun r hr => ?_⟩
    · obtain ⟨hstate, -, hcfg, -, -, hnvm, hgoes, -⟩ := ((s.lane l).activatePending ((s.lane l).nvm.areas.read {}) rg g).accepted_keeps g
      refine ⟨_, hexec s l bus, ?_⟩
      rw [Lane.gatherDone_activated hs hi hp hg hk, hnvm]
      exact ⟨hstate, hcfg, rfl, rfl, rfl, hgoes⟩
    · refine ⟨_, hexec s l bus, ?_⟩
      rw [Lane.gatherDone_not_kept hs hi hp hg hrg hk]
      exact Lane.rejectPending_keeps hs _ _ bus _
    · obtain ⟨htags, -⟩ := (s.lane l).raiseTags_itemsOnly r.tags
      have hs' : ((s.lane l).raiseTags r.tags).start.state = .gather := by
        rw [htags]
        exact hs
      obtain ⟨hev, hnvm, hstates⟩ := Lane.rejectPending_keeps hs' ((s.lane l).nvm.areas.read {}) rg bus r.why.code
      refine ⟨_, hexec s l bus, ?_⟩
      rw [Lane.gatherDone_refused hs hi hp hr]
      refine ⟨hev, hnvm.trans ?_, hstates⟩
      rw [htags]

end Sys2Proof.Machine

/-! Power-down, sleep and the end of LISTEN (R78 to R82, R119, R247, R391, R409). -/

namespace Sys2Proof.Machine

/-- What a fold over places leaves at one of them, where each step changes its own place alone: what the step of that place makes of it. -/
theorem foldl_at {ι β γ : Type} (P : β → Prop) (f : β → ι → β) (g : β → ι → γ) (hP : ∀ y i, P y → P (f y i))
    (hg : ∀ y i j, j ≠ i → g (f y i) j = g y j) (is : List ι) (x : β) (hx : P x) (hn : is.Nodup) {j : ι} (hj : j ∈ is) :
    ∃ y, P y ∧ g y j = g x j ∧ g (is.foldl f x) j = g (f y j) j := by
  induction is generalizing x with
  | nil => exact absurd hj List.not_mem_nil
  | cons i is ih =>
    obtain ⟨hi, hn⟩ := List.nodup_cons.mp hn
    have hrest (z : β) (h : j ∉ is) : g (is.foldl f z) j = g z j :=
      List.foldlRecOn (motive := fun y => g y j = g z j) is f rfl fun y hy k hk => (hg y k j (fun e => h (e ▸ hk))).trans hy
    rw [List.foldl_cons]
    by_cases hji : j = i
    · subst hji
      exact ⟨x, hx, rfl, hrest _ hi⟩
    · obtain ⟨y, hy, hsame, hlast⟩ := ih (f x i) (hP x i hx) hn ((List.mem_cons.mp hj).resolve_left hji)
      exact ⟨y, hy, hsame.trans (hg x i j hji), hlast⟩

theorem allAxes_nodup : allAxes.Nodup := List.nodup_finRange 12
theorem mem_allAxes (n : AxisId) : n ∈ allAxes := List.mem_finRange n

/-! ## Disagreeing wake demand -/

theorem Lane.wakeDisagree_idle {x : Lane} (h : ∀ p ∈ x.id.others, x.start.wakeRun.get p < 40 ∨ x.start.opr001.get p) :
    x.wakeDisagree = x := by
  refine if_pos (List.filter_eq_nil_iff.mpr fun p hp => ?_)
  rcases h p hp with h | h
  · simp [Nat.not_le.mpr h]
  · simp [h]

theorem Lane.mem_wakeDue {x : Lane} {p : LaneId} (hp : p ∈ x.id.others) :
    x.wakeDue.contains p = (decide (40 ≤ x.start.wakeRun.get p) && !x.start.opr001.get p) := by
  rw [Bool.eq_iff_iff]
  simp [Lane.wakeDue, hp]

theorem Lane.wakeDisagree_raises {x : Lane} (h : ∃ p ∈ x.id.others, 40 ≤ x.start.wakeRun.get p ∧ x.start.opr001.get p = false) :
    let y := x.wakeDisagree
    y.Raised .opr001 (ctxOf .none (b2i x.start.ign + 2 * b2i x.start.wake)) ∧
      (∀ p ∈ x.id.others, y.start.opr001.get p = (x.start.opr001.get p || decide (40 ≤ x.start.wakeRun.get p))) ∧
      y = { x with start := { x.start with opr001 := y.start.opr001 }, col := { x.col with raised := y.col.raised } } := by
  obtain ⟨p, hp, hrun, hnew⟩ := h
  have hdue : x.wakeDue ≠ [] := by
    refine List.ne_nil_of_mem (a := p) ?_
    simp [Lane.wakeDue, hp, hrun, hnew]
  have heq : x.wakeDisagree = { x.raise .opr001 .none (b2i x.start.ign + 2 * b2i x.start.wake) with
      start := { x.start with opr001 := x.start.opr001.mapL fun p b => b || x.wakeDue.contains p } } := if_neg hdue
  rw [heq]
  refine ⟨x.raise_raised _ _ _, fun q hq => ?_, rfl⟩
  dsimp only
  rw [PerLane.get_mapL, Lane.mem_wakeDue hq]
  cases x.start.opr001.get q <;> simp

/-! ## Power-down -/

/-- The lanes whose quiet time counts towards power-down: the lane itself and those it saw in OPERATE (R79). -/
def Lane.quietLanes (x : Lane) : Nat :=
  b2n (decide (200000 ≤ x.start.quietOwn)) + ((x.id.others.filter x.sawOperate).filter fun p => 200000 ≤ x.start.quietPeer.get p).length

/-- Power-down tick P of a lane: l_DRVINH goes off and the brakes keep their pressures (R80, R391). -/
def Lane.atP (l : Lane) : Lane :=
  ({ l with
    start := { l.start with
      sinceP := some 0, operateAtP := (PerLane.fill false).mapL fun x _ => decide (x = l.id) || (l.id.others.filter l.sawOperate).contains x }
    chas := { l.chas with
      holdP := some (l.prefOf l.cfg.brakeValveLeft, l.prefOf l.cfg.brakeValveRight, l.prefOf l.cfg.brakeValveTrailer)
      park := false } } : Lane).driveInhibit

/-- The STEER axes that the lane commands come to HOLD. -/
def Lane.holdCommanded (l : Lane) : Lane :=
  allAxes.foldl (fun l n => if l.cfg.kind n.val = .steer ∧ l.commands n then l.holdSteer n else l) l

theorem Lane.powerDown_eq {x : Lane} (hs : x.start.state = .operate) (hp : x.start.sinceP = none) (hq : 2 ≤ x.quietLanes) :
    x.powerDown = x.atP.holdCommanded :=
  if_pos ⟨hs, by rw [hp]; rfl, .inl hq⟩

theorem Lane.powerDown_idle {x : Lane} (hown : x.start.quietOwn < 200000) (hpeer : ∀ p, x.start.quietPeer.get p < 200000) :
    x.powerDown = x := by
  have hnone : x.quietLanes = 0 := by
    have hf : ((x.id.others.filter x.sawOperate).filter fun p => decide (200000 ≤ x.start.quietPeer.get p)) = [] := by
      refine List.filter_eq_nil_iff.mpr fun p _ => ?_
      simp [Nat.not_le.mpr (hpeer p)]
    rw [Lane.quietLanes, hf]
    simp [Nat.not_le.mpr hown, b2n]
  refine if_neg ?_
  rintro ⟨-, -, h⟩
  change 2 ≤ x.quietLanes ∨ _ ∧ x.quietLanes = 1 at h
  omega

theorem Lane.two_le_quietLanes {x : Lane} (hown : 200000 ≤ x.start.quietOwn) {p : LaneId} (hp : p ∈ x.id.others)
    (hop : x.sawOperate p) (hpeer : 200000 ≤ x.start.quietPeer.get p) : 2 ≤ x.quietLanes := by
  have hmem : p ∈ (x.id.others.filter x.sawOperate).filter fun p => decide (200000 ≤ x.start.quietPeer.get p) := by
    simp [hp, hop, hpeer]
  have hpos := List.length_pos_of_mem hmem
  unfold Lane.quietLanes
  simp only [hown, decide_true, b2n]
  simp only [if_true]
  omega

/-- What bringing STEER axes to HOLD reaches. -/
def Lane.HoldReach (x y : Lane) : Prop := y = { x with sup := y.sup, prof := y.prof }

theorem Lane.holdSteer_reach {x y : Lane} (h : x.HoldReach y) (n : AxisId) : x.HoldReach (y.holdSteer n) := by
  unfold Lane.HoldReach at *
  rw [h]
  rfl

theorem Lane.holdSteer_step {x y : Lane} (h : x.HoldReach y) (n : AxisId) :
    x.HoldReach (if y.cfg.kind n.val = .steer ∧ y.commands n then y.holdSteer n else y) := by
  split
  · exact Lane.holdSteer_reach h n
  · exact h

theorem Lane.holdCommanded_reach (x : Lane) : x.HoldReach x.holdCommanded :=
  foldl_keeps x.HoldReach _ (fun _ n h => Lane.holdSteer_step h n) _ _ rfl

/-- Each commanded STEER axis stands in HOLD without a profile, and the others stay. -/
theorem Lane.holdCommanded_axis (x : Lane) (n : AxisId) :
    let y := x.holdCommanded
    if x.cfg.kind n.val = .steer ∧ x.commands n then (y.sup.get n).mode = 3 ∧ (y.prof.get n).phase = .passive
    else y.sup.get n = x.sup.get n ∧ y.prof.get n = x.prof.get n := by
  obtain ⟨y, hy, hsame, hlast⟩ := foldl_at x.HoldReach
    (fun l m => if l.cfg.kind m.val = .steer ∧ l.commands m then l.holdSteer m else l) (fun l m => (l.sup.get m, l.prof.get m))
    (fun _ m h => Lane.holdSteer_step h m)
    (fun y i j hj => by
      split
      · simp [Lane.holdSteer, Lane.modSup, Lane.modProf, hj]
      · rfl) allAxes x rfl allAxes_nodup (mem_allAxes n)
  have hcfg : y.cfg = x.cfg := by rw [hy]; rfl
  have hcmd : y.commands n = x.commands n := by rw [hy]; rfl
  obtain ⟨hsup, hprof⟩ := Prod.mk.inj hlast
  obtain ⟨hsup', hprof'⟩ := Prod.mk.inj hsame
  dsimp only
  rw [hcfg, hcmd] at hsup hprof
  unfold Lane.holdCommanded
  rw [hsup, hprof]
  split
  · simp [Lane.holdSteer, Lane.modSup, Lane.modProf]
  · exact ⟨hsup', hprof'⟩

theorem Lane.atP_keeps (x : Lane) :
    let y := x.atP
    y.start.sinceP = some 0 ∧ y.start.operateAtP.get x.id = true ∧ y.start.drvinh = false ∧
      y.chas.holdP = some (x.prefOf x.cfg.brakeValveLeft, x.prefOf x.cfg.brakeValveRight, x.prefOf x.cfg.brakeValveTrailer) ∧
      y.chas.park = false ∧
      y = { x with start := { x.start with sinceP := y.start.sinceP, operateAtP := y.start.operateAtP, drvinh := false }
                   chas := { x.chas with holdP := y.chas.holdP, park := y.chas.park } } := by
  have hoff : x.atP.start.drvinh = false := by simp [Lane.atP, Lane.driveInhibit, Lane.drvinhOn]
  refine ⟨rfl, by simp [Lane.atP, Lane.driveInhibit], hoff, rfl, rfl, ?_⟩
  rw [← hoff]
  rfl

theorem Lane.powerDown_atP {x : Lane} (hs : x.start.state = .operate) (hp : x.start.sinceP = none) (hq : 2 ≤ x.quietLanes) :
    let y := x.powerDown
    y.start.sinceP = some 0 ∧ y.start.operateAtP.get x.id = true ∧ y.start.drvinh = false ∧
      y.chas.holdP = some (x.prefOf x.cfg.brakeValveLeft, x.prefOf x.cfg.brakeValveRight, x.prefOf x.cfg.brakeValveTrailer) ∧
      y.chas.park = false ∧
      (∀ n, if x.cfg.kind n.val = .steer ∧ x.commands n then (y.sup.get n).mode = 3 ∧ (y.prof.get n).phase = .passive
        else y.sup.get n = x.sup.get n ∧ y.prof.get n = x.prof.get n) ∧
      y = { x with start := { x.start with sinceP := y.start.sinceP, operateAtP := y.start.operateAtP, drvinh := false }
                   chas := { x.chas with holdP := y.chas.holdP, park := y.chas.park }, sup := y.sup, prof := y.prof } := by
  obtain ⟨hsince, hop, hinh, hhold, hpark, hframe⟩ := x.atP_keeps
  have hreach := x.atP.holdCommanded_reach
  have haxis := x.atP.holdCommanded_axis
  dsimp only
  rw [Lane.powerDown_eq hs hp hq]
  refine ⟨?_, ?_, ?_, ?_, ?_, fun n => haxis n, ?_⟩
  · rw [hreach]; exact hsince
  · rw [hreach]; exact hop
  · rw [hreach]; exact hinh
  · rw [hreach]; exact hhold
  · rw [hreach]; exact hpark
  · rw [hreach]
    dsimp only
    rw [hframe]

/-! ## Sleep -/

theorem Lane.lowPower_fellAsleep (x : Lane) (st : LState) : x.FellAsleep (x.lowPower st) st := by
  refine ⟨rfl, rfl, fun n => ?_, fun n => Tab.get_mapFin _ _ n, fun i => Tab.get_mapFin _ _ i, rfl, rfl⟩
  simp [Lane.lowPower, Lane.clearCounters, Lane.mapAx, Lane.ax]

theorem Lane.flushJournal_flushed (x : Lane) : x.Flushed x.flushJournal := by
  refine ⟨rfl, by simp only [Lane.flushJournal], fun n hn => ?_⟩
  simp [Lane.flushJournal, hn]

/-- Going to low power with the journal flushed first: the registers that FellAsleep names, and a complete journal (R80). -/
theorem Lane.flushed_fellAsleep (x : Lane) (leases : LeasePart) (hax : ∀ n, (leases.ax.get n).epoch = (x.ax n).epoch) (st : LState) :
    let y := (Lane.flushJournal { x with lease := leases }).lowPower st
    x.FellAsleep y st ∧ x.Flushed y := by
  obtain ⟨-, -, hzero, hpwm, hleg, -, -⟩ := (Lane.flushJournal { x with lease := leases }).lowPower_fellAsleep st
  obtain ⟨-, hevents, htheta⟩ := Lane.flushJournal_flushed { x with lease := leases }
  refine ⟨⟨rfl, rfl, fun n => ?_, hpwm, hleg, rfl, rfl⟩, rfl, hevents, htheta⟩
  obtain ⟨hc, hr, he⟩ := hzero n
  exact ⟨hc, hr, he.trans (hax n)⟩

theorem Lane.parkWaitEnd_eq {x : Lane} {k : Nat} (hp : x.start.sinceP = some k) (hk : x.cfg.laneParkWait ≤ k) (hs : x.start.state = .operate) :
    x.parkWaitEnd =
      (Lane.flushJournal { x with lease := { x.lease with stopped := true } }).lowPower (if x.listens then .listen else .sleep) := by
  unfold Lane.parkWaitEnd
  rw [hp]
  dsimp only
  have hop : (x.start.state == LState.operate) = true := by rw [hs]; rfl
  rw [if_pos (by rw [hs]; exact ⟨hk, by decide⟩), hop, Bool.true_and]

theorem Lane.sleepTimeout_eq {x : Lane} (hq : 200000 ≤ x.start.quietAlone)
    (hs : x.start.state = .armed ∨ x.start.state = .stopped ∨ x.start.state = .unsealed) :
    x.sleepTimeout = (x.flushJournal).lowPower .sleep := by
  refine if_pos ⟨hq, ?_⟩
  rcases hs with h | h | h <;> rw [h]

theorem Lane.listenTimeout_eq {x : Lane} (hs : x.start.state = .listen) (hmax : x.cfg.laneListenMaxtime ≠ 0)
    (ht : x.cfg.laneListenMaxtime * 40000 ≤ x.start.listenTicks) : x.listenTimeout = x.lowPower .sleep := if_pos ⟨hs, hmax, ht⟩

/-- Settles O18: the comparison of wake demand, power-down (`powerDown_atP`) and the ways into low power (`flushed_fellAsleep`). -/
theorem powerDownEndsEveryLease : Obligations.PowerDownEndsEveryLease := by
  unfold Obligations.PowerDownEndsEveryLease
  rintro s l x rfl
  refine ⟨⟨fun h => ⟨_, rfl, Lane.wakeDisagree_raises h⟩, fun h => ?_, ?_, ?_⟩, ?_, ?_, ?_⟩
  · have hsame := Lane.wakeDisagree_idle h
    rw [← hsame]
    rfl
  · rintro w rfl hs hp hown ⟨p, hpo, ⟨m, hm, hop⟩, hpeer⟩
    have hsaw : (s.early l).sawOperate p := by simp [Lane.sawOperate, hm, hop]
    exact ⟨_, rfl, Lane.powerDown_atP hs hp (Lane.two_le_quietLanes hown hpo hsaw hpeer)⟩
  · rintro w rfl hown hpeer
    have hsame := Lane.powerDown_idle hown hpeer
    rw [← hsame]
    rfl
  · rintro w k rfl hp hk hs
    obtain ⟨hasleep, hflushed⟩ := (s.early l).flushed_fellAsleep { (s.early l).lease with stopped := true } (fun _ => rfl)
      (if (s.early l).listens then .listen else .sleep)
    refine ⟨(s.early l).parkWaitEnd, rfl, ?_⟩
    rw [Lane.parkWaitEnd_eq hp hk hs]
    exact ⟨hasleep, rfl, hflushed⟩
  · intro hq hs
    refine ⟨(s.lane l).sleepTimeout, rfl, ?_⟩
    rw [Lane.sleepTimeout_eq hq hs]
    exact (s.lane l).flushed_fellAsleep (s.lane l).lease (fun _ => rfl) .sleep
  · intro hs hmax ht
    refine ⟨(s.lane l).listenTimeout, rfl, ?_⟩
    rw [Lane.listenTimeout_eq hs hmax ht]
    exact ⟨Lane.lowPower_fellAsleep _ _, rfl⟩

end Sys2Proof.Machine

/-! Ticks that the cores do not close: debug halt, and OFF, SLEEP and LISTEN (R33, R82, R117, R133, R196, R335, R407). -/

namespace Sys2Proof.Machine

/-- A property that both branches of a choice have. -/
theorem keeps_ite {α : Type} (P : α → Prop) {c : Prop} [Decidable c] {a b : α} (ha : P a) (hb : P b) : P (if c then a else b) := by
  split
  · exact ha
  · exact hb

/-! ## What the close of a tick without the cores can reach -/

/-- Feedback, step input, fabric block and collector, with what the collector does to a lane at its close: no time base, leg, bus or axis function, and no state but SAFE. -/
def Lane.CloseReach (x y : Lane) : Prop :=
  y = { x with
    start := { x.start with
      state := y.start.state, inState := y.start.inState, drvinh := y.start.drvinh, ready := y.start.ready, notClosed := y.start.notClosed }
    gat := { x.gat with idPower := y.gat.idPower }, lease := y.lease, prof := y.prof, fbk := y.fbk, stepIn := y.stepIn, fab := y.fab
    tick := { x.tick with skipFabric := y.tick.skipFabric, deviation := y.tick.deviation }, col := y.col, nvm := y.nvm } ∧
  (y.start.state = x.start.state ∨ y.start.state = .safe)

theorem Lane.CloseReach.refl (x : Lane) : x.CloseReach x := ⟨rfl, .inl rfl⟩

theorem Lane.CloseReach.trans {x y z : Lane} (h : x.CloseReach y) (h' : y.CloseReach z) : x.CloseReach z := by
  obtain ⟨hy, hs⟩ := h
  obtain ⟨hz, hs'⟩ := h'
  constructor
  · rw [hz, hy]
  · rcases hs' with hs' | hs'
    · rw [hs']
      exact hs
    · exact .inr hs'

/-! ### Feedback -/

theorem Lane.raiseFbks_closeReach (x : Lane) (c : Nat) (es : List (Ev × Int)) : x.CloseReach (x.raiseFbks c es) := by
  refine foldl_keeps x.CloseReach _ ?_ es x (Lane.CloseReach.refl x)
  exact fun y e h => h.trans ⟨rfl, .inl rfl⟩

/-- A channel replaced, and its events raised. -/
theorem Lane.setChan_raiseFbks_closeReach (x : Lane) (c : ChanId) (ch : Chan) (i : Nat) (es : List (Ev × Int)) :
    x.CloseReach ((x.setChan c ch).raiseFbks i es) :=
  Lane.CloseReach.trans (y := x.setChan c ch) ⟨rfl, .inl rfl⟩ (Lane.raiseFbks_closeReach _ i es)

theorem Lane.settleDir_closeReach (x : Lane) (c : ChanId) (upto : Nat) : x.CloseReach (x.settleDir c upto) := by
  unfold Lane.settleDir
  dsimp only
  split
  · split
    · exact x.setChan_raiseFbks_closeReach _ _ _ _
    · exact Lane.CloseReach.refl x
  · exact Lane.CloseReach.refl x

theorem Lane.settleChan_closeReach (x : Lane) (c : ChanId) (upto : Nat) : x.CloseReach (x.settleChan c upto) := by
  unfold Lane.settleChan
  refine Lane.CloseReach.trans ?_ (Lane.setChan_raiseFbks_closeReach _ _ _ _ _)
  split
  · split
    · exact x.settleDir_closeReach _ _
    · exact Lane.CloseReach.refl x
  · exact Lane.CloseReach.refl x

theorem Lane.closeChan_closeReach (x : Lane) (boundary : Nat) (c : ChanId) : x.CloseReach (x.closeChan boundary c) := by
  unfold Lane.closeChan
  dsimp only
  split
  · exact Lane.CloseReach.refl x
  · exact (x.settleChan_closeReach _ _).trans (Lane.setChan_raiseFbks_closeReach _ _ _ _ _)

theorem Lane.feedbackClose_closeReach (x : Lane) : x.CloseReach x.feedbackClose :=
  foldl_keeps x.CloseReach _ (fun y c h => h.trans (y.closeChan_closeReach _ c)) _ _ (Lane.CloseReach.refl x)

/-! ### The step input -/

theorem Lane.stepSettle_closeReach (x : Lane) (before : Nat) : x.CloseReach (x.stepSettle before) := by
  unfold Lane.stepSettle
  dsimp only
  split
  · split
    · exact ⟨rfl, .inl rfl⟩
    · exact ⟨rfl, .inl rfl⟩
  · exact ⟨rfl, .inl rfl⟩

theorem Lane.stepClose_closeReach (x : Lane) (boundary : Nat) : x.CloseReach (x.stepClose boundary) := by
  have h := x.stepSettle_closeReach boundary
  unfold Lane.stepClose
  refine keeps_ite x.CloseReach ?_ ?_
  · exact h.trans ⟨rfl, .inl rfl⟩
  · exact h.trans ⟨rfl, .inl rfl⟩

/-! ### The fabric ports -/

theorem Lane.modPort_closeReach (x : Lane) (p : PortId) (f : FabPort → FabPort) : x.CloseReach (x.modPort p f) := ⟨rfl, .inl rfl⟩

theorem Lane.portTo_closeReach (x : Lane) (p : PortId) (st : Nat) : x.CloseReach (x.portTo p st) := x.modPort_closeReach p _

theorem Lane.raisePort_closeReach (x : Lane) (ev : Ev) (p : PortId) (v : Int) : x.CloseReach (x.raisePort ev p v) := ⟨rfl, .inl rfl⟩

theorem Lane.portDown_closeReach (x : Lane) (p : PortId) : x.CloseReach (x.portDown p) := by
  have hraise (f : FabPort → FabPort) (v : Int) : x.CloseReach ((x.modPort p f).raisePort .fab010 p v) :=
    (x.modPort_closeReach p f).trans (Lane.raisePort_closeReach _ _ _ _)
  unfold Lane.portDown
  dsimp only
  split
  · exact x.modPort_closeReach _ _
  · split
    · exact (hraise _ _).trans (Lane.portTo_closeReach _ _ _)
    · exact ((hraise _ _).trans (Lane.modPort_closeReach _ _ _)).trans (Lane.portTo_closeReach _ _ _)

theorem Lane.portMap_closeReach (x : Lane) (p : PortId) : x.CloseReach (x.portMap p) := by
  unfold Lane.portMap
  dsimp only
  split
  · exact Lane.CloseReach.refl x
  · exact ⟨rfl, .inl rfl⟩

theorem Lane.closePorts_closeReach (x : Lane) : x.CloseReach x.closePorts := by
  unfold Lane.closePorts
  refine foldl_keeps x.CloseReach _ ?_ _ _ ⟨rfl, .inl rfl⟩
  intro y p hy
  have hmod (f : FabPort → FabPort) : x.CloseReach (((y.portDown p).portMap p).modPort p f) :=
    (hy.trans ((y.portDown_closeReach p).trans (Lane.portMap_closeReach _ p))).trans (Lane.modPort_closeReach _ _ _)
  refine keeps_ite x.CloseReach ?_ ?_
  · refine Lane.CloseReach.trans ?_ (Lane.raisePort_closeReach _ _ _ _)
    exact hmod _
  · exact hmod _

theorem Lane.chooseMaster_closeReach (x : Lane) : x.CloseReach x.chooseMaster := by
  unfold Lane.chooseMaster
  dsimp only
  split
  · exact ⟨rfl, .inl rfl⟩
  · exact ⟨rfl, .inl rfl⟩

/-! ### The collector -/

theorem Lane.raiseOnce_closeReach (x : Lane) (ev : Ev) (v : Int) : x.CloseReach (x.raiseOnce ev v) := by
  unfold Lane.raiseOnce
  split
  · exact Lane.CloseReach.refl x
  · exact ⟨rfl, .inl rfl⟩

theorem Lane.raiseWordOnce_closeReach (x : Lane) (ev : Ev) (v : Int) : x.CloseReach (x.raiseWordOnce ev v) := by
  unfold Lane.raiseWordOnce
  split
  · exact Lane.CloseReach.refl x
  · exact ⟨rfl, .inl rfl⟩

/-- The cause of a check is raised where it holds. -/
theorem Lane.raiseOnce_some_closeReach (x : Lane) (ev : Ev) (o : Option Nat) :
    x.CloseReach (match o with | some v => x.raiseOnce ev v | none => x) := by
  cases o with
  | some v => exact x.raiseOnce_closeReach ev v
  | none => exact Lane.CloseReach.refl x

theorem Lane.raiseWordOnce_if_closeReach (x : Lane) (c : Prop) [Decidable c] (ev : Ev) (v : Int) :
    x.CloseReach (if c then x.raiseWordOnce ev v else x) := by
  split
  · exact x.raiseWordOnce_closeReach ev v
  · exact Lane.CloseReach.refl x

theorem Lane.withCol_closeReach {x y : Lane} (h : x.CloseReach y) (c : ColPart) : x.CloseReach { y with col := c } := h.trans ⟨rfl, .inl rfl⟩

/-- The checks of the health word raise their events, each once. -/
def Lane.raiseChecks (l : Lane) : Lane :=
  let t := l.tick
  let lock := l.col.lockstep
  let dev := decide (100 < absI t.deviation)
  let l := match lock with | some a => l.raiseOnce .cor003 a | none => l
  let l := if 0 < t.overFence then l.raiseWordOnce .tim003 t.overFence else l
  let l := if 0 < t.overPublish then l.raiseWordOnce .tim005 t.overPublish else l
  let l := match l.col.datapath with | some w => l.raiseOnce .cor010 w | none => l
  let l := match l.col.parity with | some r => l.raiseOnce .col001 r | none => l
  if dev then l.raiseWordOnce .tim007 t.deviation else l

theorem Lane.raiseChecks_closeReach (x : Lane) : x.CloseReach x.raiseChecks := by
  unfold Lane.raiseChecks
  refine Lane.CloseReach.trans ?_ (Lane.raiseWordOnce_if_closeReach _ _ _ _)
  refine Lane.CloseReach.trans ?_ (Lane.raiseOnce_some_closeReach _ _ _)
  refine Lane.CloseReach.trans ?_ (Lane.raiseOnce_some_closeReach _ _ _)
  refine Lane.CloseReach.trans ?_ (Lane.raiseWordOnce_if_closeReach _ _ _ _)
  refine Lane.CloseReach.trans ?_ (Lane.raiseWordOnce_if_closeReach _ _ _ _)
  exact x.raiseOnce_some_closeReach _ _

theorem Lane.healthCheck_closeReach (x : Lane) : x.CloseReach x.healthCheck := by
  have hfrozen (c : Bool) (d : ColPart) : x.CloseReach (if c then { x.raiseChecks with col := d } else x.raiseChecks) :=
    keeps_ite x.CloseReach (Lane.withCol_closeReach x.raiseChecks_closeReach d) x.raiseChecks_closeReach
  unfold Lane.healthCheck
  refine keeps_ite x.CloseReach ?_ ?_
  · refine Lane.withCol_closeReach ?_ _
    exact hfrozen _ _
  · refine Lane.withCol_closeReach ?_ _
    exact hfrozen _ _

/-! ### Recording events -/

theorem Lane.toSafe_closeReach (x : Lane) (lv : Level) : x.CloseReach (x.toSafe lv) := ⟨rfl, .inr rfl⟩

theorem Lane.enterSafe_closeReach (x : Lane) (lv : Level) : x.CloseReach (x.enterSafe lv) := by
  unfold Lane.enterSafe
  split
  · exact x.toSafe_closeReach lv
  · split
    · exact Lane.withCol_closeReach (Lane.CloseReach.refl x) _
    · exact Lane.CloseReach.refl x

theorem Lane.faultStop_closeReach (x : Lane) (n : AxisId) : x.CloseReach (x.faultStop n) := by
  unfold Lane.faultStop
  split
  · exact ⟨rfl, .inl rfl⟩
  · exact Lane.CloseReach.refl x

theorem Lane.modAx_closeReach (x : Lane) (n : AxisId) (f : AxisLease → AxisLease) : x.CloseReach (x.modAx n f) := ⟨rfl, .inl rfl⟩

theorem Lane.leaveAxes_closeReach (x : Lane) (axes : List Nat) : x.CloseReach (x.leaveAxes axes) := by
  refine foldl_keeps x.CloseReach _ ?_ axes x (Lane.CloseReach.refl x)
  intro y n hy
  split
  · exact (hy.trans (y.faultStop_closeReach _)).trans (Lane.modAx_closeReach _ _ _)
  · exact hy

theorem Lane.recordOne_closeReach (x : Lane) (r : Raise) : x.CloseReach (x.recordOne r) := by
  unfold Lane.recordOne
  dsimp only
  split
  · exact (Lane.withCol_closeReach (Lane.CloseReach.refl x) _).trans (Lane.leaveAxes_closeReach _ _)
  · exact keeps_ite x.CloseReach (Lane.withCol_closeReach (Lane.CloseReach.refl x) _)
      ((Lane.withCol_closeReach (Lane.CloseReach.refl x) _).trans (Lane.enterSafe_closeReach _ _))
  · exact keeps_ite x.CloseReach (Lane.withCol_closeReach (Lane.CloseReach.refl x) _)
      ((Lane.withCol_closeReach (Lane.CloseReach.refl x) _).trans (Lane.enterSafe_closeReach _ _))
  · exact Lane.withCol_closeReach (Lane.CloseReach.refl x) _

theorem Lane.collect_closeReach (x : Lane) : x.CloseReach x.collect := by
  refine foldl_keeps x.CloseReach Lane.recordOne ?_ _ _ (Lane.withCol_closeReach (Lane.CloseReach.refl x) _)
  exact fun y r hy => hy.trans (y.recordOne_closeReach r)

theorem Lane.writeJournal_closeReach (x : Lane) : x.CloseReach x.writeJournal := ⟨rfl, .inl rfl⟩

theorem Lane.quietTick_closeReach (x : Lane) : x.CloseReach x.quietTick := ⟨rfl, .inl rfl⟩

theorem Lane.collectorClose_closeReach (x : Lane) (i : TickIn) : x.CloseReach (x.collectorClose i) := by
  unfold Lane.collectorClose
  refine keeps_ite x.CloseReach ?_ ⟨rfl, .inl rfl⟩
  refine Lane.withCol_closeReach ?_ _
  refine Lane.CloseReach.trans ?_ (Lane.quietTick_closeReach _)
  refine Lane.CloseReach.trans ?_ (Lane.writeJournal_closeReach _)
  refine Lane.CloseReach.trans ?_ (Lane.collect_closeReach _)
  exact Lane.CloseReach.trans ⟨rfl, .inl rfl⟩ (Lane.healthCheck_closeReach _)

/-- The close of a tick in debug halt: feedback and step input, fabric ports and collector, as `Lane.finishTick` closes them. -/
def Lane.haltedClose (x : Lane) (i : TickIn) : Lane :=
  (((((x.feedbackClose).stepClose (x.clk + x.tickLen)).closePorts).chooseMaster).collectorClose i)

theorem Lane.haltedClose_closeReach (x : Lane) (i : TickIn) : x.CloseReach (x.haltedClose i) :=
  (((x.feedbackClose_closeReach.trans (Lane.stepClose_closeReach _ _)).trans (Lane.closePorts_closeReach _)).trans
    (Lane.chooseMaster_closeReach _)).trans (Lane.collectorClose_closeReach _ i)

/-- A lane of ALIGN, ARMED, OPERATE or STOPPED. -/
def Runs (s : LState) : Prop := s = .operate ∨ s = .armed ∨ s = .align ∨ s = .stopped

/-- Debug halt closes the tick with `Lane.haltedClose` alone (R120, R196, R335, R407). -/
theorem Lane.finishTick_halted {y x : Lane} (i : TickIn) (hy : y.settle = x) (hh : x.start.halted) (hs : Runs x.start.state) :
    y.finishTick i = x.haltedClose i := by
  unfold Lane.finishTick
  rw [hy]
  dsimp only
  rcases hs with hs | hs | hs | hs <;> rw [hs] <;> refine (if_pos hh).trans ?_ <;>
    exact congrArg (fun y : Lane => ((y.closePorts).chooseMaster).collectorClose i) (if_pos rfl)

/-! ## The boundary of a lane in debug halt -/

/-- What the timer and the fabric block do at the boundary. -/
def Lane.haltedBoundary (x : Lane) (i : TickIn) : Lane := (((x.shiftInbox).boundaryTick).boundaryLease).fabBoundary i.fabTx

theorem Lane.boundary_halted {x : Lane} (i : TickIn) (hlive : x.live) (hh : x.start.halted) :
    x.boundary i = { x.haltedBoundary i with
      bus := { (x.haltedBoundary i).bus with phase := ((x.haltedBoundary i).bus.phase + 1) % 32, chopConv := false }
      col := { (x.haltedBoundary i).col with datapath := none, lockstep := none } } := by
  have h : ¬(!x.live) = true := by simp [hlive]
  exact (if_neg h).trans (if_pos hh)

/-- What the boundary leaves of what the tick was closed with. -/
structure Lane.HaltedStep (x y : Lane) : Prop where
  start : y.start = x.start
  count : y.tick.count = x.tick.count + 1
  corr : y.tick.corr = x.tick.corrNext
  phase : y.bus.phase = (x.bus.phase + 1) % 32
  pwm : y.pwm = x.pwm
  leg : y.leg = x.leg
  counter : ∀ n, (y.ax n).counter = if (x.ax n).forceZero then 0 else (x.ax n).counter - 1
  epoch : ∀ n, (y.ax n).epoch = (x.ax n).epoch
  heldBy : ∀ n, (y.ax n).heldBy = (x.ax n).heldBy

theorem Lane.foldl_lse003_lease (ns : List AxisId) (x : Lane) :
    (ns.foldl (fun (l : Lane) n => l.raise .lse003 (.axis n.val) (l.lease.ax.get n).epoch.toNat) x).lease = x.lease :=
  foldl_keeps (fun y : Lane => y.lease = x.lease)
    (fun (l : Lane) (n : AxisId) => l.raise .lse003 (.axis n.val) (l.lease.ax.get n).epoch.toNat) (fun _ _ h => h) ns x rfl

/-- Each counter runs down at the boundary, or is cleared; epoch and holder stay (R117). -/
theorem Lane.boundaryLease_ax (x : Lane) (n : AxisId) :
    (x.boundaryLease.ax n).counter = (if (x.ax n).forceZero then 0 else (x.ax n).counter - 1) ∧
      (x.boundaryLease.ax n).epoch = (x.ax n).epoch ∧ (x.boundaryLease.ax n).heldBy = (x.ax n).heldBy := by
  unfold Lane.boundaryLease
  simp only [Lane.ax, Lane.foldl_lse003_lease]
  rw [show ∀ (l : Lane) (f : AxisId → AxisLease → AxisLease), (l.mapAx f).lease.ax = l.lease.ax.mapFin f from fun _ _ => rfl, Tab.get_mapFin]
  exact ⟨rfl, rfl, rfl⟩

theorem Lane.boundary_haltedStep {x : Lane} (i : TickIn) (hlive : x.live) (hh : x.start.halted) : x.HaltedStep (x.boundary i) := by
  have hax (n : AxisId) : (x.boundary i).ax n = (((x.shiftInbox).boundaryTick).boundaryLease).ax n := by
    rw [Lane.boundary_halted i hlive hh]
    unfold Lane.haltedBoundary
    rw [Lane.fabBoundary_fabricOnly]
    rfl
  have hlease (n : AxisId) := Lane.boundaryLease_ax ((x.shiftInbox).boundaryTick) n
  have hbound : x.boundary i = { (x.shiftInbox).boundaryTick with
      fab := (x.boundary i).fab, lease := (x.boundary i).lease, col := (x.boundary i).col
      tick := { x.shiftInbox.boundaryTick.tick with fabOffset := (x.boundary i).tick.fabOffset, fabric := (x.boundary i).tick.fabric }
      bus := { x.bus with phase := (x.bus.phase + 1) % 32, chopConv := false } } := by
    rw [Lane.boundary_halted i hlive hh]
    unfold Lane.haltedBoundary
    rw [Lane.fabBoundary_fabricOnly, Lane.boundaryLease_leasesOnly]
    rfl
  constructor
  case counter => exact fun n => (congrArg AxisLease.counter (hax n)).trans (hlease n).1
  case epoch => exact fun n => (congrArg AxisLease.epoch (hax n)).trans (hlease n).2.1
  case heldBy => exact fun n => (congrArg AxisLease.heldBy (hax n)).trans (hlease n).2.2
  case start => exact (congrArg Lane.start hbound).trans rfl
  case count => exact (congrArg (fun y : Lane => y.tick.count) hbound).trans rfl
  case corr => exact (congrArg (fun y : Lane => y.tick.corr) hbound).trans rfl
  case phase => exact (congrArg (fun y : Lane => y.bus.phase) hbound).trans rfl
  case pwm => exact (congrArg Lane.pwm hbound).trans rfl
  case leg => exact (congrArg Lane.leg hbound).trans rfl

/-- Pins, supplies, bus voltages, feedback, step input and events: what a lane in debug halt samples (R196). -/
def Lane.SampleReach (x y : Lane) : Prop :=
  y = { x with
    sup22 := y.sup22, fbk := y.fbk, stepIn := y.stepIn, col := y.col
    start := { x.start with ign := y.start.ign, wake := y.start.wake, workshop := y.start.workshop, benchPin := y.start.benchPin }
    bus := { x.bus with v := y.bus.v, v1 := y.bus.v1 } }

theorem Lane.SampleReach.trans {x y z : Lane} (h : x.SampleReach y) (h' : y.SampleReach z) : x.SampleReach z := by
  unfold Lane.SampleReach at *
  rw [h', h]

theorem Lane.raise_if_sampleReach {x y : Lane} (h : x.SampleReach y) (c : Prop) [Decidable c] (ev : Ev) (v : Int) :
    x.SampleReach (if c then y.raise ev .none v else y) :=
  keeps_ite x.SampleReach (h.trans rfl) h

theorem Lane.supplyTick_sampleReach (x : Lane) (i : SupIn) : x.SampleReach (x.supplyTick i) := by
  unfold Lane.supplyTick
  refine keeps_ite x.SampleReach rfl ?_
  iterate 6 refine Lane.raise_if_sampleReach ?_ _ _ _
  rfl

theorem Lane.setChan_raiseFbks_sampleReach (x : Lane) (c : ChanId) (ch : Chan) (k : Nat) (es : List (Ev × Int)) :
    x.SampleReach ((x.setChan c ch).raiseFbks k es) := by
  refine foldl_keeps x.SampleReach _ ?_ es _ rfl
  exact fun y e h => h.trans rfl

theorem Lane.latchPos_sampleReach (x : Lane) (f : FbkSample) (c : ChanId) : x.SampleReach (x.latchPos f c) := by
  unfold Lane.latchPos
  dsimp only
  split
  · rfl
  · split
    · exact x.setChan_raiseFbks_sampleReach _ _ _ _
    · split
      · rfl
      · exact x.setChan_raiseFbks_sampleReach _ _ _ _

theorem Lane.latchFeedback_sampleReach (x : Lane) (f : FbkSample) : x.SampleReach (x.latchFeedback f) := by
  refine foldl_keeps x.SampleReach _ ?_ _ x rfl
  intro y c hy
  unfold Lane.latchChan
  exact keeps_ite x.SampleReach hy ((hy.trans (y.latchPos_sampleReach f c)).trans rfl)

theorem Lane.stepTick_sampleReach (x : Lane) : x.SampleReach x.stepTick := rfl

theorem Lane.samplePins_sampleReach (x : Lane) (i : TickIn) : x.SampleReach (x.samplePins i) := rfl

theorem Lane.busVoltage_sampleReach (x : Lane) (v1 v : Q) : x.SampleReach { x with bus := { x.bus with v1 := v1, v := v } } := rfl

theorem Lane.sampleHalted_sampleReach (x : Lane) (i : TickIn) : x.SampleReach (x.sampleHalted i) := by
  unfold Lane.sampleHalted
  refine keeps_ite x.SampleReach ?_ rfl
  exact ((x.busVoltage_sampleReach x.bus.v i.elec.vbus).trans (Lane.latchFeedback_sampleReach _ _)).trans (Lane.stepTick_sampleReach _)

theorem Lane.watchdogReset_none {x : Lane} (h : x.start.wdReset = false) : x.watchdogReset = x := by
  have : ¬(x.start.wdReset = true ∧ x.start.departing = 0) := by simp [h]
  exact if_neg this

/-- A tick of a lane in debug halt begins with its boundary and with what it samples. -/
theorem Lane.beginTick_halted {x : Lane} (i : TickIn) (hs : Runs x.start.state ∨ x.start.state = .safe) (hh : x.start.halted)
    (hwd : x.start.wdReset = false) : (x.boundary i).SampleReach (x.beginTick i) := by
  have hlive : x.live := by
    rcases hs with (h | h | h | h) | h <;> simp [Lane.live, h, LState.code]
  have hb := (Lane.boundary_haltedStep i hlive hh).start
  have hpins : (((x.boundary i).samplePins i).watchdogReset) = (x.boundary i).samplePins i := by
    refine Lane.watchdogReset_none ?_
    exact (congrArg StartPart.wdReset hb).trans hwd
  have hrest : (x.boundary i).SampleReach ((((x.boundary i).samplePins i).supplyTick i.sup).sampleHalted i) :=
    Lane.SampleReach.trans ((x.boundary i).samplePins_sampleReach i |>.trans (Lane.supplyTick_sampleReach _ _)) (Lane.sampleHalted_sampleReach _ _)
  have hpin (y : Lane) : (y.samplePins i).start.state = y.start.state ∧ (y.samplePins i).start.halted = y.start.halted := ⟨rfl, rfl⟩
  have hstate : ((x.boundary i).samplePins i).start.state = x.start.state := by rw [(hpin _).1, hb]
  have hhalt : ((x.boundary i).samplePins i).start.halted := by
    rw [(hpin _).2, hb]
    exact hh
  unfold Lane.beginTick
  rw [hpins]
  dsimp only
  rw [hstate]
  rcases hs with (h | h | h | h) | h <;> rw [h] <;> dsimp only <;> rw [if_pos hhalt] <;> exact hrest

/-! ## Lanes that close no tick -/

/-- A lane of OFF, SLEEP or LISTEN. -/
def Sleeps (s : LState) : Prop := s = .off ∨ s = .sleep ∨ s = .listen

theorem Lane.finishTick_sleeps {y x : Lane} (i : TickIn) (hy : y.settle = x) (hs : Sleeps x.start.state) : y.finishTick i = x := by
  unfold Lane.finishTick
  rw [hy]
  dsimp only
  rcases hs with h | h | h <;> rw [h]

/-- Such a lane counts its tick and samples its pins; SLEEP and LISTEN follow the wake demand (R82). -/
theorem Lane.beginTick_sleeps {x : Lane} (i : TickIn) (hs : Sleeps x.start.state) (hwd : x.start.wdReset = false) :
    x.beginTick i = (x.boundary i).samplePins i ∨ x.beginTick i = ((x.boundary i).samplePins i).wakeTick := by
  have hlive : x.live = false := by
    rcases hs with h | h | h <;> simp [Lane.live, h, LState.code]
  have hb : (x.boundary i).start.wdReset = x.start.wdReset ∧ (x.boundary i).start.state = x.start.state := by
    rw [Lane.boundary_idle i hlive]
    exact ⟨rfl, rfl⟩
  obtain ⟨hreset, hstate⟩ := hb
  have hpins : (((x.boundary i).samplePins i).watchdogReset) = (x.boundary i).samplePins i :=
    Lane.watchdogReset_none (hreset.trans hwd)
  have hstate' : ((x.boundary i).samplePins i).start.state = x.start.state := hstate
  unfold Lane.beginTick
  rw [hpins]
  dsimp only
  rw [hstate']
  rcases hs with h | h | h <;> rw [h]
  · exact .inl rfl
  · exact .inr rfl
  · exact .inr rfl

/-- Settles O20: in debug halt only feedback, step input, ports and collector close, and the boundary moves the lease counters and the loop phase; OFF, SLEEP and LISTEN close nothing and count. -/
theorem ticksOfHaltedAndSleepingLanes : Obligations.TicksOfHaltedAndSleepingLanes := by
  unfold Obligations.TicksOfHaltedAndSleepingLanes
  constructor
  · intro s l x i hx hh hs hwd
    have hfin := Lane.finishTick_halted (y := s.lanes.get l) i hx hh hs
    obtain ⟨hz, hst⟩ := x.haltedClose_closeReach i
    obtain ⟨c, hc⟩ := s.tickLane_get_self l i
    have hv := s.tickLane_view_self l i
    rw [hfin] at hc hv
    refine ⟨s.tickLane l i, rfl, ?_⟩
    rw [hc, hv]
    generalize hzd : x.haltedClose i = z at *
    have hruns : Runs z.start.state ∨ z.start.state = .safe := by
      rcases hst with h | h
      · rw [h]
        exact .inl hs
      · exact .inr h
    have hhz : z.start.halted = true := by
      rw [hz]
      exact hh
    have hwz : z.start.wdReset = false := by
      rw [hz]
      exact hwd
    have hlive : z.live := by
      rcases hruns with (h | h | h | h) | h <;> simp [Lane.live, h, LState.code]
    have hstep := Lane.boundary_haltedStep i hlive hhz
    have hbegin := Lane.beginTick_halted i hruns hhz hwz
    rw [Lane.wearNote_eq, hbegin]
    have hpwm : z.pwm = x.pwm := by rw [hz]
    have hleg : z.leg = x.leg := by rw [hz]
    have hbus : z.bus = x.bus := by rw [hz]
    have hcount : z.tick.count = x.tick.count := by rw [hz]
    have hcorr : z.tick.corrNext = x.tick.corrNext := by rw [hz]
    refine ⟨⟨hzd.symm, hpwm, hleg, hbus, fun n => ⟨hstep.counter n, hstep.epoch n, hstep.heldBy n⟩⟩, ?_, ?_, ?_, ?_, ?_⟩
    · exact hstep.count.trans (by rw [hcount])
    · exact hstep.corr.trans hcorr
    · exact hstep.phase.trans (by rw [hbus])
    · exact hstep.pwm.trans hpwm
    · exact hstep.leg.trans hleg
  · intro s l x i hx hs hwd
    have hfin := Lane.finishTick_sleeps (y := s.lanes.get l) i hx hs
    obtain ⟨c, hc⟩ := s.tickLane_get_self l i
    rw [hfin] at hc
    have hlive : x.live = false := by
      rcases hs with h | h | h <;> simp [Lane.live, h, LState.code]
    refine ⟨s.tickLane l i, rfl, ?_⟩
    rw [hc, Lane.wearNote_eq]
    rcases Lane.beginTick_sleeps i hs hwd with h | h <;> rw [h, Lane.boundary_idle i hlive] <;>
      exact ⟨rfl, rfl, rfl, rfl, rfl, rfl, rfl, rfl, rfl, rfl⟩

end Sys2Proof.Machine

/-! The commons, the timer's judgements, and the external sources (R13, R35, R38, R39, R42, R44, R49, R120, R399, R402, R406, R408, R547, R548). -/

namespace Sys2Proof.Machine

/-! ## Events that stand among those raised -/

theorem Lane.raiseWord_raised (x : Lane) (ev : Ev) (v : Int) : (x.raiseWord ev v).Raised ev (BitVec.ofNat 32 (toField 32 v)) := by
  simp [Lane.Raised, Lane.raiseWord, Lane.push]

/-- What keeps the list of raised events keeps each of them. -/
theorem Lane.Raised.of_col {x y : Lane} {ev : Ev} {ctx : Word} (h : x.Raised ev ctx) (hc : y.col.raised = x.col.raised) : y.Raised ev ctx := by
  obtain ⟨r, hr, hev⟩ := h
  exact ⟨r, hc ▸ hr, hev⟩

/-! ## The commons -/

theorem Lane.commonsLost_eq (x : Lane) : x.commonsLost = { x with col := x.commonsLost.col } := by
  unfold Lane.commonsLost
  split <;> rfl

theorem Lane.commonsLost_down (x : Lane) : x.commonsLost.col.commonsUp = false := by
  unfold Lane.commonsLost
  split <;> rfl

theorem Lane.commonsLost_raises {x : Lane} (hup : x.col.commonsUp) (hoff : x.start.state ≠ .off) (hsleep : x.start.state ≠ .sleep)
    (hlisten : x.start.state ≠ .listen) : ∃ r ∈ x.commonsLost.col.raised, r.ev = .sup030 ∧ r.commons = true := by
  have hcode : 1 ≤ x.start.state.code := by
    cases h : x.start.state <;> simp_all [LState.code]
  have h : x.col.commonsUp ∧ 1 ≤ x.start.state.code ∧ x.start.state ≠ .sleep ∧ x.start.state ≠ .listen := ⟨hup, hcode, hsleep, hlisten⟩
  rw [Lane.commonsLost, if_pos h]
  exact ⟨_, List.mem_append_right _ (List.mem_singleton.mpr rfl), rfl, rfl⟩

/-- Settles O22: the loss and the return of the commons reach every lane, and the end of a post-trigger span closes its window. -/
theorem commonsComesAndGoes : Obligations.CommonsComesAndGoes := by
  unfold Obligations.CommonsComesAndGoes
  intro s
  refine ⟨⟨s.commonsDown, rfl, rfl, rfl, fun z => ?_⟩, ⟨s.commonsBack, rfl, rfl, rfl, fun z => ?_⟩, ⟨s.windowClose, rfl, rfl, rfl, rfl, ?_⟩⟩
  · have hz : s.commonsDown.lanes.get z = (s.lane z).commonsLost := PerLane.get_mapL ..
    rw [hz]
    exact ⟨Lane.commonsLost_down _, Lane.commonsLost_eq _, Lane.commonsLost_raises⟩
  · exact PerLane.get_mapL ..
  · intro i w hw
    simp [State.windowClose, Commons.windowEnd, hw]

/-! ## Boundaries out of place -/

theorem Lane.judgesTiming_of {x : Lane} (hs : x.start.state = .armed ∨ x.start.state = .operate) : x.judgesTiming := by
  rcases hs with h | h <;> simp [Lane.judgesTiming, h]

theorem Lane.tickOutlier_eq {x : Lane} (hs : x.start.state = .armed ∨ x.start.state = .operate) (hr : x.col.raised = [])
    (hlen : x.alignOthers.length = 2) (hd : 160 < absI x.offset2) (hrun : x.tick.outlierRun = 7) :
    x.tickOutlier = x.raiseWord .tim001 x.offsetD := by
  refine if_pos ⟨Lane.judgesTiming_of hs, ?_, ?_⟩
  · rw [Lane.outlierNow, if_pos ⟨hlen, hd⟩, hrun]
  · simp [Lane.raisedNow, hr]

theorem Lane.tickSplit_eq {x : Lane} {p : LaneId} (hs : x.start.state = .armed ∨ x.start.state = .operate) (hr : x.col.raised = [])
    (hp : x.alignOthers = [p]) (hd : 160 < absI (x.peerOf p).boundary) (hrun : x.tick.splitRun = 7) :
    x.tickSplit = x.raiseWord .tim002 (x.peerOf p).boundary := by
  have hdiff : x.twoLaneDiff = (x.peerOf p).boundary := by rw [Lane.twoLaneDiff, hp]
  unfold Lane.tickSplit
  rw [hdiff]
  refine if_pos ⟨Lane.judgesTiming_of hs, ?_, ?_⟩
  · have hlen : x.alignOthers.length = 1 := by rw [hp]; rfl
    rw [Lane.splitNow, hdiff, if_pos ⟨hlen, hd⟩, hrun]
  · simp [Lane.raisedNow, hr]

theorem Lane.tickOutlier_idle {x : Lane} (h : x.alignOthers.length ≠ 2) : x.tickOutlier = x := by
  refine if_neg ?_
  simp [Lane.outlierNow, h]

theorem Lane.tickSplit_idle {x : Lane} (h : x.alignOthers.length ≠ 1) : x.tickSplit = x := by
  refine if_neg ?_
  simp [Lane.splitNow, h]

/-! ## External sources -/

theorem SyncSource.judge_locks {p : SyncSource} {e : Int} (hm : p.meas = some e) (he : absI e ≤ 80) (hrun : p.lockRun = 7) :
    p.judge.lockRun = 8 := by simp [SyncSource.judge, hm, he, hrun]

theorem SyncSource.judge_misses {p : SyncSource} (hm : p.meas = none) (hexp : p.expected) (hrun : p.missRun = 39) : p.judge.missRun = 40 := by
  simp [SyncSource.judge, hm, hexp, hrun]

theorem SyncSource.judge_returns {p : SyncSource} {e : Int} (hm : p.meas = some e) (he : absI e ≤ 800) (hrun : p.backRun = 399) :
    p.judge.backRun = 400 := by simp [SyncSource.judge, hm, he, hrun]

/-- The eighth measurement within 80 clocks locks the source (R44). -/
theorem Lane.sourceLocked_pin {x : Lane} {e : Int} (hs : x.tick.pin.state = 1) (hm : x.tick.pin.meas = some e) (he : absI e ≤ 80)
    (hrun : x.tick.pin.lockRun = 7) : x.sourceLocked .pin = { x with tick := { x.tick with pin := x.tick.pin.to 2 } } :=
  if_pos ⟨hs, Nat.le_of_eq (SyncSource.judge_locks hm he hrun).symm⟩

theorem Lane.sourceLocked_fabric {x : Lane} {e : Int} (hs : x.tick.fabric.state = 1) (hm : x.tick.fabric.meas = some e) (he : absI e ≤ 80)
    (hrun : x.tick.fabric.lockRun = 7) : x.sourceLocked .fabric = { x with tick := { x.tick with
      fabric := x.tick.fabric.to 2, fabOffset := some ((x.fab.count : Int) - x.tick.count) } } :=
  if_pos ⟨hs, Nat.le_of_eq (SyncSource.judge_locks hm he hrun).symm⟩

/-- The fortieth miss loses it (R44). -/
theorem Lane.sourceLost_pin {x : Lane} (hs : x.tick.pin.state = 1 ∨ x.tick.pin.state = 2) (hm : x.tick.pin.meas = none)
    (hexp : x.tick.pin.expected) (hrun : x.tick.pin.missRun = 39) :
    x.sourceLost .pin = (({ x with tick := { x.tick with pin := x.tick.pin.to 3 } }).raiseWord .tim006 1) :=
  if_pos ⟨hs, Nat.le_of_eq (SyncSource.judge_misses hm hexp hrun).symm⟩

/-- 400 measurements in the window take a lost source up again (R44). -/
theorem Lane.sourceResearch_pin {x : Lane} {e : Int} (hs : x.tick.pin.state = 3) (hm : x.tick.pin.meas = some e) (he : absI e ≤ 800)
    (hrun : x.tick.pin.backRun = 399) :
    x.sourceResearch .pin = { x with tick := { x.tick with pin := x.tick.pin.to 1, pinPhase := none } } :=
  if_pos ⟨hs, Nat.le_of_eq (SyncSource.judge_returns hm he hrun).symm⟩

/-- The first edge nearer to the boundary of its own tick is that tick's measurement, and fixes the phase of the pin (R42). -/
theorem Lane.pinEdge_first {x : Lane} {at_ : Nat} (hs : x.tick.pin.state ≠ 0) (hdir : x.cfg.tickSyncPinDir = 0) (hphase : x.tick.pinPhase = none)
    (hm : x.tick.pin.meas = none) (hnear : 2 * ((at_ : Int) - x.cfg.tickSyncPinOffset) ≤ 10000 + x.tick.corr + x.tick.step) :
    x.pinEdge at_ = { x with tick := { x.tick with
      pin := { x.tick.pin with meas := some ((at_ : Int) - x.cfg.tickSyncPinOffset), expected := true }
      pinPhase := some (x.tick.count % max 1 x.cfg.tickSyncPinPeriod) } } := by
  have hon : ¬(x.tick.pin.state = 0 ∨ x.cfg.tickSyncPinDir ≠ 0) := by simp [hs, hdir]
  have hk : ¬10000 + x.tick.corr + x.tick.step < 2 * ((at_ : Int) - x.cfg.tickSyncPinOffset) := Int.not_lt.mpr hnear
  rw [Lane.pinEdge, if_neg hon]
  simp only [hk, hphase, hm]
  simp

theorem Lane.pinEdge_output {x : Lane} (at_ : Nat) (hdir : x.cfg.tickSyncPinDir ≠ 0) : x.pinEdge at_ = x := if_pos (.inr hdir)

/-- Settles O23: the runs of misaligned boundaries raise TIM-001 and TIM-002, and the runs of the sources' measurements lock, lose and take them up again. -/
theorem misalignmentAndExternalSources : Obligations.MisalignmentAndExternalSources := by
  unfold Obligations.MisalignmentAndExternalSources
  constructor
  · rintro s l x rfl hs hr
    refine ⟨?_, ?_, ?_, ?_⟩
    · intro hlen hd hrun
      refine ⟨(s.lane l).tickOutlier, rfl, ?_⟩
      rw [Lane.tickOutlier_eq hs hr hlen hd hrun]
      exact ⟨Lane.raiseWord_raised _ _ _, rfl⟩
    · intro p hp hd hrun
      refine ⟨(s.lane l).tickSplit, rfl, ?_⟩
      rw [Lane.tickSplit_eq hs hr hp hd hrun]
      exact ⟨Lane.raiseWord_raised _ _ _, rfl⟩
    · intro h
      rw [← Lane.tickOutlier_idle h]
      rfl
    · intro h
      rw [← Lane.tickSplit_idle h]
      rfl
  · rintro s l x rfl
    refine ⟨?_, ?_, ?_, ?_, ?_⟩
    · intro e hs hm he hrun
      exact congrArg (fun y => Host.Outcome.next (s.withLane l y)) (Lane.sourceLocked_pin hs hm he hrun)
    · intro e hs hm he hrun
      exact congrArg (fun y => Host.Outcome.next (s.withLane l y)) (Lane.sourceLocked_fabric hs hm he hrun)
    · intro hs hm hexp hrun
      exact congrArg (fun y => Host.Outcome.next (s.withLane l y)) (Lane.sourceLost_pin hs hm hexp hrun)
    · intro e hs hm he hrun
      exact congrArg (fun y => Host.Outcome.next (s.withLane l y)) (Lane.sourceResearch_pin hs hm he hrun)
    · rintro w at_ rfl
      constructor
      · intro hs hdir hphase hm hnear
        exact congrArg (fun y => Host.Outcome.next (s.withLane l y)) (Lane.pinEdge_first hs hdir hphase hm hnear)
      · intro hdir
        exact congrArg (fun y => Host.Outcome.next (s.withLane l y)) (Lane.pinEdge_output at_ hdir)

/-! ## Overruns and timer faults -/

theorem closesTicks_of_alive {s : LState} (h : aliveState s) : closesTicks s := by simp [closesTicks, h]

theorem overrun_counts {n : Nat} {s : LState} (hs : closesTicks s) (hn : 0 < n) : ¬(n = 0 ∨ !closesTicks s) := by
  simp [hs, Nat.ne_of_gt hn]

/-- A lane that closes ticks before SAFE goes to SAFE at a high level. -/
theorem Lane.enterSafe_alive {x : Lane} (lv : Level) (h : aliveState x.start.state) : x.enterSafe lv = x.toSafe lv := by
  have hsafe : safeable x.start.state := by
    cases hs : x.start.state <;> simp_all [aliveState, safeable]
  exact if_pos hsafe

/-- A tick length beyond 100 clocks of its own puts the lane into SAFE at once (R120). -/
theorem Lane.tickLoss_eq {x : Lane} {d : Int} (h : aliveState x.start.state) (hd : 100 < absI d) :
    x.tickLoss d = (((({ x with
      tick := { x.tick with deviation := d }, col := { x.col with frozen := true } } : Lane).raiseWord .tim007 d).clearCounters).toSafe .l3) :=
  (if_pos ⟨hd, closesTicks_of_alive h⟩).trans (Lane.enterSafe_alive (x := Lane.clearCounters _) .l3 h)

theorem Lane.tickLoss_idle {x : Lane} {d : Int} (hd : absI d ≤ 100) : x.tickLoss d = x := if_neg fun h => absurd h.1 (Int.not_lt.mpr hd)

/-- A tick that the cores did not close puts the lane into SAFE at once (R408). -/
theorem Lane.tickNotClosed_eq {x : Lane} (h : aliveState x.start.state) (hc : x.start.closed = false) :
    x.tickNotClosed = (x.raise .cor002 .none ((x.tick.count : Int) - 1)).toSafe .l3 :=
  (if_pos ⟨by simp [hc], closesTicks_of_alive h⟩).trans (Lane.enterSafe_alive (x := Lane.raise _ _ _ _) .l3 h)

/-- The collector's register error, as it is noted and raised. -/
def Lane.noteParity (x : Lane) (r : Nat) : Lane := ({ x with col := { x.col with parity := some r } } : Lane).raise .col001 .none r

theorem Lane.collectorError_eq {x : Lane} (r : Nat) (h : aliveState x.start.state) :
    x.collectorError r = if x.cfg.faultCollectorDirect then (x.noteParity r).toSafe .l3 else x.noteParity r := by
  have hlive : ¬(!closesTicks x.start.state) = true := by simp [closesTicks_of_alive h]
  refine (if_neg hlive).trans ?_
  rw [← Lane.enterSafe_alive (x := x.noteParity r) .l3 h]
  rfl

theorem Lane.Raised.toSafe {x : Lane} {ev : Ev} {ctx : Word} (h : x.Raised ev ctx) (lv : Level) : (x.toSafe lv).Raised ev ctx := h.of_col rfl

theorem Lane.Raised.clearCounters {x : Lane} {ev : Ev} {ctx : Word} (h : x.Raised ev ctx) : x.clearCounters.Raised ev ctx := h.of_col rfl

/-- Settles O24: overruns are noted and raised, and a tick lost or not closed, and a register error with COLLECTOR_DIRECT, lead to SAFE. -/
theorem overrunsAndTimerFaults : Obligations.OverrunsAndTimerFaults := by
  unfold Obligations.OverrunsAndTimerFaults
  constructor
  · rintro s l x n rfl hs hn
    have h := overrun_counts hs hn
    refine ⟨?_, ?_, ?_⟩
    · exact congrArg (fun y => Host.Outcome.next (s.withLane l y)) (if_neg h)
    · exact congrArg (fun y => Host.Outcome.next (s.withLane l y)) (if_neg h)
    · exact congrArg (fun y => Host.Outcome.next (s.withLane l y)) (if_neg h)
  · rintro s l x rfl hs _
    refine ⟨?_, ?_, ?_, ?_⟩
    · intro d hd
      refine ⟨(s.lane l).tickLoss d, rfl, ?_⟩
      rw [Lane.tickLoss_eq hs hd]
      exact ⟨Lane.toSafe_inSafe _ _, (Lane.raiseWord_raised _ _ _).clearCounters.toSafe _, rfl, rfl⟩
    · intro d hd
      have hsame := Lane.tickLoss_idle (x := s.lane l) hd
      exact congrArg (fun y => Host.Outcome.next (s.withLane l y)) hsame
    · intro hc
      refine ⟨(s.lane l).tickNotClosed, rfl, ?_⟩
      rw [Lane.tickNotClosed_eq hs hc]
      exact ⟨Lane.toSafe_inSafe _ _, (Lane.raise_raised _ _ _ _).toSafe _, rfl⟩
    · intro r
      refine ⟨(s.lane l).collectorError r, rfl, ?_⟩
      rw [Lane.collectorError_eq r hs]
      have hraised : ((s.lane l).noteParity r).Raised .col001 (ctxOf .none r) := Lane.raise_raised _ _ _ _
      cases hd : (s.lane l).cfg.faultCollectorDirect
      · exact ⟨hraised, rfl, fun h => absurd h (by simp), fun _ => rfl⟩
      · exact ⟨hraised.toSafe _, rfl, fun _ => Lane.toSafe_inSafe _ _, fun h => absurd h (by simp)⟩

end Sys2Proof.Machine

/-! Lane links and leases (R17, R19, R20, R34, R123, R124, R128, R129, R131, R144, R145, R147, R420, R582). -/

namespace Sys2Proof.Machine

/-- Outcomes that leave one lane alike are alike. -/
theorem State.next_lane {s : State} {l : LaneId} {a b : Lane} (h : a = b) :
    (Host.Outcome.next (s.withLane l a) : Host.Outcome State Fault Refusal) = .next (s.withLane l b) := by rw [h]

/-! ## Lane links -/

/-- A section that its sender has formed already acts on the receiver alone (R582). -/
theorem State.linkFrame_eq {s : State} {l : LaneId} {r : LinkRx} (hne : r.sender ≠ l) (htail : r.sect ≠ .tail)
    (hformed : (if r.sect.behind then (s.lanes.get r.sender).settle else s.lanes.get r.sender).formSection r.sect = s.lanes.get r.sender) :
    s.linkFrame l r = s.withLane l ((if r.sect.behind then s.lane l else s.early l).linkReceive (s.lanes.get r.sender) r) := by
  have hsect : (r.sect == .tail) = false := by simpa using htail
  unfold State.linkFrame
  dsimp only
  rw [hformed, if_neg hne, hsect, Bool.and_false, if_neg Bool.false_ne_true, PerLane.set_get, PerLane.set_get]
  rfl

theorem State.linkFrame_early {s : State} {l : LaneId} {r : LinkRx} (hne : r.sender ≠ l) (hs : r.sect = .marker ∨ r.sect = .state) :
    s.linkFrame l r = s.withLane l ((s.early l).linkReceive (s.lanes.get r.sender) r) := by
  have hformed (tx : Lane) (c : LinkSection) (hc : c = .marker ∨ c = .state) : tx.formSection c = tx := by
    rcases hc with h | h <;> subst h <;> exact ite_self tx
  have hbehind : r.sect.behind = false := by rcases hs with h | h <;> rw [h] <;> rfl
  have htail : r.sect ≠ .tail := by rcases hs with h | h <;> rw [h] <;> decide
  rw [State.linkFrame_eq hne htail, hbehind]
  · rfl
  · rw [hformed _ _ hs, hbehind]
    rfl

theorem State.linkFrame_outputs {s : State} {l : LaneId} {r : LinkRx} {p : PubSection} (hne : r.sender ≠ l) (hs : r.sect = .outputs)
    (hdue : (s.lanes.get r.sender).due = none) (hp : (s.lanes.get r.sender).lease.pubOut = some p) :
    s.linkFrame l r = s.withLane l ((s.lane l).linkReceive (s.lanes.get r.sender) r) := by
  have hbehind : r.sect.behind = true := by rw [hs]; rfl
  have htail : r.sect ≠ .tail := by rw [hs]; decide
  have hsettle : (s.lanes.get r.sender).settle = s.lanes.get r.sender := by
    unfold Lane.settle
    rw [hdue]
  have hpub : (s.lanes.get r.sender).publishAll = s.lanes.get r.sender := if_pos (by simp [hp])
  rw [State.linkFrame_eq hne htail, hbehind]
  · rfl
  · rw [hbehind, if_pos rfl, hsettle, hs]
    unfold Lane.formSection
    split
    · rfl
    · exact hpub

theorem Lane.linkReceive_unheard {x tx : Lane} {r : LinkRx} (h : x.hears tx r = false) : x.linkReceive tx r = x := if_pos (by simp [h])

/-- The receiver as its tick stands when the last byte has arrived. -/
def Lane.atArrival (x : Lane) (r : LinkRx) : Lane := { x with now := r.arrival.toNat }

theorem Lane.linkReceive_marker {x tx : Lane} {r : LinkRx} (h : x.hears tx r) (hs : r.sect = .marker) :
    x.linkReceive tx r = (x.atArrival r).takeMarker tx r := by
  have hn : ¬(!x.hears tx r) = true := by simp [h]
  refine (if_neg hn).trans ?_
  rw [hs]
  rfl

theorem Lane.linkReceive_outputs {x tx : Lane} {r : LinkRx} (h : x.hears tx r) (hs : r.sect = .outputs) :
    x.linkReceive tx r = (x.atArrival r).takeOutputs tx := by
  have hn : ¬(!x.hears tx r) = true := by simp [h]
  refine (if_neg hn).trans ?_
  rw [hs]
  rfl

theorem Lane.linkReceive_state {x tx : Lane} {r : LinkRx} (h : x.hears tx r) (hs : r.sect = .state) :
    x.linkReceive tx r = (x.atArrival r).takeState tx := by
  have hn : ¬(!x.hears tx r) = true := by simp [h]
  refine (if_neg hn).trans ?_
  rw [hs]
  rfl

theorem Lane.modPeer_peerOf_self (x : Lane) (o : LaneId) (f : Peer → Peer) : (x.modPeer o f).peerOf o = f (x.peerOf o) := PerLane.get_set_self ..

theorem Lane.modPeer_peerOf_ne (x : Lane) {o z : LaneId} (f : Peer → Peer) (h : z ≠ o) : (x.modPeer o f).peerOf z = x.peerOf z :=
  PerLane.get_set_ne _ _ h

theorem Lane.takeMarker_eq {x tx : Lane} {r : LinkRx} (hl : r.loopback = none) :
    x.takeMarker tx r = x.modPeer tx.id fun p => p.place tx.markerOut (r.arrival - 128 - p.delay) x.tick.count := by
  unfold Lane.takeMarker
  rw [hl]
  rfl

theorem Lane.raise_peerOf (x : Lane) (ev : Ev) (sub : Subject) (v : Int) (o : LaneId) : (x.raise ev sub v).peerOf o = x.peerOf o := rfl

/-- Every marker carries the sender's tick count and the count of its resets (R34). -/
theorem Lane.markerOut_count (x : Lane) : x.markerOut.count = x.tick.count ∧ x.markerOut.resets = x.start.resets := by
  unfold Lane.markerOut
  split
  · exact ⟨rfl, rfl⟩
  · split <;> exact ⟨rfl, rfl⟩

/-- The direction of another lane whose markers have stayed out for eight ticks goes down, with LNK-001 (R20). -/
theorem Lane.linkDown_eq {x : Lane} {o : LaneId} (hne : o ≠ x.id) (hh : x.hearsLinks) (hm : (x.peerOf o).marker = none)
    (hd : (x.peerOf o).down = false) (hs : 7 ≤ (x.peerOf o).silent) (hup : (x.peerOf o).everUp) :
    x.linkDown o = (x.modPeer o fun p => { p with down := true }).raise .lnk001 (.link (x.id.link o)) o.code :=
  if_pos ⟨hne, hh, hs, by simp [hm], hup, by simp [hd]⟩

theorem Lane.linkDown_idle {x : Lane} {o : LaneId} (h : (x.peerOf o).everUp = false ∨ (x.peerOf o).silent < 7) : x.linkDown o = x := by
  refine if_neg ?_
  rintro ⟨-, -, hs, -, hup, -⟩
  rcases h with h | h
  · simp [h] at hup
  · omega

/-- Settles O21: a heard section hands over what the sender formed, an unheard one changes nothing, and eight missed markers take a link down. -/
theorem linkFramesAreTakenOrMissed : Obligations.LinkFramesAreTakenOrMissed := by
  unfold Obligations.LinkFramesAreTakenOrMissed
  constructor
  · rintro s l x w tx r rfl rfl hne rfl
    have hearly (hs : r.sect = .marker ∨ r.sect = .state) :
        exec (.linkFrameReceive l r) s = .next (s.withLane l ((s.early l).linkReceive (s.lanes.get r.sender) r)) :=
      congrArg Host.Outcome.next (State.linkFrame_early hne hs)
    refine ⟨?_, ?_, ?_, ?_⟩
    · intro hs hh
      rw [hearly (.inl hs), Lane.linkReceive_unheard hh]
    · intro hs hh hl
      refine ⟨_, hearly (.inl hs), ?_⟩
      rw [Lane.linkReceive_marker hh hs, Lane.takeMarker_eq hl, Lane.modPeer_peerOf_self]
      refine ⟨rfl, rfl, rfl, rfl, rfl, ?_, ?_, fun z hz => Lane.modPeer_peerOf_ne _ _ hz, rfl⟩
      · intro hnone
        have hnone' : (((s.early l).atArrival r).peerOf (s.lanes.get r.sender).id).lastMarker = none := hnone
        simp only [Peer.place, hnone', Lane.markerOut_count]
        rfl
      · intro o ho hres
        have ho' : (((s.early l).atArrival r).peerOf (s.lanes.get r.sender).id).lastMarker = some o := ho
        have hsame : ((s.lanes.get r.sender).markerOut.resets != o.resets) = false := by simp [Lane.markerOut_count, hres]
        simp only [Peer.place, ho', hsame]
        rfl
    · intro hs hdue hh p hp
      refine ⟨_, congrArg Host.Outcome.next (State.linkFrame_outputs hne hs hdue hp), ?_⟩
      rw [Lane.linkReceive_outputs hh hs, Lane.takeOutputs, hp]
      exact ⟨Lane.modPeer_peerOf_self _ _ _, fun z hz => Lane.modPeer_peerOf_ne _ _ hz, rfl⟩
    · intro hs hh hv
      refine ⟨_, hearly (.inr hs), ?_⟩
      have hfollow (y : Lane) : y.followAddr (s.lanes.get r.sender).detailOut = y := if_neg (by simp [hv])
      rw [Lane.linkReceive_state hh hs, Lane.takeState, hfollow]
      exact ⟨PerLane.get_set_self .., fun z hz => PerLane.get_set_ne _ _ hz, rfl⟩
  · rintro s l o x rfl hne hh hm hd
    constructor
    · intro hs hup
      refine ⟨(s.lane l).linkDown o, rfl, ?_⟩
      rw [Lane.linkDown_eq hne hh hm hd hs hup]
      refine ⟨?_, Lane.raise_raised _ _ _ _, fun z hz => ?_, rfl⟩
      · rw [Lane.raise_peerOf, Lane.modPeer_peerOf_self]
      · rw [Lane.raise_peerOf, Lane.modPeer_peerOf_ne _ _ hz]
    · intro h
      exact State.next_lane (Lane.linkDown_idle h)

/-! ## Leases -/

theorem Lane.modAx_ax_self (x : Lane) (n : AxisId) (f : AxisLease → AxisLease) : (x.modAx n f).ax n = f (x.ax n) := Tab.get_modify_self ..

theorem Lane.modAx_ax_ne (x : Lane) {n m : AxisId} (f : AxisLease → AxisLease) (h : m ≠ n) : (x.modAx n f).ax m = x.ax m :=
  Tab.get_modify_ne _ _ h

/-- An event about an axis, and what is then noted of that axis. -/
theorem Lane.raise_modAx (x : Lane) (n : AxisId) (ev : Ev) (v : Int) (f : AxisLease → AxisLease) :
    let y := (x.raise ev (.axis n.val) v).modAx n f
    y.ax n = f (x.ax n) ∧ y.Raised ev (ctxOf (.axis n.val) v) ∧ (∀ m, m ≠ n → y.ax m = x.ax m) ∧
      y = { x with lease := { x.lease with ax := y.lease.ax }, col := { x.col with raised := y.col.raised } } :=
  ⟨Lane.modAx_ax_self _ _ _, (x.raise_raised ev (.axis n.val) v).of_col rfl, fun _ hm => Lane.modAx_ax_ne _ _ hm, rfl⟩

theorem Lane.leaseExpiry_eq {x : Lane} {n : AxisId} (hs : x.start.state = .operate) (hr : (x.ax n).role = .holder) (hstop : x.lease.stopped = false)
    (hc : (x.ax n).counter = 0) :
    x.leaseExpiry n = (x.raise .lse001 (.axis n.val) (x.ax n).epoch.toNat).modAx n fun a => { a with role := .standby } :=
  if_pos ⟨hs, hr, hc, by simp [hstop]⟩

theorem Lane.axisOrphaned_eq {x : Lane} {n : AxisId} (ho : x.orphanNow n) (hc : 3 * (x.cfg.leaseLen + x.cfg.leaseGuard) ≤ (x.ax n).orphan + 1)
    (hl : (x.ax n).lse010 = false) :
    x.axisOrphaned n = (x.raise .lse010 (.axis n.val) ((x.ax n).orphan + 1 : Nat)).modAx n fun a => { a with lse010 := true } :=
  if_pos ⟨ho, hc, by simp [hl]⟩

theorem Lane.axisOrphaned_idle {x : Lane} {n : AxisId} (h : x.orphanNow n = false) : x.axisOrphaned n = x := if_neg (by simp [h])

theorem Lane.renewWithheld_eq {x : Lane} {n : AxisId} {q : Q} (hw : ((x.publish).endorse).withholds n = some q)
    (hc : x.cfg.leaseLen ≤ (x.ax n).withheld + 1) (hl : (x.ax n).lse002 = false) :
    x.renewWithheld n = (x.raise .lse002 (.axis n.val) (x.cfg.diffPermille n.val q (x.out.get n).prim)).modAx n
      fun a => { a with lse002 := true } := by
  unfold Lane.renewWithheld
  rw [hw]
  exact if_pos ⟨hc, by simp [hl]⟩

theorem Lane.renewWithheld_idle {x : Lane} {n : AxisId} (hw : ((x.publish).endorse).withholds n = none) : x.renewWithheld n = x := by
  unfold Lane.renewWithheld
  rw [hw]

/-- A claim is for the epoch after the one in force (R129). -/
def AxisLease.claimNext (a : AxisLease) : AxisLease := { a with claim := some (a.epoch + 1) }

theorem Lane.unplannedClaim_eq {x : Lane} {n : AxisId} (hm : x.mayClaim n) (hp : x.position n ≠ 0)
    (hs : x.position n * (x.cfg.leaseLen + x.cfg.leaseGuard) ≤ x.tick.count - (x.ax n).lastRenew) :
    x.unplannedClaim n = x.modAx n AxisLease.claimNext := if_pos ⟨hm, hp, hs⟩

theorem Lane.unplannedClaim_idle {x : Lane} {n : AxisId}
    (h : x.position n = 0 ∨ x.tick.count - (x.ax n).lastRenew < x.position n * (x.cfg.leaseLen + x.cfg.leaseGuard)) : x.unplannedClaim n = x := by
  refine if_neg ?_
  rintro ⟨-, hp, hs⟩
  rcases h with h | h
  · exact hp h
  · exact absurd hs (Nat.not_le.mpr h)

theorem Lane.successorClaim_eq {x : Lane} {n : AxisId} (hm : x.mayClaim n) (hn : (x.ax n).named) :
    x.successorClaim n = x.modAx n AxisLease.claimNext := if_pos ⟨hm, hn⟩

theorem Lane.successorClaim_idle {x : Lane} {n : AxisId} (h : (x.ax n).named = false) : x.successorClaim n = x := if_neg (by simp [h])

theorem Lane.modAx_claims (x : Lane) (n : AxisId) :
    let y := x.modAx n AxisLease.claimNext
    y.ax n = { x.ax n with claim := some ((x.ax n).epoch + 1) } ∧ (∀ m, m ≠ n → y.ax m = x.ax m) ∧
      y = { x with lease := { x.lease with ax := y.lease.ax } } :=
  ⟨Lane.modAx_ax_self _ _ _, fun _ hm => Lane.modAx_ax_ne _ _ hm, rfl⟩

/-- Settles O25: a counter at zero ends the holder role, the runs raise LSE-010 and LSE-002, and a claim names the next epoch alone. -/
theorem leaseLossAndClaims : Obligations.LeaseLossAndClaims := by
  unfold Obligations.LeaseLossAndClaims
  constructor
  · rintro s l x n rfl
    refine ⟨?_, ?_, ?_, ?_, ?_⟩
    · rintro w rfl hs hr hstop
      constructor
      · intro hc
        refine ⟨(s.early l).leaseExpiry n, rfl, ?_⟩
        rw [Lane.leaseExpiry_eq hs hr hstop hc]
        exact Lane.raise_modAx _ _ _ _ _
      · intro hc
        exact State.next_lane (if_neg fun h => hc h.2.2.1)
    · intro ho hc hl
      refine ⟨(s.lane l).axisOrphaned n, rfl, ?_⟩
      rw [Lane.axisOrphaned_eq ho hc hl]
      exact Lane.raise_modAx _ _ _ _ _
    · intro ho
      exact State.next_lane (Lane.axisOrphaned_idle ho)
    · intro q hw hc hl
      refine ⟨(s.lane l).renewWithheld n, rfl, ?_⟩
      rw [Lane.renewWithheld_eq hw hc hl]
      exact Lane.raise_modAx _ _ _ _ _
    · intro hw
      exact State.next_lane (Lane.renewWithheld_idle hw)
  · rintro s l x n rfl hm
    refine ⟨?_, ?_, ?_, ?_⟩
    · intro hp hs
      refine ⟨(s.early l).unplannedClaim n, rfl, ?_⟩
      rw [Lane.unplannedClaim_eq hm hp hs]
      exact Lane.modAx_claims _ _
    · intro h
      exact State.next_lane (Lane.unplannedClaim_idle h)
    · intro hn
      refine ⟨(s.early l).successorClaim n, rfl, ?_⟩
      rw [Lane.successorClaim_eq hm hn]
      exact Lane.modAx_claims _ _
    · intro hn
      exact State.next_lane (Lane.successorClaim_idle hn)

/-! ## Marver cycle, rotation and health report -/

theorem Lane.marverTimeout_eq {x : Lane} (hs : x.start.state = .operate) (ht : 160000 ≤ x.lease.marver.ticks) (hl : x.lease.marver.late = false) :
    x.marverTimeout =
      { x.raise .lse008 .none (x.lease.marver.ticks / 40 : Nat) with lease := { x.lease with marver := { x.lease.marver with late := true } } } :=
  if_pos ⟨hs, ht, by simp [hl]⟩

theorem Lane.rotationDue_eq {x : Lane} (hs : x.start.state = .operate) (hd : x.rotateAxes ≠ []) (hserv : 2 ≤ x.service)
    (hplan : x.lease.yieldPlan = []) (hslow : x.cfg.leaseRotateMode = 2 → x.steerSlow) :
    x.rotationDue = { x with lease := { x.lease with yieldPlan := x.rotateAxes.map (·.val), rotating := true, rotated := true } } := by
  have hrot : x.rotates := by
    by_cases hmode : x.cfg.leaseRotateMode = 2
    · simp [Lane.rotates, hserv, hslow hmode]
    · simp [Lane.rotates, hserv, hmode]
  exact if_pos ⟨hs, by simp [hd], by simp [hplan], hrot⟩

theorem Lane.rotationDue_idle {x : Lane} (h : x.rotateAxes = []) : x.rotationDue = x := if_neg (by simp [h])

/-- A health report has 64 bytes (R147). -/
theorem Lane.healthReport_length (x : Lane) : x.healthReport.length = 64 := by
  have epochs : (allAxes.flatMap fun n => beBytes 2 (x.ax n).epoch.toNat).length = 24 := by
    rw [List.length_flatMap, funext fun n => beBytes_length 2 (x.ax n).epoch.toNat]
    decide
  simp only [Lane.healthReport, List.length_append, beBytes_length, epochs, List.length_cons, List.length_nil]

/-- Settles O26: the marver cycle's time, the rotation and the health report fall due as their counts say. -/
theorem marverRotationAndReportFallDue : Obligations.MarverRotationAndReportFallDue := by
  unfold Obligations.MarverRotationAndReportFallDue
  rintro s l x rfl
  refine ⟨?_, ?_, ?_, ?_, ?_, ?_, Lane.healthReport_length _⟩
  · intro hs ht hl
    refine ⟨(s.lane l).marverTimeout, rfl, ?_⟩
    rw [Lane.marverTimeout_eq hs ht hl]
    exact ⟨rfl, (Lane.raise_raised _ _ _ _).of_col rfl, rfl⟩
  · intro ht
    exact State.next_lane (if_neg fun h => absurd h.2.1 (Nat.not_le.mpr ht))
  · intro hs hd hserv hplan hslow
    exact State.next_lane (Lane.rotationDue_eq hs hd hserv hplan hslow)
  · intro hd
    exact State.next_lane (Lane.rotationDue_idle hd)
  · intro hc
    exact State.next_lane (if_pos hc)
  · intro hc
    exact State.next_lane (if_neg hc)

end Sys2Proof.Machine

/-! Holding current, limit switches, step inputs, the journal of angles; blends and override (R213 to R218, R223 to R225, R247, R276, R279, R281). -/

namespace Sys2Proof.Machine

/-! ## Holding current and limit switches -/

theorem Lane.holdReduction_eq {x : Lane} {n : AxisId} (hk : x.cfg.kind n.val = .steer) (hr : (x.ax n).role = .holder)
    (hp : (x.prof.get n).phase = .rest) (ho : (x.prof.get n).holdOn = false) (hpct : x.cfg.axisProfileHoldPct n.val < 100)
    (hd : x.cfg.axisProfileHoldDelay n.val ≤ (x.prof.get n).holdCount) :
    x.holdReduction n = x.modProf n fun p => { p with holdOn := true } := if_pos ⟨hk, hr, hp, by simp [ho], hpct, hd⟩

theorem Lane.holdReduction_idle {x : Lane} {n : AxisId}
    (h : (x.prof.get n).holdCount < x.cfg.axisProfileHoldDelay n.val ∨ 100 ≤ x.cfg.axisProfileHoldPct n.val) : x.holdReduction n = x := by
  refine if_neg ?_
  rintro ⟨-, -, -, -, hpct, hd⟩
  omega

/-- A switch that trips stops a moving axis of its holder alone, or of a lane in UNSEALED (R218). -/
theorem Lane.switchTrips_idle {x : Lane} {n : AxisId} (neg : Bool) (hr : (x.ax n).role = .standby) (hs : x.start.state = .operate) :
    x.switchTrips n neg = x := if_neg (by simp [hr, hs])

theorem Lane.switchTrips_moving {x : Lane} {n : AxisId} (neg : Bool) (hr : (x.ax n).role = .holder) (hm : (x.prof.get n).moving)
    (he : x.endLearn n = false) :
    x.switchTrips n neg =
      (x.modProf n fun p => { p with stopNext := if p.stopNext = 0 then 2 else p.stopNext }).raise .fbk032 (.axis n.val) (if neg then 0 else 1) :=
  if_pos (by simp [hr, hm, he])

/-- The positive switch of a lane that does not hold the axis is taken over, and nothing more (R216). -/
theorem Lane.debounce_standby {x : Lane} {n : AxisId} (hseen : (x.swPos.get n).seen) (hraw : (x.swPos.get n).raw ≠ (x.swPos.get n).deb)
    (hrun : x.cfg.axisProfileLimitTDeb n.val ≤ (x.swPos.get n).run) (hr : (x.ax n).role = .standby) (hs : x.start.state = .operate) :
    x.debounce n false = { x with swPos := x.swPos.set n { x.swPos.get n with deb := (x.swPos.get n).raw } } := by
  have hstay := Lane.switchTrips_idle (x := { x with swPos := x.swPos.set n { x.swPos.get n with deb := (x.swPos.get n).raw } }) false hr hs
  refine (if_pos ⟨hseen, hraw, hrun⟩).trans ?_
  exact keeps_ite (· = _) hstay rfl

/-- The negative switch as its raw state has been taken over. -/
def Lane.takeNeg (x : Lane) (n : AxisId) : Lane := { x with swNeg := x.swNeg.set n { x.swNeg.get n with deb := (x.swNeg.get n).raw } }

/-- The negative switch closed against a move of the holder stops it (R218). -/
theorem Lane.debounce_stops {x : Lane} {n : AxisId} (hseen : (x.swNeg.get n).seen) (hraw : (x.swNeg.get n).raw) (hdeb : (x.swNeg.get n).deb = false)
    (hch : (x.swNeg.get n).chatter = false) (hrun : x.cfg.axisProfileLimitTDeb n.val ≤ (x.swNeg.get n).run) :
    x.debounce n true = (x.takeNeg n).switchTrips n true := by
  refine (if_pos ⟨hseen, by simp [hraw, hdeb], hrun⟩).trans ?_
  refine if_pos ?_
  simp [Switch.tripped, hraw, hdeb, hch]

theorem Lane.chatterEnd_neg {x : Lane} {n : AxisId} (hch : (x.swNeg.get n).chatter)
    (ht : ∀ t ∈ (x.swNeg.get n).trans, t + x.cfg.axisProfileLimitChatterWin n.val ≤ x.tick.count) :
    x.chatterEnd n true = { x with swNeg := x.swNeg.set n { x.swNeg.get n with chatter := false, deb := (x.swNeg.get n).raw } } :=
  if_pos ⟨hch, by simpa using ht⟩

/-- What is noted once a switch has been said to disagree. -/
def Profile.disagreed (p : Profile) : Profile := { p with disagree := satInc 65535 p.disagree + 1 }

theorem Lane.switchDisagree_neg {x : Lane} {n : AxisId} (h : (x.prof.get n).disagree = x.cfg.axisProfileLimitChatterWin n.val) :
    x.switchDisagree n true = (x.raise .fbk031 (.axis n.val) 0).modProf n Profile.disagreed := if_pos h

/-! ## The step input -/

/-- Lines that stand have nothing to settle. -/
theorem Lane.stepSettle_standing {x : Lane} (before : Nat) (hs : x.stepIn.step.raw = x.stepIn.step.lvl) (hd : x.stepIn.dir.raw = x.stepIn.dir.lvl) :
    x.stepSettle before = x := by
  have hstep : x.stepIn.step.due 80 = none := if_pos hs
  have hdir : x.stepIn.dir.due 80 = none := if_pos hd
  unfold Lane.stepSettle
  simp only [hstep, hdir, Option.filter_none]

/-- The lane as the first sample of its step input leaves it: l_STEP risen at a clock, l_DIR low. -/
def Lane.stepRisen (x : Lane) (clk : Nat) : Lane := { x with stepIn := { x.stepIn with
  step := { pin := true, raw := true, lvl := true, last := some clk }, dir := {}, fastNow := x.stepIn.fastNow } }

/-- That sample is taken as a step with the level of l_DIR (R223). -/
theorem Lane.stepEdge_first {x : Lane} (clk : Nat) (he : x.cfg.stepinEdge = 0) (hs : x.stepIn.step = {}) (hd : x.stepIn.dir = {}) :
    x.stepEdge clk true false = (x.stepRisen clk).takeStep clk false := by
  have hsettle : x.stepSettle clk = x := Lane.stepSettle_standing clk (by rw [hs]) (by rw [hd])
  have hstep : x.stepIn.step.sample 80 false true clk = ({ pin := true, raw := true, lvl := true, last := some clk }, false, true) := by
    rw [hs]
    rfl
  have hdir : x.stepIn.dir.sample 80 false false clk = ({}, false, false) := by
    rw [hd]
    rfl
  have hlow : x.stepIn.dir.lvl = false := by rw [hd]
  have hedge : (true && true == (x.cfg.stepinEdge == 0)) = true := by simp [he]
  unfold Lane.stepEdge
  simp only [hsettle, hstep, hdir, hlow]
  exact if_pos hedge

theorem Lane.takeStep_stepIn (x : Lane) (clk : Nat) :
    let y := x.takeStep clk false
    y.stepIn.sum = wrap32 (x.stepIn.sum + if x.cfg.stepinDirpol = 1 then x.cfg.stepinSize else -x.cfg.stepinSize) ∧
      y.stepIn.tk = some clk ∧ y.stepIn.settled = false ∧ y.stepIn.step = x.stepIn.step ∧
      (x.stepIn.settled → y.stepIn.tint = x.cfg.stepinTfirst * 10000) ∧ y = { x with stepIn := y.stepIn } := by
  refine ⟨?_, rfl, rfl, rfl, ?_, rfl⟩
  · by_cases h : x.cfg.stepinDirpol = 1 <;> simp [Lane.takeStep, h]
  · intro h
    cases htk : x.stepIn.tk <;> simp [Lane.takeStep, h, htk]

theorem Lane.stepSettled_eq {x : Lane} (hk : x.stepIn.tk.isSome) (hs : x.stepIn.settled = false)
    (ha : 2 * (x.stepIn.tint : Int) ≤ x.stepIn.age x.tick.count 0 x.clk) :
    x.stepSettled = { x with stepIn := { x.stepIn with settled := true, dx := fx x.stepIn.sum, vn := 0 } } := if_pos ⟨hk, by simp [hs], ha⟩

/-! ## The journal of angles -/

/-- What a journal write leaves of the angles: those of the motor axes (R247). -/
def Lane.thetaWritten (x : Lane) : Lane :=
  { x with
    bus := { x.bus with thetaTick := 0 }
    nvm := { x.nvm with theta := x.nvm.theta.mapFin fun i t => if x.cfg.motor i.val then t.write (x.loop.get i).theta else t } }

theorem Lane.thetaWrite_eq {x : Lane} (h : 40000 ≤ x.bus.thetaTick) : x.thetaWrite = x.thetaWritten := if_pos h

/-- Settles O29: holding current, limit switches, step input and the journal of angles act as their counts say. -/
theorem switchesStepsAndAngles : Obligations.SwitchesStepsAndAngles := by
  unfold Obligations.SwitchesStepsAndAngles
  constructor
  · rintro s l x n rfl
    refine ⟨?_, ?_, ?_, ?_, ?_, ?_⟩
    · intro hk hr hp ho hpct hd
      exact State.next_lane (Lane.holdReduction_eq hk hr hp ho hpct hd)
    · intro h
      exact State.next_lane (Lane.holdReduction_idle h)
    · intro hseen hraw hrun hr hs
      exact State.next_lane (Lane.debounce_standby hseen hraw hrun hr hs)
    · intro hseen hraw hdeb hch hrun hr he hm hstop
      refine ⟨(s.lane l).debounce n true, rfl, ?_⟩
      rw [Lane.debounce_stops hseen hraw hdeb hch hrun, Lane.switchTrips_moving (x := (s.lane l).takeNeg n) true hr hm he]
      refine ⟨?_, ?_, Lane.raise_raised _ _ _ _, rfl⟩
      · rw [Lane.raise_swNeg, Lane.modProf_swNeg, Lane.takeNeg, Tab.get_set_self]
        exact hraw
      · rw [Lane.raise_prof]
        refine (congrArg Profile.stopNext (Tab.get_modify_self ..)).trans ?_
        exact if_pos hstop
    · intro hch ht
      exact State.next_lane (Lane.chatterEnd_neg hch ht)
    · intro h
      refine ⟨(s.lane l).switchDisagree n true, rfl, ?_⟩
      rw [Lane.switchDisagree_neg h]
      exact ⟨(Lane.raise_raised _ _ _ _).of_col rfl, rfl⟩
  · rintro s l x rfl
    refine ⟨?_, ?_, ?_, ?_⟩
    · rintro w at_ rfl he hs hd
      refine ⟨({ s.early l with now := at_ } : Lane).stepEdge ((s.early l).clk + at_) true false, rfl, ?_⟩
      rw [Lane.stepEdge_first (x := { s.early l with now := at_ }) _ he hs hd]
      obtain ⟨hsum, htk, hset, hstep, htint, heq⟩ := Lane.takeStep_stepIn (({ s.early l with now := at_ } : Lane).stepRisen ((s.early l).clk + at_))
        ((s.early l).clk + at_)
      refine ⟨hsum, htk, hset, ?_, htint, heq⟩
      rw [hstep]
      rfl
    · intro hk hset ha
      exact State.next_lane (Lane.stepSettled_eq hk hset ha)
    · intro h
      refine ⟨(s.lane l).thetaWrite, rfl, ?_⟩
      rw [Lane.thetaWrite_eq h]
      exact ⟨rfl, fun n => Tab.get_mapFin .., rfl⟩
    · intro h
      exact State.next_lane (if_neg (Nat.not_le.mpr h))

/-! ## Blends and override -/

theorem Lane.modSup_sup_self (x : Lane) (n : AxisId) (f : SupPart → SupPart) : (x.modSup n f).sup.get n = f (x.sup.get n) := Tab.get_modify_self ..

theorem Lane.modSup_sup_ne (x : Lane) {n m : AxisId} (f : SupPart → SupPart) (h : m ≠ n) : (x.modSup n f).sup.get m = x.sup.get m :=
  Tab.get_modify_ne _ _ h

theorem Lane.setpointBlendTimeout_eq {x : Lane} {n : AxisId} (hb : (x.sup.get n).blend) (hr : (x.sup.get n).blendRaised = false)
    (hc : x.commands n) (ht : x.cfg.axisHandoverTmax n.val ≤ (x.sup.get n).blendTick) :
    x.setpointBlendTimeout n = (x.raise .pls010 (.axis n.val) (roundDiv (absI ((x.sup.get n).d - (x.sup.get n).b)) (2 ^ 32))).modSup n
      fun s => { s with blendRaised := true } := if_pos ⟨hb, by simp [hr], hc, ht⟩

theorem Lane.setpointBlendTimeout_idle {x : Lane} {n : AxisId} (hb : (x.sup.get n).blend = false) : x.setpointBlendTimeout n = x :=
  if_neg (by simp [hb])

theorem Lane.outputBlendTimeout_eq {x : Lane} {n : AxisId} (hb : (x.sup.get n).ob.isSome) (hr : (x.sup.get n).obRaised = false)
    (hc : x.commands n) (ht : x.cfg.axisHandoverTmax n.val ≤ (x.sup.get n).obTick) :
    x.outputBlendTimeout n = (x.raise .pls011 (.axis n.val)
      (x.cfg.diffPermille n.val (x.sup.get n).computed (x.sup.get n).driven)).modSup n fun s => { s with obRaised := true } :=
  if_pos ⟨hb, by simp [hr], hc, ht⟩

/-- The step of one axis at an engaged override: MANUAL asked for where the axis follows it (R281). -/
def Lane.askManual (c : Cfg) (l : Lane) (n : AxisId) : Lane :=
  let s := l.sup.get n
  if c.kind n.val = .steer ∧ c.axisModeOverride n.val ∧ (s.mode = 0 ∨ s.mode = 1 ∨ s.mode = 3) ∧
      (l.commands n ∨ (l.ax n).yieldedTo = some l.id) ∧ !(l.prof.get n).jobOwns then
    l.modSup n fun s => { s with reqs := s.reqs ++ [{ mode := 2, prio := 1, override := true }] }
  else l

/-- The override as it is noted, with OPR-010 where the lane holds the FEEL axis. -/
def Lane.noteOverride (x : Lane) : Lane :=
  let y := if x.holdsFeel then x.raise .opr010 (.axis x.cfg.steerOverrideFeel) x.chas.overrideBy else x
  { y with chas := { y.chas with overFired := true }, can := { y.can with resetDue := true } }

/-- The count that the override is judged by (R280, R281). -/
def Lane.overrideCount (x : Lane) : Nat := if x.holdsFeel then x.chas.override else x.overrideSeen

theorem Lane.overrideEngage_eq {x : Lane} (hf : x.cfg.steerOverrideFeel < 12) (ho : x.chas.overFired = false)
    (hc : x.cfg.steerOverrideTime ≤ x.overrideCount) : x.overrideEngage = allAxes.foldl (Lane.askManual x.cfg) x.noteOverride :=
  if_pos ⟨hf, by simp [ho], hc⟩

theorem Lane.overrideEngage_idle {x : Lane} (h : x.chas.overFired ∨ x.overrideCount < x.cfg.steerOverrideTime) : x.overrideEngage = x := by
  refine if_neg ?_
  rintro ⟨-, ho, hc⟩
  rcases h with h | h
  · simp [h] at ho
  · exact absurd hc (Nat.not_le.mpr h)

/-- Requests alone may have changed. -/
def Lane.SupOnly (x y : Lane) : Prop := y = { x with sup := y.sup }

theorem Lane.askManual_supOnly {x y : Lane} (c : Cfg) (h : x.SupOnly y) (n : AxisId) : x.SupOnly (y.askManual c n) := by
  unfold Lane.askManual
  refine keeps_ite x.SupOnly ?_ h
  unfold Lane.SupOnly at *
  rw [h]
  rfl

theorem Lane.noteOverride_keeps (x : Lane) :
    x.noteOverride = { x with chas := { x.chas with overFired := true }, can := { x.can with resetDue := true }
                              col := { x.col with raised := x.noteOverride.col.raised } } := by
  unfold Lane.noteOverride
  dsimp only
  split <;> rfl

theorem Lane.askAll_supOnly (x : Lane) : x.noteOverride.SupOnly (allAxes.foldl (Lane.askManual x.cfg) x.noteOverride) :=
  foldl_keeps x.noteOverride.SupOnly _ (fun _ n h => Lane.askManual_supOnly x.cfg h n) _ _ rfl

/-- What the engaged override leaves at each axis. -/
theorem Lane.askAll_sup (x : Lane) (n : AxisId) :
    (allAxes.foldl (Lane.askManual x.cfg) x.noteOverride).sup.get n = ((x.askManual x.cfg n).sup.get n) := by
  obtain ⟨y, hy, hsame, hlast⟩ := foldl_at x.noteOverride.SupOnly (Lane.askManual x.cfg) (fun l m => l.sup.get m)
    (fun _ m h => Lane.askManual_supOnly x.cfg h m)
    (fun y i j hj => by
      unfold Lane.askManual
      dsimp only
      split
      · exact Lane.modSup_sup_ne _ _ hj
      · rfl) allAxes x.noteOverride rfl allAxes_nodup (mem_allAxes n)
  rw [hlast]
  have hnote := x.noteOverride_keeps
  have hsup : y.sup.get n = x.sup.get n := hsame.trans (by rw [hnote])
  have hcmd : y.commands n = x.commands n := by rw [hy, hnote]; rfl
  have hto : (y.ax n).yieldedTo = (x.ax n).yieldedTo := by rw [hy, hnote]; rfl
  have hid : y.id = x.id := by rw [hy, hnote]
  have hprof : y.prof = x.prof := by rw [hy, hnote]
  unfold Lane.askManual
  dsimp only
  rw [hsup, hcmd, hto, hid, hprof]
  split
  · rw [Lane.modSup_sup_self, Lane.modSup_sup_self, hsup]
  · exact hsup

theorem Lane.askManual_follows {x : Lane} {n : AxisId} (hk : x.cfg.kind n.val = .steer) (ho : x.cfg.axisModeOverride n.val)
    (hm : (x.sup.get n).mode = 0 ∨ (x.sup.get n).mode = 1 ∨ (x.sup.get n).mode = 3) (hc : x.commands n ∨ (x.ax n).yieldedTo = some x.id)
    (hj : (x.prof.get n).jobOwns = false) :
    ((x.askManual x.cfg n).sup.get n).reqs = (x.sup.get n).reqs ++ [{ mode := 2, prio := 1, override := true }] := by
  rw [Lane.askManual, if_pos ⟨hk, ho, hm, hc, by simp [hj]⟩, Lane.modSup_sup_self]

theorem Lane.askManual_stays {x : Lane} {n : AxisId}
    (h : x.cfg.kind n.val ≠ .steer ∨ x.commands n = false ∧ (x.ax n).yieldedTo ≠ some x.id) : x.askManual x.cfg n = x := by
  refine if_neg ?_
  rintro ⟨hk, -, -, hc, -⟩
  rcases h with h | ⟨h1, h2⟩
  · exact h hk
  · rcases hc with hc | hc
    · simp [h1] at hc
    · exact h2 hc

/-- Settles O30: each blend's time raises its event once, and a lasting override asks for MANUAL at every axis that follows it. -/
theorem blendsAndOverrideAreBounded : Obligations.BlendsAndOverrideAreBounded := by
  unfold Obligations.BlendsAndOverrideAreBounded
  rintro s l x rfl
  refine ⟨?_, ?_, ?_, ?_⟩
  · intro n hb hr hc ht
    refine ⟨(s.lane l).setpointBlendTimeout n, rfl, ?_⟩
    rw [Lane.setpointBlendTimeout_eq hb hr hc ht]
    refine ⟨?_, (Lane.raise_raised _ _ _ _).of_col rfl, rfl⟩
    rw [Lane.modSup_sup_self]
  · intro n hb hr hc ht
    refine ⟨(s.lane l).outputBlendTimeout n, rfl, ?_⟩
    rw [Lane.outputBlendTimeout_eq hb hr hc ht]
    refine ⟨?_, ⟨_, (Lane.raise_raised _ _ _ _).of_col rfl⟩, rfl⟩
    rw [Lane.modSup_sup_self]
  · intro n hb
    exact State.next_lane (Lane.setpointBlendTimeout_idle hb)
  · intro x hx
    have hexec : exec (.override_ l) s = .next (s.withLane l x.overrideEngage) := by
      rw [← hx]
      rfl
    rw [hexec]
    refine ⟨fun h => State.next_lane (Lane.overrideEngage_idle h), ?_⟩
    intro hf ho hc
    refine ⟨_, rfl, ?_⟩
    rw [Lane.overrideEngage_eq hf ho hc]
    have hnote := x.noteOverride_keeps
    have hall := x.askAll_supOnly
    have hchas : x.noteOverride.chas = { x.chas with overFired := true } := by rw [hnote]
    have hcan : x.noteOverride.can = { x.can with resetDue := true } := by rw [hnote]
    refine ⟨?_, ?_, ?_, ?_, ?_, ?_⟩
    · rw [hall]
      exact hchas
    · rw [hall]
      exact hcan
    · intro hfeel
      have hraised : x.noteOverride.Raised .opr010 (ctxOf (.axis x.cfg.steerOverrideFeel) x.chas.overrideBy) := by
        unfold Lane.noteOverride
        rw [if_pos hfeel]
        exact (Lane.raise_raised _ _ _ _).of_col rfl
      exact hraised.of_col (by rw [hall])
    · intro n hk hov hm hcmd hj
      rw [Lane.askAll_sup]
      exact Lane.askManual_follows hk hov hm hcmd hj
    · intro n h
      rw [Lane.askAll_sup, Lane.askManual_stays h]
    · rw [hall, hnote]

end Sys2Proof.Machine

/-! Profile and mode requests at the axes they name (R202, R205, R270, R384, R511). -/

namespace Sys2Proof.Machine

/-! ## Profile requests -/

theorem exec_profile_command (s : State) (o : ReqFrom) (axis : Nat) (r : ProfReq) :
    exec (r.command o axis) s = .next (s.onReq o fun x h => x.profileRequest h axis r) := by
  cases r <;> rfl

/-- A request on the pins of a lane is one of its axis. -/
theorem Lane.profileRequest_pins (x : Lane) (n : AxisId) (r : ProfReq) : x.profileRequest none n.val r = x.request n r .outside := dif_pos n.isLt

theorem Lane.request_held {x : Lane} {n : AxisId} (r : ProfReq) (o : ReqBy) (hk : x.cfg.kind n.val = .steer) (hr : (x.ax n).role = .holder) :
    x.request n r o = x.modProf n fun p => { p with reqs := p.reqs ++ [(r, o)] } := by
  refine (if_neg ?_).trans (if_pos ?_)
  · simp [hk]
  · simp [hr]

theorem Lane.request_forwarded {x : Lane} {n : AxisId} (r : ProfReq) (o : ReqBy) (hk : x.cfg.kind n.val = .steer)
    (hr : (x.ax n).role ≠ .holder) (hs : x.start.state ≠ .unsealed) :
    x.request n r o = x.modProf n fun p => { p with forward := p.forward ++ [(r, o)] } := by
  refine (if_neg ?_).trans (if_neg ?_)
  · simp [hk]
  · simp [hr, hs]

theorem Lane.request_other {x : Lane} {n : AxisId} (r : ProfReq) (o : ReqBy) (hk : x.cfg.kind n.val ≠ .steer) : x.request n r o = x :=
  if_pos (by simp [hk])

theorem exec_profile_pins (s : State) (l : LaneId) (n : AxisId) (r : ProfReq) :
    exec (r.command (.lane l) n.val) s = .next (s.withLane l ((s.lane l).request n r .outside)) := by
  rw [exec_profile_command, ← Lane.profileRequest_pins]
  rfl

/-- What a service answers to a profile request, and what the request leaves on the lane. -/
def Lane.profileServed (n : AxisId) (r : ProfReq) (z : Lane) : Lane × Nat × List Byte :=
  if z.cfg.kind n.val != .steer then (z, 1, [])
  else (z.request n r .outside, if z.judgeReq n r .outside = 0 then 0 else 4, [byteOf (z.judgeReq n r .outside)])

theorem Lane.profileRequest_service (x : Lane) (h : SvcHdr) (n : AxisId) (r : ProfReq) :
    x.profileRequest (some h) n.val r = x.serve h 0x09 true true (Lane.profileServed n r) := by
  simp only [Lane.profileRequest, Fin.is_lt, dite_true]
  rfl

theorem exec_profile_service (s : State) (h : SvcHdr) (n : AxisId) (r : ProfReq) :
    exec (r.command (.service h) n.val) s = .next (s.onSvc h fun y => y.serve h 0x09 true true (Lane.profileServed n r)) := by
  rw [exec_profile_command]
  exact congrArg (fun f => Host.Outcome.next (s.onSvc h f)) (funext fun y => y.profileRequest_service h n r)

/-! ## Mode requests -/

/-- The axes a mode request concerns: its own, and the STEER axes that follow it (R270). -/
def Lane.concerned (x : Lane) (n : AxisId) : List AxisId :=
  n :: allAxes.filter fun k => k != n && x.cfg.kind k.val == .steer && x.cfg.axisFollowLead k.val == n.val

theorem Lane.mem_concerned (x : Lane) (n k : AxisId) :
    k ∈ x.concerned n ↔ k = n ∨ x.cfg.kind k.val = .steer ∧ x.cfg.axisFollowLead k.val = n.val := by
  by_cases h : k = n <;> simp [Lane.concerned, h, mem_allAxes]

theorem Lane.concerned_nodup (x : Lane) (n : AxisId) : (x.concerned n).Nodup :=
  List.nodup_cons.mpr ⟨by simp, allAxes_nodup.filter _⟩

theorem Lane.modeRequest_supOnly {x y : Lane} (h : x.SupOnly y) (r : ModeReq) (k : AxisId) : x.SupOnly (y.modeRequest k r) := by
  unfold Lane.modeRequest
  refine keeps_ite x.SupOnly ?_ ?_ <;>
    · unfold Lane.SupOnly at *
      rw [h]
      rfl

theorem Lane.modeRequestAll_supOnly (x : Lane) (n : AxisId) (r : ModeReq) : x.SupOnly (x.modeRequestAll n r) :=
  foldl_keeps x.SupOnly (fun y k => y.modeRequest k r) (fun _ k h => Lane.modeRequest_supOnly h r k) _ _ rfl

theorem Lane.modeRequest_sup_ne (x : Lane) (r : ModeReq) {k j : AxisId} (h : j ≠ k) : (x.modeRequest k r).sup.get j = x.sup.get j := by
  unfold Lane.modeRequest
  split <;> exact Lane.modSup_sup_ne _ _ h

/-- A concerned axis takes the request once, any other stays. -/
theorem Lane.modeRequestAll_sup (x : Lane) (n k : AxisId) (r : ModeReq) :
    (x.modeRequestAll n r).sup.get k = if k ∈ x.concerned n then (x.modeRequest k r).sup.get k else x.sup.get k := by
  split
  case isTrue hk =>
    obtain ⟨y, hy, hsame, hlast⟩ := foldl_at x.SupOnly (fun y k => y.modeRequest k r) (fun y k => y.sup.get k)
      (fun _ j h => Lane.modeRequest_supOnly h r j) (fun y _ _ h => y.modeRequest_sup_ne r h) (x.concerned n) x rfl (x.concerned_nodup n) hk
    refine hlast.trans ?_
    have hcmd : y.commands k = x.commands k := by rw [hy]; rfl
    have hsup : y.sup.get k = x.sup.get k := hsame
    unfold Lane.modeRequest
    rw [hcmd]
    split <;> rw [Lane.modSup_sup_self, Lane.modSup_sup_self, hsup]
  case isFalse hk =>
    refine List.foldlRecOn (motive := fun y : Lane => y.sup.get k = x.sup.get k) (x.concerned n) (fun y j => y.modeRequest j r) rfl ?_
    exact fun y hy j hj => (y.modeRequest_sup_ne r fun e => hk (by rw [e]; exact hj)).trans hy

theorem exec_mode_pins (s : State) (l : LaneId) (n : AxisId) (mode : Nat) :
    exec (.modeRequest (.lane l) n.val mode) s = .next (s.withLane l ((s.lane l).modeRequestAll n { mode := mode, prio := 3 })) := by
  have h (x : Lane) : x.modeService none n.val mode = x.modeRequestAll n { mode := mode, prio := 3 } := dif_pos n.isLt
  rw [← h]
  rfl

/-- What a service answers to a mode request (Table 10.2), and what the request leaves on the lane. -/
def Lane.modeServed (n : AxisId) (r : ModeReq) (z : Lane) : Lane × Nat × List Byte :=
  if !z.cfg.hasAxis n.val then (z, 1, [])
  else (z.modeRequestAll n r, if z.judgeMode n r = 0 then 0 else 4, [byteOf (z.judgeMode n r)])

theorem Lane.modeService_service (x : Lane) (h : SvcHdr) (n : AxisId) (mode : Nat) :
    x.modeService (some h) n.val mode = x.serve h 0x0A true true (Lane.modeServed n { mode := mode, prio := 3 }) := by
  simp only [Lane.modeService, Fin.is_lt, dite_true]
  rfl

theorem exec_mode_service (s : State) (h : SvcHdr) (n : AxisId) (mode : Nat) :
    exec (.modeRequest (.service h) n.val mode) s =
      .next (s.onSvc h fun y => y.serve h 0x0A true true (Lane.modeServed n { mode := mode, prio := 3 })) :=
  congrArg (fun f => Host.Outcome.next (s.onSvc h f)) (funext fun y => y.modeService_service h n mode)

/-- Settles O28: profile and mode requests wait at the lanes that have their axes, go on to those lanes elsewhere, and are answered by the axis's state. -/
theorem requestsReachTheirAxes : Obligations.RequestsReachTheirAxes := by
  unfold Obligations.RequestsReachTheirAxes
  constructor
  · rintro s l x n r rfl
    rw [exec_profile_pins]
    refine ⟨?_, ?_, ?_, ?_⟩
    · intro hk hr
      exact State.next_lane (Lane.request_held r .outside hk hr)
    · intro hk hr hs
      exact State.next_lane (Lane.request_forwarded r .outside hk hr hs)
    · intro hk
      exact State.next_lane (Lane.request_other r .outside hk)
    · intro h hadm
      rw [exec_profile_service]
      constructor
      · intro hk hr
        refine ⟨_, rfl, State.onSvc_served rfl hadm fun z hz => ?_⟩
        have hkind : z.cfg.kind n.val = .steer := by rw [hz]; exact hk
        have hrole : (z.ax n).role = .holder := by rw [hz]; exact hr
        have hres : z.judgeReq n r .outside = (s.lane l).judgeReq n r .outside := by rw [hz]; rfl
        unfold Lane.profileServed
        rw [if_neg (by simp [hkind]), hres, Lane.request_held r .outside hkind hrole]
        rfl
      · intro hk
        refine ⟨_, rfl, State.onSvc_served rfl hadm fun z hz => ?_⟩
        have hkind : z.cfg.kind n.val ≠ .steer := by rw [hz]; exact hk
        exact if_pos (by simp [hkind])
  · rintro s l x n mode rfl
    constructor
    · refine ⟨_, exec_mode_pins s l n mode, Lane.modeRequestAll_supOnly _ _ _, fun k => ?_⟩
      dsimp only
      rw [← Lane.mem_concerned, Lane.modeRequestAll_sup]
      refine ⟨?_, ?_, ?_⟩
      · intro hk hc
        rw [if_pos hk, Lane.modeRequest, if_pos hc, Lane.modSup_sup_self]
      · intro hk hc
        rw [if_pos hk, Lane.modeRequest, if_neg (by simp [hc]), Lane.modSup_sup_self]
      · intro hk
        rw [if_neg hk]
    · intro h hadm
      rw [exec_mode_service]
      constructor
      · intro hax
        refine ⟨_, rfl, State.onSvc_served rfl hadm fun z hz => ?_⟩
        have hhas : z.cfg.hasAxis n.val := by rw [hz]; exact hax
        have hres : z.judgeMode n { mode := mode, prio := 3 } = (s.lane l).judgeMode n { mode := mode, prio := 3 } := by rw [hz]; rfl
        unfold Lane.modeServed
        rw [if_neg (by simp [hhas]), hres]
      · intro hax
        refine ⟨_, rfl, State.onSvc_served rfl hadm fun z hz => ?_⟩
        have hhas : z.cfg.hasAxis n.val = false := by rw [hz]; exact hax
        exact if_pos (by simp [hhas])

end Sys2Proof.Machine

/-! Commutation: lost observers, pump start, Hall states; reload points (R293, R298 to R304, R308, R309, R312, R313, R317, R318, R320, R327, R346). -/

namespace Sys2Proof.Machine

/-! ## The legs of an axis -/

theorem Cfg.legsOf_nodup (c : Cfg) (lane : LaneId) (n : Nat) : (c.legsOf lane n).Nodup := by
  unfold Cfg.legsOf
  cases c.startLeg lane n with
  | none => exact List.nodup_nil
  | some k =>
    have hthree : [k, k + 1, k + 2].Nodup := by simp
    have htwo : [k, k + 1].Nodup := by simp
    cases c.kind n with
    | none => exact List.nodup_nil
    | steer => exact hthree.filter _
    | feel => exact hthree.filter _
    | pump => exact hthree.filter _
    | chopper => exact List.pairwise_singleton _ _
    | valve =>
      refine keeps_ite List.Nodup ?_ ?_
      · exact htwo.filter _
      · exact List.pairwise_singleton _ _

theorem Lane.modLeg_get (x : Lane) (k i : LegId) (f : Leg → Leg) :
    (x.modLeg k f).leg.get i = if i = k then f (x.leg.get i) else x.leg.get i := by
  split
  · next h =>
    subst h
    exact Tab.get_modify_self ..
  · next h => exact Tab.get_modify_ne _ _ h

theorem Lane.foldl_modLeg_get (f : Nat → Leg → Leg) (is : List Nat) (hn : is.Nodup) (x : Lane) (i : LegId) :
    (is.foldl (fun (l : Lane) j => match legOf j with | some k => l.modLeg k (f j) | none => l) x).leg.get i =
      if i.val ∈ is then f i.val (x.leg.get i) else x.leg.get i := by
  induction is generalizing x with
  | nil => rfl
  | cons j is ih =>
    obtain ⟨hj, hn⟩ := List.nodup_cons.mp hn
    rw [List.foldl_cons, ih hn]
    have hone : (match legOf j with | some k => x.modLeg k (f j) | none => x).leg.get i = if i.val = j then f j (x.leg.get i) else x.leg.get i := by
      by_cases hlt : j < 16
      · have heq : (i = ⟨j, hlt⟩) ↔ i.val = j := Fin.ext_iff
        simp only [legOf, hlt, dite_true, Lane.modLeg_get, heq]
      · have hne : i.val ≠ j := by omega
        simp only [legOf, hlt, dite_false, hne, if_false]
    rw [hone]
    by_cases hij : i.val = j
    · subst hij
      simp [hj]
    · simp [hij]

/-- A change of the legs of an axis reaches each of them once, and no other. -/
theorem Lane.modLegs_get (x : Lane) (n : AxisId) (f : Nat → Leg → Leg) (i : LegId) :
    (x.modLegs n f).leg.get i = if i.val ∈ x.cfg.legsOf x.id n.val then f i.val (x.leg.get i) else x.leg.get i :=
  Lane.foldl_modLeg_get f _ (Cfg.legsOf_nodup ..) x i

/-! ## Lost observers -/

theorem Lane.modComm_comm_self (x : Lane) (n : AxisId) (f : CommPart → CommPart) : (x.modComm n f).comm.get n = f (x.comm.get n) :=
  Tab.get_modify_self ..

theorem Lane.modComm_comm_ne (x : Lane) {n m : AxisId} (f : CommPart → CommPart) (h : m ≠ n) : (x.modComm n f).comm.get m = x.comm.get m :=
  Tab.get_modify_ne _ _ h

/-- An event about an axis, and what is then noted of its commutation. -/
theorem Lane.raise_modComm (x : Lane) (n : AxisId) (ev : Ev) (v : Int) (f : CommPart → CommPart) :
    let y := (x.raise ev (.axis n.val) v).modComm n f
    y.comm.get n = f (x.comm.get n) ∧ y.Raised ev (ctxOf (.axis n.val) v) ∧ (∀ m, m ≠ n → y.comm.get m = x.comm.get m) ∧
      y = { x with comm := y.comm, col := { x.col with raised := y.col.raised } } :=
  ⟨Lane.modComm_comm_self _ _ _, (x.raise_raised ev (.axis n.val) v).of_col rfl, fun _ hm => Lane.modComm_comm_ne _ _ hm, rfl⟩

/-- What is noted of an axis whose angle is borrowed from another lane. -/
def CommPart.borrowed (z : CommPart) (b : Nat) : CommPart :=
  { z with borrow := some (b, 0), carry := false, lossRun := 0, locked := false, lockRun := 0 }

/-- What is noted of an axis whose angle is to be caught anew. -/
def CommPart.recatching (z : CommPart) (short : Bool) : CommPart :=
  { z with recatch := some (0, short), borrow := none, carry := false, lossRun := 0, locked := false, lockRun := 0
           recatches := satInc 255 z.recatches }

theorem Lane.observerLost_lent {x : Lane} {n : AxisId} {z : LaneId} (hm : x.cfg.motor n.val) (ho : x.obsIsSource n)
    (hr : x.cfg.axisCommObsLossn n.val ≤ (x.comm.get n).lossRun) (hz : x.lender n (·.detail) = some z) :
    x.observerLost n = (x.raise .fbk043 (.axis n.val) 1).modComm n fun y => y.borrowed z.code := by
  refine (if_pos ⟨hm, ho, hr⟩).trans ?_
  rw [hz]
  rfl

theorem Lane.observerLost_alone {x : Lane} {n : AxisId} (hm : x.cfg.motor n.val) (ho : x.obsIsSource n)
    (hr : x.cfg.axisCommObsLossn n.val ≤ (x.comm.get n).lossRun) (hz : x.lender n (·.detail) = none) :
    x.observerLost n = (x.raise .fbk043 (.axis n.val) (if x.recatchShort n then 3 else 2)).modComm n fun y => y.recatching (x.recatchShort n) := by
  refine (if_pos ⟨hm, ho, hr⟩).trans ?_
  rw [hz]
  rfl

theorem Lane.borrowTimeout_eq {x : Lane} {n : AxisId} {b k : Nat} (hb : (x.comm.get n).borrow = some (b, k))
    (hk : x.cfg.axisCommBorrowMax n.val ≤ k) : x.borrowTimeout n = x.modComm n fun y => y.recatching (x.recatchShort n) := by
  unfold Lane.borrowTimeout
  rw [hb]
  exact if_pos hk

theorem Lane.recatchFail_eq {x : Lane} {n : AxisId} {k : Nat} {short : Bool} (hre : (x.comm.get n).recatch = some (k, short)) (hk : 9 ≤ k)
    (hl : (x.comm.get n).locked = false) (hp : x.cfg.kind n.val ≠ .pump) :
    x.recatchFail n = (x.modComm n fun y => { y with recatch := none }).raise .fbk041 (.axis n.val) (if short then 2 else 1) := by
  unfold Lane.recatchFail
  rw [hre]
  exact (if_pos ⟨hk, by simp [hl]⟩).trans (if_neg hp)

/-! ### The end of a re-catch drives the axis anew -/

/-- The stages of an axis, its output and its time base may have changed, but for whether it is being caught anew. -/
def Lane.DriveReach (n : AxisId) (x y : Lane) : Prop :=
  y = { x with out := y.out, sup := y.sup, comm := y.comm, loop := y.loop, pwm := y.pwm } ∧
    (y.comm.get n).recatch = (x.comm.get n).recatch ∧ (y.comm.get n).fails = (x.comm.get n).fails

theorem Lane.DriveReach.trans {n : AxisId} {x y z : Lane} (h : x.DriveReach n y) (h' : y.DriveReach n z) : x.DriveReach n z := by
  obtain ⟨hy, hr, hf⟩ := h
  obtain ⟨hz, hr', hf'⟩ := h'
  exact ⟨by rw [hz, hy], hr'.trans hr, hf'.trans hf⟩

theorem Lane.modSup_driveReach (x : Lane) (n m : AxisId) (f : SupPart → SupPart) : x.DriveReach n (x.modSup m f) := ⟨rfl, rfl, rfl⟩
theorem Lane.modLoop_driveReach (x : Lane) (n m : AxisId) (f : LoopPart → LoopPart) : x.DriveReach n (x.modLoop m f) := ⟨rfl, rfl, rfl⟩

theorem Lane.modComm_driveReach (x : Lane) (n : AxisId) {f : CommPart → CommPart} (hr : (f (x.comm.get n)).recatch = (x.comm.get n).recatch)
    (hf : (f (x.comm.get n)).fails = (x.comm.get n).fails) : x.DriveReach n (x.modComm n f) :=
  ⟨rfl, (congrArg CommPart.recatch (Lane.modComm_comm_self ..)).trans hr, (congrArg CommPart.fails (Lane.modComm_comm_self ..)).trans hf⟩

theorem Lane.outputBlend_driveReach (x : Lane) (n : AxisId) (q : Q) : x.DriveReach n (x.outputBlend n q) := by
  unfold Lane.outputBlend
  dsimp only
  split
  · exact x.modSup_driveReach n n _
  · exact keeps_ite (x.DriveReach n) (x.modSup_driveReach n n _) (x.modSup_driveReach n n _)

theorem Lane.hallpassLoop_driveReach (x : Lane) (n : AxisId) (q : Q) : x.DriveReach n (x.hallpassLoop n q) := by
  unfold Lane.hallpassLoop
  exact (x.modLoop_driveReach n n _).trans (Lane.modComm_driveReach _ n rfl rfl)

theorem Lane.currentLoop_driveReach (x : Lane) (n : AxisId) (d q : Q) : x.DriveReach n (x.currentLoop n d q) := by
  unfold Lane.currentLoop
  exact (x.modLoop_driveReach n n _).trans (Lane.modComm_driveReach _ n rfl rfl)

theorem Lane.driveStage_driveReach (x : Lane) (n : AxisId) : x.DriveReach n (x.driveStage n) := by
  unfold Lane.driveStage
  extract_lets c i hp
  split
  next adv idc _ =>
  split
  next lim _ _ =>
  extract_lets
  split
  next lo hi _ =>
  extract_lets computed y iqW forced w
  split
  next dS qS _ =>
  split
  next dS qS _ =>
  extract_lets v ab
  have hy : x.DriveReach n y := x.outputBlend_driveReach n computed
  have hw : x.DriveReach n w := hy.trans (Lane.modComm_driveReach _ n rfl rfl)
  have hv : x.DriveReach n v := keeps_ite (x.DriveReach n) (hw.trans (Lane.hallpassLoop_driveReach _ n _)) (hw.trans (Lane.currentLoop_driveReach _ n _ _))
  exact hv.trans ⟨rfl, rfl, rfl⟩

theorem Lane.recatchEnd_eq {x : Lane} {n : AxisId} (hre : (x.comm.get n).recatch.isSome) (hl : (x.comm.get n).locked) :
    x.recatchEnd n = ((((x.modComm n fun y => { y with recatch := none, fails := 0 }).blendFrom n 0).driveStage n).outFlags n) := if_pos ⟨hre, hl⟩

/-- The flags of an axis that is not being caught anew. -/
theorem Lane.outFlags_caught {x : Lane} {n : AxisId} (h : (x.comm.get n).recatch = none) : ((x.outFlags n).out.get n).recatch = false := by
  unfold Lane.outFlags
  rw [h]
  exact congrArg AxisOut.recatch (Tab.get_modify_self ..)

theorem Lane.outFlags_keeps (x : Lane) (n : AxisId) : x.outFlags n = { x with out := (x.outFlags n).out } := rfl

/-- Settles O31: a lost observer borrows from the lender or is caught anew, and both end as their counts say. -/
theorem lostObserversBorrowOrRecatch : Obligations.LostObserversBorrowOrRecatch := by
  unfold Obligations.LostObserversBorrowOrRecatch
  rintro s l x n rfl
  refine ⟨?_, ?_, ?_, ?_⟩
  · intro hm ho hr
    constructor
    · intro z hz
      refine ⟨(s.lane l).observerLost n, rfl, ?_⟩
      rw [Lane.observerLost_lent hm ho hr hz]
      obtain ⟨hself, hraised, hother, heq⟩ := (s.lane l).raise_modComm n .fbk043 1 fun y => y.borrowed z.code
      rw [hself]
      exact ⟨rfl, rfl, hraised, hother, heq⟩
    · intro hz
      refine ⟨(s.lane l).observerLost n, rfl, ?_⟩
      rw [Lane.observerLost_alone hm ho hr hz]
      obtain ⟨hself, hraised, hother, heq⟩ := (s.lane l).raise_modComm n .fbk043 (if (s.lane l).recatchShort n then 3 else 2)
        fun y => y.recatching ((s.lane l).recatchShort n)
      rw [hself]
      exact ⟨rfl, rfl, hraised, hother, heq⟩
  · intro b k hb hk
    refine ⟨(s.lane l).borrowTimeout n, rfl, ?_⟩
    rw [Lane.borrowTimeout_eq hb hk, Lane.modComm_comm_self]
    exact ⟨rfl, rfl, fun m hm => Lane.modComm_comm_ne _ _ hm, rfl⟩
  · intro hre hl
    refine ⟨(s.lane l).recatchEnd n, rfl, ?_⟩
    rw [Lane.recatchEnd_eq hre hl]
    generalize hz : ((s.lane l).modComm n fun y => { y with recatch := none, fails := 0 }).blendFrom n 0 = z
    have hcomm : z.comm.get n = { (s.lane l).comm.get n with recatch := none, fails := 0 } := by
      rw [← hz]
      exact Lane.modComm_comm_self ..
    have hrest : z = { s.lane l with sup := z.sup, comm := z.comm } := by
      rw [← hz]
      rfl
    obtain ⟨heq, hcaught, hfails⟩ := z.driveStage_driveReach n
    rw [hcomm] at hcaught hfails
    refine ⟨hcaught, hfails, Lane.outFlags_caught hcaught, ?_⟩
    rw [Lane.outFlags_keeps, heq, hrest]
    exact ⟨rfl, rfl, rfl, rfl⟩
  · intro k short hre hk hl hp
    refine ⟨(s.lane l).recatchFail n, rfl, ?_⟩
    rw [Lane.recatchFail_eq hre hk hl hp]
    refine ⟨?_, Lane.raise_raised _ _ _ _, fun m hm => ?_, rfl⟩
    · rw [Lane.raise_comm, Lane.modComm_comm_self]
    · rw [Lane.raise_comm, Lane.modComm_comm_ne _ _ hm]

end Sys2Proof.Machine

/-! Pump start, checks of the commutation, Hall states, and reload points (R293, R298, R308, R309, R312, R313, R317, R318, R320, R327, R346). -/

namespace Sys2Proof.Machine

/-! ## Pump start -/

theorem Lane.pumpAlignEnd_eq {x : Lane} {n : AxisId} (hk : x.cfg.kind n.val = .pump) (hp : (x.comm.get n).phase = 1)
    (ht : x.cfg.axisCommStartTalign n.val ≤ (x.comm.get n).phaseTick) :
    x.pumpAlignEnd n = x.modComm n fun y => { y with phase := 2, phaseTick := 0, wr := 0, olTh := (x.cfg.axisCommStartAngle n.val : Int) * 65536 } :=
  if_pos ⟨hk, hp, ht⟩

theorem Lane.pumpRestart_eq {x : Lane} {n : AxisId} (hk : x.cfg.kind n.val = .pump) (hp : (x.comm.get n).phase = 5)
    (ht : x.cfg.axisCommStartCoast n.val ≤ (x.comm.get n).phaseTick)
    (hr : absI (radToRpm (x.cfg.axisCommPolepairs n.val) (x.comm.get n).oW) < (x.cfg.axisCommPumpRestart n.val : Int) * 65536) :
    x.pumpRestart n = x.modComm n fun y => { y with phase := 1, phaseTick := 0, wr := 0 } := if_pos ⟨hk, hp, ht, hr⟩

/-- A failed start, as the holder of the pump notes it: FBK-045 with its phase (R298). -/
def Lane.pumpCoasts (x : Lane) (n : AxisId) (phase : Nat) : Lane :=
  (x.modComm n fun y => { y with phase := 5, phaseTick := 0, fails := satInc 255 (x.comm.get n).fails, recatch := none, locked := false, lockRun := 0 }).raise
    .fbk045 (.axis n.val) phase

theorem Lane.pumpFailed_held {x : Lane} {n : AxisId} (phase : Nat) (hr : (x.ax n).role = .holder) :
    x.pumpFailed n phase = if x.cfg.axisCommStartRetry n.val ≤ satInc 255 (x.comm.get n).fails then
      (x.pumpCoasts n phase).raise .fbk042 (.axis n.val) (satInc 255 (x.comm.get n).fails) else x.pumpCoasts n phase := by
  have hdrives : ((x.ax n).role == .holder) = true := by simp [hr]
  unfold Lane.pumpFailed
  simp only [hdrives, if_true, true_and]
  rfl

theorem Lane.pumpStartFail_eq {x : Lane} {n : AxisId} (hk : x.cfg.kind n.val = .pump) (hp : (x.comm.get n).phase = 3)
    (ht : x.cfg.axisCommStartHandwin n.val ≤ (x.comm.get n).phaseTick) (hl : (x.comm.get n).locked = false) : x.pumpStartFail n = x.pumpFailed n 3 :=
  if_pos ⟨hk, hp, ht, by simp [hl]⟩

/-- An event raised leaves those raised before. -/
theorem Lane.Raised.raise {x : Lane} {ev : Ev} {ctx : Word} (h : x.Raised ev ctx) (ev' : Ev) (sub : Subject) (v : Int) :
    (x.raise ev' sub v).Raised ev ctx := by
  obtain ⟨r, hr, hev⟩ := h
  exact ⟨r, List.mem_append_left _ hr, hev⟩

/-! ## Checks of the commutation -/

theorem Lane.observerDisagree_eq {x : Lane} {n : AxisId} (hd : x.cfg.axisCommObsLossn n.val ≤ (x.comm.get n).disRun)
    (hr : (x.comm.get n).disRaised = false) :
    x.observerDisagree n = (x.raise .fbk040 (.axis n.val) (absI (wrapTurn ((x.comm.get n).oTh / 65536 - ((x.comm.get n).sensor : Int))))).modComm n
      fun y => { y with disRaised := true } := if_pos ⟨hd, by simp [hr]⟩

theorem Lane.phaseSum_eq {x : Lane} {n : AxisId} (hs : 4 ≤ (x.comm.get n).sumRun) (hr : (x.comm.get n).sumRaised = false) :
    x.phaseSum n = (x.raise .pwr030 (.axis n.val) (roundDiv (absI (x.comm.get n).sum * 1000) 65536)).modComm n fun y => { y with sumRaised := true } :=
  if_pos ⟨hs, by simp [hr]⟩

/-! ## Hall states -/

theorem Lane.hallApply_eq (x : Lane) (n : AxisId) : x.hallApply n = { x with leg := (x.hallApply n).leg } := by
  unfold Lane.hallApply
  dsimp only
  split <;> exact Lane.modLegs_eq _ _ _

theorem Lane.hallApply_other (x : Lane) (n : AxisId) {i : LegId} (hi : i.val ∉ x.cfg.legsOf x.id n.val) :
    (x.hallApply n).leg.get i = x.leg.get i := by
  unfold Lane.hallApply
  dsimp only
  split <;> rw [Lane.modLegs_get, if_neg hi]

/-- A leg of the axis under a pattern that names the leg that switches and the one that is low. -/
def Lane.hallLeg (x : Lane) (n : AxisId) (sw low i : Nat) (y : Leg) : Leg :=
  let k := (x.cfg.legsOf x.id n.val).idxOf i
  if k = sw then { y with off := false, duty := x.limitDuty n i y (x.cfg.dutyForm i (x.cfg.period n.val) (x.pwm.get n).hallDuty) }
  else if k = low then { y with off := false, duty := 0 }
  else { y with off := true, duty := 0 }

theorem Lane.hallApply_none {x : Lane} {n : AxisId} (h : hallPattern (x.comm.get n).hall = none) :
    x.hallApply n = x.modLegs n fun _ y => { y with off := true } := by
  unfold Lane.hallApply
  dsimp only
  rw [h]

theorem Lane.hallApply_some {x : Lane} {n : AxisId} {sw low out : Nat} (h : hallPattern (x.comm.get n).hall = some (sw, low, out)) :
    x.hallApply n = x.modLegs n (x.hallLeg n sw low) := by
  unfold Lane.hallApply
  dsimp only
  rw [h]
  rfl

/-- The pattern of the Hall state on a leg of the axis: one switches, one is low, one is off (Table 11.6). -/
theorem Lane.hallApply_leg (x : Lane) (n : AxisId) {i : LegId} (hi : i.val ∈ x.cfg.legsOf x.id n.val) :
    match hallPattern (x.comm.get n).hall with
    | none => ((x.hallApply n).leg.get i).off = true
    | some (sw, low, _) =>
      let k := (x.cfg.legsOf x.id n.val).idxOf i.val
      (k = sw → ((x.hallApply n).leg.get i).off = false) ∧
        (k ≠ sw → k = low → ((x.hallApply n).leg.get i).off = false ∧ ((x.hallApply n).leg.get i).duty = 0) ∧
        (k ≠ sw → k ≠ low → ((x.hallApply n).leg.get i).off = true ∧ ((x.hallApply n).leg.get i).duty = 0) := by
  cases h : hallPattern (x.comm.get n).hall with
  | none => rw [Lane.hallApply_none h, Lane.modLegs_get, if_pos hi]
  | some p =>
    obtain ⟨sw, low, out⟩ := p
    dsimp only
    rw [Lane.hallApply_some h, Lane.modLegs_get, if_pos hi]
    refine ⟨fun hsw => ?_, fun hsw hlow => ?_, fun hsw hlow => ?_⟩
    · rw [Lane.hallLeg, if_pos hsw]
    · rw [Lane.hallLeg, if_neg hsw, if_pos hlow]
      exact ⟨rfl, rfl⟩
    · rw [Lane.hallLeg, if_neg hsw, if_neg hlow]
      exact ⟨rfl, rfl⟩

theorem Lane.hallCommutate_still {x : Lane} {n : AxisId} (hh : x.cfg.hallpass n.val) (h : (x.pwm.get n).started = false ∨ x.baseRuns n = false) :
    x.hallCommutate n = x.readHall n := by
  have hn : ¬(((x.readHall n).pwm.get n).started && (x.readHall n).baseRuns n) = true := by
    have hb : (x.readHall n).baseRuns n = x.baseRuns n := rfl
    have hp : ((x.readHall n).pwm.get n).started = (x.pwm.get n).started := rfl
    rw [hb, hp]
    rcases h with h | h <;> simp [h]
  exact (if_pos hh).trans (if_neg hn)

theorem Lane.hallCommutate_runs {x : Lane} {n : AxisId} (hh : x.cfg.hallpass n.val) (hs : (x.pwm.get n).started) (hb : x.baseRuns n) :
    x.hallCommutate n = (x.readHall n).hallApply n := by
  have hp : (((x.readHall n).pwm.get n).started && (x.readHall n).baseRuns n) = true := Bool.and_eq_true_iff.mpr ⟨hs, hb⟩
  exact (if_pos hh).trans (if_pos hp)

theorem Lane.readHall_comm (x : Lane) (n : AxisId) : ((x.readHall n).comm.get n).hall = x.hallState n :=
  congrArg CommPart.hall (Lane.modComm_comm_self ..)

/-- Settles O32: a pump's phases end by their counts, the checks raise their events, and the Hall pattern goes to the legs of a running time base. -/
theorem pumpsStartAndCommutationIsChecked : Obligations.PumpsStartAndCommutationIsChecked := by
  unfold Obligations.PumpsStartAndCommutationIsChecked
  rintro s l x n rfl
  refine ⟨?_, ?_, ?_, ?_⟩
  · intro hk
    refine ⟨?_, ?_, ?_⟩
    · intro hp ht
      exact State.next_lane (Lane.pumpAlignEnd_eq hk hp ht)
    · intro hp ht hl hr
      refine ⟨(s.lane l).pumpStartFail n, rfl, ?_⟩
      rw [Lane.pumpStartFail_eq hk hp ht hl, Lane.pumpFailed_held 3 hr]
      have hcoast : ((s.lane l).pumpCoasts n 3).comm.get n = { (s.lane l).comm.get n with
          phase := 5, phaseTick := 0, fails := satInc 255 ((s.lane l).comm.get n).fails, recatch := none, locked := false, lockRun := 0 } :=
        Lane.modComm_comm_self ..
      have hraised : ((s.lane l).pumpCoasts n 3).Raised .fbk045 (ctxOf (.axis n.val) 3) := Lane.raise_raised _ _ _ _
      split
      · next hretry =>
        rw [Lane.raise_comm, hcoast]
        exact ⟨rfl, rfl, rfl, hraised.raise _ _ _, fun _ => Lane.raise_raised _ _ _ _, rfl⟩
      · next hretry =>
        rw [hcoast]
        exact ⟨rfl, rfl, rfl, hraised, fun h => absurd h hretry, rfl⟩
    · intro hp ht hr
      exact State.next_lane (Lane.pumpRestart_eq hk hp ht hr)
  · intro hd hr
    refine ⟨(s.lane l).observerDisagree n, rfl, ?_⟩
    rw [Lane.observerDisagree_eq hd hr, Lane.modComm_comm_self]
    exact ⟨rfl, ⟨_, (Lane.raise_raised _ _ _ _).of_col rfl⟩, rfl⟩
  · intro hs hr
    refine ⟨(s.lane l).phaseSum n, rfl, ?_⟩
    rw [Lane.phaseSum_eq hs hr, Lane.modComm_comm_self]
    exact ⟨rfl, (Lane.raise_raised _ _ _ _).of_col rfl, rfl⟩
  · rintro w rfl
    constructor
    · intro hh
      refine ⟨(s.early l).hallCommutate n, rfl, ?_⟩
      by_cases hrun : ((s.early l).pwm.get n).started = true ∧ (s.early l).baseRuns n = true
      · rw [Lane.hallCommutate_runs hh hrun.1 hrun.2]
        have heq := ((s.early l).readHall n).hallApply_eq n
        refine ⟨by rw [heq]; rfl, fun h => ?_, fun _ _ i hi => ?_, fun i hi => ?_, by rw [heq]; rfl⟩
        · rcases h with h | h
          · simp [h] at hrun
          · simp [h] at hrun
        · have hleg := ((s.early l).readHall n).hallApply_leg n (i := i) hi
          rw [Lane.readHall_comm] at hleg
          exact hleg
        · exact ((s.early l).readHall n).hallApply_other n hi
      · have hstill : ((s.early l).pwm.get n).started = false ∨ (s.early l).baseRuns n = false := by
          by_cases hs : ((s.early l).pwm.get n).started = true
          · exact .inr (by simpa [hs] using hrun)
          · exact .inl (by simpa using hs)
        rw [Lane.hallCommutate_still hh hstill]
        exact ⟨rfl, fun _ => rfl, fun hs hb => absurd ⟨hs, hb⟩ hrun, fun _ _ => rfl, rfl⟩
    · intro hh
      exact State.next_lane (if_neg (ne_true_of_eq_false hh))

/-! ## Reload points -/

/-- Legs, events, and the holds and gates of the axes may have changed. -/
def Lane.AdaptReach (x y : Lane) : Prop :=
  y = { x with pwm := y.pwm, leg := y.leg, col := { x.col with raised := y.col.raised } } ∧
    ∀ m, y.pwm.get m = { x.pwm.get m with hold := (y.pwm.get m).hold, tripOff := (y.pwm.get m).tripOff }

theorem Lane.AdaptReach.refl (x : Lane) : x.AdaptReach x := ⟨rfl, fun _ => rfl⟩

theorem Lane.AdaptReach.trans {x y z : Lane} (h : x.AdaptReach y) (h' : y.AdaptReach z) : x.AdaptReach z := by
  obtain ⟨hy, hp⟩ := h
  obtain ⟨hz, hq⟩ := h'
  exact ⟨by rw [hz, hy], fun m => by rw [hq m, hp m]⟩

theorem Lane.modLeg_adaptReach (x : Lane) (k : LegId) (f : Leg → Leg) : x.AdaptReach (x.modLeg k f) := ⟨rfl, fun _ => rfl⟩

theorem Lane.raise_adaptReach (x : Lane) (ev : Ev) (sub : Subject) (v : Int) : x.AdaptReach (x.raise ev sub v) := ⟨rfl, fun _ => rfl⟩

theorem Lane.raise_if_adaptReach {x y : Lane} (h : x.AdaptReach y) (c : Prop) [Decidable c] (ev : Ev) (sub : Subject) (v : Int) :
    x.AdaptReach (if c then y.raise ev sub v else y) :=
  keeps_ite x.AdaptReach (h.trans (y.raise_adaptReach ev sub v)) h

theorem Lane.modLegs_adaptReach (x : Lane) (n : AxisId) (f : Nat → Leg → Leg) : x.AdaptReach (x.modLegs n f) := by
  rw [Lane.modLegs_eq]
  exact ⟨rfl, fun _ => rfl⟩

theorem Lane.adaptSteps_adaptReach (x : Lane) (k : LegId) (m : LegMeas) : x.AdaptReach (x.adaptSteps k m) := by
  unfold Lane.adaptSteps
  dsimp only
  refine Lane.raise_if_adaptReach ?_ _ _ _ _
  refine Lane.raise_if_adaptReach ?_ _ _ _ _
  exact ⟨rfl, fun _ => rfl⟩

theorem Lane.adaptSteps_pwm (x : Lane) (k : LegId) (m : LegMeas) : (x.adaptSteps k m).pwm = x.pwm := by rw [Lane.adaptSteps_eq]

/-- The end of a hold reaches the hold and the gates of its axis. -/
theorem Lane.endHold_adaptReach (x : Lane) (n : AxisId) (leg mv : Nat) : x.AdaptReach (x.endHold n leg mv) := by
  refine ⟨rfl, fun m => ?_⟩
  have hpwm : (x.endHold n leg mv).pwm = x.pwm.modify n fun w => { w with hold := 0, tripOff := true } := rfl
  rw [hpwm]
  by_cases hm : m = n
  · subst hm
    rw [Tab.get_modify_self]
  · rw [Tab.get_modify_ne _ _ hm]

theorem Lane.supplyLow_adaptReach (x : Lane) (k : LegId) (mv : Nat) : x.AdaptReach (x.supplyLow k mv) := by
  have hmark (f : Leg → Leg) (c : Bool) : x.AdaptReach (if c then x.modLeg k f else (x.modLeg k f).raise .pwr015 (.leg k.val) mv) :=
    keeps_ite x.AdaptReach (x.modLeg_adaptReach k f) ((x.modLeg_adaptReach k f).trans (Lane.raise_adaptReach _ _ _ _))
  unfold Lane.supplyLow
  dsimp only
  refine keeps_ite x.AdaptReach ((x.modLeg_adaptReach k _).trans (Lane.raise_adaptReach _ _ _ _)) ?_
  split
  · exact keeps_ite x.AdaptReach ((x.modLeg_adaptReach k _).trans (Lane.endHold_adaptReach _ _ _ _)) (hmark _ _)
  · exact hmark _ _

/-- What a valley measured on a leg, taken before its supply is judged. -/
def Lane.legMeasured (l : Lane) (k : LegId) (m : LegMeas) : Lane :=
  let y := l.modLeg k fun x => { x with vhs := m.vhs, uv := x.uv && l.cfg.underBoot k.val m.vhs }
  if l.cfg.legGateStrength k.val = 1 then y else y.adaptSteps k m

theorem Lane.legMeasured_adaptReach (x : Lane) (k : LegId) (m : LegMeas) : x.AdaptReach (x.legMeasured k m) :=
  keeps_ite x.AdaptReach (x.modLeg_adaptReach k _) ((x.modLeg_adaptReach k _).trans (Lane.adaptSteps_adaptReach _ k m))

theorem Lane.legMeasured_pwm (x : Lane) (k : LegId) (m : LegMeas) : (x.legMeasured k m).pwm = x.pwm :=
  keeps_ite (fun y : Lane => y.pwm = x.pwm) rfl (Lane.adaptSteps_pwm _ k m)

theorem Lane.adaptLeg_eq (x : Lane) (k : LegId) (m : LegMeas) :
    x.adaptLeg k.val (some m) = if x.cfg.underBoot k.val m.vhs && x.cfg.bridgeLeg k.val then (x.legMeasured k m).supplyLow k m.vhs else x.legMeasured k m := by
  have hk : legOf k.val = some k := dif_pos k.isLt
  unfold Lane.adaptLeg
  rw [hk]
  rfl

/-- A place without a leg, or a leg without a measurement, is left alone. -/
theorem Lane.adaptLeg_cases (x : Lane) (i : Nat) (m : Option LegMeas) :
    x.adaptLeg i m = x ∨ ∃ (k : LegId) (v : LegMeas), k.val = i ∧ m = some v ∧ x.adaptLeg i m = x.adaptLeg k.val (some v) := by
  cases m with
  | none => exact .inl (by unfold Lane.adaptLeg; cases legOf i <;> rfl)
  | some v =>
    by_cases h : i < 16
    · exact .inr ⟨⟨i, h⟩, v, rfl, rfl, rfl⟩
    · refine .inl ?_
      have hi : legOf i = none := dif_neg h
      unfold Lane.adaptLeg
      rw [hi]

theorem Lane.adaptLeg_adaptReach (x : Lane) (i : Nat) (m : Option LegMeas) : x.AdaptReach (x.adaptLeg i m) := by
  rcases x.adaptLeg_cases i m with h | ⟨k, v, -, -, h⟩
  · rw [h]
    exact Lane.AdaptReach.refl x
  · rw [h, Lane.adaptLeg_eq]
    exact keeps_ite x.AdaptReach ((x.legMeasured_adaptReach k v).trans (Lane.supplyLow_adaptReach _ _ _)) (x.legMeasured_adaptReach k v)

/-- A leg whose high-side supply is not low ends no hold and turns no gates off. -/
theorem Lane.adaptLeg_pwm (x : Lane) (i : Nat) (m : Option LegMeas) (h : ∀ v, m = some v → x.cfg.underBoot i v.vhs = false) :
    (x.adaptLeg i m).pwm = x.pwm := by
  rcases x.adaptLeg_cases i m with h' | ⟨k, v, hk, hm, h'⟩
  · rw [h']
  · have hlow : x.cfg.underBoot k.val v.vhs = false := hk ▸ h v hm
    rw [h', Lane.adaptLeg_eq, hlow, Bool.false_and, if_neg Bool.false_ne_true, Lane.legMeasured_pwm]

/-- The legs of the axis end their off-time and are measured. -/
def Lane.measureLegs (l : Lane) (n : AxisId) (ms : List LegMeas) : Lane :=
  (l.cfg.legsOf l.id n.val).foldl (fun y i => y.adaptLeg i ms[(l.cfg.legsOf l.id n.val).idxOf i]?)
    (l.modLegs n fun i x => { l.refreshAt n i { x with off := x.off && l.cfg.hallpass n.val } with interlock := 0, off := false })

theorem Lane.measureLegs_adaptReach (x : Lane) (n : AxisId) (ms : List LegMeas) : x.AdaptReach (x.measureLegs n ms) := by
  refine foldl_keeps x.AdaptReach _ ?_ _ _ (x.modLegs_adaptReach n _)
  exact fun y i h => h.trans (y.adaptLeg_adaptReach i _)

theorem Lane.measureLegs_pwm {x : Lane} {n : AxisId} {ms : List LegMeas} (h : ∀ g ∈ ms, ∀ i, x.cfg.underBoot i g.vhs = false) :
    (x.measureLegs n ms).pwm = x.pwm := by
  refine (foldl_keeps (fun y : Lane => x.AdaptReach y ∧ y.pwm = x.pwm)
    (fun y i => y.adaptLeg i ms[(x.cfg.legsOf x.id n.val).idxOf i]?) ?_ _ _ ⟨x.modLegs_adaptReach n _, Lane.modLegs_pwm _ _ _⟩).2
  rintro y i ⟨hy, hp⟩
  have hcfg : y.cfg = x.cfg := by rw [hy.1]; rfl
  refine ⟨hy.trans (y.adaptLeg_adaptReach i _), (y.adaptLeg_pwm i _ fun v hv => ?_).trans hp⟩
  rw [hcfg]
  exact h v (List.mem_of_getElem? hv) i

theorem Lane.modPwm_pwm_self (x : Lane) (n : AxisId) (f : PwmPart → PwmPart) : (x.modPwm n f).pwm.get n = f (x.pwm.get n) := Tab.get_modify_self ..

theorem Lane.modPwm_pwm_ne (x : Lane) {n m : AxisId} (f : PwmPart → PwmPart) (h : m ≠ n) : (x.modPwm n f).pwm.get m = x.pwm.get m :=
  Tab.get_modify_ne _ _ h

/-- The counts of a time base at its valley. -/
def PwmPart.atValley (w : PwmPart) : PwmPart :=
  { w with dither := if w.started then (w.dither + 1) % 16 else 0, length := if w.started then w.lenNow else w.length
           lenNow := 0, pos := 0, started := true }

theorem Lane.beginPeriod_eq (x : Lane) (n : AxisId) (ms : List LegMeas) : x.beginPeriod n ms = (x.measureLegs n ms).modPwm n PwmPart.atValley := rfl

theorem Lane.loadShadows_pwm (x : Lane) (n : AxisId) :
    (x.loadShadows n).pwm = x.pwm.modify n fun w => { w with forced := w.forcedNext, applied := true } := Lane.modLegs_pwm _ _ _

theorem Lane.loadShadows_eq (x : Lane) (n : AxisId) : x.loadShadows n = { x with pwm := (x.loadShadows n).pwm, leg := (x.loadShadows n).leg } := by
  unfold Lane.loadShadows
  dsimp only
  rw [Lane.modLegs_eq]
  rfl

/-- The duty of a leg that does not refresh its high-side supply is limited by nothing. -/
theorem Lane.limitDuty_free (x : Lane) (n : AxisId) (k : Nat) {g : Leg} (want : Nat) (hg : g.refreshing = false) : x.limitDuty n k g want = want :=
  if_pos (by simp [hg])

/-- What a valley leaves before the Hall pattern. -/
def Lane.atValley (x : Lane) (n : AxisId) (ms : List LegMeas) : Lane := (x.beginPeriod n ms).loadShadows n

theorem Lane.atValley_reach (x : Lane) (n : AxisId) (ms : List LegMeas) :
    x.atValley n ms = { x with pwm := (x.atValley n ms).pwm, leg := (x.atValley n ms).leg
                               col := { x.col with raised := (x.atValley n ms).col.raised } } := by
  unfold Lane.atValley
  rw [Lane.loadShadows_eq, Lane.beginPeriod_eq]
  have h := (x.measureLegs_adaptReach n ms).1
  generalize x.measureLegs n ms = y at *
  rw [h]
  rfl

theorem Lane.atValley_self {x : Lane} {n : AxisId} (ms : List LegMeas) (hs : (x.pwm.get n).started) :
    (x.atValley n ms).pwm.get n = { x.pwm.get n with
      dither := ((x.pwm.get n).dither + 1) % 16, length := (x.pwm.get n).lenNow, lenNow := 0, pos := 0, started := true
      forced := (x.pwm.get n).forcedNext, applied := true
      hold := ((x.measureLegs n ms).pwm.get n).hold, tripOff := ((x.measureLegs n ms).pwm.get n).tripOff } := by
  have h := (x.measureLegs_adaptReach n ms).2 n
  unfold Lane.atValley
  rw [Lane.loadShadows_pwm, Tab.get_modify_self, Lane.beginPeriod_eq, Lane.modPwm_pwm_self, h]
  simp [PwmPart.atValley, hs]

theorem Lane.atValley_ne (x : Lane) {n m : AxisId} (ms : List LegMeas) (hm : m ≠ n) :
    (x.atValley n ms).pwm.get m = (x.measureLegs n ms).pwm.get m := by
  unfold Lane.atValley
  rw [Lane.loadShadows_pwm, Tab.get_modify_ne _ _ hm, Lane.beginPeriod_eq, Lane.modPwm_pwm_ne _ _ hm]

/-- At a valley the holds and the gates of every axis are those that the measurement of the legs leaves. -/
theorem Lane.atValley_holds {x : Lane} {n : AxisId} (ms : List LegMeas) (hs : (x.pwm.get n).started) (m : AxisId) :
    ((x.atValley n ms).pwm.get m).hold = ((x.measureLegs n ms).pwm.get m).hold ∧
      ((x.atValley n ms).pwm.get m).tripOff = ((x.measureLegs n ms).pwm.get m).tripOff := by
  by_cases hm : m = n
  · subst hm
    rw [Lane.atValley_self ms hs]
    exact ⟨rfl, rfl⟩
  · rw [Lane.atValley_ne x ms hm]
    exact ⟨rfl, rfl⟩

/-- The duty that comes into force under HALLPASS: the one written, or that of limp operation (R313). -/
def Lane.hallDutyNow (x : Lane) (n : AxisId) : Nat :=
  if (x.comm.get n).limp then ratioClamp (16 * x.cfg.axisCommHallpassLimpduty n.val) else (x.pwm.get n).hallShadow

theorem Lane.loadHall_pwm (x : Lane) (n : AxisId) :
    (x.loadHall n).pwm = x.pwm.modify n fun w => { w with hallDuty := x.hallDutyNow n } := by
  have hlimp : ((x.readHall n).comm.get n).limp = (x.comm.get n).limp := (congrArg CommPart.limp (Lane.modComm_comm_self ..)).trans rfl
  unfold Lane.loadHall
  rw [Lane.hallApply_pwm]
  unfold Lane.hallLoad
  dsimp only
  rw [hlimp]
  rfl

theorem Lane.loadHall_eq (x : Lane) (n : AxisId) :
    x.loadHall n = { x with pwm := (x.loadHall n).pwm, leg := (x.loadHall n).leg
                            comm := x.comm.modify n fun z => { z with hall := x.hallState n } } := by
  unfold Lane.loadHall
  rw [Lane.hallApply_eq]
  rfl

/-- Settles O33: `reload` measures the legs and begins the period at a valley, and brings the shadow registers and the Hall pattern into force. -/
theorem reloadsTakeTheShadowRegisters : Obligations.ReloadsTakeTheShadowRegisters := by
  unfold Obligations.ReloadsTakeTheShadowRegisters
  rintro s l x n ms rfl
  constructor
  · intro hb
    have hsame : (s.early l).reload n ms = s.early l := if_pos (.inr (.inl (by rw [hb]; rfl)))
    exact State.next_lane hsame
  · intro hrun hb happ hs holds
    have hvalley : ∀ y : Lane, (∀ m, (y.pwm.get m).hold = (((s.early l).measureLegs n ms).pwm.get m).hold ∧
        (y.pwm.get m).tripOff = (((s.early l).measureLegs n ms).pwm.get m).tripOff) →
        (∀ m, m ≠ n → y.pwm.get m = ((s.early l).measureLegs n ms).pwm.get m) → holds y := by
      intro y hy hne
      refine ⟨fun m hm => ?_, fun hlow m => ?_⟩
      · rw [hne m hm]
        exact ((s.early l).measureLegs_adaptReach n ms).2 m
      · rw [(hy m).1, (hy m).2, Lane.measureLegs_pwm hlow]
        exact ⟨rfl, rfl⟩
    refine ⟨?_, ?_, ?_, ?_⟩
    · intro hv hh
      refine ⟨(s.early l).reload n ms, rfl, ?_⟩
      have heq : (s.early l).reload n ms = (s.early l).atValley n ms := by
        rw [Lane.reload_eq ms hrun hb happ (.inr hv) (.inr hv), if_pos hv]
        exact if_neg (ne_true_of_eq_false hh)
      rw [heq]
      refine ⟨hvalley _ (Lane.atValley_holds ms hs) fun m hm => Lane.atValley_ne _ ms hm, ?_, Lane.atValley_reach _ n ms⟩
      rw [Lane.atValley_self ms hs]
    · intro hv hk hh
      refine ⟨(s.early l).reload n ms, rfl, ?_⟩
      have heq : (s.early l).reload n ms = (s.early l).loadShadows n := by
        rw [Lane.reload_eq ms hrun hb happ (.inl hs) (.inl hk), if_neg (ne_true_of_eq_false hv)]
        exact if_neg (ne_true_of_eq_false hh)
      rw [heq]
      refine ⟨?_, fun m hm => ?_, fun i hi => ?_, fun i hr hi => ?_, Lane.loadShadows_eq _ n⟩
      · rw [Lane.loadShadows_pwm, Tab.get_modify_self]
      · rw [Lane.loadShadows_pwm, Tab.get_modify_ne _ _ hm]
      · exact (Lane.modLegs_get _ _ _ i).trans (if_neg hi)
      · refine (Lane.modLegs_get _ _ _ i).trans ((if_pos hi).trans ?_)
        exact congrArg (fun d => { (s.early l).leg.get i with duty := d }) (Lane.limitDuty_free _ n i.val _ hr)
    · intro hv hh
      refine ⟨(s.early l).reload n ms, rfl, ?_⟩
      have heq : (s.early l).reload n ms = ((s.early l).atValley n ms).loadHall n := by
        rw [Lane.reload_eq ms hrun hb happ (.inr hv) (.inr hv), if_pos hv]
        exact if_pos hh
      have hself := Lane.atValley_self ms hs
      have hreach := Lane.atValley_reach (s.early l) n ms
      have hholds := Lane.atValley_holds ms hs
      have hne : ∀ m, m ≠ n → _ := fun m hm => Lane.atValley_ne (s.early l) ms hm
      rw [heq]
      generalize (s.early l).atValley n ms = y at *
      have hpwm := y.loadHall_pwm n
      have hpn : (y.loadHall n).pwm.get n = { y.pwm.get n with hallDuty := y.hallDutyNow n } := by rw [hpwm, Tab.get_modify_self]
      have hpm : ∀ m, m ≠ n → (y.loadHall n).pwm.get m = y.pwm.get m := fun m hm => by rw [hpwm, Tab.get_modify_ne _ _ hm]
      have hduty : y.hallDutyNow n = (s.early l).hallDutyNow n := by
        unfold Lane.hallDutyNow
        rw [hself, hreach]
        rfl
      refine ⟨hvalley _ (fun m => ?_) (fun m hm => (hpm m hm).trans (hne m hm)), ?_, ?_, ?_⟩
      · by_cases hm : m = n
        · subst hm
          rw [hpn]
          exact hholds m
        · rw [hpm m hm]
          exact hholds m
      · rw [hpn, hself, hduty]
        rfl
      · rw [Lane.loadHall_eq, hreach]
        rfl
      · rw [Lane.loadHall_eq, hreach]
    · intro hv hk
      have hsame : (s.early l).reload n ms = s.early l :=
        if_pos (.inr (.inr (.inr (.inr (by simp [hk, hv])))))
      exact State.next_lane hsame

end Sys2Proof.Machine

/-! Event lines, legs, trips, bus and chopper (R325, R331 to R333, R340, R346, R351, R355 to R358, R362, R365). -/

namespace Sys2Proof.Machine

/-! ## Event lines -/

theorem Lane.lineLegs_nodup (x : Lane) (k : Nat) : (x.lineLegs k).Nodup := by
  unfold Lane.lineLegs
  refine keeps_ite List.Nodup (Cfg.legsOf_nodup ..) (keeps_ite List.Nodup (List.pairwise_singleton _ _) List.nodup_nil)

theorem Lane.lineFires_idle {x : Lane} {k : Fin 8} (samples : List Q)
    (h : x.cfg.lineOn k.val = false ∨ x.lineEvents k.val x.tickLen ≤ (x.evLine.get k).now) : x.lineFires k samples = x := by
  unfold Lane.lineFires
  split
  · next hnow =>
    have hoff : x.cfg.lineOn k.val = false := h.resolve_right (Nat.not_le.mpr hnow)
    exact if_pos (by simp [hoff])
  · rfl

/-- The line as an occurrence before the prescaler's last leaves it. -/
theorem Lane.lineFires_counts {x : Lane} {k : Fin 8} (samples : List Q) (hon : x.cfg.lineOn k.val)
    (hnow : (x.evLine.get k).now < x.lineEvents k.val x.tickLen) (hpre : (x.evLine.get k).occ + 1 < x.cfg.lanePwmEvPrescale k.val) :
    x.lineFires k samples = { x with
      evLine := x.evLine.set k { x.evLine.get k with now := (x.evLine.get k).now + 1, occ := (x.evLine.get k).occ + 1 } } := by
  have hn : ¬(!x.cfg.lineOn k.val) = true := by simp [hon]
  exact (if_pos hnow).trans ((if_neg hn).trans (if_pos hpre))

/-- The line as the occurrence that fires it leaves it: what the bits of the destination name (R332). -/
def Lane.lineFired (x : Lane) (k : Fin 8) : Lane :=
  let e := x.evLine.get k
  let d := x.cfg.lanePwmEvDest k.val
  { x with evLine := x.evLine.set k { e with
      now := e.now + 1, occ := 0, count := if bitN d 1 then (e.count + 1) % 2 ^ 32 else e.count, irq := e.irq || bitN d 2
      cap0 := if bitN d 3 then x.passCount 0 else e.cap0, cap1 := if bitN d 3 then x.passCount 1 else e.cap1 } }

/-- The extra conversion of a leg of the line. -/
def Lane.lineSample (x : Lane) (k : Fin 8) (samples : List Q) (i : Nat) (g : Leg) : Leg :=
  { g with evSample := samples.getD ((x.lineLegs k.val).idxOf i) g.evSample }

theorem Lane.lineFires_fires {x : Lane} {k : Fin 8} (samples : List Q) (hon : x.cfg.lineOn k.val)
    (hnow : (x.evLine.get k).now < x.lineEvents k.val x.tickLen) (hpre : x.cfg.lanePwmEvPrescale k.val ≤ (x.evLine.get k).occ + 1) :
    x.lineFires k samples =
      if bitN (x.cfg.lanePwmEvDest k.val) 0 then
        (x.lineLegs k.val).foldl (fun l i => match legOf i with | some j => l.modLeg j (x.lineSample k samples i) | none => l) (x.lineFired k)
      else x.lineFired k := by
  have hn : ¬(!x.cfg.lineOn k.val) = true := by simp [hon]
  exact (if_pos hnow).trans ((if_neg hn).trans (if_neg (Nat.not_lt.mpr hpre)))

theorem Lane.foldl_modLeg_eq (f : Nat → Leg → Leg) (is : List Nat) (x : Lane) :
    let y := is.foldl (fun (l : Lane) i => match legOf i with | some j => l.modLeg j (f i) | none => l) x
    y = { x with leg := y.leg } := by
  refine foldl_keeps (fun y : Lane => y = { x with leg := y.leg }) _ ?_ is x rfl
  intro y i hy
  split
  · rw [hy]
    rfl
  · exact hy

/-! ## Overlaps, supplies and pulses -/

theorem Lane.supplyUv_idle {x : Lane} {i : LegId} {mv : Nat} (h : ¬(x.cfg.legFunction i.val = 1 ∨ x.cfg.legFunction i.val = 2 ∨ x.cfg.legFunction i.val = 3) ∨
    ¬(mv : Int) * 65536 < x.cfg.legGateBootUv i.val * 1000 ∨ x.supplySeen i = false) : x.supplyUv i mv = x := by
  refine if_neg ?_
  rw [Bool.and_eq_true, Bool.and_eq_true]
  rintro ⟨⟨hb, hlow⟩, hseen⟩
  rcases h with h | h | h
  · refine h ?_
    simpa [Cfg.bridgeLeg, or_assoc] using hb
  · exact h (of_decide_eq_true hlow)
  · simp [h] at hseen

theorem Lane.supplyUv_low {x : Lane} {i : LegId} {mv : Nat}
    (hf : x.cfg.legFunction i.val = 1 ∨ x.cfg.legFunction i.val = 2 ∨ x.cfg.legFunction i.val = 3)
    (hlow : (mv : Int) * 65536 < x.cfg.legGateBootUv i.val * 1000) (hs : x.supplySeen i) : x.supplyUv i mv = x.supplyLow i mv := by
  have hb : x.cfg.bridgeLeg i.val = true := by simpa [Cfg.bridgeLeg, or_assoc] using hf
  exact if_pos (by rw [hb, hs, Cfg.underBoot, decide_eq_true hlow]; rfl)

/-- A BOOT+ISO leg falls back to its isolated supply (R346). -/
theorem Lane.supplyLow_falls {x : Lane} {i : LegId} (mv : Nat) (hh : x.cfg.legGateHssupply i.val = 1) (hi : (x.leg.get i).iso = false) :
    x.supplyLow i mv = (x.modLeg i fun g => { g with uv := false, iso := true }).raise .pwr016 (.leg i.val) mv := if_pos (by simp [hh, hi])

/-- Whether the axis of a leg is held HIGH. -/
def Lane.heldHigh (x : Lane) (i : LegId) : Bool := match x.cfg.axisOfLeg x.id i.val with | some n => (x.pwm.get n).hold == 2 | none => false

theorem Lane.supplyLow_stays {x : Lane} {i : LegId} (mv : Nat) (h : ¬(x.cfg.legGateHssupply i.val = 1 ∧ (x.leg.get i).iso = false)) :
    x.supplyLow i mv =
      (let y := x.modLeg i fun g => { g with uv := true }
       match x.cfg.axisOfLeg x.id i.val with
       | some n => if x.heldHigh i then y.endHold n i.val mv else if (x.leg.get i).uv then y else y.raise .pwr015 (.leg i.val) mv
       | none => if (x.leg.get i).uv then y else y.raise .pwr015 (.leg i.val) mv) := by
  refine if_neg ?_
  simpa using h

/-- Any other leg is marked once in an episode (R346). -/
theorem Lane.supplyLow_marks {x : Lane} {i : LegId} (mv : Nat) (h : ¬(x.cfg.legGateHssupply i.val = 1 ∧ (x.leg.get i).iso = false))
    (hh : ¬∃ n, x.cfg.axisOfLeg x.id i.val = some n ∧ (x.pwm.get n).hold = 2) :
    x.supplyLow i mv = if (x.leg.get i).uv then x.modLeg i fun g => { g with uv := true }
      else (x.modLeg i fun g => { g with uv := true }).raise .pwr015 (.leg i.val) mv := by
  rw [Lane.supplyLow_stays mv h]
  cases hax : x.cfg.axisOfLeg x.id i.val with
  | none => rfl
  | some n =>
    have hheld : x.heldHigh i = false := by
      unfold Lane.heldHigh
      rw [hax]
      simpa using fun he => hh ⟨n, hax, he⟩
    dsimp only
    rw [hheld]
    rfl

/-- A HIGH hold ends (R358). -/
theorem Lane.supplyLow_held {x : Lane} {i : LegId} {n : AxisId} (mv : Nat) (h : ¬(x.cfg.legGateHssupply i.val = 1 ∧ (x.leg.get i).iso = false))
    (hax : x.cfg.axisOfLeg x.id i.val = some n) (hh : (x.pwm.get n).hold = 2) :
    x.supplyLow i mv = (x.modLeg i fun g => { g with uv := true }).endHold n i.val mv := by
  have hheld : x.heldHigh i = true := by
    unfold Lane.heldHigh
    rw [hax]
    simp [hh]
  rw [Lane.supplyLow_stays mv h]
  dsimp only
  rw [hax]
  exact if_pos hheld

/-- The leg of a pulse found longer than its period. -/
def Lane.clipped (x : Lane) (i : LegId) : Lane := x.modLeg i fun g => { g with clip := false, mismatch := satInc 65535 g.mismatch }

theorem Lane.clipped_mismatch (x : Lane) (i : LegId) :
    (match legOf i.val with | some k => (((x.clipped i).leg.get k).mismatch : Int) | none => 0 : Int) = (satInc 65535 (x.leg.get i).mismatch : Nat) := by
  have hk : legOf i.val = some i := dif_pos i.isLt
  rw [hk]
  exact congrArg (fun g : Leg => (g.mismatch : Int)) (Tab.get_modify_self ..)

theorem Lane.pulseClip_due {x : Lane} {i : LegId} (hc : (x.leg.get i).clip) (hd : ∀ t, x.bus.clipAt = some t → t + 40000 ≤ x.tick.count) :
    x.pulseClip i = { (x.clipped i).raise .pwr042 (.leg i.val) (satInc 65535 (x.leg.get i).mismatch : Nat) with
      bus := { x.bus with clipAt := some x.tick.count, clipNew := 0 } } := by
  refine (if_pos hc).trans ((if_pos ?_).trans ?_)
  · show (match x.bus.clipAt with | some t => decide (t + 40000 ≤ x.tick.count) | none => true) = true
    cases h : x.bus.clipAt with
    | none => rfl
    | some t => exact decide_eq_true (hd t h)
  · rw [← Lane.clipped_mismatch]
    rfl

theorem Lane.pulseClip_again {x : Lane} {i : LegId} (hc : (x.leg.get i).clip) (hd : ¬∀ t, x.bus.clipAt = some t → t + 40000 ≤ x.tick.count) :
    x.pulseClip i = { x.clipped i with bus := { x.bus with clipNew := satInc 65535 x.bus.clipNew } } := by
  refine (if_pos hc).trans (if_neg ?_)
  show ¬(match x.bus.clipAt with | some t => decide (t + 40000 ≤ x.tick.count) | none => true) = true
  cases h : x.bus.clipAt with
  | none => simp [h] at hd
  | some t => simpa [h] using hd

/-- Settles O34: event lines, overlaps, driver faults, supplies and pulses act on their own leg, as their counts and configuration say. -/
theorem legEventsActOnTheirLeg : Obligations.LegEventsActOnTheirLeg := by
  unfold Obligations.LegEventsActOnTheirLeg
  rintro s l x rfl
  refine ⟨?_, ?_, ?_, ?_⟩
  · rintro w rfl k samples
    dsimp only
    refine ⟨?_, ?_, ?_⟩
    · intro h
      exact State.next_lane (Lane.lineFires_idle samples h)
    · intro hon hnow hpre
      exact State.next_lane (Lane.lineFires_counts samples hon hnow hpre)
    · intro hon hnow hpre
      refine ⟨(s.early l).lineFires k samples, rfl, ?_⟩
      rw [Lane.lineFires_fires samples hon hnow hpre]
      by_cases hbit : bitN ((s.early l).cfg.lanePwmEvDest k.val) 0 = true
      · rw [if_pos hbit]
        have heq := Lane.foldl_modLeg_eq ((s.early l).lineSample k samples) ((s.early l).lineLegs k.val) ((s.early l).lineFired k)
        refine ⟨by rw [heq]; rfl, fun j => ?_, by rw [heq]; rfl⟩
        have hget := Lane.foldl_modLeg_get ((s.early l).lineSample k samples) _ (Lane.lineLegs_nodup (s.early l) k.val) ((s.early l).lineFired k) j
        refine hget.trans ?_
        simp only [hbit, true_and]
        rfl
      · rw [if_neg hbit]
        refine ⟨rfl, fun j => ?_, rfl⟩
        exact (if_neg fun h => hbit h.1).symm
  · intro i clocks
    constructor
    · intro hf
      exact ⟨State.next_lane (if_neg hf), State.next_lane (if_neg hf)⟩
    · intro hf
      exact ⟨State.next_lane (if_pos hf), State.next_lane (if_pos hf)⟩
  · intro i mv
    dsimp only
    refine ⟨?_, ?_, ?_, ?_⟩
    · intro h
      exact State.next_lane (Lane.supplyUv_idle h)
    · intro hf hlow hs hfall
      exact State.next_lane ((Lane.supplyUv_low hf hlow hs).trans (Lane.supplyLow_falls mv hfall.1 hfall.2))
    · intro hf hlow hs hfall hheld
      exact State.next_lane ((Lane.supplyUv_low hf hlow hs).trans (Lane.supplyLow_marks mv hfall hheld))
    · intro n hf hlow hs hfall hax hhold
      exact State.next_lane ((Lane.supplyUv_low hf hlow hs).trans (Lane.supplyLow_held mv hfall hax hhold))
  · intro i
    refine ⟨?_, ?_, ?_⟩
    · intro hc
      exact State.next_lane (if_neg (ne_true_of_eq_false hc))
    · intro hc hd
      exact State.next_lane (Lane.pulseClip_due hc hd)
    · intro hc hd
      exact State.next_lane (Lane.pulseClip_again hc hd)

/-! ## Trips -/

/-- The axis of a leg whose first trip turns its gates off (R355). -/
def PwmPart.tripped (w : PwmPart) (leg at_ : Nat) (t : Trip) (triad : Bool) : PwmPart :=
  { w with tripOff := true, trip := some (leg, t.code), tripTick := 0, tripClk := at_, identDue := triad }

/-- The first trip of an axis (R355). -/
theorem Lane.trip_first {x : Lane} {n : AxisId} {i : LegId} {at_ : Nat} {t : Trip} (hax : x.cfg.axisOfLeg x.id i.val = some n)
    (hreal : Lane.tripReal { x with now := at_ } n i at_ t) (hhold : (x.pwm.get n).hold = 0) (hnone : (x.pwm.get n).trip = none)
    (hoff : (x.pwm.get n).tripOff = false) :
    x.trip i at_ t = ((({ x with now := at_ } : Lane).modPwm n fun w => w.tripped i.val at_ t (x.cfg.legFunction i.val == 1)).modLeg i
      fun y => { y with trip := t.code, tripVal := t.val, ident := 0 }).raise (tripEv t) (.leg i.val) t.val := by
  have hr : ¬(!Lane.tripReal { x with now := at_ } n i at_ t) = true := by simp [hreal]
  have hh : ¬(x.pwm.get n).hold ≠ 0 := by simp [hhold]
  unfold Lane.trip
  dsimp only
  rw [hax]
  dsimp only
  rw [if_neg hr, if_neg hh, hnone]
  exact if_neg (ne_true_of_eq_false hoff)

/-- A hard trip ends a hold (R358). -/
theorem Lane.trip_hold {x : Lane} {n : AxisId} {i : LegId} {at_ a : Nat} (hax : x.cfg.axisOfLeg x.id i.val = some n)
    (hreal : Lane.tripReal { x with now := at_ } n i at_ (.hard a)) (hhold : (x.pwm.get n).hold ≠ 0) :
    x.trip i at_ (.hard a) = ((({ x with now := at_ } : Lane).modPwm n fun w => { w with hold := 0, tripOff := true }).modLeg i
      fun y => { y with trip := 2, tripVal := a }).raise .pwr011 (.leg i.val) ((Trip.hard a).val + 65536 * (x.leg.get i).ident : Nat) := by
  have hr : ¬(!Lane.tripReal { x with now := at_ } n i at_ (.hard a)) = true := by simp [hreal]
  unfold Lane.trip
  dsimp only
  rw [hax]
  dsimp only
  rw [if_neg hr, if_pos hhold]

/-- A trip beyond no threshold of its axis is none (R351). -/
theorem Lane.trip_unreal {x : Lane} {i : LegId} {at_ : Nat} {t : Trip}
    (h : ∀ m, x.cfg.axisOfLeg x.id i.val = some m → Lane.tripReal { x with now := at_ } m i at_ t = false) : x.trip i at_ t = { x with now := at_ } := by
  unfold Lane.trip
  dsimp only
  cases hax : x.cfg.axisOfLeg x.id i.val with
  | none => rfl
  | some m => exact if_pos (by rw [h m hax]; rfl)

/-- Gates that a trip turned off, without a hold, are not free. -/
theorem Lane.gatesFree_tripped {x : Lane} {n : AxisId} (hh : (x.pwm.get n).hold = 0) (ho : (x.pwm.get n).tripOff) : x.gatesFree n = false := by
  simp [Lane.gatesFree, hh, ho]

/-- What a change of an axis's gates and of a leg, with an event, leaves. -/
theorem Lane.gateEvent_keeps (x : Lane) (n : AxisId) (i : LegId) (f : PwmPart → PwmPart) (g : Leg → Leg) (ev : Ev) (v : Int) :
    let y := ((x.modPwm n f).modLeg i g).raise ev (.leg i.val) v
    y.pwm.get n = f (x.pwm.get n) ∧ (∀ m, m ≠ n → y.pwm.get m = x.pwm.get m) ∧ y.leg.get i = g (x.leg.get i) ∧
      (∀ j, j ≠ i → y.leg.get j = x.leg.get j) ∧ y.Raised ev (ctxOf (.leg i.val) v) ∧
      y = { x with pwm := y.pwm, leg := y.leg, col := { x.col with raised := y.col.raised } } :=
  ⟨Tab.get_modify_self .., fun _ hm => Tab.get_modify_ne _ _ hm, Tab.get_modify_self .., fun _ hj => Tab.get_modify_ne _ _ hj,
    Lane.raise_raised _ _ _ _, rfl⟩

/-! ### Identification -/

/-- The events of a leg's trip with the result of its identification, the leg and the axis with theirs (R356, R357). -/
def Lane.identMarked (x : Lane) (n : AxisId) (j r hold : Nat) : Lane :=
  let g (e : Raise) : Raise := if isTripEv e.ev && e.subj == .leg j then { e with ctx := identCtx r e.ctx } else e
  let l := { x with col := { x.col with raised := x.col.raised.map g } }
  let l := l.mapTrip j ((x.pwm.get n).tripTick + 1) fun e => { e with ctx := identCtx r e.ctx }
  let l := match legOf j with | some k => l.modLeg k fun y => { y with ident := r } | none => l
  l.modPwm n fun w => { w with identDue := false, trip := none, hold := hold, holdAt := if hold = 0 then 0 else l.now }

theorem Lane.identMarked_pwm (x : Lane) (n : AxisId) (j r hold : Nat) :
    ((x.identMarked n j r hold).pwm.get n).hold = hold ∧ ((x.identMarked n j r hold).pwm.get n).trip = none := by
  unfold Lane.identMarked
  dsimp only
  rw [Lane.modPwm_pwm_self]
  exact ⟨rfl, rfl⟩

theorem Lane.identMarked_leg (x : Lane) (n : AxisId) (j r hold : Nat) (k : LegId) (hk : k.val = j) :
    ((x.identMarked n j r hold).leg.get k).ident = r := by
  subst hk
  have hleg : legOf k.val = some k := dif_pos k.isLt
  unfold Lane.identMarked
  rw [hleg]
  exact congrArg Leg.ident (Tab.get_modify_self ..)

theorem Lane.identified_eq {x : Lane} {n : AxisId} {j d : Nat} (fell : Bool) (pins : List Nat) (hdue : (x.pwm.get n).identDue)
    (htrip : (x.pwm.get n).trip = some (j, d)) (hpost : x.cfg.axisShortPost n.val = 1) :
    x.identified n fell pins =
      (let r := identResult fell pins
       let hold : Nat := if r = 2 then 2 else if r = 3 then 1 else 0
       if hold = 0 then x.identMarked n j r hold else (x.identMarked n j r hold).raise .pwr014 (.leg j) hold) := by
  have hauto : (!(x.cfg.axisShortPost n.val == 1)) = false := by simp [hpost]
  unfold Lane.identified
  dsimp only
  rw [hdue, htrip]
  dsimp only
  rw [hauto]
  rfl

/-- A result that holds the axis: HIGH failed the high sides, LOW failed the low sides, with PWR-014 (R357). -/
theorem Lane.identified_holds {x : Lane} {n : AxisId} {j d : Nat} {pins : List Nat} {r hold : Nat} (hdue : (x.pwm.get n).identDue)
    (htrip : (x.pwm.get n).trip = some (j, d)) (hpost : x.cfg.axisShortPost n.val = 1) (hr : identResult true pins = r)
    (hhold : (if r = 2 then 2 else if r = 3 then 1 else 0) = hold) (hne : hold ≠ 0) :
    let y := x.identified n true pins
    (y.pwm.get n).hold = hold ∧ (y.pwm.get n).trip = none ∧ (∀ k : LegId, k.val = j → (y.leg.get k).ident = r) ∧ y.Raised .pwr014 (ctxOf (.leg j) hold) := by
  have hmark := x.identMarked_pwm n j r hold
  rw [Lane.identified_eq true pins hdue htrip hpost]
  dsimp only
  rw [hr, hhold, if_neg hne, Lane.raise_pwm]
  exact ⟨hmark.1, hmark.2, fun k hk => x.identMarked_leg n j r hold k hk, Lane.raise_raised _ _ _ _⟩

/-- Settles O35: a trip turns its axis's gates off and names its leg, and the result of identification decides the hold. -/
theorem tripsTurnTheAxisOff : Obligations.TripsTurnTheAxisOff := by
  unfold Obligations.TripsTurnTheAxisOff
  rintro s l x n rfl
  refine ⟨?_, ?_, ?_, ?_, ?_⟩
  · intro i at_ t hax hreal hhold hnone hoff
    refine ⟨(s.lane l).trip i at_ t, rfl, ?_⟩
    rw [Lane.trip_first hax hreal hhold hnone hoff]
    obtain ⟨hself, hother, hleg, hlegs, hraised, heq⟩ := Lane.gateEvent_keeps { s.lane l with now := at_ } n i
      (fun w => w.tripped i.val at_ t ((s.lane l).cfg.legFunction i.val == 1)) (fun y => { y with trip := t.code, tripVal := t.val, ident := 0 }) (tripEv t) t.val
    refine ⟨hself, hother, hleg, hlegs, hraised, Lane.gatesFree_tripped ?_ ?_, heq⟩
    · rw [hself]
      exact hhold
    · rw [hself]
      rfl
  · intro i at_ a hax hreal hhold
    refine ⟨(s.lane l).trip i at_ (.hard a), rfl, ?_⟩
    rw [Lane.trip_hold hax hreal hhold]
    obtain ⟨hself, hother, hleg, hlegs, hraised, heq⟩ := Lane.gateEvent_keeps { s.lane l with now := at_ } n i
      (fun w => { w with hold := 0, tripOff := true }) (fun y => { y with trip := 2, tripVal := a }) .pwr011
      ((Trip.hard a).val + 65536 * ((s.lane l).leg.get i).ident : Nat)
    refine ⟨hself, hleg, hraised, Lane.gatesFree_tripped ?_ ?_, hother, hlegs, heq⟩
    · rw [hself]
    · rw [hself]
  · intro i at_ t h
    exact State.next_lane (Lane.trip_unreal h)
  · intro j d hdue htrip hpost
    refine ⟨⟨(s.lane l).identified n true [1, 0, 0], rfl, ?_⟩, ⟨(s.lane l).identified n true [0, 2, 0], rfl, ?_⟩,
      ⟨(s.lane l).identified n false [], rfl, ?_⟩⟩
    · exact Lane.identified_holds (r := 2) (hold := 2) hdue htrip hpost rfl rfl (by decide)
    · exact Lane.identified_holds (r := 3) (hold := 1) hdue htrip hpost rfl rfl (by decide)
    · rw [Lane.identified_eq false [] hdue htrip hpost]
      exact (s.lane l).identMarked_pwm n j 1 0
  · intro hdue fell pins
    have hsame : (s.lane l).identified n fell pins = s.lane l := by
      unfold Lane.identified
      dsimp only
      rw [hdue]
    exact State.next_lane hsame

/-! ## Bus and chopper -/

/-- The bus above VOV2, as the trip leaves it: no hold, no gate free (R365). -/
def Lane.overVoltage (x : Lane) : Lane := { x with bus := { x.bus with vov2 := true }, pwm := x.pwm.mapFin fun _ w => { w with hold := 0 } }

theorem Lane.overvoltage_eq {x : Lane} {v : Q} (hv : x.cfg.laneBusVov2 < v) (hb : x.bus.vov2 = false) :
    x.overvoltage v = x.overVoltage.raise .pwr019 .none (roundDiv (v * 1000) 65536) := if_pos ⟨hv, by simp [hb]⟩

/-- The chopper check as it has failed (R362). -/
theorem Lane.chopperFault_eq {x : Lane} {n : AxisId} (hn : allAxes.find? (fun m => x.cfg.kind m.val == .chopper) = some n)
    (hr : (x.ax n).role = .holder) (hc : 4 ≤ x.bus.chopCount) (ho : x.bus.chopRaised = false) :
    x.chopperFault = { x.raise .pwr017 (.axis n.val) (roundDiv (x.bus.chopV * 1000) 65536) with bus := { x.bus with chopRaised := true } } := by
  unfold Lane.chopperFault
  rw [hn]
  exact if_pos ⟨hr, hc, by simp [ho]⟩

theorem Lane.chopperFault_idle {x : Lane} (hc : x.bus.chopCount < 4) : x.chopperFault = x := by
  unfold Lane.chopperFault
  split
  · rfl
  · exact if_neg fun h => absurd h.2.1 (Nat.not_le.mpr hc)

/-- Settles O36: a bus above VOV2 frees no gate, and the fourth failed check of the chopper raises PWR-017. -/
theorem busOvervoltageAndChopperFaultAct : Obligations.BusOvervoltageAndChopperFaultAct := by
  unfold Obligations.BusOvervoltageAndChopperFaultAct
  rintro s l x rfl
  refine ⟨?_, ?_, ?_, ?_⟩
  · intro v hv hb
    refine ⟨(s.lane l).overvoltage v, rfl, ?_⟩
    rw [Lane.overvoltage_eq hv hb]
    exact ⟨rfl, fun n => ⟨Tab.get_mapFin _ _ n, rfl⟩, Lane.raise_raised _ _ _ _, rfl⟩
  · intro v hv
    exact State.next_lane (if_neg fun h => absurd h.1 (Int.not_lt.mpr hv))
  · intro n hn hr hc ho
    refine ⟨(s.lane l).chopperFault, rfl, ?_⟩
    rw [Lane.chopperFault_eq hn hr hc ho]
    exact ⟨rfl, (Lane.raise_raised _ _ _ _).of_col rfl, rfl⟩
  · intro hc
    exact State.next_lane (Lane.chopperFault_idle hc)

end Sys2Proof.Machine

/-! Chassis checks, quiet fault classes and controlled stops (R374, R379, R383, R385, R388, R411 to R416, R424, R425). -/

namespace Sys2Proof.Machine

/-! ## A mode asked of every axis that meets a condition -/

/-- A mode asked of each axis that meets a condition on the lane. -/
def Lane.askAxes (p : Lane → AxisId → Prop) [∀ l n, Decidable (p l n)] (r : ModeReq) (x : Lane) : Lane :=
  allAxes.foldl (fun l n => if p l n then l.modSup n fun s => { s with reqs := s.reqs ++ [r] } else l) x

section
variable {p : Lane → AxisId → Prop} [∀ l n, Decidable (p l n)]

theorem Lane.askAxes_supOnly (r : ModeReq) (x : Lane) : x.SupOnly (x.askAxes p r) := by
  refine foldl_keeps x.SupOnly _ ?_ _ _ rfl
  intro y n hy
  refine keeps_ite x.SupOnly ?_ hy
  unfold Lane.SupOnly at *
  rw [hy]
  rfl

/-- Where the condition on an axis is about nothing that the requests of others change, each axis is asked once. -/
theorem Lane.askAxes_reqs (r : ModeReq) {x : Lane} {n : AxisId}
    (hp : ∀ y, x.SupOnly y → y.sup.get n = x.sup.get n → (p y n ↔ p x n)) :
    ((x.askAxes p r).sup.get n).reqs = (x.sup.get n).reqs ++ if p x n then [r] else [] := by
  obtain ⟨y, hy, hsame, hlast⟩ := foldl_at x.SupOnly
    (fun l m => if p l m then l.modSup m fun s => { s with reqs := s.reqs ++ [r] } else l) (fun l m => l.sup.get m)
    (fun y m hy => by
      refine keeps_ite x.SupOnly ?_ hy
      unfold Lane.SupOnly at *
      rw [hy]
      rfl)
    (fun y i j hj => by
      split
      · exact Lane.modSup_sup_ne _ _ hj
      · rfl) allAxes x rfl allAxes_nodup (mem_allAxes n)
  have hsup : y.sup.get n = x.sup.get n := hsame
  refine (congrArg SupPart.reqs hlast).trans ?_
  by_cases hc : p x n
  · rw [if_pos hc, if_pos ((hp y hy hsup).mpr hc), Lane.modSup_sup_self, hsup]
  · rw [if_neg hc, if_neg fun h => hc ((hp y hy hsup).mp h), hsup, List.append_nil]

end

/-! ## Chassis checks -/

theorem Lane.modSensor_self (x : Lane) (k : Fin 8) (f : Sensor → Sensor) : (x.modSensor k f).chas.sensors.get k = f (x.chas.sensors.get k) :=
  Tab.get_modify_self ..

theorem Lane.modSensor_ne (x : Lane) {k j : Fin 8} (f : Sensor → Sensor) (h : j ≠ k) : (x.modSensor k f).chas.sensors.get j = x.chas.sensors.get j :=
  Tab.get_modify_ne _ _ h

theorem Lane.elementFail_eq {x : Lane} {k : Fin 8} (hf : (x.judgeSensors.chas.sensors.get k).failed = false)
    (hr : x.cfg.sensorXtime k.val ≤ (x.judgeSensors.chas.sensors.get k).run) :
    x.elementFail k = (x.raise (if 4 ≤ k.val then .fbk050 else .opr020) (.sensor (sensorCode k.val))
      (hundredths (x.judgeSensors.chas.sensors.get k).diff)).modSensor k fun s => { s with failed := true, run := 0 } := by
  unfold Lane.elementFail
  generalize x.judgeSensors.chas.sensors.get k = q at *
  exact if_pos ⟨by simp [hf], hr⟩

theorem Lane.pairDisagree_eq {x : Lane} {k : Fin 8} (hf : (x.judgeSensors.chas.sensors.get k).failed = false)
    (hp : (x.judgeSensors.chas.sensors.get k).pair = false) (hr : x.cfg.sensorXtime k.val ≤ (x.judgeSensors.chas.sensors.get k).pairRun) :
    x.pairDisagree k = (x.raise .opr021 (.sensor (sensorCode k.val)) (hundredths (x.judgeSensors.chas.sensors.get k).diff)).modSensor k
      fun s => { s with pair := true, pairTicks := 0 } := by
  unfold Lane.pairDisagree
  generalize x.judgeSensors.chas.sensors.get k = q at *
  exact if_pos ⟨by simp [hf], by simp [hp], hr⟩

/-- The end of guidance as it is noted, with OPR-023 (R383). -/
def Lane.guideEnded (x : Lane) : Lane := { x.raise .opr023 .none 0 with chas := { x.chas with guideOut := true } }

theorem Lane.guideEnded_keeps (x : Lane) : x.guideEnded = { x with
    chas := { x.chas with guideOut := true }, col := { x.col with raised := x.guideEnded.col.raised } } := rfl

theorem Lane.guidanceTimeout_eq {x : Lane} {g : Int} {t : Nat} (hg : x.chas.guide = some (g, t))
    (ht : t + x.cfg.steerGuideTimeout ≤ x.tick.count) (ho : x.chas.guideOut = false) :
    x.guidanceTimeout = x.guideEnded.askAxes (fun l n => l.cfg.kind n.val = .steer ∧ (l.sup.get n).mode = 1 ∧ l.commands n) { mode := 3, prio := 3 } := by
  unfold Lane.guidanceTimeout
  rw [hg]
  exact if_pos ⟨ht, by simp [ho]⟩

theorem Lane.pressureFollow_eq {x : Lane} {n : AxisId} (h : x.chas.prsRun.get n = x.cfg.brakePrsTime) :
    x.pressureFollow n = { x.raise .pls050 (.axis n.val) (roundDiv (x.chas.prsDev.get n * 10) 65536) with
      chas := { x.chas with prsRun := x.chas.prsRun.modify n (· + 1) } } := if_pos h

theorem Lane.accumulatorLow_eq {x : Lane} (hr : 4000 ≤ x.chas.accRun) (ho : x.chas.accRaised = false) :
    x.accumulatorLow = { x.raise .pls051 (.axis x.cfg.brakePump) (roundDiv (x.chas.acc * 10) 65536) with
      chas := { x.chas with accRaised := true, accLow := true } } := if_pos ⟨hr, by simp [ho]⟩

theorem Lane.wheelXchk_eq {x : Lane} {n : AxisId} (h : x.chas.xchkRun.get n = x.cfg.axisLoopXchkTime n.val) :
    x.wheelXchk n = { x.raise .fbk052 (.axis n.val) (roundDiv (absI (x.chas.xchkDiff.get n)) 65536) with
      chas := { x.chas with xchkRun := x.chas.xchkRun.modify n (· + 1) } } := if_pos h

/-- Settles O37: each check of the chassis acts once its run has lasted, on its own element, axis or speed. -/
theorem chassisChecksAct : Obligations.ChassisChecksAct := by
  unfold Obligations.ChassisChecksAct
  rintro s l x rfl
  refine ⟨?_, ?_, ?_, ?_, ?_, ?_, ?_⟩
  · intro k q hf hr
    refine ⟨(s.lane l).elementFail k, rfl, ?_⟩
    rw [Lane.elementFail_eq hf hr]
    exact ⟨Lane.modSensor_self _ _ _, fun j hj => Lane.modSensor_ne _ _ hj, (Lane.raise_raised _ _ _ _).of_col rfl, rfl⟩
  · intro k q hf hp hr
    refine ⟨(s.lane l).pairDisagree k, rfl, ?_⟩
    rw [Lane.pairDisagree_eq hf hp hr]
    exact ⟨Lane.modSensor_self _ _ _, (Lane.raise_raised _ _ _ _).of_col rfl, rfl⟩
  · intro ho hr
    exact State.next_lane (if_pos ⟨by rw [show (s.lanes.get l).ready.chas.canOk = false from ho]; rfl, hr⟩)
  · intro g t hg ht ho
    refine ⟨(s.lane l).guidanceTimeout, rfl, ?_⟩
    rw [Lane.guidanceTimeout_eq hg ht ho]
    have hall := Lane.askAxes_supOnly (p := fun l n => l.cfg.kind n.val = .steer ∧ (l.sup.get n).mode = 1 ∧ l.commands n)
      { mode := 3, prio := 3 } (s.lane l).guideEnded
    have hend := (s.lane l).guideEnded_keeps
    refine ⟨by rw [hall]; rfl, ?_, fun n => ?_, by rw [hall, hend]⟩
    · have hraised : (s.lane l).guideEnded.Raised .opr023 (ctxOf .none 0) := (Lane.raise_raised (s.lane l) .opr023 .none 0).of_col rfl
      exact hraised.of_col (by rw [hall])
    · refine Lane.askAxes_reqs _ fun y hy hsup => ?_
      have hcmd : y.commands n = (s.lane l).guideEnded.commands n := by rw [hy]; rfl
      have hcfg : y.cfg = (s.lane l).guideEnded.cfg := by rw [hy]; rfl
      rw [hcmd, hcfg, hsup]
  · intro n h
    refine ⟨(s.lane l).pressureFollow n, rfl, ?_⟩
    rw [Lane.pressureFollow_eq h]
    exact ⟨Tab.get_modify_self .., (Lane.raise_raised _ _ _ _).of_col rfl, rfl⟩
  · intro hr ho
    refine ⟨(s.lane l).accumulatorLow, rfl, ?_⟩
    rw [Lane.accumulatorLow_eq hr ho]
    exact ⟨rfl, (Lane.raise_raised _ _ _ _).of_col rfl, rfl⟩
  · intro n h
    refine ⟨(s.lane l).wheelXchk n, rfl, ?_⟩
    rw [Lane.wheelXchk_eq h]
    exact ⟨Tab.get_modify_self .., (Lane.raise_raised _ _ _ _).of_col rfl, rfl⟩

/-! ## Quiet fault classes -/

theorem Lane.anneal_idle {x : Lane} {c : FaultClass} (h : x.quietNow c.code < x.cfg.faultAnnealTime) : x.anneal c = x :=
  if_neg fun h' => absurd h'.2 (Nat.not_le.mpr h)

theorem Lane.anneal_latches {x : Lane} {c : FaultClass} (hr : x.recoverable c) (hq : x.cfg.faultAnnealTime ≤ x.quietNow c.code)
    (hl : x.recoveryLimit c) : x.anneal c = x.latchClass c := (if_pos ⟨hr, hq⟩).trans (if_pos hl)

theorem Lane.anneal_returns {x : Lane} {c : FaultClass} (hr : x.recoverable c) (hq : x.cfg.faultAnnealTime ≤ x.quietNow c.code)
    (hl : x.recoveryLimit c = false) (hs : x.start.state ≠ .safe) : x.anneal c = (x.recover c).returnAxes :=
  (if_pos ⟨hr, hq⟩).trans ((if_neg (ne_true_of_eq_false hl)).trans (if_neg hs))

theorem Lane.anneal_restarts {x : Lane} {c : FaultClass} (hr : x.recoverable c) (hq : x.cfg.faultAnnealTime ≤ x.quietNow c.code)
    (hl : x.recoveryLimit c = false) (hs : x.start.state = .safe) : x.anneal c = (x.recover c).faultRestart :=
  (if_pos ⟨hr, hq⟩).trans ((if_neg (ne_true_of_eq_false hl)).trans (if_pos hs))

/-- The faults of a recovered class that the lane still holds have recovered and wait for their acknowledgement, but for the latched ones (R412). -/
theorem Lane.recover_held {x : Lane} {c : FaultClass} {h : Held} (hh : h ∈ (x.recover c).col.held) (hc : h.r.ev.cls = c) (hlv : h.r.level ≠ .l0)
    (hlat : h.latched = false) : h.recovered = true ∧ h.acked = false := by
  obtain ⟨hm, hd⟩ := List.mem_filter.mp hh
  obtain ⟨k, -, rfl⟩ := List.mem_map.mp hm
  have hcond : (k.r.ev.cls == c && k.r.level != .l0 && !k.latched) = true := by
    split at hc <;> split at hlv <;> split at hlat <;> simp_all
  rw [if_pos hcond] at hd ⊢
  refine ⟨rfl, ?_⟩
  simpa [Held.done] using hd

theorem Lane.latchClass_held {x : Lane} {c : FaultClass} {h : Held} (hh : h ∈ (x.latchClass c).col.held) (hc : h.r.ev.cls = c)
    (hlv : h.r.level ≠ .l0) (hr : h.recovered = false) : h.latched = true := by
  obtain ⟨k, -, rfl⟩ := List.mem_map.mp hh
  have hcond : (k.r.ev.cls == c && k.r.level != .l0 && !k.recovered) = true := by
    split at hc <;> split at hlv <;> split at hr <;> simp_all
  rw [if_pos hcond]

/-! ## Controlled stops -/

/-- The stop as it stands (R424). -/
def Lane.stopStanding (x : Lane) : Lane := { x with
  col := { x.col with stopStill := some x.tick.count }, chas := { x.chas with park := false, parkDecel := false, opr025 := false } }

theorem Lane.stopTimeout_stands {x : Lane} {t : Nat} (hs : x.start.state = .operate) (ht : x.col.stopS = some t)
    (hmax : t + x.cfg.faultStopTmax * 40000 ≤ x.tick.count) (hstill : x.col.stopStill = none) :
    x.stopTimeout = x.stopStanding.askAxes (fun l n => l.cfg.kind n.val = .steer ∧ l.commands n) { mode := 3, prio := 2 } := by
  have hn : ¬x.col.stopStill.isSome = true := by simp [hstill]
  unfold Lane.stopTimeout
  rw [ht]
  exact (if_pos ⟨hmax, hs⟩).trans (if_neg hn)

theorem Lane.stopTimeout_early {x : Lane} {t : Nat} (ht : x.col.stopS = some t) (hmax : x.tick.count < t + x.cfg.faultStopTmax * 40000) :
    x.stopTimeout = x := by
  unfold Lane.stopTimeout
  rw [ht]
  exact if_neg fun h => absurd h.1 (Nat.not_le.mpr hmax)

/-- The end of a stop: COL-011, and the low sides of each motor triad held (R425). -/
def Lane.stopHeld (x : Lane) (t : Nat) : Lane := { x.raise .col011 .none ((x.tick.count - t) / 40000 : Nat) with
  pwm := x.pwm.mapFin fun n w => if x.cfg.motor n.val && !(x.ax n).absent && !w.tripOff then { w with hold := 1, holdAt := 0 } else w }

theorem Lane.stopHoldEnd_eq {x : Lane} {t : Nat} (hs : x.start.state = .operate) (ht : x.col.stopStill = some t)
    (hhold : t + x.cfg.faultStopThold * 40000 ≤ x.tick.count) (hp : x.start.sinceP = none) (hr : ∀ r ∈ x.col.raised, r.ev ≠ .col011) :
    x.stopHoldEnd = x.stopHeld t := by
  unfold Lane.stopHoldEnd
  rw [ht]
  refine if_pos ⟨hhold, hs, by simp [hp], ?_⟩
  simpa using hr

theorem Lane.stopHoldEnd_early {x : Lane} (h : ∀ t, x.col.stopStill = some t → x.tick.count < t + x.cfg.faultStopThold * 40000) :
    x.stopHoldEnd = x := by
  unfold Lane.stopHoldEnd
  split
  · next t ht => exact if_neg fun h' => absurd h'.1 (Nat.not_le.mpr (h t ht))
  · rfl

/-- Settles O38: a quiet class recovers or latches at its limits, SAFE restarts once its high faults have recovered, and a controlled stop stands and ends by its times. -/
theorem quietClassesAndStopsEnd : Obligations.QuietClassesAndStopsEnd := by
  unfold Obligations.QuietClassesAndStopsEnd
  constructor
  · rintro s l x c rfl hr
    refine ⟨fun hq => State.next_lane (Lane.anneal_idle hq), fun hq => ⟨?_, ?_, ?_⟩⟩
    · intro hl hs
      refine ⟨(s.lane l).anneal c, rfl, ?_⟩
      rw [Lane.anneal_returns hr hq hl hs]
      exact ⟨fun h hh => Lane.recover_held hh, rfl, rfl⟩
    · intro hl hs
      refine ⟨(s.lane l).anneal c, rfl, ?_⟩
      rw [Lane.anneal_restarts hr hq hl hs]
      by_cases hall : ((s.lane l).recover c).allHighRecovered = true
      · have hs' : ((s.lane l).recover c).start.state = .safe := hs
        have heq : ((s.lane l).recover c).faultRestart = ((s.lane l).recover c).reset .faultRestart := if_pos ⟨hs', hall⟩
        have hreset := ((s.lane l).recover c).reset_restarted .faultRestart
        rw [heq]
        refine ⟨?_, fun _ => hreset, fun h => absurd h (by simp [hall])⟩
        rw [hreset.1]
        rfl
      · have heq : ((s.lane l).recover c).faultRestart = (s.lane l).recover c := if_neg fun h => hall h.2
        rw [heq]
        exact ⟨rfl, fun h => absurd h hall, fun _ => rfl⟩
    · intro hl
      refine ⟨(s.lane l).anneal c, rfl, ?_⟩
      rw [Lane.anneal_latches hr hq hl]
      exact ⟨Lane.raise_raised _ _ _ _, fun h hh => Lane.latchClass_held hh, rfl⟩
  · rintro s l x rfl hs
    refine ⟨?_, ?_, ?_, ?_, ?_⟩
    · intro t ht hmax hstill
      refine ⟨(s.early l).stopTimeout, rfl, ?_⟩
      rw [Lane.stopTimeout_stands hs ht hmax hstill]
      have hall := Lane.askAxes_supOnly (p := fun l n => l.cfg.kind n.val = .steer ∧ l.commands n) { mode := 3, prio := 2 } (s.early l).stopStanding
      refine ⟨by rw [hall]; rfl, fun n => ?_, by rw [hall, Lane.stopStanding]⟩
      refine Lane.askAxes_reqs _ fun y hy _ => ?_
      have hcmd : y.commands n = (s.early l).stopStanding.commands n := by rw [hy]; rfl
      have hcfg : y.cfg = (s.early l).stopStanding.cfg := by rw [hy]; rfl
      rw [hcmd, hcfg]
    · intro t ht hmax
      exact State.next_lane (Lane.stopTimeout_early ht hmax)
    · intro t ht hhold hp hraised
      refine ⟨(s.early l).stopHoldEnd, rfl, ?_⟩
      rw [Lane.stopHoldEnd_eq hs ht hhold hp hraised]
      refine ⟨(Lane.raise_raised _ _ _ _).of_col rfl, fun n => ?_, rfl⟩
      refine (Tab.get_mapFin _ _ n).trans ?_
      simp only [Bool.and_eq_true, Bool.not_eq_true', and_assoc]
    · intro t ht hhold
      refine State.next_lane (Lane.stopHoldEnd_early fun u hu => ?_)
      have : u = t := Option.some.inj (hu.symm.trans ht)
      rw [this]
      exact hhold
    · intro hnone
      exact State.next_lane (Lane.stopHoldEnd_early fun u hu => absurd (hu.symm.trans hnone) (by simp))

end Sys2Proof.Machine

/-! Fabric frames received, ports, HELLO and LINK notices (R452, R454, R457, R458, R461 to R463). -/

namespace Sys2Proof.Machine

/-! ## Frames received -/

/-- The fabric block alone may have changed. -/
def Lane.FabReach (x y : Lane) : Prop := y = { x with fab := y.fab }

theorem Lane.FabReach.trans {x y z : Lane} (h : x.FabReach y) (h' : y.FabReach z) : x.FabReach z := by
  unfold Lane.FabReach at *
  rw [h', h]

theorem Lane.modPort_fabReach (x : Lane) (p : PortId) (f : FabPort → FabPort) : x.FabReach (x.modPort p f) := rfl

theorem Lane.forward_fabReach (x : Lane) (p : PortId) (f : FabFrame) : x.FabReach (x.forward p f) := rfl

theorem Lane.forward_if_fabReach (x : Lane) (c : Prop) [Decidable c] (p : PortId) (f : FabFrame) : x.FabReach (if c then x.forward p f else x) :=
  keeps_ite x.FabReach (x.forward_fabReach p f) rfl

theorem Lane.FabReach.withFab {x y : Lane} (h : x.FabReach y) (f : FabPart) : x.FabReach { y with fab := f } := h.trans rfl

/-- Whatever becomes of a frame, the checks on its port act on the fabric block alone (R452, R454). -/
theorem Lane.fabReceive_fabReach (x : Lane) (p : PortId) (bs : List Byte) : x.FabReach (x.fabReceive p bs).1 := by
  unfold Lane.fabReceive
  dsimp only
  split
  · rfl
  · split
    · exact x.modPort_fabReach _ _
    · split
      · exact keeps_ite x.FabReach rfl (x.modPort_fabReach _ _)
      · split
        · exact (x.forward_if_fabReach _ _ _).trans (Lane.modPort_fabReach _ _ _)
        · split
          · rfl
          · exact (x.forward_if_fabReach _ _ _).withFab _

theorem Lane.received_refused {x : Lane} {p : PortId} {at_ : Nat} {bs : List Byte} (want : FabFrame → Bool) (f : Lane → FabFrame → Lane)
    (h : (Lane.fabReceive { x with now := at_ } p bs).2 = none) : x.received p at_ bs want f = (Lane.fabReceive { x with now := at_ } p bs).1 := by
  unfold Lane.received
  generalize Lane.fabReceive { x with now := at_ } p bs = r at *
  obtain ⟨y, o⟩ := r
  cases h
  rfl

theorem Lane.received_taken {x y : Lane} {p : PortId} {at_ : Nat} {bs : List Byte} {f : FabFrame} {want : FabFrame → Bool}
    (g : Lane → FabFrame → Lane) (h : Lane.fabReceive { x with now := at_ } p bs = (y, some f)) (hw : want f) :
    x.received p at_ bs want g = g y f := by
  unfold Lane.received
  rw [h]
  exact if_pos hw

/-- Settles O40: a frame that is not accepted leaves what `fabReceive` leaves, which is the fabric block's. -/
theorem refusedFramesActOnTheFabricAlone : Obligations.RefusedFramesActOnTheFabricAlone := by
  unfold Obligations.RefusedFramesActOnTheFabricAlone
  rintro s l x p at_ bs rfl h
  refine ⟨_, Lane.fabReceive_fabReach { s.lane l with now := at_ } p bs, ?_⟩
  have hrefused (want : FabFrame → Bool) (f : Lane → FabFrame → Lane) :
      (Host.Outcome.next (s.withLane l ((s.lane l).received p at_ bs want f)) : Host.Outcome State Fault Refusal) =
        .next (s.withLane l (Lane.fabReceive { s.lane l with now := at_ } p bs).1) := State.next_lane (Lane.received_refused want f h)
  intro c hc
  simp only [List.mem_cons, List.not_mem_nil, or_false] at hc
  rcases hc with rfl | rfl | rfl | rfl | rfl | rfl | rfl | rfl | rfl | rfl <;> exact hrefused _ _

/-! ## Ports and their link -/

theorem Lane.modPort_self (x : Lane) (p : PortId) (f : FabPort → FabPort) : (x.modPort p f).fab.ports.get p = f (x.fab.ports.get p) :=
  Tab.get_modify_self ..

theorem Lane.modPort_ne (x : Lane) {p q : PortId} (f : FabPort → FabPort) (h : q ≠ p) : (x.modPort p f).fab.ports.get q = x.fab.ports.get q :=
  Tab.get_modify_ne _ _ h

/-- A port as its new link finds it (R461). -/
def FabPort.linkFound (q : FabPort) (next : Nat) : FabPort :=
  { q with phy := true, helloOk := false, helloNext := next, timeNow := false, timeRun := 0, missRun := 0, delays := [], rx := none
           ann := none, seqRun := 0, meas := none, txCounts := [] }

theorem Lane.phyUp_eq {x : Lane} {p : PortId} (hr : x.fab.running) (hs : (x.fab.ports.get p).state ≠ 0) (hp : (x.fab.ports.get p).phy = false) :
    x.phyUp p = (x.modPort p fun q => q.linkFound (x.tick.count + 1)).portTo p
      (if (x.fab.ports.get p).state = 1 then 2 else (x.fab.ports.get p).state) := if_neg (by simp [hr, hs, hp])

theorem Lane.phyUp_idle {x : Lane} {p : PortId} (h : (x.fab.ports.get p).state = 0 ∨ (x.fab.ports.get p).phy) : x.phyUp p = x := by
  refine if_pos ?_
  rcases h with h | h <;> simp [h]

/-- A port as the loss of its link leaves it, until the close (R463). -/
def FabPort.linkLost (q : FabPort) : FabPort :=
  { q with phy := false, helloOk := false, ann := none, meas := none, queue := [], down := if q.state = 1 then 0 else 1 }

theorem Lane.phyLoss_eq {x : Lane} {p : PortId} (hr : x.fab.running) (hp : (x.fab.ports.get p).phy) : x.phyLoss p = x.modPort p FabPort.linkLost :=
  if_neg (by simp [hr, hp])

theorem Lane.phyLoss_idle {x : Lane} {p : PortId} (h : (x.fab.ports.get p).phy = false) : x.phyLoss p = x := if_pos (by simp [h])

/-- A port that goes to DOWN at the close, with FAB-010 (R463). -/
def Lane.portDowned (x : Lane) (p : PortId) : Lane :=
  (((x.modPort p fun q => { q with down := 0 }).raisePort .fab010 p (x.fab.ports.get p).down).modPort p
    fun q => { q with helloOk := false, ann := none, queue := [] }).portTo p 1

theorem Lane.portDown_eq {x : Lane} {p : PortId}
    (hdue : (x.fab.ports.get p).down = 1 ∨ (x.fab.ports.get p).down = 2 ∧ (x.fab.ports.get p).timeNow = false)
    (hstay : (x.fab.ports.get p).down = 2 ∨ (x.fab.ports.get p).phy = false) : x.portDown p = x.portDowned p := by
  refine (if_neg ?_).trans (if_neg ?_)
  · rcases hdue with h | ⟨h, h'⟩ <;> simp [*]
  · rcases hstay with h | h <;> simp [h]

theorem Lane.portDowned_keeps (x : Lane) (p : PortId) :
    (x.portDowned p).Raised .fab010 (ctxOf (.port p.val) (x.fab.ports.get p).down) ∧ ((x.portDowned p).fab.ports.get p).state = 1 :=
  ⟨(Lane.raise_raised (x.modPort p fun q => { q with down := 0 }) .fab010 (.port p.val) (x.fab.ports.get p).down).of_col rfl,
    (congrArg FabPort.state (Lane.modPort_self ..)).trans rfl⟩

theorem Lane.timeMissing_eq {x : Lane} {p : PortId} (hs : (x.fab.ports.get p).state = 2 ∨ (x.fab.ports.get p).state = 3)
    (hp : (x.fab.ports.get p).phy) (ht : (x.fab.ports.get p).timeNow = false) (hm : 1 ≤ (x.fab.ports.get p).missRun)
    (hd : (x.fab.ports.get p).down = 0) : x.timeMissing p = x.modPort p fun q => { q with down := 2 } := by
  refine if_pos ?_
  rcases hs with h | h <;> simp [h, hp, ht, hm, hd]

theorem Lane.timeMissing_idle {x : Lane} {p : PortId} (h : (x.fab.ports.get p).timeNow ∨ (x.fab.ports.get p).missRun = 0) : x.timeMissing p = x := by
  refine if_neg ?_
  rcases h with h | h <;> simp [h]

theorem Lane.portTimeout_eq {x : Lane} {p : PortId} {t : Nat} (ha : x.fab.alignAt = some t) (ht : t + 2000 ≤ x.tick.count)
    (hs : (x.fab.ports.get p).state ≠ 0) (hu : (x.fab.ports.get p).upSeen = false) (ho : (x.fab.ports.get p).fab011 = false) :
    x.portTimeout p = (x.raisePort .fab011 p (x.fab.ports.get p).state).modPort p fun q => { q with fab011 := true } := by
  unfold Lane.portTimeout
  dsimp only
  rw [ha]
  exact if_pos (by simp [hs, hu, ho, ht])

theorem Lane.helloSend_eq {x : Lane} {p : PortId} (hr : x.fab.running) (hs : (x.fab.ports.get p).state ≠ 0) (hp : (x.fab.ports.get p).phy)
    (hn : (x.fab.ports.get p).helloNext ≤ x.tick.count) :
    x.helloSend p = (x.fabSendLink p 5 (x.helloPayload p)).modPort p fun q => { q with helloNext := x.tick.count + 40 } :=
  if_pos (by simp [hr, hs, hp, hn])

theorem Lane.helloSend_idle {x : Lane} {p : PortId} (h : x.tick.count < (x.fab.ports.get p).helloNext) : x.helloSend p = x := if_neg (by simp [h])

theorem Lane.fabSendLink_ne (x : Lane) {p q : PortId} (cls : Nat) (bs : List Byte) (h : q ≠ p) :
    (x.fabSendLink p cls bs).fab.ports.get q = x.fab.ports.get q := Tab.get_modify_ne _ _ h

/-- Settles O41: ports follow link, TIME frames and HELLO times, each alone. -/
theorem portsFollowTheirLink : Obligations.PortsFollowTheirLink := by
  unfold Obligations.PortsFollowTheirLink
  rintro s l x p rfl hr
  refine ⟨?_, ?_, ?_, ?_, ?_, ?_, ?_, ?_, ?_⟩
  · intro hs hp
    refine ⟨(s.lane l).phyUp p, rfl, ?_⟩
    rw [Lane.phyUp_eq hr hs hp, Lane.portTo, Lane.modPort_self, Lane.modPort_self]
    exact ⟨rfl, rfl, rfl, fun q hq => (Lane.modPort_ne _ _ hq).trans (Lane.modPort_ne _ _ hq), rfl⟩
  · intro h
    exact State.next_lane (Lane.phyUp_idle h)
  · intro hp
    refine ⟨(s.lane l).phyLoss p, rfl, ?_⟩
    rw [Lane.phyLoss_eq hr hp]
    have hself := (s.lane l).modPort_self p FabPort.linkLost
    refine ⟨by rw [hself]; rfl, by rw [hself]; rfl, by rw [hself]; rfl, fun hs => ?_, fun q hq => Lane.modPort_ne _ _ hq, rfl⟩
    have hdown : (((s.lane l).modPort p FabPort.linkLost).fab.ports.get p).down = 1 := by
      rw [hself]
      exact if_neg hs
    have hphy : (((s.lane l).modPort p FabPort.linkLost).fab.ports.get p).phy = false := by
      rw [hself]
      rfl
    have hkeeps := Lane.portDowned_keeps ((s.lane l).modPort p FabPort.linkLost) p
    rw [hdown] at hkeeps
    rw [Lane.portDown_eq (.inl hdown) (.inr hphy)]
    exact hkeeps
  · intro hp
    exact State.next_lane (Lane.phyLoss_idle hp)
  · intro hs hp ht hm hd
    refine ⟨(s.lane l).timeMissing p, rfl, ?_⟩
    rw [Lane.timeMissing_eq hs hp ht hm hd]
    have hself := (s.lane l).modPort_self p fun q => { q with down := 2 }
    have hdown : (((s.lane l).modPort p fun q => { q with down := 2 }).fab.ports.get p).down = 2 := by rw [hself]
    have htime : (((s.lane l).modPort p fun q => { q with down := 2 }).fab.ports.get p).timeNow = false := by
      rw [hself]
      exact ht
    have hkeeps := Lane.portDowned_keeps ((s.lane l).modPort p fun q => { q with down := 2 }) p
    rw [hdown] at hkeeps
    rw [Lane.portDown_eq (.inr ⟨hdown, htime⟩) (.inl hdown)]
    exact ⟨hself, hkeeps.1, hkeeps.2, fun q hq => Lane.modPort_ne _ _ hq, rfl⟩
  · intro h
    exact State.next_lane (Lane.timeMissing_idle h)
  · intro t ha ht hs hu ho
    refine ⟨(s.lane l).portTimeout p, rfl, ?_⟩
    rw [Lane.portTimeout_eq ha ht hs hu ho]
    exact ⟨Lane.modPort_self _ _ _, (Lane.raise_raised _ _ _ _).of_col rfl, fun q hq => Lane.modPort_ne _ _ hq, rfl⟩
  · intro hs hp hn
    refine ⟨(s.lane l).helloSend p, rfl, ?_⟩
    rw [Lane.helloSend_eq hr hs hp hn]
    refine ⟨?_, fun q hq => (Lane.modPort_ne _ _ hq).trans (Lane.fabSendLink_ne _ _ _ hq), rfl⟩
    rw [Lane.modPort_self]
  · intro hn
    exact State.next_lane (Lane.helloSend_idle hn)

end Sys2Proof.Machine

/-! HELLO, LINK and TIME frames, the master and SAFE frames (R457, R458, R462, R465 to R469, R479, R483, R484). -/

namespace Sys2Proof.Machine

theorem State.withLane_injective {s : State} {l : LaneId} {a b : Lane} (h : s.withLane l a = s.withLane l b) : a = b := by
  have hget (c : Lane) : (s.withLane l c).lanes.get l = c := PerLane.get_set_self ..
  rw [← hget a, h, hget]

/-! ## SAFE frames -/

/-- Lane A of node 2 in OPERATE, DP0 UP, subscribed to local signal 5 of node 1. -/
def subscriber : Lane := {
  id := .a, gat := { cfg := [(0x02000011, [2]), (0x40000100, [2 ^ 19 + 5])] }, start := { state := .operate }
  fab := { running := true, ports := (Tab.fill 2 {}).set 0 { state := 3, phy := true } } }

/-- A node whose lane A is that subscriber. -/
def subscribed : State := { State.reset with lanes := State.reset.lanes.set .a subscriber }

/-- A SAFE frame of node 1 with two valid entries of local signal 5, the first with a reserved bit set: values 7 and 9. -/
def twiceSignalled : FabFrame :=
  { cls := 1, src := 1, dst := 63, hop := 2, seq := 9, stamp := 100, epoch := 0
    payload := List.replicate 80 0 ++ [0x88, 0, 5, 0, 0, 0, 0, 7, 0x80, 0, 5, 0, 0, 0, 0, 9] ++ List.replicate 96 0 }

/-- What lane A makes of the bytes of that frame on DP0, 200 clocks after its boundary. -/
def signalTaken : Lane × Option FabFrame := Lane.fabReceive { subscribed.lane .a with now := 200 } 0 (twiceSignalled.bytes 0)

theorem signalTaken_frame : signalTaken.2 = some twiceSignalled := by decide +kernel

theorem signalTaken_eq : signalTaken = (signalTaken.1, some twiceSignalled) := by rw [← signalTaken_frame]

/-- The lane takes the value of the first entry of the signal, whatever its reserved bits (Table 18.2). -/
theorem safeFrame_takes_first : ((signalTaken.1.safeFrame twiceSignalled).car.subs.get 0).val = 7 := by decide +kernel

/-- Refutes O44: where an entry with a reserved bit set precedes another entry of the same signal, the lane takes the first and the statement looks for the other. -/
theorem not_safeFramesGiveSignals : ¬ Obligations.SafeFramesGiveSignals := by
  unfold Obligations.SafeFramesGiveSignals
  intro h
  have hrec : Lane.fabReceive { subscribed.lane .a with now := 200 } 0 (twiceSignalled.bytes 0) = (signalTaken.1, some twiceSignalled) :=
    signalTaken_eq
  have hkind : frameIs 1 none twiceSignalled := by decide +kernel
  obtain ⟨z, hz, -, hsig, -⟩ := h subscribed .a _ signalTaken.1 0 200 (twiceSignalled.bytes 0) twiceSignalled rfl hrec hkind
  have hexec : exec (.safeFrame .a 0 200 (twiceSignalled.bytes 0)) subscribed =
      .next (subscribed.withLane .a ((subscribed.lane .a).received 0 200 (twiceSignalled.bytes 0) (frameIs 1 none) fun y f => y.safeFrame f)) := rfl
  rw [Lane.received_taken _ hrec hkind] at hexec
  have hstate : subscribed.withLane .a (signalTaken.1.safeFrame twiceSignalled) = subscribed.withLane .a z :=
    Host.Outcome.next.inj (hexec.symm.trans hz)
  have hlane : signalTaken.1.safeFrame twiceSignalled = z := State.withLane_injective hstate
  have hnine := hsig 0 1 (by decide +kernel) (by decide +kernel) (by decide +kernel)
  have hval : (z.car.subs.get 0).val = 9 := by
    rw [hnine]
    decide +kernel
  rw [← hlane, safeFrame_takes_first] at hval
  exact absurd hval (by decide)

/-! ## HELLO frames and LINK notices -/

/-- A port as a HELLO of its neighbour leaves it, before its state is judged. -/
def FabPort.greeted (q : FabPort) (f : FabFrame) (ok : Bool) : FabPort :=
  { q with neighbour := (f.payload.getD 1 0).toNat, serial := beNat (slice f.payload 2 8), helloOk := ok }

/-- A HELLO that Table 17.6 judges good. -/
theorem Lane.hello_good {x : Lane} {p : PortId} {f : FabFrame} (h : (x.judgeHello p f.payload).1 = 3) :
    x.hello p f = if (x.fab.ports.get p).state = 3 ∨ (x.fab.ports.get p).state = 1 then x.modPort p fun q => q.greeted f true
      else (x.modPort p fun q => q.greeted f true).portTo p (if 8 ≤ (x.fab.ports.get p).timeRun + b2n (x.fab.ports.get p).timeNow then 3 else 2) := by
  unfold Lane.hello
  generalize x.judgeHello p f.payload = j at *
  obtain ⟨st, ev⟩ := j
  dsimp only at h ⊢
  subst h
  rfl

/-- A HELLO that it judges wrong, with its event where the port was not in that state before. -/
theorem Lane.hello_wrong {x : Lane} {p : PortId} {f : FabFrame} {st : Nat} {e : Ev} {v : Int} (h : x.judgeHello p f.payload = (st, some (e, v)))
    (hst : st ≠ 3) :
    x.hello p f = if (x.fab.ports.get p).state = st then (x.modPort p fun q => q.greeted f (st == 3)).portTo p st
      else ((x.modPort p fun q => q.greeted f (st == 3)).portTo p st).raisePort e p v := by
  unfold Lane.hello
  rw [h]
  exact if_neg hst

/-- What a HELLO reaches. -/
def Lane.GreetReach (p : PortId) (f : FabFrame) (x y : Lane) : Prop :=
  (y.fab.ports.get p).neighbour = (f.payload.getD 1 0).toNat ∧ (∀ q, q ≠ p → y.fab.ports.get q = x.fab.ports.get q) ∧
    y = { x with fab := y.fab, col := { x.col with raised := y.col.raised } }

theorem Lane.greeted_reach (x : Lane) (p : PortId) (f : FabFrame) (ok : Bool) : x.GreetReach p f (x.modPort p fun q => q.greeted f ok) :=
  ⟨(congrArg FabPort.neighbour (Lane.modPort_self ..)).trans rfl, fun _ hq => Lane.modPort_ne _ _ hq, rfl⟩

theorem Lane.GreetReach.portTo {x y : Lane} {p : PortId} {f : FabFrame} (h : x.GreetReach p f y) (st : Nat) : x.GreetReach p f (y.portTo p st) := by
  obtain ⟨hn, ho, heq⟩ := h
  refine ⟨?_, fun q hq => (Lane.modPort_ne _ _ hq).trans (ho q hq), ?_⟩
  · rw [Lane.portTo, Lane.modPort_self]
    exact hn
  · rw [heq]
    rfl

theorem Lane.GreetReach.raisePort {x y : Lane} {p : PortId} {f : FabFrame} (h : x.GreetReach p f y) (e : Ev) (v : Int) :
    x.GreetReach p f (y.raisePort e p v) := by
  obtain ⟨hn, ho, heq⟩ := h
  refine ⟨hn, ho, ?_⟩
  rw [heq]
  rfl

theorem Lane.hello_reach (x : Lane) (p : PortId) (f : FabFrame) : x.GreetReach p f (x.hello p f) := by
  unfold Lane.hello
  generalize x.judgeHello p f.payload = j
  obtain ⟨st, ev⟩ := j
  have hbase := x.greeted_reach p f (st == 3)
  refine keeps_ite (x.GreetReach p f) (keeps_ite (x.GreetReach p f) hbase (hbase.portTo _)) ?_
  cases ev with
  | none => exact hbase.portTo st
  | some ev => exact keeps_ite (x.GreetReach p f) (hbase.portTo st) ((hbase.portTo st).raisePort _ _)

theorem Lane.portTo_port (x : Lane) (p : PortId) (st : Nat) :
    ((x.portTo p st).fab.ports.get p).state = st ∧ ((x.portTo p st).fab.ports.get p).helloOk = (x.fab.ports.get p).helloOk := by
  rw [Lane.portTo, Lane.modPort_self]
  exact ⟨rfl, rfl⟩

/-- The state and the event that a wrong HELLO gives its port. -/
theorem Lane.hello_wrong_port {x : Lane} {p : PortId} {f : FabFrame} {st : Nat} {e : Ev} {v : Int}
    (h : x.judgeHello p f.payload = (st, some (e, v))) (hst : st ≠ 3) :
    ((x.hello p f).fab.ports.get p).state = st ∧ ((x.hello p f).fab.ports.get p).helloOk = false ∧
      ((x.fab.ports.get p).state ≠ st → (x.hello p f).Raised e (ctxOf (.port p.val) v)) := by
  obtain ⟨hstate, hok⟩ := (x.modPort p fun q => q.greeted f (st == 3)).portTo_port p st
  have hfalse : ((x.modPort p fun q => q.greeted f (st == 3)).fab.ports.get p).helloOk = false := by
    rw [Lane.modPort_self]
    simpa [FabPort.greeted] using hst
  rw [Lane.hello_wrong h hst]
  split
  · next hsame => exact ⟨hstate, hok.trans hfalse, fun hne => absurd hsame hne⟩
  · exact ⟨hstate, hok.trans hfalse, fun _ => Lane.raise_raised _ _ _ _⟩

theorem Lane.linkNotice_newer {x : Lane} {f : FabFrame} (h1 : 1 ≤ (beNat (slice f.payload 4 2) + 65536 - x.fab.epoch) % 65536)
    (h2 : (beNat (slice f.payload 4 2) + 65536 - x.fab.epoch) % 65536 ≤ 32767) :
    x.linkNotice f = { x with fab := { x.fab.mark (x.cfg.linkOf (f.payload.getD 1 0).toNat (f.payload.getD 2 0).toNat) (f.payload.getD 3 0 == 1) with
      epoch := beNat (slice f.payload 4 2) } } := if_pos ⟨h1, h2⟩

theorem FabPart.mark_keeps (x : FabPart) (k : Option Nat) (up : Bool) : x.mark k up = { x with links := (x.mark k up).links } := by
  unfold FabPart.mark
  split <;> rfl

/-- Settles O42: a HELLO gives its port's neighbour and the state it is judged to, and a LINK notice counts where its epoch is newer. -/
theorem hellosAndNoticesKeepTheMap : Obligations.HellosAndNoticesKeepTheMap := by
  unfold Obligations.HellosAndNoticesKeepTheMap
  rintro s l x y p at_ bs f rfl hrec
  constructor
  · intro hf
    refine ⟨y.hello p f, State.next_lane (Lane.received_taken _ hrec hf), ?_⟩
    obtain ⟨hneighbour, hother, heq⟩ := y.hello_reach p f
    refine ⟨hneighbour, hother, heq, ?_, ?_, ?_⟩
    · intro hnode
      exact Lane.hello_wrong_port (if_pos hnode) (by decide)
    · intro hnode hexp
      have hport := Lane.hello_wrong_port (x := y) (p := p) (f := f) ((if_neg hnode).trans (if_pos (.inl hexp))) (by decide)
      exact ⟨hport.1, hport.2.2⟩
    · intro hgood
      have hgreet : (y.modPort p fun q => q.greeted f true).fab.ports.get p = (y.fab.ports.get p).greeted f true := Lane.modPort_self ..
      rw [Lane.hello_good hgood]
      by_cases hup : (y.fab.ports.get p).state = 3 ∨ (y.fab.ports.get p).state = 1
      · rw [if_pos hup, hgreet, if_pos hup.symm]
        exact ⟨rfl, rfl⟩
      · rw [if_neg hup, if_neg (show ¬((y.fab.ports.get p).state = 1 ∨ (y.fab.ports.get p).state = 3) from fun h => hup h.symm)]
        obtain ⟨hstate, hok⟩ := (y.modPort p fun q => q.greeted f true).portTo_port p
          (if 8 ≤ (y.fab.ports.get p).timeRun + b2n (y.fab.ports.get p).timeNow then 3 else 2)
        rw [hgreet] at hok
        exact ⟨hok, hstate⟩
  · intro hf
    refine ⟨fun h1 h2 => ?_, fun h => ?_⟩
    · refine ⟨y.linkNotice f, State.next_lane (Lane.received_taken _ hrec hf), ?_⟩
      rw [Lane.linkNotice_newer h1 h2]
      refine ⟨rfl, fun k hk => ?_, ?_⟩
      · rw [hk]
        rfl
      · rw [FabPart.mark_keeps]
    · have hold : y.linkNotice f = y := if_neg (by omega)
      exact State.next_lane ((Lane.received_taken _ hrec hf).trans hold)

end Sys2Proof.Machine

/-! TIME frames, the master and holdover (R462, R465, R466, R468, R469). -/

namespace Sys2Proof.Machine

/-- The announcement of a TIME frame (Table 17.4). -/
def Lane.announced (x : Lane) (f : FabFrame) : TimeAnn :=
  let b (i : Nat) : Nat := (f.payload.getD i 0).toNat
  { tick := x.tick.count, valid := b 10 ≥ 128, isMaster := bitN (b 10) 6, master := b 10 % 64, hops := b 11, mseq := b 12, holdover := bitN (b 13) 0 }

/-- The port as the announcement and the delay sample of a TIME frame leave it (R465, R466). -/
def Lane.timedPort (x : Lane) (p : PortId) (at_ : Nat) (f : FabFrame) : FabPort :=
  let q := x.fab.ports.get p
  let t4 := (x.clk + at_) % 2 ^ 32
  let t3 := beNat (slice f.payload 16 4)
  let t1 := beNat (slice f.payload 24 4)
  { q with
    delays := if q.txCounts.contains t1 then ((8 * (diff32 t4 t1 - diff32 t3 (beNat (slice f.payload 20 4)))) :: q.delays).take 16 else q.delays
    rx := some (t4, t3), ann := some (x.announced f), timeNow := true
    seqRun := match q.ann with | some a => if a.mseq = (f.payload.getD 12 0).toNat then satInc 255 q.seqRun else 0 | none => 0 }

/-- That port with the time it measures once it knows its delay (R467). -/
def Lane.measuredPort (x : Lane) (p : PortId) (at_ : Nat) (f : FabFrame) : FabPort :=
  let q := x.timedPort p at_ f
  let a : Int := 16 * ((x.clk : Int) + at_)
  match q.delay with
  | some d =>
    let t : Int := (beNat (slice f.payload 0 6) : Int) * 160000 + beNat (slice f.payload 6 4) + d
    { q with meas := some (t, a), offset := satI32 (x.fab.timeAt a - t) }
  | none => q

theorem Lane.measuredPort_keeps (x : Lane) (p : PortId) (at_ : Nat) (f : FabFrame) :
    x.measuredPort p at_ f = { x.timedPort p at_ f with meas := (x.measuredPort p at_ f).meas, offset := (x.measuredPort p at_ f).offset } := by
  unfold Lane.measuredPort
  dsimp only
  split <;> rfl

/-- The lane with that port, and with the master's sequence where the port is the one to the master. -/
def Lane.timed (x : Lane) (p : PortId) (at_ : Nat) (f : FabFrame) : Lane :=
  let y := x.modPort p fun _ => x.measuredPort p at_ f
  if y.fab.up = some p then { y with fab := { y.fab with mseq := (f.payload.getD 12 0).toNat } } else y

theorem Lane.timed_keeps (x : Lane) (p : PortId) (at_ : Nat) (f : FabFrame) :
    (x.timed p at_ f).fab.ports = (x.modPort p fun _ => x.measuredPort p at_ f).fab.ports ∧ x.FabReach (x.timed p at_ f) := by
  unfold Lane.timed
  dsimp only
  split <;> exact ⟨rfl, rfl⟩

theorem Lane.timeFrame_eq (x : Lane) (p : PortId) (at_ : Nat) (f : FabFrame) :
    x.timeFrame p at_ f =
      if (x.fab.ports.get p).state = 1 then (x.timed p at_ f).portTo p 2
      else if (x.fab.ports.get p).state = 2 && (x.fab.ports.get p).helloOk && 8 ≤ (x.fab.ports.get p).timeRun + 1 then (x.timed p at_ f).portTo p 3
      else x.timed p at_ f := rfl

/-- The state that a TIME frame gives its port (R462, R463). -/
def FabPort.timedState (q : FabPort) : Nat := if q.state = 1 then 2 else if q.state = 2 ∧ q.helloOk ∧ 7 ≤ q.timeRun then 3 else q.state

theorem Lane.timeFrame_port (x : Lane) (p : PortId) (at_ : Nat) (f : FabFrame) :
    (x.timeFrame p at_ f).fab.ports.get p = { x.measuredPort p at_ f with
      state := (x.fab.ports.get p).timedState, upSeen := ((x.timeFrame p at_ f).fab.ports.get p).upSeen } := by
  have hport : (x.timed p at_ f).fab.ports.get p = x.measuredPort p at_ f := by
    rw [(x.timed_keeps p at_ f).1]
    exact Lane.modPort_self ..
  have hstate : (x.measuredPort p at_ f).state = (x.fab.ports.get p).state := by
    rw [Lane.measuredPort_keeps]
    rfl
  have hto (st : Nat) : ((x.timed p at_ f).portTo p st).fab.ports.get p =
      { x.measuredPort p at_ f with state := st, upSeen := (((x.timed p at_ f).portTo p st).fab.ports.get p).upSeen } := by
    rw [Lane.portTo, Lane.modPort_self, hport]
  rw [Lane.timeFrame_eq]
  unfold FabPort.timedState
  by_cases h1 : (x.fab.ports.get p).state = 1
  · rw [if_pos h1, if_pos h1]
    exact hto 2
  · rw [if_neg h1, if_neg h1]
    by_cases h2 : (x.fab.ports.get p).state = 2 ∧ (x.fab.ports.get p).helloOk = true ∧ 7 ≤ (x.fab.ports.get p).timeRun
    · rw [if_pos h2, if_pos (by simp [h2])]
      exact hto 3
    · rw [if_neg h2, if_neg (by simpa [and_assoc] using h2), hport, ← hstate]

theorem Lane.timeFrame_reach (x : Lane) (p : PortId) (at_ : Nat) (f : FabFrame) :
    x.FabReach (x.timeFrame p at_ f) ∧ ∀ q, q ≠ p → (x.timeFrame p at_ f).fab.ports.get q = x.fab.ports.get q := by
  obtain ⟨hports, hreach⟩ := x.timed_keeps p at_ f
  have hother (q : PortId) (hq : q ≠ p) : (x.timed p at_ f).fab.ports.get q = x.fab.ports.get q := by
    rw [hports]
    exact Lane.modPort_ne _ _ hq
  have hto (st : Nat) : x.FabReach ((x.timed p at_ f).portTo p st) ∧
      ∀ q, q ≠ p → ((x.timed p at_ f).portTo p st).fab.ports.get q = x.fab.ports.get q :=
    ⟨hreach.trans (Lane.modPort_fabReach _ _ _), fun q hq => (Lane.modPort_ne _ _ hq).trans (hother q hq)⟩
  rw [Lane.timeFrame_eq]
  exact keeps_ite (fun y : Lane => x.FabReach y ∧ ∀ q, q ≠ p → y.fab.ports.get q = x.fab.ports.get q) (hto 2)
    (keeps_ite (fun y : Lane => x.FabReach y ∧ ∀ q, q ≠ p → y.fab.ports.get q = x.fab.ports.get q) (hto 3) ⟨hreach, hother⟩)

/-- A master whose sequence stood still in four frames is excluded for 128 ticks (R468). -/
theorem Lane.sequenceStale_eq {x : Lane} {p : PortId} (hup : x.fab.up = some p) (hr : 4 ≤ (x.fab.ports.get p).seqRun) :
    x.sequenceStale = ({ x with fab := { x.fab with
      excluded := (x.fab.master, x.tick.count + 128) :: x.fab.excluded.filter fun e => e.1 != x.fab.master } } : Lane).modPort p
        fun q => { q with seqRun := 0 } := by
  unfold Lane.sequenceStale
  rw [hup]
  exact if_pos hr

theorem Lane.sequenceStale_idle {x : Lane} (hup : x.fab.up = none) : x.sequenceStale = x := by
  unfold Lane.sequenceStale
  rw [hup]

/-- Holdover of 128 ticks makes time invalid (R469). -/
theorem Lane.holdoverExpiry_eq {x : Lane} (hr : x.fab.running) (hh : x.fab.holdover) (hv : x.fab.valid) (hrun : 128 ≤ x.fab.holdRun) :
    x.holdoverExpiry = ({ x with fab := { x.fab with valid := false } } : Lane).raise .fab021 .none 0 := if_pos (by simp [hr, hh, hv, hrun])

theorem Lane.holdoverExpiry_idle {x : Lane} (hrun : x.fab.holdRun < 128) : x.holdoverExpiry = x := if_neg (by simp [hrun])

/-- Settles O43: a TIME frame gives its port's announcement, delay sample and state, and stale masters, exclusions and holdover end by their counts. -/
theorem timeFramesMeasureAndSelect : Obligations.TimeFramesMeasureAndSelect := by
  unfold Obligations.TimeFramesMeasureAndSelect
  constructor
  · rintro s l x y p at_ bs f rfl hrec hf
    refine ⟨y.timeFrame p at_ f, y.announced f, State.next_lane (Lane.received_taken _ hrec hf), ?_⟩
    obtain ⟨hreach, hother⟩ := y.timeFrame_reach p at_ f
    have hport : (y.timeFrame p at_ f).fab.ports.get p = { y.timedPort p at_ f with
        meas := (y.measuredPort p at_ f).meas, offset := (y.measuredPort p at_ f).offset
        state := (y.fab.ports.get p).timedState, upSeen := ((y.timeFrame p at_ f).fab.ports.get p).upSeen } := by
      rw [Lane.timeFrame_port, Lane.measuredPort_keeps]
    rw [hport]
    exact ⟨rfl, rfl, rfl, rfl, rfl, rfl, rfl, fun h => if_pos h, rfl, hother, hreach⟩
  · rintro s l x rfl
    refine ⟨?_, ?_, ?_, ?_, ?_⟩
    · intro p hup hr
      refine ⟨(s.lane l).sequenceStale, rfl, ?_⟩
      rw [Lane.sequenceStale_eq hup hr, Lane.modPort_self]
      exact ⟨List.mem_cons_self .., rfl, rfl⟩
    · intro hup
      exact State.next_lane (Lane.sequenceStale_idle hup)
    · refine ⟨(s.lane l).exclusionEnd, rfl, fun e => ?_, rfl⟩
      simp [Lane.exclusionEnd]
    · intro hr hh hv hrun
      refine ⟨(s.lane l).holdoverExpiry, rfl, ?_⟩
      rw [Lane.holdoverExpiry_eq hr hh hv hrun]
      exact ⟨rfl, Lane.raise_raised _ _ _ _, rfl⟩
    · intro hrun
      exact State.next_lane (Lane.holdoverExpiry_idle hrun)

end Sys2Proof.Machine

/-! Commits of the caravan and blocks between nodes: PREPARE, ABORT, the answers, the deadline, the fire boundary, BLOCK REQUEST and BLOCK DATA
(R482, R486 to R489, R536). -/

namespace Sys2Proof.Machine

theorem Lane.modClass_carClass_self (x : Lane) {k : Nat} (h : k = 1 ∨ k = 2) (g : CarClass → CarClass) :
    (x.modClass k g).carClass k = g (x.carClass k) := by
  have hk : k - 1 < 2 := by omega
  simp [Lane.modClass, Lane.carClass, hk, Tab.getD_modify]

theorem Lane.modClass_keeps (x : Lane) (k : Nat) (g : CarClass → CarClass) :
    x.modClass k g = { x with car := { x.car with cls := (x.modClass k g).car.cls } } := rfl

/-! ## A PREPARE and its answer (R486) -/

/-- The lane once it has noted the sender of a PREPARE as a candidate and elected anew (R483). -/
def Lane.candidateOf (x : Lane) (f : FabFrame) : Lane :=
  ({ x with car := { x.car with cands := putNode f.src x.tick.count x.car.cands } } : Lane).elect

theorem Lane.elect_keeps (x : Lane) : x.elect = { x with car := x.elect.car, col := { x.col with raised := x.elect.col.raised } } := by
  unfold Lane.elect
  extract_lets
  split <;> rfl

theorem Lane.candidateOf_node (x : Lane) (f : FabFrame) : (x.candidateOf f).node = x.node := by
  unfold Lane.candidateOf
  rw [Lane.elect_keeps]
  rfl

/-- The share entries of a PREPARE for the lane's own node. -/
def Lane.ownShares (x : Lane) (f : FabFrame) : List ShareEntry := (shareEntries f.payload).filter fun e => e.node == x.node

theorem Lane.ownShares_candidateOf (x : Lane) (f : FabFrame) : (x.candidateOf f).ownShares f = x.ownShares f := by
  unfold Lane.ownShares
  rw [Lane.candidateOf_node]

/-- The answer to a PREPARE: READY (2) or REFUSE (3) with its reason. -/
def Lane.answerPrepare (x : Lane) (f : FabFrame) (k num fire msg reason : Nat) : Lane :=
  x.fabSend 2 f.src ([byteOf msg, byteOf k] ++ beBytes 2 num ++ beBytes 4 fire ++ [byteOf (x.node + 64 * x.id.code), byteOf reason, 0, 0, 0, 0, 0, 0])

theorem Lane.answerPrepare_keeps (x : Lane) (f : FabFrame) (k num fire msg reason : Nat) :
    x.answerPrepare f k num fire msg reason = { x with fab := (x.answerPrepare f k num fire msg reason).fab } := x.fabSend_eq _ _ _

/-- The commit a PREPARE arms. -/
def armedOf (f : FabFrame) (k num fire : Nat) (es : List ShareEntry) : Armed :=
  { cls := k, num := num, src := f.src, fire := fire, shares := es.map fun e => (e.axis, if e.probe then 0 else e.share) }

/-- A class that has answered a PREPARE with a refusal. -/
def CarClass.refusing (c : CarClass) (num src r : Nat) : CarClass :=
  { c with answer := 2, reason := r, answered := some (num, src), refused := satInc 65535 c.refused }

/-- The lane that takes a PREPARE with its refusal: the answer, or none to a PREPARE that asks nothing of this node. -/
def Lane.prepareJudged (e : Lane) (f : FabFrame) (k num fire : Nat) (es : List ShareEntry) : Lane :=
  if es.isEmpty || (k != 1 && k != 2) || (e.carClass k).answered == some (num, f.src) then e
  else
    match e.refusal f.src k fire es with
    | some (r, axis) =>
      ((if (e.carClass k).answer = 2 ∧ (e.carClass k).reason = r then e else e.raise .fab030 (.axis (axis % 256)) (k * 65536 + r : Nat)).modClass k
        fun c => c.refusing num f.src r).answerPrepare f k num fire 3 r
    | none =>
      (({ e with car := { e.car with armed := e.car.armed ++ [armedOf f k num fire es] } } : Lane).modClass k
        fun c => { c with answer := 1, reason := 0, answered := some (num, f.src) }).answerPrepare f k num fire 2 0

theorem Lane.prepare_eq (x : Lane) (f : FabFrame) :
    x.prepare f =
      let e := if (x.candidateOf f).car.elected = f.src then x.candidateOf f else (x.candidateOf f).raise .fab034 .none f.src
      e.prepareJudged f (f.payload.getD 1 0).toNat (beNat (slice f.payload 2 2)) (beNat (slice f.payload 4 4)) (e.ownShares f) := rfl

theorem Lane.prepare_elected {x : Lane} {f : FabFrame} (he : (x.candidateOf f).car.elected = f.src) :
    x.prepare f = (x.candidateOf f).prepareJudged f (f.payload.getD 1 0).toNat (beNat (slice f.payload 2 2)) (beNat (slice f.payload 4 4))
      ((x.candidateOf f).ownShares f) := by
  rw [Lane.prepare_eq, if_pos he]

theorem Lane.prepareJudged_eq {e : Lane} {f : FabFrame} {k num fire : Nat} {es : List ShareEntry} (hes : es ≠ []) (hk : k = 1 ∨ k = 2)
    (ha : (e.carClass k).answered ≠ some (num, f.src)) :
    e.prepareJudged f k num fire es =
      match e.refusal f.src k fire es with
      | some (r, axis) =>
        ((if (e.carClass k).answer = 2 ∧ (e.carClass k).reason = r then e else e.raise .fab030 (.axis (axis % 256)) (k * 65536 + r : Nat)).modClass k
          fun c => c.refusing num f.src r).answerPrepare f k num fire 3 r
      | none =>
        (({ e with car := { e.car with armed := e.car.armed ++ [armedOf f k num fire es] } } : Lane).modClass k
          fun c => { c with answer := 1, reason := 0, answered := some (num, f.src) }).answerPrepare f k num fire 2 0 :=
  if_neg (by rcases hk with rfl | rfl <;> simp [hes, ha])

theorem Lane.prepareJudged_armed {e : Lane} {f : FabFrame} {k num fire : Nat} {es : List ShareEntry} (hes : es ≠ []) (hk : k = 1 ∨ k = 2)
    (ha : (e.carClass k).answered ≠ some (num, f.src)) (hr : e.refusal f.src k fire es = none) :
    let z := e.prepareJudged f k num fire es
    (z.carClass k).answer = 1 ∧ z.car.armed = e.car.armed ++ [armedOf f k num fire es] ∧ z.car.prepared = e.car.prepared ∧
      z.car.share = e.car.share ∧ z = { e with car := z.car, fab := z.fab } := by
  intro z
  have hz : z = (({ e with car := { e.car with armed := e.car.armed ++ [armedOf f k num fire es] } } : Lane).modClass k
      fun c => { c with answer := 1, reason := 0, answered := some (num, f.src) }).answerPrepare f k num fire 2 0 :=
    (Lane.prepareJudged_eq hes hk ha).trans (by rw [hr])
  rw [Lane.answerPrepare_keeps] at hz
  rw [hz]
  exact ⟨congrArg CarClass.answer (Lane.modClass_carClass_self _ hk _), rfl, rfl, rfl, rfl⟩

theorem Lane.prepareJudged_refused {e : Lane} {f : FabFrame} {k num fire r axis : Nat} {es : List ShareEntry} (hes : es ≠ []) (hk : k = 1 ∨ k = 2)
    (ha : (e.carClass k).answered ≠ some (num, f.src)) (hr : e.refusal f.src k fire es = some (r, axis)) :
    let z := e.prepareJudged f k num fire es
    (z.carClass k).answer = 2 ∧ (z.carClass k).reason = r ∧ (z.carClass k).refused = satInc 65535 (e.carClass k).refused ∧
      z.car.armed = e.car.armed ∧ ((e.carClass k).answer ≠ 2 → z.Raised .fab030 (ctxOf (.axis (axis % 256)) (k * 65536 + r : Nat))) ∧
      z = { e with car := z.car, fab := z.fab, col := { e.col with raised := z.col.raised } } := by
  intro z
  obtain ⟨w, hw⟩ : ∃ w, w = if (e.carClass k).answer = 2 ∧ (e.carClass k).reason = r then e
      else e.raise .fab030 (.axis (axis % 256)) (k * 65536 + r : Nat) := ⟨_, rfl⟩
  have hwe : w = { e with col := { e.col with raised := w.col.raised } } := by
    rw [hw]
    split <;> rfl
  have hraised (hne : (e.carClass k).answer ≠ 2) : w.Raised .fab030 (ctxOf (.axis (axis % 256)) (k * 65536 + r : Nat)) := by
    rw [hw, if_neg fun h => hne h.1]
    exact Lane.raise_raised _ _ _ _
  have hz : z = (w.modClass k fun c => c.refusing num f.src r).answerPrepare f k num fire 3 r :=
    (Lane.prepareJudged_eq hes hk ha).trans (by rw [hr, hw])
  have hcls : (w.modClass k fun c => c.refusing num f.src r).carClass k =
      (e.carClass k).refusing num f.src r := by
    rw [Lane.modClass_carClass_self _ hk, hwe]
    rfl
  rw [Lane.answerPrepare_keeps] at hz
  rw [hz]
  refine ⟨congrArg CarClass.answer hcls, congrArg CarClass.reason hcls, congrArg CarClass.refused hcls, ?_, fun h => (hraised h).of_col rfl, ?_⟩
  · rw [Lane.modClass_keeps, hwe]
  · rw [Lane.modClass_keeps, hwe]

/-- The armed commits an ABORT cancels (R487). -/
def Armed.abortedBy (f : FabFrame) (a : Armed) : Bool :=
  a.cls == (f.payload.getD 1 0).toNat && a.num == beNat (slice f.payload 2 2) && a.src == f.src

theorem Armed.abortedBy_iff (f : FabFrame) (a : Armed) :
    a.abortedBy f ↔ a.cls = (f.payload.getD 1 0).toNat ∧ a.num = beNat (slice f.payload 2 2) ∧ a.src = f.src := by
  simp [Armed.abortedBy, and_assoc]

theorem Lane.abort_eq {x : Lane} {f : FabFrame} (h : x.car.armed.any (Armed.abortedBy f)) :
    x.abort f = ({ x with car := { x.car with armed := x.car.armed.filter fun a => !a.abortedBy f } } : Lane).modClass (f.payload.getD 1 0).toNat
      fun c => { c with refused := satInc 65535 c.refused } := if_pos h

/-- Settles O45: a PREPARE of the elected coordinator is armed or refused by the first reason that applies, and an ABORT takes the armed commit out. -/
theorem preparesAreArmedOrRefused : Obligations.PreparesAreArmedOrRefused := by
  unfold Obligations.PreparesAreArmedOrRefused
  rintro s l x y p at_ bs f rfl hrec
  intro k num fire w e es
  have hexec : exec (.prepare l p at_ bs) s = .next (s.withLane l ((s.lane l).received p at_ bs (frameIs 2 (some 1)) fun y f => y.publishAll.prepare f)) :=
    rfl
  refine ⟨fun hf he hes hk hans => ?_, fun hf hk ⟨a, ha, hcls, hnum, hsrc⟩ => ?_⟩
  · rw [Lane.received_taken _ hrec hf] at hexec
    have hz : y.publishAll.prepare f = e.prepareJudged f k num fire es := by
      have hes : w.ownShares f = es := rfl
      rw [← hes, ← Lane.ownShares_candidateOf]
      exact Lane.prepare_elected he
    refine ⟨fun hr => ⟨_, hexec, ?_⟩, fun r axis hr => ⟨_, hexec, ?_⟩⟩
    · rw [hz]
      exact Lane.prepareJudged_armed hes hk hans hr
    · rw [hz]
      exact Lane.prepareJudged_refused hes hk hans hr
  · refine ⟨y.abort f, State.next_lane (Lane.received_taken _ hrec hf), ?_⟩
    have hany : y.car.armed.any (Armed.abortedBy f) := List.any_eq_true.mpr ⟨a, ha, (Armed.abortedBy_iff f a).mpr ⟨hcls, hnum, hsrc⟩⟩
    rw [Lane.abort_eq hany]
    refine ⟨fun b => ?_, congrArg CarClass.refused (Lane.modClass_carClass_self _ hk _), rfl⟩
    show b ∈ y.car.armed.filter (fun a => !a.abortedBy f) ↔ _
    rw [List.mem_filter, Bool.not_eq_true', ← Bool.not_eq_true]
    exact and_congr_right fun _ => not_congr (Armed.abortedBy_iff f b)

end Sys2Proof.Machine

/-! The answers to a commit, its deadline and its fire boundary (R482, R487 to R489). -/

namespace Sys2Proof.Machine

/-! ## Answers (R487, R489) -/

/-- An answer at this clock of its tick still counts for the commit (R487). -/
def Lane.timelyFor (x : Lane) (c : Commit) (at_ : Nat) : Bool :=
  1 < diff32 c.fire (x.fabTick % 2 ^ 32) || (diff32 c.fire (x.fabTick % 2 ^ 32) == 1 && at_ + 2000 ≤ x.tickLen)

theorem Lane.timelyFor_iff (x : Lane) (c : Commit) (at_ : Nat) :
    x.timelyFor c at_ ↔ 1 < diff32 c.fire (x.fabTick % 2 ^ 32) ∨ diff32 c.fire (x.fabTick % 2 ^ 32) = 1 ∧ at_ + 2000 ≤ x.tickLen := by
  unfold Lane.timelyFor
  rw [Bool.or_eq_true, Bool.and_eq_true, decide_eq_true_iff, decide_eq_true_iff, beq_iff_eq]

/-- The lane that has taken an answer of a node of the commit. -/
def Lane.answered (x : Lane) (c : Commit) (node : Nat) (ready : Bool) : Lane :=
  let y := x.modCommit c.cls c.num fun c => { c with answers := c.answers ++ [(node, ready)] }
  if ready then y
  else
    let z := y.modClass c.cls fun c => { c with refused := satInc 65535 c.refused }
    if z.cfg.fabricCommitMode c.cls = 0 ∧ !c.aborted then z.abortCommit c 1 node else z

section
variable {x : Lane} {f : FabFrame} {at_ : Nat} {c : Commit} (hp : x.car.prepared = [c]) (hk : (f.payload.getD 1 0).toNat = c.cls)
  (hn : c.num = beNat (slice f.payload 2 2)) (ready : Bool)

include hp hk hn

theorem Lane.answer_single :
    x.answer f at_ ready =
      if !(!c.closed && x.timelyFor c at_) || c.answers.any (fun a => a.1 == (f.payload.getD 8 0).toNat % 64) || !(c.shares.any fun s => s.node == (f.payload.getD 8 0).toNat % 64) then
        x
      else x.answered c ((f.payload.getD 8 0).toNat % 64) ready := by
  unfold Lane.answer
  dsimp only
  rw [hk, ← hn, hp, List.find?_cons_of_pos (by simp)]
  rfl

theorem Lane.answer_late (hlate : x.timelyFor c at_ = false) : x.answer f at_ ready = x := by
  rw [Lane.answer_single hp hk hn]
  exact if_pos (by simp [hlate])

theorem Lane.answer_timely (ht : x.timelyFor c at_) (hc : c.closed = false)
    (ha : c.answers.any (fun a => a.1 == (f.payload.getD 8 0).toNat % 64) = false)
    (hs : c.shares.any fun s => s.node == (f.payload.getD 8 0).toNat % 64) :
    x.answer f at_ ready = x.answered c ((f.payload.getD 8 0).toNat % 64) ready := by
  rw [Lane.answer_single hp hk hn]
  exact if_neg (by rw [ht, hc, ha, hs]; decide)

end

theorem Lane.modCommit_single {x : Lane} {c : Commit} (hp : x.car.prepared = [c]) (g : Commit → Commit) :
    x.modCommit c.cls c.num g = { x with car := { x.car with prepared := [g c] } } := by
  unfold Lane.modCommit
  rw [hp]
  simp

theorem Lane.fabSend_car (x : Lane) (cls dst : Nat) (bs : List Byte) : (x.fabSend cls dst bs).car = x.car := by rw [Lane.fabSend_eq]

/-- An aborted commit stays prepared, marked (R489). -/
theorem Lane.abortCommit_prepared (x : Lane) (c : Commit) (code node : Nat) :
    (x.abortCommit c code node).car.prepared = (x.modCommit c.cls c.num fun c => { c with aborted := true }).car.prepared := by
  unfold Lane.abortCommit
  extract_lets y z
  have hy : y.car = x.car := Lane.fabSend_car _ _ _ _
  have hz : z.car.prepared = (x.modCommit c.cls c.num fun c => { c with aborted := true }).car.prepared := by
    show y.car.prepared.map _ = x.car.prepared.map _
    rw [hy]
  split
  · split
    · exact hz
    · exact hz
  · exact hz

theorem Lane.answered_ready {x : Lane} {c : Commit} (hp : x.car.prepared = [c]) (node : Nat) :
    x.answered c node true = { x with car := { x.car with prepared := [{ c with answers := c.answers ++ [(node, true)] }] } } :=
  Lane.modCommit_single hp _

theorem Lane.answered_refused {x : Lane} {c : Commit} (hp : x.car.prepared = [c]) (node : Nat) :
    x.answered c node false =
      let z := ({ x with car := { x.car with prepared := [{ c with answers := c.answers ++ [(node, false)] }] } } : Lane).modClass c.cls
        fun c => { c with refused := satInc 65535 c.refused }
      if x.cfg.fabricCommitMode c.cls = 0 ∧ !c.aborted then z.abortCommit c 1 node else z := by
  unfold Lane.answered
  rw [Lane.modCommit_single hp]
  rfl

/-! ## The deadline (R487, R490) -/

theorem nodeMask_nil : nodeMask [] = 0 := by decide

/-- The nodes of the shares of a commit, each once. -/
def Commit.nodes (c : Commit) : List Nat := (c.shares.map (·.node)).foldl (fun ns n => if ns.contains n then ns else ns ++ [n]) []

theorem Commit.mem_nodes {c : Commit} {n : Nat} (h : n ∈ c.nodes) : ∃ q ∈ c.shares, q.node = n := by
  have key : ∀ m ∈ c.nodes, m ∈ c.shares.map (·.node) := by
    unfold Commit.nodes
    refine List.foldlRecOn (motive := fun ns : List Nat => ∀ m ∈ ns, m ∈ c.shares.map (·.node)) _ _ (fun _ hm => absurd hm List.not_mem_nil) ?_
    intro ns hns n hn m hm
    split at hm
    · exact hns m hm
    · rcases List.mem_append.mp hm with hm | hm
      · exact hns m hm
      · rwa [List.mem_singleton.mp hm]
  simpa using key n h

theorem Lane.commitDeadline_ready {x : Lane} {c : Commit} (hp : x.car.prepared = [c]) (hc : c.closed = false)
    (hf : c.fire = (x.fabTick + 1) % 2 ^ 32) (hm : x.cfg.fabricCommitMode c.cls = 0) (hall : ∀ q ∈ c.shares, (q.node, true) ∈ c.answers)
    (hready : ∀ a ∈ c.answers, a.2 = true) :
    x.commitDeadline c.cls =
      (({ x with car := { x.car with prepared := [{ c with closed := true }] } } : Lane).modClass c.cls fun k => { k with refuse := 0 }).modClass c.cls
        fun k => { k with aborts := 0 } := by
  have hsilent : (c.nodes.filter fun n => !(c.answers.any fun a => a.1 == n)) = [] := by
    refine List.filter_eq_nil_iff.mpr fun n hn => ?_
    obtain ⟨q, hq, rfl⟩ := Commit.mem_nodes hn
    have hany : (c.answers.any fun a => a.1 == q.node) = true := List.any_eq_true.mpr ⟨_, hall q hq, by simp⟩
    rw [hany]
    decide
  have hbad : (c.nodes.filter fun n => ([] : List Nat).contains n || c.answers.any fun a => a.1 == n && !a.2) = [] := by
    refine List.filter_eq_nil_iff.mpr fun n _ => ?_
    simpa using fun hno => Bool.false_ne_true (hready (n, false) hno)
  unfold Commit.nodes at hsilent hbad
  unfold Lane.commitDeadline
  rw [hp, List.find?_cons_of_pos (by simp [hc, hf])]
  dsimp only
  rw [hsilent, hbad, nodeMask_nil, Lane.modCommit_single hp]
  exact if_neg fun h => by simpa [hm] using h.symm.trans hm

/-! ## The fire boundary, the other plane and the fallback (R482, R487, R488) -/

/-- A share of class 1 in force for an axis at the next boundary. -/
theorem Lane.fireShare_eq (x : Lane) (n : AxisId) (v : Int) :
    x.fireShare 1 (n.val, v) = { x with car := { x.car with
      share := x.car.share.set n v, firedAt := x.car.firedAt.set n (some (x.tick.count + 1, v)), anyAt := x.car.anyAt.set n (some (x.tick.count + 1))
      fell := x.car.fell.set n false } } := by
  unfold Lane.fireShare
  rw [dif_pos n.isLt]
  exact if_neg fun h => absurd h.1 (by decide)

/-- The armed commits of a class that fire at this boundary have put their shares into force. -/
def Lane.armedFired (x : Lane) (k : Nat) : Lane :=
  (x.car.armed.filter fun a => a.cls == k && a.fire == (x.fabTick + 1) % 2 ^ 32).foldl (fun l a =>
    (a.shares.foldl (fun l s => l.fireShare k s) l).modClass k fun c => { c with last := some a.num, fired := satInc 65535 c.fired }) x

/-- They are disarmed. -/
def Lane.disarmed (x : Lane) (k now : Nat) : Lane :=
  { x with car := { x.car with armed := x.car.armed.filter fun b => !(b.cls == k && b.fire == now) } }

/-- With no commit prepared, the fire boundary fires and disarms the armed ones alone (R487). -/
theorem Lane.commitFire_armed {x : Lane} {k : Nat} (hp : ((x.armedFired k).disarmed k ((x.fabTick + 1) % 2 ^ 32)).car.prepared = []) :
    x.commitFire k = (x.armedFired k).disarmed k ((x.fabTick + 1) % 2 ^ 32) := by
  have hfind : (((x.armedFired k).disarmed k ((x.fabTick + 1) % 2 ^ 32)).car.prepared.find?
      fun c => c.cls == k && c.fire == (x.fabTick + 1) % 2 ^ 32) = none := by
    rw [hp]
    rfl
  unfold Lane.commitFire
  extract_lets now y car z
  have hz : z.car.prepared.find? (fun c => c.cls == k && c.fire == now) = none := hfind
  split
  case h_1 c hc => exact absurd (hz.symm.trans hc) (by simp)
  case h_2 => rfl

theorem Lane.armedFired_single {x : Lane} {n : AxisId} {v : Int} {num src fire : Nat} (hf : fire = (x.fabTick + 1) % 2 ^ 32)
    (ha : x.car.armed = [{ cls := 1, num := num, src := src, fire := fire, shares := [(n.val, v)] }]) :
    x.armedFired 1 = (x.fireShare 1 (n.val, v)).modClass 1 fun c => { c with last := some num, fired := satInc 65535 c.fired } := by
  unfold Lane.armedFired
  rw [ha, List.filter_cons_of_pos (by simp [hf])]
  rfl

theorem Lane.commitFire_single {x : Lane} {n : AxisId} {v : Int} {num src fire : Nat} (hp : x.car.prepared = [])
    (hf : fire = (x.fabTick + 1) % 2 ^ 32) (ha : x.car.armed = [{ cls := 1, num := num, src := src, fire := fire, shares := [(n.val, v)] }]) :
    x.commitFire 1 =
      let y := (x.fireShare 1 (n.val, v)).modClass 1 fun c => { c with last := some num, fired := satInc 65535 c.fired }
      { y with car := { y.car with armed := [] } } := by
  have hdis : ((x.fireShare 1 (n.val, v)).modClass 1 fun c => { c with last := some num, fired := satInc 65535 c.fired }).car.armed.filter
      (fun b => !(b.cls == 1 && b.fire == (x.fabTick + 1) % 2 ^ 32)) = [] := by
    rw [Lane.fireShare_eq, Lane.modClass_keeps]
    dsimp only
    rw [ha, List.filter_cons_of_neg (by simp [hf]), List.filter_nil]
  rw [Lane.commitFire_armed, Lane.armedFired_single hf ha]
  · unfold Lane.disarmed
    rw [hdis]
  · rw [Lane.armedFired_single hf ha, Lane.fireShare_eq]
    exact hp

theorem Lane.commitFire_idle {x : Lane} (ha : x.car.armed = []) (hp : x.car.prepared = []) (k : Nat) : x.commitFire k = x := by
  have hfired : x.armedFired k = x := by
    unfold Lane.armedFired
    rw [ha]
    rfl
  rw [Lane.commitFire_armed (by rw [hfired]; exact hp), hfired]
  unfold Lane.disarmed
  rw [ha, List.filter_nil, ← ha]

theorem Lane.shareTakeover_eq {x : Lane} {n : AxisId} {v : Int} (ho : x.otherFired n = some v) (hf : x.car.firedAt.get n = none)
    (hk : x.cfg.kind n.val = .valve) :
    x.shareTakeover n = { x with car := { x.car with
      share := x.car.share.set n v, anyAt := x.car.anyAt.set n (some (x.tick.count - 1)), fell := x.car.fell.set n false } } := by
  unfold Lane.shareTakeover
  rw [ho, hf]
  exact if_pos ⟨rfl, hk⟩

theorem Lane.shareTakeover_idle {x : Lane} {n : AxisId} (ho : x.otherFired n = none) : x.shareTakeover n = x := by
  unfold Lane.shareTakeover
  rw [ho]

theorem Lane.shareFallback_eq {x : Lane} {n : AxisId} {t : Nat} (ha : x.car.anyAt.get n = some t) (hf : x.car.fell.get n = false)
    (hk : x.cfg.kind n.val = .valve) (ht : t + x.cfg.fabricCommitHold 1 ≤ x.tick.count) :
    x.shareFallback n = ({ x with car := { x.car with
      share := x.car.share.set n (x.cfg.fabricCommitFallback 1), fell := x.car.fell.set n true } } : Lane).raise .fab035 .none n.val := by
  unfold Lane.shareFallback
  rw [ha]
  exact if_pos ⟨by rw [hf]; rfl, hk, ht⟩

theorem Lane.shareFallback_idle {x : Lane} {n : AxisId} (hf : x.car.fell.get n) : x.shareFallback n = x := by
  unfold Lane.shareFallback
  split
  · exact if_neg fun h => by simp [hf] at h
  · rfl

/-- Settles O47: what fires at the boundary, what is taken over from the other plane and the fallback. -/
theorem sharesFireOrFallBack : Obligations.SharesFireOrFallBack := by
  unfold Obligations.SharesFireOrFallBack
  rintro s l x rfl
  refine ⟨?_, fun ha hp k => State.next_lane (Lane.commitFire_idle ha hp _), ?_, fun n ho => State.next_lane (Lane.shareTakeover_idle ho), ?_,
    fun n hf => State.next_lane (Lane.shareFallback_idle hf)⟩
  · intro n v num src fire hp hf ha
    refine ⟨(s.lane l).commitFire 1, rfl, ?_⟩
    rw [Lane.commitFire_single hp hf ha, Lane.fireShare_eq]
    dsimp only
    refine ⟨Tab.get_set_self .., fun m hm => Tab.get_set_ne _ _ hm, Tab.get_set_self .., rfl, ?_, ?_, rfl⟩
    · exact congrArg CarClass.last (Lane.modClass_carClass_self _ (.inl rfl) _)
    · exact congrArg CarClass.fired (Lane.modClass_carClass_self _ (.inl rfl) _)
  · intro n v ho hf hk
    refine ⟨(s.lane l).shareTakeover n, rfl, ?_⟩
    rw [Lane.shareTakeover_eq ho hf hk]
    exact ⟨Tab.get_set_self .., Tab.get_set_self .., fun m hm => Tab.get_set_ne _ _ hm, rfl⟩
  · intro n t ha hf hk ht
    refine ⟨(s.lane l).shareFallback n, rfl, ?_⟩
    rw [Lane.shareFallback_eq ha hf hk ht]
    exact ⟨Tab.get_set_self .., Tab.get_set_self .., Lane.raise_raised _ _ _ _, fun m hm => Tab.get_set_ne _ _ hm, rfl⟩

/-- Settles O46: `answer` on a single prepared commit, and its deadline with every node ready. -/
theorem answersDecideTheCommit : Obligations.AnswersDecideTheCommit := by
  unfold Obligations.AnswersDecideTheCommit
  rintro s l x c rfl hcls
  refine ⟨?_, ?_⟩
  · intro y p at_ bs f hrec hk w node left hp hn hc
    have hready (hf : frameIs 2 (some 2) f) : exec (.ready l p at_ bs) s = .next (s.withLane l (w.answer f at_ true)) :=
      State.next_lane (Lane.received_taken _ hrec hf)
    have hrefuse (hf : frameIs 2 (some 3) f) : exec (.refuse l p at_ bs) s = .next (s.withLane l (w.answer f at_ false)) :=
      State.next_lane (Lane.received_taken _ hrec hf)
    refine ⟨fun hlate hf => ?_, fun htime hans hshare => ?_⟩
    · have ht : w.timelyFor c at_ = false := by
        rw [← Bool.not_eq_true, Lane.timelyFor_iff]
        omega
      rw [hready hf, Lane.answer_late hp hk hn _ ht]
    · have ht : w.timelyFor c at_ := (w.timelyFor_iff c at_).mpr htime
      refine ⟨fun hf => ?_, fun hf hm => ?_, fun hf hm hab => ?_⟩
      · rw [hready hf, Lane.answer_timely hp hk hn _ ht hc hans hshare, Lane.answered_ready hp]
        exact ⟨_, rfl, rfl, rfl⟩
      · rw [hrefuse hf, Lane.answer_timely hp hk hn _ ht hc hans hshare, Lane.answered_refused hp, if_neg fun h => by omega]
        exact ⟨_, rfl, rfl, congrArg CarClass.refused (Lane.modClass_carClass_self _ hcls _), rfl⟩
      · rw [hrefuse hf, Lane.answer_timely hp hk hn _ ht hc hans hshare, Lane.answered_refused hp, if_pos ⟨hm, by simp [hab]⟩]
        refine ⟨_, rfl, ?_⟩
        rw [Lane.abortCommit_prepared, Lane.modClass_keeps]
        simp [Lane.modCommit, node]
  · intro k hk hp hc hf _ hm hall hready
    refine ⟨(s.lane l).commitDeadline (k.val + 1), rfl, ?_⟩
    rw [hk, Lane.commitDeadline_ready hp hc hf hm hall hready]
    refine ⟨rfl, congrArg CarClass.aborts (Lane.modClass_carClass_self _ hcls _), ?_, rfl⟩
    rw [Lane.modClass_carClass_self _ hcls]
    exact congrArg CarClass.refuse (Lane.modClass_carClass_self _ hcls _)

end Sys2Proof.Machine

/-! Blocks between nodes (R536), the CAN controllers' errors and the voice (R496, R503, R505). -/

namespace Sys2Proof.Machine

/-! ## BLOCK REQUEST and BLOCK DATA -/

theorem Tab.getD_val {n : Nat} {α : Type} (t : Tab n α) (i : Fin n) (d : α) : t.getD i.val d = t.get i := by
  simp [Tab.getD, Tab.get, t.len]

/-- A frame sent by a node of the plane takes the next sequence number of its class (R453). -/
theorem Lane.fabSend_seq {x : Lane} (hr : x.fab.running) (hn : x.node ≠ 0) (c : Fin 6) (dst : Nat) (bs : List Byte) :
    (x.fabSend c.val dst bs).fab.seqs.get c = (x.fab.seqs.get c + 1) % 65536 := by
  have hseq : (x.newFrame c.val dst bs).1.fab.seqs.get c = (x.fab.seqs.get c + 1) % 65536 := by
    unfold Lane.newFrame
    dsimp only
    rw [dif_pos c.isLt]
    rw [Tab.getD_val]
    exact Tab.get_set_self ..
  unfold Lane.fabSend
  rw [if_neg (by simp [hr, hn])]
  dsimp only
  split
  · exact hseq
  · refine foldl_keeps (fun y : Lane => y.fab.seqs.get c = (x.fab.seqs.get c + 1) % 65536) _ ?_ _ _ hseq
    exact fun y w hy => hy

/-- A BLOCK REQUEST of the version is answered with one BLOCK DATA (R536). -/
theorem Lane.blockRequest_answer {x : Lane} {f : FabFrame} (hs : x.serves_) (hv : f.payload.getD 1 0 = 1) :
    ∃ bs, x.blockRequest f = x.fabSend 4 f.src bs := by
  unfold Lane.blockRequest
  dsimp only
  rw [if_neg (not_or.mpr ⟨by simp [hs], Classical.not_not.mpr hv⟩)]
  split
  · exact ⟨_, rfl⟩
  · exact ⟨_, rfl⟩

theorem Lane.blockRequest_idle {x : Lane} {f : FabFrame} (h : x.serves_ = false ∨ f.payload.getD 1 0 ≠ 1) : x.blockRequest f = x :=
  if_pos (h.imp_left fun h => by simp [h])

theorem Lane.blockRequest_eq (x : Lane) (f : FabFrame) : x.blockRequest f = { x with fab := (x.blockRequest f).fab } := by
  by_cases h : x.serves_ = false ∨ f.payload.getD 1 0 ≠ 1
  · rw [Lane.blockRequest_idle h]
  · rw [not_or, Classical.not_not, Bool.not_eq_false] at h
    obtain ⟨bs, hbs⟩ := Lane.blockRequest_answer h.1 h.2
    rw [hbs, Lane.fabSend_eq]

/-- The lane takes the BLOCK DATA it asked for. -/
def Lane.asksBlock (x : Lane) (f : FabFrame) : Prop :=
  x.staging ∧ f.payload.getD 1 0 = 1 ∧ x.cfg.jobSource = f.src ∧ x.job.fw.asked = some (beNat (slice f.payload 8 4))

theorem Lane.blockData_staged {x : Lane} {f : FabFrame} (h : x.asksBlock f) (hl : beNat (slice f.payload 12 2) ≠ 0)
    (hfit : beNat (slice f.payload 8 4) + beNat (slice f.payload 12 2) ≤ slotSize) :
    x.blockData f = x.stage (beNat (slice f.payload 8 4)) (slice f.payload 16 (beNat (slice f.payload 12 2))) := by
  obtain ⟨hs, hv, hsrc, ha⟩ := h
  unfold Lane.blockData
  dsimp only
  rw [hs, hv, hsrc, ha, if_neg (by simp), if_neg (by omega)]

theorem Lane.blockData_idle {x : Lane} {f : FabFrame} (h : x.staging = false ∨ x.job.fw.asked ≠ some (beNat (slice f.payload 8 4))) :
    x.blockData f = x := if_pos (by rcases h with h | h <;> simp [h])

theorem Lane.putSlot_slotMem (x : Lane) (k : Nat) (m : Mem) :
    (x.putSlot (1 - k % 2) m).slotMem (1 - k % 2) = m ∧ (x.putSlot (1 - k % 2) m).slotMem (k % 2) = x.slotMem (k % 2) := by
  unfold Lane.putSlot Lane.slotMem
  rcases Nat.mod_two_eq_zero_or_one k with h | h <;> rw [h] <;> exact ⟨rfl, rfl⟩

theorem Lane.putSlot_keeps (x : Lane) (slot : Nat) (m : Mem) : x.putSlot slot m = { x with nvm := (x.putSlot slot m).nvm } := rfl

/-- What staging writes: the bytes in the slot that is not running; the running one stays (R536). -/
theorem Lane.stage_staged (x : Lane) (offset : Nat) (data : List Byte) :
    ((x.stage offset data).slotMem (1 - x.start.slot % 2)).readList offset data.length = data ∧
      (x.stage offset data).slotMem (x.start.slot % 2) = x.slotMem (x.start.slot % 2) ∧
      x.stage offset data = { x with nvm := (x.stage offset data).nvm, job := { x.job with fw := (x.stage offset data).job.fw } } := by
  unfold Lane.stage
  extract_lets slot rec y m next
  have hslot : slot = 1 - x.start.slot % 2 := rfl
  have hy : y = { x with nvm := y.nvm } ∧ y.slotMem (x.start.slot % 2) = x.slotMem (x.start.slot % 2) := by
    unfold y
    split <;> exact ⟨rfl, rfl⟩
  have hput := y.putSlot_slotMem x.start.slot m
  rw [← hslot] at *
  refine ⟨?_, hput.2.trans hy.2, ?_⟩
  · show ((y.putSlot slot m).slotMem slot).readList offset data.length = data
    rw [hput.1]
    exact Mem.readList_writeList _ _ _
  · rw [Lane.putSlot_keeps, hy.1]
    rfl

theorem Lane.stage_fw (x : Lane) (offset : Nat) (data : List Byte) :
    (x.stage offset data).job.fw.next = offset + data.length ∧ (x.stage offset data).job.fw.asked = none ∧
      (x.stage offset data).job.fw.passed = false := ⟨rfl, rfl, rfl⟩

/-- Settles O48: BLOCK REQUEST is answered by one frame, BLOCK DATA staged or dropped. -/
theorem blocksMoveBetweenNodes : Obligations.BlocksMoveBetweenNodes := by
  unfold Obligations.BlocksMoveBetweenNodes
  rintro s l x y p at_ bs f rfl hrec
  refine ⟨fun hf => ⟨y.blockRequest f, State.next_lane (Lane.received_taken _ hrec hf), Lane.blockRequest_eq _ _, ?_, Lane.blockRequest_idle⟩,
    fun hf => ?_⟩
  · intro hs hv hr hn
    obtain ⟨bs, hbs⟩ := Lane.blockRequest_answer hs hv
    rw [hbs]
    exact Lane.fabSend_seq hr hn 4 _ _
  · have hexec : exec (.blockData l p at_ bs) s = .next (s.withLane l (y.blockData f)) := State.next_lane (Lane.received_taken _ hrec hf)
    intro offset data
    refine ⟨fun hs hv hsrc ha hne hfit hlen => ⟨_, hexec, ?_⟩, fun h => by rw [hexec, Lane.blockData_idle h]⟩
    have hpos : 0 < data.length := List.length_pos_iff.mpr hne
    rw [Lane.blockData_staged ⟨hs, hv, hsrc, ha⟩ (by omega) (by omega)]
    obtain ⟨hread, hrun, hkeep⟩ := y.stage_staged offset data
    obtain ⟨hnext, hasked, -⟩ := y.stage_fw offset data
    have hstart : (y.stage offset data).start = y.start := by rw [hkeep]
    unfold Lane.otherSlot
    rw [hstart]
    have hback : 1 - (1 - y.start.slot % 2) = y.start.slot % 2 := by omega
    rw [hback]
    exact ⟨hread, hnext, hasked, hrun, hkeep⟩

/-! ## Controller errors (R496) -/

theorem Lane.modCan_self (x : Lane) (c : CanId) (g : CanCtl → CanCtl) : (x.modCan c g).canCtl c = g (x.canCtl c) := Tab.get_modify_self ..

theorem Lane.modCan_ne (x : Lane) {c d : CanId} (g : CanCtl → CanCtl) (h : d ≠ c) : (x.modCan c g).canCtl d = x.canCtl d :=
  Tab.get_modify_ne _ _ h

theorem Lane.busOff_eq {x : Lane} {c : CanId} (hr : x.canRuns c) (he : (x.canCtl c).err ≠ 2) :
    x.busOff c = (x.modCan c fun k => { k with err := 2, tec := 255 }).raise .net001 .none c.val := if_neg (by simp [hr, he])

theorem Lane.busOff_idle {x : Lane} {c : CanId} (h : x.canRuns c = false ∨ (x.canCtl c).err = 2) : x.busOff c = x := if_pos (by simpa using h)

theorem Lane.errorPassive_eq {x : Lane} {c : CanId} (tec rec_ : Nat) (hr : x.canRuns c) (he : (x.canCtl c).err = 0) :
    x.errorPassive c tec rec_ = (x.modCan c fun k => { k with err := 1, tec := min 255 tec, rec_ := min 255 rec_ }).raise .net002 .none c.val :=
  if_neg (by simp [hr, he])

theorem Lane.errorPassive_idle {x : Lane} {c : CanId} (tec rec_ : Nat) (h : x.canRuns c = false ∨ (x.canCtl c).err ≠ 0) :
    x.errorPassive c tec rec_ = x := if_pos (by simpa using h)

theorem Lane.busOn_eq {x : Lane} {c : CanId} (he : (x.canCtl c).err = 2) :
    x.busOn c = x.modCan c fun k => { k with err := 0, tec := 0, rec_ := 0 } := if_pos he

/-- A lane that runs its controllers is on a bus as long as the controller is not bus-off. -/
theorem Lane.onBus_running {x y : Lane} {c : CanId} (hr : x.canRuns c) (hs : y.start.state = x.start.state) :
    y.onBus c = ((y.canCtl c).err != 2) := by
  unfold Lane.canRuns at hr
  unfold Lane.onBus
  rw [hs]
  cases h : x.start.state <;> simp [h] at hr ⊢

/-! ## The voice (R503, R505) -/

/-- A controller as the lane that becomes the voice sets it up: its address, its claim queued (R502, R505). -/
def Lane.voiceCtl (x : Lane) (c : CanId) (k : CanCtl) : CanCtl :=
  { k with
    addr := x.nodeAddr c, waitTo := x.tick.count + 1 + (if 128 ≤ x.nodeAddr c ∧ x.nodeAddr c ≤ 247 then 10000 else 0), inConns := [], outConns := []
    gmiNext := 0, speedNext := 0, dm1Next := 0, queue := k.queue ++ [{ src := x.nodeAddr c, dst := 255, msg := .claim (x.ownName c) }] }

/-- The voice's work on one controller: an ISOBUS controller that may speak claims its address. -/
def Lane.claimOn (x : Lane) (c : CanId) : Lane := if x.isobus c ∧ !(x.canCtl c).mute then x.modCan c (x.voiceCtl c) else x

/-- The lane that has just become the voice. -/
def Lane.voiceTaken (x : Lane) : Lane :=
  ({ x with can := { x.can with voice := true, voiceAt := x.tick.count, waits := [], resps := [] } } : Lane).raise .net004 .none
    (match x.can.lastVoice with | some v => v.code | none => 3)

theorem Lane.voiceTakeover_eq {x : Lane} (hv : x.can.voice = false) (ht : x.topVoice) (hs : x.voicesSeen = []) (hh : x.can.heard = false)
    (hq : x.cfg.laneVoiceQuiet ≤ x.can.quiet + 1) (ha : x.aloneUnwitnessed = false) :
    x.voiceTakeover = (x.voiceTaken.claimOn 0).claimOn 1 := if_pos (by simp [hv, ht, hs, hh, hq, ha])

theorem Lane.voiceTakeover_idle {x : Lane} (h : x.can.voice ∨ x.topVoice = false ∨ x.can.heard ∨ x.can.quiet + 1 < x.cfg.laneVoiceQuiet ∨ x.aloneUnwitnessed) :
    x.voiceTakeover = x := by
  refine if_neg fun hall => ?_
  simp only [Bool.and_eq_true, Bool.not_eq_true', decide_eq_true_iff] at hall
  obtain ⟨⟨⟨⟨⟨hv, ht⟩, -⟩, hh⟩, hq⟩, ha⟩ := hall
  rcases h with h | h | h | h | h
  · simp [h] at hv
  · simp [h] at ht
  · simp [h] at hh
  · omega
  · simp [h] at ha

theorem Lane.claimOn_keeps (x : Lane) (c : CanId) :
    x.claimOn c = { x with can := { x.can with ctl := (x.claimOn c).can.ctl } } ∧ ∀ d, d ≠ c → (x.claimOn c).canCtl d = x.canCtl d := by
  unfold Lane.claimOn
  split
  · exact ⟨rfl, fun d hd => Lane.modCan_ne _ _ hd⟩
  · exact ⟨rfl, fun _ _ => rfl⟩

theorem Lane.claimOn_self (x : Lane) (c : CanId) :
    (x.claimOn c).canCtl c = if x.isobus c ∧ !(x.canCtl c).mute then x.voiceCtl c (x.canCtl c) else x.canCtl c := by
  unfold Lane.claimOn
  split
  · exact Lane.modCan_self _ _ _
  · rfl

/-- What the two claims leave on each controller. -/
theorem Lane.claims_canCtl (x : Lane) (c : CanId) :
    ((x.claimOn 0).claimOn 1).canCtl c = if x.isobus c ∧ !(x.canCtl c).mute then x.voiceCtl c (x.canCtl c) else x.canCtl c := by
  have h01 : (0 : CanId) ≠ 1 := by decide
  obtain rfl | rfl : c = 0 ∨ c = 1 := by revert c; decide
  · rw [((x.claimOn 0).claimOn_keeps 1).2 0 h01, Lane.claimOn_self]
  · obtain ⟨hkeep, hother⟩ := x.claimOn_keeps 0
    have hctl := hother 1 h01.symm
    have hvoice (k : CanCtl) : (x.claimOn 0).voiceCtl 1 k = x.voiceCtl 1 k := by
      unfold Lane.voiceCtl Lane.nodeAddr
      rw [hctl, hkeep]
      rfl
    have hiso : (x.claimOn 0).isobus 1 = x.isobus 1 := by
      rw [hkeep]
      rfl
    rw [Lane.claimOn_self, hctl, hvoice, hiso]

/-- A controller that waits for its claim does not talk (R502). -/
theorem Lane.talks_waiting {x : Lane} {c : CanId} (h : x.tick.count < (x.canCtl c).waitTo) : x.talks c = false := by simp [Lane.talks, h]

/-- Settles O49: controller errors and recovery, and the voice that ends a quiet time. -/
theorem busErrorsAndTheVoice : Obligations.BusErrorsAndTheVoice := by
  unfold Obligations.BusErrorsAndTheVoice
  rintro s l x rfl
  refine ⟨?_, fun c h => State.next_lane (Lane.busOff_idle h), ?_, fun c h => State.next_lane (if_neg h), ?_,
    fun c tec rec_ h => State.next_lane (Lane.errorPassive_idle tec rec_ h), ?_, fun h => State.next_lane (Lane.voiceTakeover_idle h)⟩
  · intro c hr he
    refine ⟨(s.lane l).busOff c, rfl, ?_⟩
    rw [Lane.busOff_eq hr he]
    refine ⟨Lane.modCan_self _ _ _, Lane.raise_raised _ _ _ _, fun d hd => Lane.modCan_ne _ _ hd, ?_, rfl⟩
    refine (Lane.onBus_running hr (by rfl)).trans ?_
    exact bne_eq_false_iff_eq.mpr (congrArg CanCtl.err (Lane.modCan_self _ _ _))
  · intro c he
    refine ⟨(s.lane l).busOn c, rfl, ?_⟩
    rw [Lane.busOn_eq he]
    refine ⟨Lane.modCan_self _ _ _, fun hr => ?_, fun d hd => Lane.modCan_ne _ _ hd, rfl⟩
    refine (Lane.onBus_running hr (by rfl)).trans ?_
    rw [Lane.modCan_self]
    rfl
  · intro c tec rec_ hr he
    refine ⟨(s.lane l).errorPassive c tec rec_, rfl, ?_⟩
    rw [Lane.errorPassive_eq tec rec_ hr he]
    exact ⟨Lane.modCan_self _ _ _, Lane.raise_raised _ _ _ _, rfl⟩
  · intro hv ht hs hh hq ha
    refine ⟨(s.lane l).voiceTakeover, rfl, ?_⟩
    rw [Lane.voiceTakeover_eq hv ht hs hh hq ha]
    obtain ⟨h0, -⟩ := (s.lane l).voiceTaken.claimOn_keeps 0
    obtain ⟨h1, -⟩ := ((s.lane l).voiceTaken.claimOn 0).claimOn_keeps 1
    generalize hy : ((s.lane l).voiceTaken.claimOn 0).claimOn 1 = y at *
    have hctl (c : CanId) : y.canCtl c = if (s.lane l).isobus c ∧ !((s.lane l).canCtl c).mute then (s.lane l).voiceTaken.voiceCtl c ((s.lane l).canCtl c)
        else (s.lane l).canCtl c := by
      rw [← hy, Lane.claims_canCtl]
      rfl
    have hkeep : y = { (s.lane l).voiceTaken with can := { (s.lane l).voiceTaken.can with ctl := y.can.ctl } } := by rw [h1, h0]
    refine ⟨?_, ?_, fun c hi hm => ?_, fun c hi => ?_, ?_⟩
    · rw [hkeep]
      rfl
    · refine Lane.Raised.of_col (Lane.raise_raised _ _ _ _) (x := (s.lane l).voiceTaken) ?_
      rw [hkeep]
    · have hc := hctl c
      rw [if_pos ⟨hi, by simp [hm]⟩] at hc
      refine ⟨congrArg CanCtl.addr hc, Lane.talks_waiting ?_, congrArg CanCtl.queue hc⟩
      rw [hc, hkeep]
      show (s.lane l).tick.count < (s.lane l).tick.count + 1 + _
      omega
    · rw [hctl, if_neg fun h => by simp [hi] at h]
    · have hcol : y.col = (s.lane l).voiceTaken.col := by rw [hkeep]
      rw [hcol]
      exact hkeep

end Sys2Proof.Machine

/-! Service messages of a lane: the seal, the health report, the journal and ACKNOWLEDGE (R77, R147, R410, R511). -/

namespace Sys2Proof.Machine

/-! ## SEAL CONFIRM (R77, R103) -/

/-- The lane whose seal is confirmed gathers again. -/
def Lane.sealTaken (x : Lane) (w : Word) : Lane :=
  { x with nvm := { x.nvm with confirmed := x.nvm.confirmed.write w }, start := { x.start with state := .gather, inState := 0 }
           gat := { x.gat with imageState := 1, idPower := true } }

theorem Lane.sealConfirm_taken {x : Lane} {w : Word} (hs : x.start.state = .unsealed) (hw : w = x.gat.sealVal) :
    x.sealConfirm w = (x.sealTaken w, true) := if_pos ⟨hs, hw⟩

theorem Lane.sealConfirm_refused {x : Lane} {w : Word} (h : x.start.state ≠ .unsealed ∨ w ≠ x.gat.sealVal) :
    x.sealConfirm w = (x.raiseWord .cfg022 w.toNat, false) := if_neg fun ⟨hs, hw⟩ => h.elim (· hs) (· hw)

/-- What SEAL CONFIRM does to a lane that admits it. -/
def Lane.sealServed (x : Lane) (w : Word) : Served := if (x.sealConfirm w).2 then ((x.sealConfirm w).1, 0, []) else refused (x.sealConfirm w).1 22

theorem Lane.sealServed_taken {x : Lane} {w : Word} (hs : x.start.state = .unsealed) (hw : w = x.gat.sealVal) :
    x.sealServed w = (x.sealTaken w, 0, []) := by
  unfold Lane.sealServed
  rw [Lane.sealConfirm_taken hs hw]
  rfl

theorem Lane.sealServed_refused {x : Lane} {w : Word} (h : x.start.state ≠ .unsealed ∨ w ≠ x.gat.sealVal) :
    x.sealServed w = (x.raiseWord .cfg022 w.toNat, 4, [22]) := by
  unfold Lane.sealServed
  rw [Lane.sealConfirm_refused h]
  rfl

/-! ## JOURNAL READ (R511) -/

/-- What JOURNAL READ does to a lane that admits it. -/
def Lane.journalServed (x : Lane) (first count : Nat) : Served :=
  if count = 0 ∨ 100 < count then refused x 0 else (x, 0, ((x.nvm.events.drop first).take count).flatMap Rec.bytes)

/-! ## ACKNOWLEDGE (R410) -/

/-- A held event as ACKNOWLEDGE of classes in a tick leaves it: acknowledged where it was raised before this tick. -/
def Held.acknowledged (q : Held) (classes tick : Nat) : Held :=
  if classes.testBit q.r.ev.cls.code.val ∧ q.r.count ≠ tick % 2 ^ 32 then { q with acked := true } else q

theorem Lane.acknowledge_eq (x : Lane) (classes : Nat) :
    x.acknowledge classes = ({ x with col := { x.col with
      held := (x.col.held.map fun q => q.acknowledged classes x.tick.count).filter fun q => !q.done, slot0 := none } } : Lane).raise .col013 .none classes := by
  unfold Lane.acknowledge Held.acknowledged
  simp only [Bool.and_eq_true, bne_iff_ne]

/-- What ACKNOWLEDGE does to a lane that admits it. -/
def Lane.ackServed (x : Lane) (h : SvcHdr) (lanes classes : Nat) : Served :=
  if h.target ≠ 3 then refused x 0 else if lanes.testBit x.id.code then (x.acknowledge classes, 0, []) else (x, 0, [])

/-- Settles O53: SEAL CONFIRM, HEALTH REPORT, JOURNAL READ and ACKNOWLEDGE on a lane that admits them. -/
theorem sealsReportsAndAcknowledgement : Obligations.SealsReportsAndAcknowledgement := by
  unfold Obligations.SealsReportsAndAcknowledgement
  rintro s l x h rfl
  refine ⟨?_, ?_, ?_⟩
  · intro hadm w
    have hexec : exec (.sealConfirm h w) s = .next (s.onSvc h fun x => x.serve h 0x04 true true fun z => z.sealServed w) := rfl
    constructor
    · intro hs hw
      refine ⟨_, hexec, State.onSvc_served rfl hadm fun z hz => ?_⟩
      exact Lane.sealServed_taken (by rw [hz]; exact hs) (by rw [hz]; exact hw)
    · intro hno
      refine ⟨_, hexec, State.onSvc_served rfl hadm fun z hz => ?_⟩
      exact Lane.sealServed_refused (by rw [hz]; exact hno)
  · intro hadm
    refine ⟨⟨_, rfl, State.onSvc_served rfl hadm fun z hz => ?_⟩, fun first count => ?_⟩
    · rw [hz]
      rfl
    · have hexec : exec (.journalRead h first count) s = .next (s.onSvc h fun x => x.serve h 0x08 false false fun z => z.journalServed first count) := rfl
      constructor
      · intro h1 h100
        refine ⟨_, hexec, State.onSvc_served rfl hadm fun z hz => ?_⟩
        unfold Lane.journalServed
        rw [if_neg (by omega), hz]
      · intro hno
        exact ⟨_, hexec, State.onSvc_served rfl hadm fun z hz => if_pos hno⟩
  · intro hadm lanes classes
    have hexec : exec (.acknowledge h lanes classes) s =
        .next (s.onSvc h fun x => x.serve h 0x06 true false fun z => z.ackServed h lanes classes) := rfl
    refine ⟨fun ht hl => ?_, fun ht hl => ?_, fun ht => ?_⟩
    · have hserved : s.Served (s.onSvc h fun x => x.serve h 0x06 true false fun z => z.ackServed h lanes classes) h l 6 0 []
          fun z => z.acknowledge classes := by
        refine State.onSvc_served rfl hadm fun z hz => ?_
        have hid : z.id = (s.lane l).id := by rw [hz]
        unfold Lane.ackServed
        rw [if_neg (by simp [ht]), hid, if_pos hl]
      refine ⟨_, hexec, ⟨_, hserved⟩, ?_⟩
      obtain ⟨z, hz, ht⟩ := hserved.lane
      generalize (State.onSvc s h _).lanes.get l = y at ht ⊢
      rw [ht, Lane.acknowledge_eq, hz]
      refine ⟨rfl, Lane.raise_raised _ _ _ _, rfl, rfl, fun r => ?_⟩
      show r ∈ List.filter _ (List.map _ (s.lane l).col.held) ↔ _
      rw [List.mem_filter, List.mem_map, Bool.not_eq_true', and_comm]
      exact and_congr_right fun _ => exists_congr fun q => and_congr_right fun _ => eq_comm
    · refine ⟨_, hexec, State.onSvc_served rfl hadm fun z hz => ?_⟩
      have hid : z.id = (s.lane l).id := by rw [hz]
      unfold Lane.ackServed
      rw [if_neg (by simp [ht]), hid, if_neg (by simp [hl])]
    · exact ⟨_, hexec, State.onSvc_served rfl hadm fun z hz => if_pos ht⟩

end Sys2Proof.Machine

/-! Image blocks: erasing, programming and the read-back (R90). -/

namespace Sys2Proof.Machine

/-! ## Flash pages -/

theorem Mem.read_filter_out (p : Host.Cell → Bool) (m : Mem) {k : Nat} (h : ∀ b, p (k, b) = false) : Mem.read (m.filter p) k = erased := by
  induction m with
  | nil => rfl
  | cons c m ih =>
    obtain ⟨a, b⟩ := c
    by_cases hp : p (a, b)
    · have hk : k ≠ a := fun e => by simp [← e, h b] at hp
      rw [List.filter_cons_of_pos hp, Mem.read, if_neg hk, ih]
    · rw [List.filter_cons_of_neg hp, ih]

theorem Mem.read_filter_in (p : Host.Cell → Bool) (m : Mem) {k : Nat} (h : ∀ b, p (k, b) = true) : Mem.read (m.filter p) k = m.read k := by
  induction m with
  | nil => rfl
  | cons c m ih =>
    obtain ⟨a, b⟩ := c
    by_cases hk : k = a
    · subst hk
      rw [List.filter_cons_of_pos (h b), Mem.read, Mem.read, if_pos rfl, if_pos rfl]
    · by_cases hp : p (a, b)
      · rw [List.filter_cons_of_pos hp, Mem.read, Mem.read, if_neg hk, if_neg hk, ih]
      · rw [List.filter_cons_of_neg hp, Mem.read, if_neg hk, ih]

/-- An erased page reads erased. -/
theorem Mem.read_erase_inside (m : Mem) {lo hi k : Nat} (h1 : lo ≤ k) (h2 : k < hi) : (m.erase lo hi).read k = erased :=
  Mem.read_filter_out _ _ fun _ => by simpa using ⟨h1, h2⟩

theorem Mem.read_erase_outside (m : Mem) {lo hi k : Nat} (h : k < lo ∨ hi ≤ k) : (m.erase lo hi).read k = m.read k :=
  Mem.read_filter_in _ _ fun _ => by simpa using h

/-- Programming leaves every byte outside what it programs. -/
theorem Mem.read_program_outside (vs : List Byte) : ∀ (m : Mem) {k j : Nat}, j < k ∨ k + vs.length ≤ j → (m.program k vs).read j = m.read j := by
  induction vs with
  | nil => exact fun _ _ _ _ => rfl
  | cons v vs ih =>
    intro m k j h
    rw [List.length_cons] at h
    rw [Mem.program, ih _ (by omega), Mem.read_write_ne _ _ (by omega)]

/-- Bytes programmed into erased cells read back. -/
theorem Mem.readList_program (vs : List Byte) : ∀ (m : Mem) (k : Nat), (∀ j, k ≤ j → j < k + vs.length → m.read j = erased) →
    (m.program k vs).readList k vs.length = vs := by
  induction vs with
  | nil => exact fun _ _ _ => rfl
  | cons v vs ih =>
    intro m k h
    rw [List.length_cons] at h ⊢
    have hv : m.read k &&& v = v := by
      rw [h k (Nat.le_refl k) (by omega)]
      exact BitVec.allOnes_and
    rw [Mem.program, hv, Mem.readList, ih, Mem.read_program_outside _ _ (by omega), Mem.read_write_self]
    intro j h1 h2
    rw [Mem.read_write_ne _ _ (by omega), h j (by omega) (by omega)]

/-- An area erased and programmed from its start: the bytes, then erased cells, and every other cell as it was. -/
theorem Mem.program_erased (m : Mem) (base size : Nat) {data : List Byte} (hfit : data.length ≤ size) :
    let p := (m.erase base (base + size)).program base data
    p.readList base data.length = data ∧ (∀ a, base + data.length ≤ a → a < base + size → p.read a = erased) ∧
      ∀ a, a < base ∨ base + size ≤ a → p.read a = m.read a := by
  refine ⟨Mem.readList_program _ _ _ fun j h1 h2 => Mem.read_erase_inside _ h1 (by omega), fun a h1 h2 => ?_, fun a h => ?_⟩
  · rw [Mem.read_program_outside _ _ (.inr h1), Mem.read_erase_inside _ (by omega) h2]
  · rw [Mem.read_program_outside _ _ (by omega), Mem.read_erase_outside _ h]

/-! ## Image blocks (R90) -/

/-- The lane that has programmed a block of an image, after the bytes it holds of the blocks before. -/
def Lane.imageProgrammed (x : Lane) (offset : Nat) (last : Bool) (data : List Byte) (m : Mem) (old : List Byte) : Lane :=
  { x with
    nvm := { x.nvm with flash := m.program (x.writeArea * 0x100000 + offset) data }
    can := { x.can with img := some { area := x.writeArea, next := offset + data.length, data := old ++ data, last := last } } }

/-- The first block of an image: programmed from the start of the area, with nothing before it. -/
theorem Lane.imageProgrammed_first (x : Lane) (last : Bool) (data : List Byte) (m : Mem) :
    x.imageProgrammed 0 last data m [] =
      { x with
        nvm := { x.nvm with flash := m.program (x.writeArea * 0x100000) data }
        can := { x.can with img := some { area := x.writeArea, next := data.length, data := data, last := last } } } := by
  unfold Lane.imageProgrammed
  rw [Nat.add_zero, Nat.zero_add]
  rfl

theorem Lane.touch_img (x : Lane) (h : SvcHdr) : (x.touch h).can.img = x.can.img := by
  unfold Lane.touch
  split
  · split <;> rfl
  · rfl

theorem Lane.sendService_img (x : Lane) (c : CanId) (dst : Nat) (bs : List Byte) : (x.sendService c dst bs).can.img = x.can.img := by
  rw [x.sendService_took c dst bs]

theorem Lane.respond_img (x : Lane) (h : SvcHdr) (code result : Nat) (data : List Byte) : (x.respond h code result data).can.img = x.can.img := by
  unfold Lane.respond
  dsimp only
  split
  · exact Lane.sendService_img _ _ _ _
  · rfl

/-- What an image block does to a lane that admits it. -/
def Lane.imageServed (x : Lane) (offset : Nat) (last : Bool) (data : List Byte) : Served :=
  if data.isEmpty ∨ 1776 < data.length then (x, 6, [])
  else if x.start.state = .gather ∧ x.gat.imageState = 1 then refused (x.imageFails x.writeArea) 19
  else if 0x100000 < offset + data.length then refused (x.imageFails x.writeArea) 19
  else if offset = 0 then
    (x.imageProgrammed offset last data (x.nvm.flash.erase (x.writeArea * 0x100000) (x.writeArea * 0x100000 + 0x100000)) [], 0, [])
  else
    match x.can.img with
    | some w =>
      if w.area = x.writeArea ∧ w.next = offset ∧ !w.last then (x.imageProgrammed offset last data x.nvm.flash w.data, 0, [])
      else refused (x.imageFails x.writeArea) 19
    | none => refused (x.imageFails x.writeArea) 19

/-- A block that the lane can take now, within the area. -/
def Lane.imageFree (x : Lane) (offset : Nat) (data : List Byte) : Prop :=
  ¬ (x.start.state = .gather ∧ x.gat.imageState = 1) ∧ offset + data.length ≤ 0x100000

section
variable {x : Lane} {offset : Nat} {last : Bool} {data : List Byte} (hne : data ≠ []) (hlen : data.length ≤ 1776)
include hne hlen

theorem Lane.imageServed_free (hf : x.imageFree offset data) :
    x.imageServed offset last data =
      if offset = 0 then
        (x.imageProgrammed offset last data (x.nvm.flash.erase (x.writeArea * 0x100000) (x.writeArea * 0x100000 + 0x100000)) [], 0, [])
      else
        match x.can.img with
        | some w =>
          if w.area = x.writeArea ∧ w.next = offset ∧ !w.last then (x.imageProgrammed offset last data x.nvm.flash w.data, 0, [])
          else refused (x.imageFails x.writeArea) 19
        | none => refused (x.imageFails x.writeArea) 19 := by
  obtain ⟨hstate, hfit⟩ := hf
  unfold Lane.imageServed
  rw [if_neg (by simpa [hne] using hlen), if_neg hstate, if_neg (by omega)]

theorem Lane.imageServed_next (hf : x.imageFree offset data) (ho : offset ≠ 0) {w : ImgWrite} (hw : x.can.img = some w)
    (ha : w.area = x.writeArea) (hn : w.next = offset) (hl : w.last = false) :
    x.imageServed offset last data = (x.imageProgrammed offset last data x.nvm.flash w.data, 0, []) := by
  rw [Lane.imageServed_free hne hlen hf, if_neg ho, hw]
  exact if_pos ⟨ha, hn, by simp [hl]⟩

theorem Lane.imageServed_refused
    (h : ¬ x.imageFree offset data ∨ offset ≠ 0 ∧ ∀ w, x.can.img = some w → w.area ≠ x.writeArea ∨ w.next ≠ offset ∨ w.last) :
    x.imageServed offset last data = refused (x.imageFails x.writeArea) 19 := by
  by_cases hf : x.imageFree offset data
  · obtain ⟨ho, hw⟩ := h.resolve_left (Classical.not_not.mpr hf)
    rw [Lane.imageServed_free hne hlen hf, if_neg ho]
    split
    case h_1 w hi =>
      refine if_neg fun ⟨ha, hn, hl⟩ => ?_
      rcases hw w hi with h | h | h
      · exact h ha
      · exact h hn
      · simp [h] at hl
    case h_2 => rfl
  · unfold Lane.imageServed
    rw [if_neg (by simpa [hne] using hlen)]
    by_cases hs : x.start.state = .gather ∧ x.gat.imageState = 1
    · rw [if_pos hs]
    · rw [if_neg hs, if_pos (Nat.lt_of_not_le fun hfit => hf ⟨hs, hfit⟩)]

end

/-! ## The read-back -/

theorem Lane.imageVerify_good {x : Lane} {w : ImgWrite} {ok : Bool} (hw : x.can.img = some w) (hl : w.last) (ho : ok)
    (hr : x.nvm.flash.readList (w.area * 0x100000) w.data.length = w.data) :
    x.imageVerify ok = { x with
      can := { x.can with img := none }
      nvm := { x.nvm with areas := x.nvm.areas.write { x.nvm.areas.read {} with pending := true } } } := by
  unfold Lane.imageVerify
  rw [hw]
  dsimp only
  rw [if_neg (by simp [hl]), if_pos ⟨ho, hr⟩]

theorem Lane.imageVerify_unequal {x : Lane} {w : ImgWrite} {ok : Bool} (hw : x.can.img = some w) (hl : w.last)
    (h : ok = false ∨ x.nvm.flash.readList (w.area * 0x100000) w.data.length ≠ w.data) : x.imageVerify ok = x.imageFails w.area := by
  unfold Lane.imageVerify
  rw [hw]
  dsimp only
  rw [if_neg (by simp [hl]), if_neg fun hg => h.elim (fun h => by simp [h] at hg) fun h => h hg.2]

theorem Lane.imageVerify_unfinished {x : Lane} {w : ImgWrite} (hw : x.can.img = some w) (hl : w.last = false) (ok : Bool) : x.imageVerify ok = x := by
  unfold Lane.imageVerify
  rw [hw]
  exact if_pos (by simp [hl])

/-- Settles O54: image blocks by their offset, and the read-back. -/
theorem imagesAreWrittenAndVerified : Obligations.ImagesAreWrittenAndVerified := by
  unfold Obligations.ImagesAreWrittenAndVerified
  rintro s l x rfl
  refine ⟨?_, fun w ok hw => ⟨fun hl ho hr => State.next_lane (Lane.imageVerify_good hw hl ho hr),
    fun hl h => State.next_lane (Lane.imageVerify_unequal hw hl h), fun hl => State.next_lane (Lane.imageVerify_unfinished hw hl ok)⟩⟩
  intro h offset last data hadm hne hlen area free
  have hexec : exec (.imageWrite h offset last data) s =
      .next (s.onSvc h fun x => x.serve h 0x07 true true fun z => z.imageServed offset last data) := rfl
  have hfree {z : Lane} (hz : (s.lane l).Took z) : z.imageFree offset data ↔ free := by
    unfold Lane.imageFree
    rw [hz]
  have harea {z : Lane} (hz : (s.lane l).Took z) : z.writeArea = area := by
    rw [hz]
    rfl
  refine ⟨fun hf ho => ?_, fun w hf ho hw ha hn hl => ?_, fun hno => ?_⟩
  · subst ho
    obtain ⟨base, hbase⟩ : ∃ base, base = area * 0x100000 := ⟨_, rfl⟩
    obtain ⟨size, hsize⟩ : ∃ size, size = 0x100000 := ⟨_, rfl⟩
    have hserved : s.Served (s.onSvc h fun x => x.serve h 0x07 true true fun z => z.imageServed 0 last data) h l 7 0 []
        fun z => { z with
          nvm := { z.nvm with flash := ((s.lane l).nvm.flash.erase base (base + size)).program base data }
          can := { z.can with img := some { area := area, next := data.length, data := data, last := last } } } := by
      refine State.onSvc_served rfl hadm fun z hz => ?_
      have hflash : z.nvm.flash = (s.lane l).nvm.flash := by rw [hz]
      rw [Lane.imageServed_free hne hlen ((hfree hz).mpr hf), if_pos rfl, Lane.imageProgrammed_first, harea hz, hbase, hsize, hflash]
    refine ⟨_, hexec, ⟨_, hserved⟩, ?_⟩
    obtain ⟨⟨z, hz, ht⟩, -⟩ := hserved
    have hcan := ht.trans (Lane.respond_can _ _ _ _ _)
    have himg := congrArg (fun y : Lane => y.can.img) ht
    rw [Lane.respond_img, Lane.touch_img] at himg
    rw [Lane.touch_can] at hcan
    generalize (State.onSvc s h _).lanes.get l = y at hcan himg ⊢
    have hend : (area + 1) * 0x100000 = base + size := by rw [hbase, hsize, Nat.add_one_mul]
    have hnvm : y.nvm = { (s.lane l).nvm with flash := ((s.lane l).nvm.flash.erase base (base + size)).program base data } := by
      rw [hcan, hz]
    obtain ⟨hdata, herased, hout⟩ := (s.lane l).nvm.flash.program_erased base size (data := data) (by omega)
    rw [hend, ← hbase, hnvm]
    exact ⟨himg, hdata, herased, hout, rfl⟩
  · refine ⟨_, hexec, State.onSvc_served rfl hadm fun z hz => ?_⟩
    rw [Lane.imageServed_next hne hlen ((hfree hz).mpr hf) ho (by rw [hz]; exact hw) (ha.trans (harea hz).symm) hn hl]
    unfold Lane.imageProgrammed
    rw [harea hz, hz]
  · refine ⟨_, hexec, State.onSvc_served rfl hadm fun z hz => ?_⟩
    rw [Lane.imageServed_refused hne hlen]
    · rw [harea hz]
      rfl
    · rw [hfree hz, harea hz]
      exact hno.imp_right fun h => ⟨h.1, fun w hw => h.2 w (by rw [hz] at hw; exact hw)⟩

end Sys2Proof.Machine

/-! Sessions: the challenge, the response, the end of a session, KEY CHANGE; requests that need a session or WORKSHOP (R512 to R515, R517). -/

namespace Sys2Proof.Machine

/-! ## SESSION CHALLENGE (R513) -/

/-- The lane that gives a challenge to an address; a session of that address ends. -/
def Lane.challenged (z : Lane) (h : SvcHdr) : Lane :=
  { z with can := { z.can with
      draws := z.can.draws + 1, session := none, chal := some { src := h.src, bytes := drawChallenge z.can.draws, at_ := z.tick.count } } }

section
variable {x : Lane} {h : SvcHdr} (hi : x.isobus h.can) (hd : h.dst = (x.canCtl h.can).addr) (hv : x.can.voice)
include hi hd hv

/-- The voice judges a challenge request addressed to the node. -/
theorem Lane.challenge_voice :
    x.challenge h =
      let z := x.heardFrom h.can h.src
      if z.lockedOut then z.respond h 0x10 8 []
      else
        match z.can.session with
        | some q =>
          if q.src ≠ h.src then z.respond h 0x10 5 []
          else (z.challenged h).respond h 0x10 0 (drawChallenge z.can.draws)
        | none =>
          ({ z with can := { z.can with
              draws := z.can.draws + 1, chal := some { src := h.src, bytes := drawChallenge z.can.draws, at_ := z.tick.count } } } : Lane).respond h 0x10 0
            (drawChallenge z.can.draws) := by
  have ht := x.heardFrom_took h.can h.src
  have hctl : (x.heardFrom h.can h.src).canCtl h.can = x.canCtl h.can := by
    unfold Lane.heardFrom
    split <;> rfl
  have hvoice : (x.heardFrom h.can h.src).can.voice = true := by rw [ht]; exact hv
  have hiso : (x.heardFrom h.can h.src).isobus h.can = true := by rw [ht]; exact hi
  unfold Lane.challenge
  exact if_neg (by simp [hvoice, hiso, hctl, hd])

theorem Lane.challenge_given (hl : x.can.locked = none) (hs : ∀ q, x.can.session = some q → q.src = h.src) :
    x.challenge h = ((x.heardFrom h.can h.src).challenged h).respond h 0x10 0 (drawChallenge x.can.draws) := by
  have ht := x.heardFrom_took h.can h.src
  rw [Lane.challenge_voice hi hd hv]
  generalize x.heardFrom h.can h.src = z at ht ⊢
  have hlock : z.lockedOut = false := by rw [ht]; simp [Lane.lockedOut, hl]
  have hsess : z.can.session = x.can.session := by rw [ht]
  have hdraws : z.can.draws = x.can.draws := by rw [ht]
  dsimp only
  rw [hlock, if_neg Bool.false_ne_true, ← hdraws]
  split
  case h_1 q hq => exact if_neg (Classical.not_not.mpr (hs q (hsess ▸ hq)))
  case h_2 hq =>
    unfold Lane.challenged
    rw [← hq]

theorem Lane.challenge_denied (h' : x.can.locked.isSome ∨ ∃ q, x.can.session = some q ∧ q.src ≠ h.src) :
    x.challenge h = (x.heardFrom h.can h.src).respond h 0x10 (if x.can.locked.isSome then 8 else 5) [] := by
  have ht := x.heardFrom_took h.can h.src
  rw [Lane.challenge_voice hi hd hv]
  generalize x.heardFrom h.can h.src = z at ht ⊢
  have hlock : z.lockedOut = x.can.locked.isSome := by rw [ht]; rfl
  have hsess : z.can.session = x.can.session := by rw [ht]
  dsimp only
  rw [hlock]
  by_cases hl : x.can.locked.isSome = true
  · rw [if_pos hl, if_pos hl]
  · obtain ⟨q, hq, hsrc⟩ := h'.resolve_left hl
    rw [if_neg hl, if_neg hl, hsess, hq]
    exact if_pos hsrc

end

theorem drawChallenge_length (n : Nat) : (drawChallenge n).length = 16 := by simp [drawChallenge]

/-- A service message to a lane that is on the bus of an ISOBUS controller is the lane's own to judge. -/
theorem State.onSvc_onBus {s : State} {h : SvcHdr} {l : LaneId} (f : Lane → Lane) (hb : (s.lane l).onBus h.can) (hi : (s.lane l).isobus h.can) :
    (s.onSvc h f).lanes.get l = f (s.lane l) := by
  rw [State.onSvc_get, s.relayVoice_isobus h hi]
  exact if_pos hb

/-! ## SESSION RESPONSE (R514) -/

/-- What a SESSION RESPONSE does to a lane that admits it. -/
def Lane.responseServed (x : Lane) (h : SvcHdr) (resp : List Byte) : Served := if resp.length ≠ 16 then (x, 6, []) else x.judgeResponse h resp

theorem Lane.responseServed_judged {x : Lane} {h : SvcHdr} {resp : List Byte} (hl : resp.length = 16) : x.responseServed h resp = x.judgeResponse h resp :=
  if_neg (Classical.not_not.mpr hl)

section
variable {x : Lane} {h : SvcHdr} {c : Challenge} (hc : x.can.chal = some c) (hsrc : c.src = h.src) (hused : c.used = false)
  (ht : x.tick.count < c.at_ + 40000) {resp : List Byte}
include hc hsrc hused ht

theorem Lane.judgeResponse_live :
    x.judgeResponse h resp =
      let l : Lane := { x with can := { x.can with chal := some { c with used := true } } }
      if resp = l.macOf c (l.ownName h.can) then
        ({ l with can := { l.can with
            session := some { src := h.src, name := getNode h.src (l.canCtl h.can).names, challenge := c.bytes }, wrong := 0 } }, 0, [])
      else l.wrongResponse h := by
  unfold Lane.judgeResponse
  rw [hc]
  exact if_neg (by simp [hsrc, hused]; omega)

theorem Lane.judgeResponse_right (hr : resp = x.macOf c (x.ownName h.can)) :
    x.judgeResponse h resp = ({ x with can := { x.can with
      chal := some { c with used := true }, wrong := 0
      session := some { src := h.src, name := getNode h.src (x.canCtl h.can).names, challenge := c.bytes } } }, 0, []) := by
  rw [Lane.judgeResponse_live hc hsrc hused ht]
  exact if_pos hr

theorem Lane.judgeResponse_wrong (hr : resp ≠ x.macOf c (x.ownName h.can)) (hw : x.can.wrong < 2) :
    x.judgeResponse h resp =
      ({ x with can := { x.can with chal := some { c with used := true }, wrong := x.can.wrong + 1 } }, 4, [byteOf (x.can.wrong + 1)]) := by
  rw [Lane.judgeResponse_live hc hsrc hused ht]
  exact (if_neg hr).trans (if_pos (by show x.can.wrong + 1 < 3; omega))

theorem Lane.judgeResponse_third (hr : resp ≠ x.macOf c (x.ownName h.can)) (hw : 2 ≤ x.can.wrong) :
    x.judgeResponse h resp = (({ x with can := { x.can with
      chal := some { c with used := true }, wrong := 0, locked := some x.tick.count } } : Lane).raise .net005 .none h.src, 8, []) := by
  rw [Lane.judgeResponse_live hc hsrc hused ht]
  exact (if_neg hr).trans (if_neg (by show ¬ x.can.wrong + 1 < 3; omega))

end

theorem Lane.judgeResponse_none {x : Lane} {h : SvcHdr} (hc : ∀ c, x.can.chal = some c → c.src ≠ h.src ∨ c.used ∨ c.at_ + 40000 ≤ x.tick.count)
    (resp : List Byte) : x.judgeResponse h resp = (x, 2, []) := by
  unfold Lane.judgeResponse
  split
  case h_1 => rfl
  case h_2 c hq => exact if_pos (hc c hq)

/-! ## KEY CHANGE (R515) -/

/-- What KEY CHANGE does to a lane that admits it. -/
def Lane.keyServed (x : Lane) (data : List Byte) : Served :=
  if data.length ≠ 32 then (x, 6, [])
  else ({ x with nvm := { x.nvm with key := x.nvm.key.write (List.zipWith (fun (a b : Byte) => a ^^^ b) data
    (hmacSha256 x.sessionKey ((x.can.session.elim [] (·.challenge)) ++ [0x4B]))) } }, 0, [])

/-! ## What ends by its time (R513, R514) -/

theorem Lane.challengeExpiry_eq {x : Lane} {c : Challenge} (hc : x.can.chal = some c) :
    x.challengeExpiry = if c.at_ + 40000 ≤ x.tick.count then { x with can := { x.can with chal := none } } else x := by
  unfold Lane.challengeExpiry
  rw [hc]

theorem Lane.sessionIdle_eq {x : Lane} {q : Session} (hq : x.can.session = some q) :
    x.sessionIdle = if x.cfg.laneSessionIdle ≤ q.idle then { x with can := { x.can with session := none } } else x := by
  unfold Lane.sessionIdle
  rw [hq]

theorem Lane.lockoutEnd_eq {x : Lane} {t : Nat} (ht : x.can.locked = some t) :
    x.lockoutEnd = if t + 400000 ≤ x.tick.count then { x with can := { x.can with locked := none } } else x := by
  unfold Lane.lockoutEnd
  rw [ht]

/-- Settles O55: challenges, responses, the end of a session and KEY CHANGE. -/
theorem sessionsAreOpenedAndEnd : Obligations.SessionsAreOpenedAndEnd := by
  unfold Obligations.SessionsAreOpenedAndEnd
  rintro s l x h rfl
  refine ⟨?_, ?_, fun hadm => ⟨_, rfl, State.onSvc_served rfl hadm fun z _ => rfl⟩, ?_, ?_, ?_, ?_⟩
  · intro hb hi hd hv
    refine ⟨fun hl hs => ⟨drawChallenge_length _, ?_⟩, fun hdeny => ?_⟩
    · have ht := (s.lane l).heardFrom_took h.can h.src
      refine ⟨_, (s.lane l).heardFrom h.can h.src, rfl, ht, ⟨rfl, rfl, rfl⟩, ?_⟩
      rw [State.onSvc_onBus _ hb hi, Lane.challenge_given hi hd hv hl hs]
      generalize (s.lane l).heardFrom h.can h.src = z at ht ⊢
      unfold Lane.challenged
      rw [show z.can.draws = (s.lane l).can.draws by rw [ht], show z.tick.count = (s.lane l).tick.count by rw [ht]]
    · refine ⟨_, (s.lane l).heardFrom h.can h.src, rfl, (s.lane l).heardFrom_took h.can h.src, ⟨rfl, rfl, rfl⟩, ?_⟩
      rw [State.onSvc_onBus _ hb hi, Lane.challenge_denied hi hd hv hdeny]
  · intro hadm resp hresp
    have hexec : exec (.sessionResponse h resp) s = .next (s.onSvc h fun x => x.serve h 0x11 false false fun z => z.responseServed h resp) := rfl
    refine ⟨fun c hc hsrc hused ht => ⟨fun hr => ?_, fun hr hw => ?_, fun hr hw => ?_⟩, fun hno => ?_⟩
    · refine ⟨_, hexec, State.onSvc_served rfl hadm fun z hz => ?_⟩
      rw [Lane.responseServed_judged hresp]
      exact Lane.judgeResponse_right (by rw [hz]; exact hc) hsrc hused (by rw [hz]; exact ht) (by rw [hz]; exact hr)
    · refine ⟨_, hexec, State.onSvc_served rfl hadm fun z hz => ?_⟩
      have hwrong : z.can.wrong = (s.lane l).can.wrong := by rw [hz]
      rw [Lane.responseServed_judged hresp, Lane.judgeResponse_wrong (by rw [hz]; exact hc) hsrc hused (by rw [hz]; exact ht) (by rw [hz]; exact hr)
        (hwrong ▸ hw), hwrong]
    · refine ⟨_, hexec, State.onSvc_served rfl hadm fun z hz => ?_⟩
      have hcount : z.tick.count = (s.lane l).tick.count := by rw [hz]
      rw [Lane.responseServed_judged hresp, Lane.judgeResponse_third (by rw [hz]; exact hc) hsrc hused (by rw [hz]; exact ht) (by rw [hz]; exact hr)
        (by rw [hz]; exact hw), hcount]
    · refine ⟨_, hexec, State.onSvc_served rfl hadm fun z hz => ?_⟩
      rw [Lane.responseServed_judged hresp]
      exact Lane.judgeResponse_none (by rw [hz]; exact hno) resp
  · intro hadm data q hq
    have hexec : exec (.keyChange h data) s = .next (s.onSvc h fun x => x.serve h 0x13 true true fun z => z.keyServed data) := rfl
    constructor
    · intro hl
      refine ⟨_, hexec, State.onSvc_served rfl hadm fun z hz => ?_⟩
      have hsess : z.can.session = some q := by rw [hz]; exact hq
      have hkey : z.sessionKey = (s.lane l).sessionKey := by rw [hz]; rfl
      unfold Lane.keyServed
      rw [if_neg (Classical.not_not.mpr hl), hsess, hkey]
      rfl
    · intro hl
      exact ⟨_, hexec, State.onSvc_served rfl hadm fun z _ => if_pos hl⟩
  · exact fun c hc => State.next_lane (Lane.challengeExpiry_eq hc)
  · exact fun q hq => State.next_lane (Lane.sessionIdle_eq hq)
  · exact fun at_ hat => State.next_lane (Lane.lockoutEnd_eq hat)

end Sys2Proof.Machine

/-! What a request without WORKSHOP leaves of its session (R512, R514, R517). -/

namespace Sys2Proof.Machine

theorem Lane.respond_session (x : Lane) (h : SvcHdr) (code result : Nat) (data : List Byte) :
    (x.respond h code result data).can.session = x.can.session := by
  unfold Lane.respond
  dsimp only
  split
  · rw [x.sendService_took h.can h.src (respBytes h code x.id.code result data)]
  · rfl

theorem Lane.touch_session {x : Lane} {h : SvcHdr} {q : Session} (hq : x.can.session = some q) (hs : q.src = h.src) :
    (x.touch h).can.session = some { q with idle := 0 } := by
  unfold Lane.touch
  rw [hq]
  dsimp only
  rw [if_pos hs]

/-- A request of address 5 to lane A of the node on controller 0. -/
def askedWithoutWorkshop : SvcHdr := { src := 5, dst := 254, target := 0 }

/-- A session of address 5 that has been idle for one tick. -/
def idleSession : Session := { src := 5, challenge := [], idle := 1 }

/-- Lane A in ALIGN on an ISOBUS controller, that session open, WORKSHOP off. -/
def sessionLane : Lane := {
  id := .a, gat := { cfg := [(0x41000001, [1])] }, start := { state := .align }, can := { session := some idleSession } }

/-- A node whose lane A is that lane. -/
def sessionState : State := { State.reset with lanes := State.reset.lanes.set .a sessionLane }

theorem sessionLane_admits : (sessionState.lane .a).Admits askedWithoutWorkshop true false :=
  ⟨by decide +kernel, by decide +kernel, by decide +kernel, by decide +kernel, by decide +kernel, fun _ => by decide +kernel, fun h => absurd h (by decide)⟩

theorem sessionLane_session : (sessionState.lane .a).can.session = some idleSession := by decide +kernel

/-- The session of lane A after its answer NO WORKSHOP to a KEY CHANGE: idle as before. -/
theorem sessionLane_stays_idle :
    ((sessionState.onSvc askedWithoutWorkshop fun x => x.keyChange askedWithoutWorkshop []).lanes.get .a).can.session = some idleSession := by
  decide +kernel

/-- Refutes O56: the answer NO WORKSHOP leaves the idle time of the session as it was, and the statement has the request start it again. -/
theorem not_requestsNeedSessionAndWorkshop : ¬ Obligations.RequestsNeedSessionAndWorkshop := by
  unfold Obligations.RequestsNeedSessionAndWorkshop
  intro hall
  obtain ⟨hreq, -⟩ := hall sessionState .a _ rfl
  obtain ⟨-, hno⟩ := hreq askedWithoutWorkshop (.keyChange askedWithoutWorkshop []) 0x13 (.inr (.inr (.inl ⟨⟨[], rfl⟩, rfl⟩)))
  obtain ⟨t, ht, ⟨z, hz, hlane⟩, -⟩ := hno sessionLane_admits (by decide +kernel)
  have hstate : t = sessionState.onSvc askedWithoutWorkshop fun x => x.keyChange askedWithoutWorkshop [] := (Host.Outcome.next.inj ht).symm
  have hsession : z.can.session = some idleSession := by
    rw [hz]
    exact sessionLane_session
  have hanswered := congrArg (fun y : Lane => y.can.session) hlane
  dsimp only at hanswered
  rw [Lane.respond_session, Lane.touch_session hsession rfl, hstate, sessionLane_stays_idle] at hanswered
  exact absurd hanswered (by decide)

end Sys2Proof.Machine

/-! Job commands: START, SUSPEND, RESUME, CANCEL and STATUS (R511, R525, R526, Table 20.2). -/

namespace Sys2Proof.Machine

/-! ## The states of the jobs -/

/-- A lane whose jobs stand as before: every job's state, and the one that runs. -/
def Lane.JobsKept (x y : Lane) : Prop := (∀ k, y.jobSt k = x.jobSt k) ∧ y.job.run = x.job.run

theorem Lane.JobsKept.refl (x : Lane) : x.JobsKept x := ⟨fun _ => rfl, rfl⟩

theorem Lane.JobsKept.trans {x y z : Lane} (h : x.JobsKept y) (h' : y.JobsKept z) : x.JobsKept z :=
  ⟨fun k => (h'.1 k).trans (h.1 k), h'.2.trans h.2⟩

theorem Lane.JobsKept.of_job {x y : Lane} (h : y.job = x.job) : x.JobsKept y := ⟨fun k => by unfold Lane.jobSt; rw [h], by rw [h]⟩

theorem Lane.request_jobsKept (x : Lane) (n : AxisId) (r : ProfReq) (o : ReqBy) : x.JobsKept (x.request n r o) := by
  unfold Lane.request
  split
  · exact Lane.JobsKept.refl x
  · split <;> exact Lane.JobsKept.of_job rfl

theorem Lane.stopJob_jobsKept (x : Lane) : x.JobsKept x.stopJob := by
  unfold Lane.stopJob
  split
  · split
    · exact Lane.request_jobsKept _ _ _ _
    · exact Lane.JobsKept.refl x
  · exact Lane.JobsKept.refl x

theorem Lane.cancelSwitch_jobsKept (x : Lane) : x.JobsKept x.cancelSwitch := by
  unfold Lane.cancelSwitch
  split
  · exact ⟨fun _ => rfl, rfl⟩
  · exact Lane.JobsKept.refl x

/-- One job has gone to a state with a cause; the others, and the one that runs, are as before. -/
def Lane.JobMoved (x y : Lane) (j st cause : Nat) : Prop :=
  y.jobSt j = { x.jobSt j with state := st, cause := cause } ∧ (∀ k, k ≠ j → y.jobSt k = x.jobSt k) ∧ y.job.run = x.job.run

theorem Lane.jobTo_moved (x : Lane) {j : Nat} (h : j < 10) (st cause : Nat) : x.JobMoved (x.jobTo j st cause) j st cause := by
  refine ⟨?_, fun k hk => ?_, ?_⟩
  · rw [Lane.jobTo_jobSt x h, if_pos rfl]
  · rw [Lane.jobTo_jobSt x h, if_neg hk]
  · rw [Lane.jobTo_frame]

theorem Lane.JobMoved.kept {x y z : Lane} {j st cause : Nat} (h : x.JobMoved y j st cause) (hk : y.JobsKept z) : x.JobMoved z j st cause := by
  obtain ⟨hj, hne, hrun⟩ := h
  exact ⟨(hk.1 j).trans hj, fun k h => (hk.1 k).trans (hne k h), hk.2.trans hrun⟩

theorem Lane.JobMoved.of_kept {w x y : Lane} {j st cause : Nat} (hk : w.JobsKept x) (h : x.JobMoved y j st cause) : w.JobMoved y j st cause := by
  obtain ⟨hj, hne, hrun⟩ := h
  exact ⟨hj.trans (by rw [hk.1 j]), fun k h => (hne k h).trans (hk.1 k), hrun.trans hk.2⟩

theorem Lane.JobMoved.answer {x y : Lane} {j st cause : Nat} (h : x.JobMoved y j st cause) : y.jobAnswer j = [byteOf st, byteOf cause] := by
  unfold Lane.jobAnswer
  rw [h.1]

theorem Lane.Took.jobsKept {x z : Lane} (h : x.Took z) : x.JobsKept z := Lane.JobsKept.of_job (by rw [h])

/-! ## SUSPEND, RESUME, CANCEL and STATUS (R526) -/

/-- What a job command does to a lane that admits it: nothing for a number outside 1 to 9. -/
def jobServed (j : Nat) (f : Lane → Served) (x : Lane) : Served := if j = 0 ∨ 9 < j then (x, 1, []) else f x

theorem jobServed_eq {j : Nat} (h1 : 1 ≤ j) (h9 : j ≤ 9) (f : Lane → Served) (x : Lane) : jobServed j f x = f x := if_neg (by omega)

/-- The job with SUSPEND: SUSPENDING, what it drives stopping. -/
def Lane.jobSuspended (x : Lane) (j : Nat) : Lane := (x.suspendJob j (Config.unnamedCause 0) false).cancelSwitch

theorem Lane.jobSuspended_moved (x : Lane) {j : Nat} (h : j < 10) : x.JobMoved (x.jobSuspended j) j 2 (Config.unnamedCause 0) := by
  refine Lane.JobMoved.kept ?_ (Lane.cancelSwitch_jobsKept _)
  unfold Lane.suspendJob
  dsimp only
  split
  · exact (x.jobTo_moved h _ _).kept (Lane.stopJob_jobsKept _)
  · exact x.jobTo_moved h _ _

def Lane.suspendServed (x : Lane) (j : Nat) : Served :=
  if (x.jobSt j).state ≠ 1 then refused x 21 else (x.jobSuspended j, 0, (x.jobSuspended j).jobAnswer j)

def Lane.resumeServed (x : Lane) (j : Nat) : Served :=
  if (x.jobSt j).state ≠ 3 then refused x 21
  else
    match x.startRefusal j (if j = 9 then 0xFF else x.job.axis) true true with
    | some c => refused x c
    | none =>
      if ((j = 1 ∨ j = 2) ∧ !x.noChatter) ∨ (j = 7 ∧ x.job.fw.stand ∧ !x.standReady) then refused x 21
      else (x.jobTo j 4 0, 0, (x.jobTo j 4 0).jobAnswer j)

/-- RESUME of a suspended job that the lane's state refuses: a switch in CHATTER, or the standstill switch without its conditions (R526, R540). -/
def Lane.resumeBlocked (x : Lane) (j : Nat) : Prop := ((j = 1 ∨ j = 2) ∧ x.noChatter = false) ∨ (j = 7 ∧ x.job.fw.stand ∧ x.standReady = false)

section
variable {x : Lane} {j : Nat} (hst : (x.jobSt j).state = 3)
include hst

theorem Lane.resumeServed_refused {c : Nat} (hr : x.startRefusal j (if j = 9 then 0xFF else x.job.axis) true true = some c) :
    x.resumeServed j = refused x c := by
  unfold Lane.resumeServed
  rw [if_neg (Classical.not_not.mpr hst), hr]

theorem Lane.resumeServed_blocked (hr : x.startRefusal j (if j = 9 then 0xFF else x.job.axis) true true = none) (hb : x.resumeBlocked j) :
    x.resumeServed j = refused x 21 := by
  unfold Lane.resumeServed
  rw [if_neg (Classical.not_not.mpr hst), hr]
  exact if_pos (by simpa [Lane.resumeBlocked] using hb)

theorem Lane.resumeServed_resumed (hr : x.startRefusal j (if j = 9 then 0xFF else x.job.axis) true true = none) (hb : ¬ x.resumeBlocked j) :
    x.resumeServed j = (x.jobTo j 4 0, 0, (x.jobTo j 4 0).jobAnswer j) := by
  unfold Lane.resumeServed
  rw [if_neg (Classical.not_not.mpr hst), hr]
  exact if_neg (by simpa [Lane.resumeBlocked] using hb)

end

/-- The job with CANCEL: CANCELLING with cause 11, what it drives stopping. -/
def Lane.jobCancelled (x : Lane) (j : Nat) : Lane :=
  let y := if (x.jobTo j 5 11).job.run = some j then (x.jobTo j 5 11).stopJob else x.jobTo j 5 11
  if j = 8 then { y with job := { y.job with rg := { y.job.rg with back := some 11 } } } else y

theorem Lane.jobCancelled_moved (x : Lane) {j : Nat} (h : j < 10) : x.JobMoved (x.jobCancelled j) j 5 11 := by
  have hstop : x.JobMoved (if (x.jobTo j 5 11).job.run = some j then (x.jobTo j 5 11).stopJob else x.jobTo j 5 11) j 5 11 := by
    split
    · exact (x.jobTo_moved h _ _).kept (Lane.stopJob_jobsKept _)
    · exact x.jobTo_moved h _ _
  unfold Lane.jobCancelled
  dsimp only
  split
  · exact hstop.kept ⟨fun _ => rfl, rfl⟩
  · exact hstop

def Lane.cancelServed (x : Lane) (j : Nat) : Served :=
  if !([1, 2, 3, 4].contains (x.jobSt j).state) then refused x 21 else (x.jobCancelled j, 0, (x.jobCancelled j).jobAnswer j)

section
variable (s : State) (h : SvcHdr) (j : Nat)

theorem exec_jobSuspend : exec (.jobSuspend h j) s = .next (s.onSvc h fun x => x.serve h 3 true true (jobServed j fun z => z.suspendServed j)) := rfl

theorem exec_jobResume : exec (.jobResume h j) s = .next (s.onSvc h fun x => x.serve h 3 true true (jobServed j fun z => z.resumeServed j)) := rfl

theorem exec_jobCancel : exec (.jobCancel h j) s = .next (s.onSvc h fun x => x.serve h 3 true true (jobServed j fun z => z.cancelServed j)) := rfl

theorem exec_jobStatus :
    exec (.jobStatus h j) s = .next (s.onSvc h fun x => x.serve h 3 false false (jobServed j fun z => (z, 0, z.jobAnswer j))) := rfl

end

/-! ## START (R525) -/

theorem Lane.modJob_jobSt (x : Lane) {j : Nat} (h : j < 10) (f : JobSt → JobSt) (k : Nat) :
    (x.modJob j f).jobSt k = if k = j then f (x.jobSt j) else x.jobSt k := by
  simp [Lane.modJob, h, Lane.jobSt, Tab.getD_modify]

theorem Lane.modJob_run (x : Lane) (j : Nat) (f : JobSt → JobSt) : (x.modJob j f).job.run = x.job.run := by
  unfold Lane.modJob
  split <;> rfl

/-- A job has begun: RUNNING with cause 0 from tick 0, and the other jobs as before. -/
def Lane.JobBegun (x y : Lane) (j : Nat) : Prop :=
  y.jobSt j = { state := 1, cause := 0, ticks := 0 } ∧ (∀ k, k ≠ j → y.jobSt k = x.jobSt k) ∧ y.job.run = if j = 9 then x.job.run else some j

theorem Lane.JobBegun.kept {w x y z : Lane} {j : Nat} (hw : w.JobsKept x) (h : x.JobBegun y j) (hz : y.JobsKept z) : w.JobBegun z j := by
  obtain ⟨hj, hne, hrun⟩ := h
  exact ⟨(hz.1 j).trans hj, fun k hk => ((hz.1 k).trans (hne k hk)).trans (hw.1 k), (hz.2.trans hrun).trans (by rw [hw.2])⟩

/-- The lane takes the job's axis: in UNSEALED a driving job from standstill, and a motion job with its profile. -/
def Lane.jobSeated (l : Lane) (j : Nat) : Lane :=
  match l.jobAxis with
  | some n =>
    let l : Lane := if l.start.state = LState.unsealed ∧ drivingJob j then
        let x := l.measured n * 65536
        ((l.modProf n fun p => { p.atRest with x := x }).modSup n fun s => { s with b := x, d := x }).modPwm n fun w => { w with job := true }
      else l
    if motionJob j then l.modProf n fun p => { p.takeUp with jobOwns := true } else l
  | none => l

theorem Lane.jobSeated_job (x : Lane) (j : Nat) : (x.jobSeated j).job = x.job := by
  unfold Lane.jobSeated
  split
  · dsimp only
    split <;> split <;> rfl
  · rfl

theorem Lane.startJob_begun (x : Lane) {j : Nat} (h : j < 10) (axis : Nat) : x.JobBegun (x.startJob j axis) j := by
  have hzero (k : Nat) : (x.modJob j fun s => { s with ticks := 0 }).jobSt k = if k = j then { x.jobSt j with ticks := 0 } else x.jobSt k :=
    x.modJob_jobSt h _ k
  by_cases h9 : j = 9
  · subst h9
    have hs : x.startJob 9 axis = (x.modJob 9 fun s => { s with ticks := 0 }).jobTo 9 1 0 := by
      unfold Lane.startJob
      exact if_pos rfl
    obtain ⟨hj, hne, hrun⟩ := (x.modJob 9 fun s => { s with ticks := 0 }).jobTo_moved h 1 0
    rw [hs]
    refine ⟨hj.trans ?_, fun k hk => (hne k hk).trans ?_, hrun.trans ?_⟩
    · rw [hzero, if_pos rfl]
    · rw [hzero, if_neg hk]
    · rw [Lane.modJob_run, if_pos rfl]
  · obtain ⟨y, hy, hst, hrun⟩ : ∃ y : Lane, x.startJob j axis = ((y.jobSeated j).modJob 1 fun s => s).jobTo j 1 0 ∧
        (∀ k, y.jobSt k = (x.modJob j fun s => { s with ticks := 0 }).jobSt k) ∧ y.job.run = some j :=
      ⟨_, if_neg h9, fun _ => rfl, rfl⟩
    have hkept : y.JobsKept ((y.jobSeated j).modJob 1 fun s => s) := by
      refine (Lane.JobsKept.of_job (y.jobSeated_job j)).trans ⟨fun k => ?_, Lane.modJob_run _ _ _⟩
      rw [Lane.modJob_jobSt _ (by decide)]
      split
      · next hk => rw [hk]
      · rfl
    obtain ⟨hj, hne, hr⟩ := Lane.JobMoved.of_kept hkept (Lane.jobTo_moved _ h 1 0)
    rw [hy]
    refine ⟨hj.trans ?_, fun k hk => (hne k hk).trans ?_, hr.trans ?_⟩
    · rw [hst, hzero, if_pos rfl]
    · rw [hst, hzero, if_neg hk]
    · rw [hrun, if_neg h9]

/-- The lane that notes which job it has refused (R525). -/
def Lane.notesRefused (x : Lane) (j axis : Nat) : Lane :=
  { x with job := { x.job with refused := if x.start.state == .operate && j != 9 && !x.subjectAbsent j axis then some j else x.job.refused } }

theorem Lane.notesRefused_job (x : Lane) (j axis : Nat) :
    (x.notesRefused j axis).job = { x.job with
      refused := if x.start.state = .operate ∧ j ≠ 9 ∧ x.subjectAbsent j axis = false then some j else x.job.refused } := by
  unfold Lane.notesRefused
  simp only [Bool.and_eq_true, beq_iff_eq, bne_iff_ne, Bool.not_eq_true', and_assoc]

/-- What START does to a lane that admits it. -/
def Lane.startServed (x : Lane) (h : SvcHdr) (j axis : Nat) : Served :=
  match (x.takeParams j).startRefusal j axis (h.target == 3) false with
  | some c => refused (x.notesRefused j axis) c
  | none => ((x.takeParams j).startJob j axis, 0, ((x.takeParams j).startJob j axis).jobAnswer j)

theorem Lane.startServed_refused {x : Lane} {h : SvcHdr} {j axis c : Nat} (hr : (x.takeParams j).startRefusal j axis (h.target == 3) false = some c) :
    x.startServed h j axis = (x.notesRefused j axis, 4, [byteOf c]) := by
  unfold Lane.startServed
  rw [hr]
  rfl

theorem Lane.startServed_started {x : Lane} {h : SvcHdr} {j axis : Nat} (hr : (x.takeParams j).startRefusal j axis (h.target == 3) false = none)
    (hj : j < 10) : x.startServed h j axis = ((x.takeParams j).startJob j axis, 0, [1, 0]) := by
  unfold Lane.startServed
  rw [hr]
  dsimp only
  unfold Lane.jobAnswer
  rw [((x.takeParams j).startJob_begun hj axis).1]
  rfl

theorem exec_jobStart (s : State) (h : SvcHdr) (j axis : Nat) :
    exec (.jobStart h j axis) s =
      .next (s.onSvc h fun x => x.serve h 3 true true (jobServed j fun z => z.startServed h j axis)).noteExport := rfl

/-- Whether START of a job is refused does not rest on the lane's CAN functions. -/
theorem Lane.Took.startRefusal {x z : Lane} (hz : x.Took z) (j axis : Nat) (all : Bool) :
    (z.takeParams j).startRefusal j axis all false = (x.takeParams j).startRefusal j axis all false := by
  rw [hz, Lane.takeParams_can, Lane.startRefusal_can]

theorem Lane.Took.resumeRefusal {x z : Lane} (hz : x.Took z) (j : Nat) :
    z.startRefusal j (if j = 9 then 0xFF else z.job.axis) true true = x.startRefusal j (if j = 9 then 0xFF else x.job.axis) true true := by
  have haxis : z.job.axis = x.job.axis := by rw [hz]
  rw [haxis, hz, Lane.startRefusal_can]

theorem Lane.Took.resumeBlocked {x z : Lane} (hz : x.Took z) (j : Nat) : z.resumeBlocked j ↔ x.resumeBlocked j := by
  have hchatter : z.noChatter = x.noChatter := by rw [hz]; rfl
  have hready : z.standReady = x.standReady := by rw [hz]; rfl
  have hstand : z.job.fw.stand = x.job.fw.stand := by rw [hz]
  unfold Lane.resumeBlocked
  rw [hchatter, hready, hstand]

/-! ## The commands as the obligation names them -/

section
variable {s : State} {l : LaneId} {h : SvcHdr} {j : Nat} {st cause : Nat} {session workshop : Bool} {c : Instr} {f : Lane → Served} {g : Lane → Lane}

/-- A job command that moves its job to a state, and answers with it. -/
theorem job_answered (hadm : (s.lane l).Admits h session workshop)
    (hc : exec c s = .next (s.onSvc h fun x => x.serve h 3 session workshop (jobServed j f))) (h1 : 1 ≤ j) (h9 : j ≤ 9)
    (hf : ∀ z, (s.lane l).Took z → f z = (g z, 0, (g z).jobAnswer j)) (hg : ∀ z : Lane, z.JobMoved (g z) j st cause) :
    ∃ t, exec c s = .next t ∧ (∃ e, s.Served t h l 3 0 [byteOf st, byteOf cause] e) ∧ (s.lane l).JobMoved (t.lanes.get l) j st cause := by
  have hserved : s.Served (s.onSvc h fun x => x.serve h 3 session workshop (jobServed j f)) h l 3 0 [byteOf st, byteOf cause] g := by
    refine State.onSvc_served rfl hadm fun z hz => ?_
    rw [jobServed_eq h1 h9, hf z hz, (hg z).answer]
  refine ⟨_, hc, ⟨_, hserved⟩, ?_⟩
  obtain ⟨z, hz, ht⟩ := hserved.lane
  refine (Lane.JobMoved.of_kept hz.jobsKept (hg z)).kept (Lane.JobsKept.of_job ?_)
  rw [ht]

/-- A job command that is refused with a cause, and changes nothing. -/
theorem job_refused (hadm : (s.lane l).Admits h session workshop)
    (hc : exec c s = .next (s.onSvc h fun x => x.serve h 3 session workshop (jobServed j f))) (h1 : 1 ≤ j) (h9 : j ≤ 9)
    (hf : ∀ z, (s.lane l).Took z → f z = refused z cause) :
    ∃ t, exec c s = .next t ∧ s.Served t h l 3 4 [byteOf cause] fun z => z := by
  refine ⟨_, hc, State.onSvc_served rfl hadm fun z hz => ?_⟩
  rw [jobServed_eq h1 h9, hf z hz]
  rfl

end

/-- Settles O57: every job command by the state of its job. -/
theorem jobCommandsChangeTheState : Obligations.JobCommandsChangeTheState := by
  unfold Obligations.JobCommandsChangeTheState
  rintro s l x h j rfl h1 h9
  intro answered refusedWith
  have h10 : j < 10 := by omega
  refine ⟨fun hadm => ⟨?_, ?_, ?_, ?_, ?_, ?_, ?_, ?_, ?_, ?_⟩, fun hadm => ⟨?_, fun k hk => ?_⟩⟩
  · intro axis hok
    have hserved : s.Served (s.onSvc h fun x => x.serve h 3 true true (jobServed j fun z => z.startServed h j axis)) h l 3 0 [1, 0]
        fun z => (z.takeParams j).startJob j axis := by
      refine State.onSvc_served rfl hadm fun z hz => ?_
      rw [jobServed_eq h1 h9, Lane.startServed_started (by rw [hz.startRefusal, hok]) h10]
    obtain ⟨⟨z, hz, ht⟩, -⟩ := hserved
    have hbegun : (s.lane l).JobBegun ((s.onSvc h fun x => x.serve h 3 true true (jobServed j fun z => z.startServed h j axis)).lanes.get l) j := by
      have htaken : (s.lane l).JobsKept (z.takeParams j) := hz.jobsKept.trans (Lane.JobsKept.of_job rfl)
      have hlane := ht.trans (Lane.respond_can _ _ _ _ _)
      rw [Lane.touch_can] at hlane
      refine Lane.JobBegun.kept htaken ((z.takeParams j).startJob_begun h10 axis) (Lane.JobsKept.of_job ?_)
      rw [hlane]
    obtain ⟨hj, hne, hrun⟩ := hbegun
    exact ⟨_, z, exec_jobStart s h j axis, hz, hj, hne, hrun, ht, rfl⟩
  · intro axis c hno
    have hserved : s.Served (s.onSvc h fun x => x.serve h 3 true true (jobServed j fun z => z.startServed h j axis)) h l 3 4 [byteOf c]
        fun z => z.notesRefused j axis := by
      refine State.onSvc_served rfl hadm fun z hz => ?_
      rw [jobServed_eq h1 h9, Lane.startServed_refused (by rw [hz.startRefusal, hno])]
    obtain ⟨⟨z, hz, ht⟩, -⟩ := hserved
    have hjob := congrArg Lane.job ht
    rw [Lane.respond_can, Lane.touch_can] at hjob
    have hnote : (z.notesRefused j axis).job = { (s.lane l).job with
        refused := if (s.lane l).start.state = .operate ∧ j ≠ 9 ∧ (s.lane l).subjectAbsent j axis = false then some j else (s.lane l).job.refused } := by
      rw [hz]
      exact (s.lane l).notesRefused_job j axis
    refine ⟨_, exec_jobStart s h j axis, rfl, rfl, hjob.trans hnote, z.notesRefused j axis, ?_, ht⟩
    have hsame : z.notesRefused j axis = { s.lane l with can := z.can, job := (z.notesRefused j axis).job } := by
      unfold Lane.notesRefused
      rw [hz]
    exact hsame.trans (congrArg (fun k => { s.lane l with can := z.can, job := k }) hjob.symm)
  · intro hst
    refine ⟨Config.unnamedCause 0, job_answered (g := fun z => z.jobSuspended j) hadm (exec_jobSuspend s h j) h1 h9 (fun z hz => if_neg (Classical.not_not.mpr ?_)) fun z => z.jobSuspended_moved h10⟩
    rw [hz.jobsKept.1, hst]
  · intro hst
    refine job_refused hadm (exec_jobSuspend s h j) h1 h9 fun z hz => if_pos ?_
    rwa [hz.jobsKept.1]
  · intro hst hok hch hstand
    refine job_answered (g := fun z => z.jobTo j 4 0) hadm (exec_jobResume s h j) h1 h9 (fun z hz => ?_) fun z => z.jobTo_moved h10 4 0
    refine Lane.resumeServed_resumed (by rw [hz.jobsKept.1, hst]) (by rw [hz.resumeRefusal, hok]) ?_
    rw [hz.resumeBlocked]
    rintro (⟨hj, hb⟩ | ⟨hj, hs, hb⟩)
    · exact absurd (hch hj) (by simp [hb])
    · exact absurd (hstand hj hs) (by simp [hb])
  · intro c hst hno
    exact job_refused hadm (exec_jobResume s h j) h1 h9 fun z hz =>
      Lane.resumeServed_refused (by rw [hz.jobsKept.1, hst]) (by rw [hz.resumeRefusal, hno])
  · intro hst hok hno
    exact job_refused hadm (exec_jobResume s h j) h1 h9 fun z hz =>
      Lane.resumeServed_blocked (by rw [hz.jobsKept.1, hst]) (by rw [hz.resumeRefusal, hok]) (by rw [hz.resumeBlocked]; exact hno)
  · intro hst
    refine job_refused hadm (exec_jobResume s h j) h1 h9 fun z hz => if_pos ?_
    rwa [hz.jobsKept.1]
  · intro hlo hhi
    refine job_answered (g := fun z => z.jobCancelled j) hadm (exec_jobCancel s h j) h1 h9 (fun z hz => if_neg ?_) fun z => z.jobCancelled_moved h10
    rw [hz.jobsKept.1]
    simp
    omega
  · intro hst
    refine job_refused hadm (exec_jobCancel s h j) h1 h9 fun z hz => if_pos ?_
    rw [hz.jobsKept.1]
    simp
    omega
  · refine ⟨_, exec_jobStatus s h j, State.onSvc_served rfl hadm fun z hz => ?_⟩
    rw [jobServed_eq h1 h9]
    unfold Lane.jobAnswer
    rw [hz.jobsKept.1]
  · exact ⟨_, exec_jobStatus s h k, State.onSvc_served rfl hadm fun z _ => if_pos hk⟩

end Sys2Proof.Machine

/-! JOB.RESTART, the restart after a yield, tag writes and the end of CENTRE_FIND (R113, R204, R222, R535, R539, R554). -/

namespace Sys2Proof.Machine

/-! ## JOB.RESTART and the restart it brings (R554) -/

/-- A lane that yields what it holds and then restarts (R554). -/
def Lane.leaving (x : Lane) : Lane :=
  { x with
    lease := { x.lease with yieldPlan := x.held.map (·.val), rotating := false, stopping := true }
    start := { x.start with restart := true } }

theorem Lane.leaveAndRestart_operate {x : Lane} (h : x.start.state = .operate) : x.leaveAndRestart = x.leaving := if_pos h

theorem Lane.leaveAndRestart_outside {x : Lane} (h : x.start.state ≠ .operate) :
    x.leaveAndRestart = { x with start := { x.start with restartNow := true } } := if_neg h

/-- What a write of JOB.RESTART does to a lane that admits it. -/
def Lane.restartServed (x : Lane) (value : Nat) : Served :=
  if value ≠ 1 then refused x (Config.unnamedCause 4)
  else if x.start.state = .operate ∧ x.service < 3 then refused x 10
  else (x.leaveAndRestart, 0, [])

theorem Lane.restartServed_left {x : Lane} (h : ¬ (x.start.state = .operate ∧ x.service < 3)) : x.restartServed 1 = (x.leaveAndRestart, 0, []) := by
  unfold Lane.restartServed
  rw [if_neg (by decide), if_neg h]

theorem Lane.restartServed_refused {x : Lane} (h : x.start.state = .operate ∧ x.service < 3) : x.restartServed 1 = (x, 4, [10]) := by
  unfold Lane.restartServed
  rw [if_neg (by decide), if_pos h]
  rfl

theorem exec_jobRestart (s : State) (h : SvcHdr) (v : Nat) :
    exec (.jobRestart h v) s = .next (s.onSvc h fun x => x.serve h 2 true true fun z => z.restartServed v) := rfl

theorem Lane.Took.service {x z : Lane} (h : x.Took z) : z.service = x.service := by
  rw [h]
  rfl

theorem Lane.Took.start {x z : Lane} (h : x.Took z) : z.start = x.start := by rw [h]

theorem Lane.Took.held {x z : Lane} (h : x.Took z) : z.held = x.held := by
  rw [h]
  rfl

/-- The lane with its slot record written, restarted by itself (R539). -/
theorem Lane.putSlotRec_restarted (x : Lane) (r : SlotRec) :
    ((x.putSlotRec r).reset .laneRestart).slotRec = r ∧
      Lane.Restarted { x with nvm := { x.nvm with slotRec := ((x.putSlotRec r).reset .laneRestart).nvm.slotRec } }
        ((x.putSlotRec r).reset .laneRestart) .laneRestart := by
  have hrestarted := (x.putSlotRec r).reset_restarted .laneRestart
  have hrec : ((x.putSlotRec r).reset .laneRestart).nvm.slotRec = x.nvm.slotRec.write r := by
    rw [hrestarted.1]
    rfl
  refine ⟨?_, ?_⟩
  · unfold Lane.slotRec
    rw [hrec, NvItem.read_write]
  · rw [hrec]
    exact hrestarted

/-- The slot record of a lane that switches to its other slot (R539). -/
def Lane.switchedRec (x : Lane) : SlotRec :=
  { x.slotRec with slot := 1 - x.start.slot % 2, oldSlot := some (x.start.slot % 2), order := x.cfg.jobOrder, joinMax := x.cfg.jobJoinmax }

theorem Lane.fwRestart_eq {x : Lane} (h : x.job.fw.switched = false) : x.fwRestart = (x.putSlotRec x.switchedRec).reset .laneRestart := by
  unfold Lane.fwRestart
  dsimp only
  rw [h, if_neg Bool.false_ne_true]
  rfl

theorem Lane.fwRestart_restarted {x : Lane} (h : x.job.fw.switched = false) :
    x.fwRestart.slotRec = x.switchedRec ∧ Lane.Restarted { x with nvm := { x.nvm with slotRec := x.fwRestart.nvm.slotRec } } x.fwRestart .laneRestart := by
  rw [Lane.fwRestart_eq h]
  exact x.putSlotRec_restarted _

theorem Lane.restartAfterYield_step {x : Lane} (hs : x.start.state = .stopped) (hr : x.start.restart) (hc : ∀ n, (x.ax n).counter = 0) :
    x.restartAfterYield = x.restartStep := if_pos ⟨hs, hr, List.all_eq_true.mpr fun n _ => by simp [hc n]⟩

theorem Lane.restartAfterYield_waits {x : Lane} (h : ∃ n, (x.ax n).counter ≠ 0) : x.restartAfterYield = x := by
  obtain ⟨n, hn⟩ := h
  exact if_neg fun ⟨_, _, hall⟩ => hn (by simpa using List.all_eq_true.mp hall n (mem_allAxes n))

/-! ## Tag writes (R113, R535) -/

/-- The tag of an owner replaced by one with a new calibration area. -/
def GatherPart.withTag (g : GatherPart) (o : Sum (Nat × Nat) Nat) (t : TagBytes) : GatherPart :=
  match o with
  | .inl (n, k) =>
    if h : n < 12 then { g with
      tags := g.tags.modify ⟨n, h⟩ fun ts => ts.set k (some t)
      calJournal := g.calJournal.modify ⟨n, h⟩ fun js => js.set k false } else g
  | .inr i => if h : i < 8 then { g with sensorTags := g.sensorTags.set ⟨i, h⟩ (some t) } else g

/-- A copy of a calibration area taken into the journal: in the place of the one with its key, else behind the others (R112). -/
def copyKept (cals : List (NvItem CalCopy)) (copy : CalCopy) : List (NvItem CalCopy) :=
  let has (c : NvItem CalCopy) : Bool := match c.read? with | some x => x.key == copy.key | none => false
  if cals.any has then cals.map fun c => if has c then c.write copy else c else cals ++ [({} : NvItem CalCopy).write copy]

theorem mem_copyKept (cals : List (NvItem CalCopy)) (copy : CalCopy) : ∃ c ∈ copyKept cals copy, c.read? = some copy := by
  unfold copyKept
  extract_lets has
  split
  · next hany =>
    obtain ⟨c, hc, hhas⟩ := List.any_eq_true.mp hany
    exact ⟨c.write copy, List.mem_map.mpr ⟨c, hc, if_pos hhas⟩, NvItem.read?_write _ _⟩
  · exact ⟨_, List.mem_append_right _ (List.mem_singleton.mpr rfl), NvItem.read?_write _ _⟩

theorem Lane.keepCal_eq {x : Lane} {w : TagWrite} {tag : TagBytes} (ht : x.tagOfOwner w.owner = some tag) :
    x.keepCal w = { x with
      gat := x.gat.withTag w.owner (tag.take 96 ++ w.data)
      nvm := { x.nvm with cals := copyKept x.nvm.cals { key := slice tag 4 23, data := w.data } } } := by
  unfold Lane.keepCal
  rw [ht]
  rfl

theorem Tab.getD_of_ge {n : Nat} {α : Type} (t : Tab n α) {i : Nat} (h : n ≤ i) (d : α) : t.getD i d = d := by simp [Tab.getD, t.len, h]

theorem getD_set_of_some {α : Type} {ts : List (Option α)} {k : Nat} {t : α} (h : ts.getD k none = some t) (v : α) :
    (ts.set k (some v)).getD k none = some v := by
  have hk : k < ts.length := Decidable.byContradiction fun hge => by
    simp [List.getD_eq_getElem?_getD, List.getElem?_eq_none (Nat.le_of_not_lt hge)] at h
  simp [List.getD_eq_getElem?_getD, hk]

/-- An owner that has a tag has the one it is given. -/
theorem Lane.withTag_tagOfOwner {x y : Lane} {o : Sum (Nat × Nat) Nat} {t v : TagBytes} (ht : x.tagOfOwner o = some t) (hy : y.gat = x.gat.withTag o v) :
    y.tagOfOwner o = some v := by
  unfold Lane.tagOfOwner at ht ⊢
  rw [hy]
  unfold GatherPart.withTag
  match o, ht with
  | .inl (n, k), ht =>
    dsimp only at ht ⊢
    by_cases hn : n < 12
    · rw [dif_pos hn, Tab.getD_modify, if_pos rfl]
      exact getD_set_of_some ht v
    · rw [Tab.getD_of_ge _ (Nat.le_of_not_lt hn)] at ht
      simp at ht
  | .inr i, ht =>
    dsimp only at ht ⊢
    by_cases hi : i < 8
    · rw [dif_pos hi]
      exact (Tab.getD_val _ (⟨i, hi⟩ : Fin 8) none).trans (Tab.get_set_self ..)
    · rw [Tab.getD_of_ge _ (Nat.le_of_not_lt hi)] at ht
      simp at ht

theorem Lane.keepCal_keeps (x : Lane) (w : TagWrite) : x.keepCal w = { x with gat := (x.keepCal w).gat, nvm := { x.nvm with cals := (x.keepCal w).nvm.cals } } := by
  unfold Lane.keepCal
  split <;> rfl

theorem Lane.tagWriteDone_good {x : Lane} {j : Nat} {w : TagWrite} {ws : List TagWrite} (hr : x.job.run = some j) (hw : x.job.writes = w :: ws) :
    x.tagWriteDone true =
      let y := ({ x with gat := { x.gat with idPower := !ws.isEmpty } } : Lane).keepCal w
      { y with job := { y.job with writes := ws, written := ws.isEmpty, writtenAt := y.tick.count, toldAt := none } } := by
  unfold Lane.tagWriteDone
  rw [hr, hw]
  rfl

theorem Lane.tagWriteDone_bad {x : Lane} {j : Nat} {w : TagWrite} {ws : List TagWrite} (hr : x.job.run = some j) (hw : x.job.writes = w :: ws)
    (hb : (x.jobSt j).busy) : x.tagWriteDone false = ({ x with gat := { x.gat with idPower := false } } : Lane).failJob j 7 := by
  unfold Lane.tagWriteDone
  rw [hr, hw]
  exact if_pos hb

/-! ## A job that ends (R526, R551) -/

theorem Lane.stopJob_keeps (x : Lane) : x.stopJob = { x with prof := x.stopJob.prof } := by
  unfold Lane.stopJob Lane.request
  split
  · split
    · split
      · rfl
      · split <;> rfl
    · rfl
  · rfl

theorem Lane.releaseJob_keeps (x : Lane) :
    x.releaseJob = { x with
      gat := { x.gat with idPower := x.gat.idPower && x.start.state == .gather }
      prof := x.releaseJob.prof, sup := x.releaseJob.sup, pwm := x.releaseJob.pwm
      job := { x.job with run := none, axis := 0xFF, writes := [], partner := false, partnerSusp := none } } := by
  unfold Lane.releaseJob
  split
  · dsimp only
    split
    · rw [Lane.stopJob_keeps]
      rfl
    · rfl
  · rfl

/-- The lane that has reported a job's failure, the checkpoint of FW_LOAD cleared with it (R539, R551). -/
def Lane.failNoted (x : Lane) (j cause : Nat) : Lane :=
  let y := if j = 1 then x.raise .job020 (.axis x.job.axis) cause else x.raiseJob .job001 j cause
  if j = 7 then y.clearSlotCkpt else y

theorem Lane.failJob_eq (x : Lane) (j cause : Nat) :
    x.failJob j cause =
      if ((x.failNoted j cause).jobTo j 7 cause).job.run = some j then ((x.failNoted j cause).jobTo j 7 cause).releaseJob
      else (x.failNoted j cause).jobTo j 7 cause := rfl

theorem Lane.failNoted_keeps (x : Lane) (j cause : Nat) :
    x.failNoted j cause = { x with col := { x.col with raised := (x.failNoted j cause).col.raised }
                                   nvm := { x.nvm with slotRec := (x.failNoted j cause).nvm.slotRec } } := by
  unfold Lane.failNoted
  dsimp only
  split <;> split <;> rfl

theorem Lane.raise_reports (x : Lane) (ev : Ev) (sub : Subject) (v : Int) : ∃ r ∈ (x.raise ev sub v).col.raised, r.ev = ev ∧ r.subj = sub :=
  ⟨_, List.mem_append_right _ (List.mem_singleton.mpr rfl), rfl, rfl⟩

theorem Lane.raiseJob_reports (x : Lane) (ev : Ev) (j : Nat) (v : Int) : ∃ r ∈ (x.raiseJob ev j v).col.raised, r.ev = ev ∧ r.subj = .job j :=
  ⟨_, List.mem_append_right _ (List.mem_singleton.mpr rfl), rfl, rfl⟩

theorem Lane.failNoted_reports (x : Lane) (j cause : Nat) :
    ∃ r ∈ (x.failNoted j cause).col.raised, (j = 1 → r.ev = .job020 ∧ r.subj = .axis x.job.axis) ∧ (j ≠ 1 → r.ev = .job001 ∧ r.subj = .job j) := by
  have hcol : (x.failNoted j cause).col = (if j = 1 then x.raise .job020 (.axis x.job.axis) cause else x.raiseJob .job001 j cause).col := by
    unfold Lane.failNoted
    dsimp only
    split <;> rfl
  rw [hcol]
  by_cases h1 : j = 1
  · obtain ⟨r, hr, hrep⟩ := x.raise_reports .job020 (.axis x.job.axis) cause
    refine ⟨r, ?_, fun _ => hrep, fun h => absurd h1 h⟩
    rwa [if_pos h1]
  · obtain ⟨r, hr, hrep⟩ := x.raiseJob_reports .job001 j cause
    refine ⟨r, ?_, fun h => absurd h h1, fun _ => hrep⟩
    rwa [if_neg h1]

/-- A job of the lane that has ended in a state with a cause, and let go of its axis. -/
def Lane.JobEnded (x y : Lane) (j st cause : Nat) : Prop :=
  y.jobSt j = { x.jobSt j with state := st, cause := cause } ∧ (∀ k, k ≠ j → y.jobSt k = x.jobSt k) ∧ y.job.run = none ∧ y.job.writes = []

theorem Lane.JobMoved.released {x y : Lane} {j st cause : Nat} (h : x.JobMoved y j st cause) : x.JobEnded y.releaseJob j st cause := by
  obtain ⟨hj, hne, -⟩ := h
  exact ⟨(y.releaseJob_jobSt j).trans hj, fun k hk => (y.releaseJob_jobSt k).trans (hne k hk), rfl, rfl⟩

/-- The running job fails with a cause (R551). -/
theorem Lane.failJob_ended {x : Lane} {j : Nat} (hj : j < 10) (hr : x.job.run = some j) (cause : Nat) :
    x.failJob j cause = ((x.failNoted j cause).jobTo j 7 cause).releaseJob ∧ x.JobEnded (x.failJob j cause) j 7 cause := by
  have hnoted : x.JobsKept (x.failNoted j cause) := by
    rw [Lane.failNoted_keeps]
    exact Lane.JobsKept.of_job rfl
  have hmoved : x.JobMoved ((x.failNoted j cause).jobTo j 7 cause) j 7 cause := Lane.JobMoved.of_kept hnoted (Lane.jobTo_moved _ hj 7 cause)
  have heq : x.failJob j cause = ((x.failNoted j cause).jobTo j 7 cause).releaseJob := by
    rw [Lane.failJob_eq]
    exact if_pos (hmoved.2.2.trans hr)
  refine ⟨heq, ?_⟩
  rw [heq]
  exact hmoved.released

/-- What a failed job leaves of what it drove and of the stores: the power of the tag bus off outside GATHER, its report, no calibration touched. -/
theorem Lane.failJob_leaves {x : Lane} {j : Nat} (hj : j < 10) (hr : x.job.run = some j) (cause : Nat) :
    (x.failJob j cause).gat = { x.gat with idPower := x.gat.idPower && x.start.state == .gather } ∧ (x.failJob j cause).nvm.cals = x.nvm.cals ∧
      ∃ r ∈ (x.failJob j cause).col.raised, (j = 1 → r.ev = .job020 ∧ r.subj = .axis x.job.axis) ∧ (j ≠ 1 → r.ev = .job001 ∧ r.subj = .job j) := by
  obtain ⟨r, hmem, hrep⟩ := x.failNoted_reports j cause
  rw [(Lane.failJob_ended hj hr cause).1, Lane.releaseJob_keeps, Lane.jobTo_frame]
  refine ⟨?_, ?_, r, hmem, hrep⟩
  · rw [Lane.failNoted_keeps]
  · rw [Lane.failNoted_keeps]

theorem Lane.doneJob_ended {x : Lane} {j : Nat} (hj : j < 10) (hr : x.job.run = some j) :
    x.doneJob j = ((x.raiseJob .job003 j 0).jobTo j 6 0).releaseJob ∧ x.JobEnded (x.doneJob j) j 6 0 := by
  have hmoved : x.JobMoved ((x.raiseJob .job003 j 0).jobTo j 6 0) j 6 0 :=
    Lane.JobMoved.of_kept (Lane.JobsKept.of_job rfl) (Lane.jobTo_moved _ hj 6 0)
  have heq : x.doneJob j = ((x.raiseJob .job003 j 0).jobTo j 6 0).releaseJob := if_pos (hmoved.2.2.trans hr)
  refine ⟨heq, ?_⟩
  rw [heq]
  exact hmoved.released

theorem Lane.doneJob_reports {x : Lane} {j : Nat} (hj : j < 10) (hr : x.job.run = some j) :
    ∃ r ∈ (x.doneJob j).col.raised, r.ev = .job003 ∧ r.subj = .job j := by
  rw [(Lane.doneJob_ended hj hr).1, Lane.releaseJob_keeps, Lane.jobTo_frame]
  exact x.raiseJob_reports .job003 j 0

/-! ## CENTRE_FIND ends (R204, R222) -/

/-- One axis's profile and supervision may have changed, but not its origin nor its set-point; no other axis's have. -/
def Lane.SetpointKept (x y : Lane) (n : AxisId) : Prop :=
  ((y.prof.get n).origin = (x.prof.get n).origin ∧ (y.sup.get n).b = (x.sup.get n).b ∧ (y.sup.get n).d = (x.sup.get n).d) ∧
    ∀ m, m ≠ n → y.prof.get m = x.prof.get m ∧ y.sup.get m = x.sup.get m

theorem Lane.SetpointKept.of_eq {x y : Lane} (hp : y.prof = x.prof) (hs : y.sup = x.sup) (n : AxisId) : x.SetpointKept y n := by
  unfold Lane.SetpointKept
  rw [hp, hs]
  exact ⟨⟨rfl, rfl, rfl⟩, fun _ _ => ⟨rfl, rfl⟩⟩

theorem Lane.SetpointKept.trans {x y z : Lane} {n : AxisId} (h : x.SetpointKept y n) (h' : y.SetpointKept z n) : x.SetpointKept z n := by
  obtain ⟨⟨ho, hb, hd⟩, hm⟩ := h
  obtain ⟨⟨ho', hb', hd'⟩, hm'⟩ := h'
  exact ⟨⟨ho'.trans ho, hb'.trans hb, hd'.trans hd⟩, fun m hne => ⟨(hm' m hne).1.trans (hm m hne).1, (hm' m hne).2.trans (hm m hne).2⟩⟩

theorem Lane.modProf_setpointKept (x : Lane) (n : AxisId) {f : Profile → Profile} (hf : (f (x.prof.get n)).origin = (x.prof.get n).origin) :
    x.SetpointKept (x.modProf n f) n := by
  refine ⟨⟨?_, rfl, rfl⟩, fun m hm => ⟨Tab.get_modify_ne _ _ hm, rfl⟩⟩
  rw [Lane.modProf_prof, Tab.get_modify_self, hf]

theorem Lane.modSup_setpointKept (x : Lane) (n : AxisId) {f : SupPart → SupPart} (hb : (f (x.sup.get n)).b = (x.sup.get n).b)
    (hd : (f (x.sup.get n)).d = (x.sup.get n).d) : x.SetpointKept (x.modSup n f) n := by
  refine ⟨⟨rfl, ?_, ?_⟩, fun m hm => ⟨rfl, Tab.get_modify_ne _ _ hm⟩⟩
  · rw [Lane.modSup_sup, Tab.get_modify_self, hb]
  · rw [Lane.modSup_sup, Tab.get_modify_self, hd]

theorem Lane.stopJob_setpointKept {x : Lane} {n : AxisId} (ha : x.jobAxis = some n) : x.SetpointKept x.stopJob n := by
  unfold Lane.stopJob
  rw [ha]
  split
  · next hm =>
    obtain rfl : n = _ := Option.some.inj hm
    split
    · unfold Lane.request
      split
      · exact .of_eq rfl rfl _
      · split
        · exact Lane.modProf_setpointKept _ _ rfl
        · exact Lane.modProf_setpointKept _ _ rfl
    · exact .of_eq rfl rfl _
  · exact .of_eq rfl rfl _

theorem Lane.releaseJob_setpointKept {x : Lane} {n : AxisId} (ha : x.jobAxis = some n) : x.SetpointKept x.releaseJob n := by
  unfold Lane.releaseJob
  rw [ha]
  split
  · next hm =>
    obtain rfl : n = _ := Option.some.inj hm
    dsimp only
    split
    · exact (((Lane.stopJob_setpointKept ha).trans (Lane.modProf_setpointKept _ _ rfl)).trans (Lane.modSup_setpointKept _ _ rfl rfl)).trans
        (.of_eq rfl rfl _)
    · exact .of_eq rfl rfl _
  · exact .of_eq rfl rfl _

theorem Lane.jobAxis_of {x : Lane} {n : AxisId} (h : x.job.axis = n.val) : x.jobAxis = some n := by
  unfold Lane.jobAxis
  rw [dif_pos (h ▸ n.isLt)]
  simp [h]

/-- The job lets go of its axis with its set-point as it stands. -/
theorem Lane.doneJob_setpointKept {x : Lane} {j : Nat} {n : AxisId} (hj : j < 10) (hr : x.job.run = some j) (ha : x.job.axis = n.val) :
    x.SetpointKept (x.doneJob j) n := by
  have hto : x.SetpointKept ((x.raiseJob .job003 j 0).jobTo j 6 0) n := by
    rw [Lane.jobTo_frame]
    exact .of_eq rfl rfl n
  have haxis : ((x.raiseJob .job003 j 0).jobTo j 6 0).jobAxis = some n := by
    rw [Lane.jobTo_frame]
    exact Lane.jobAxis_of ha
  rw [(Lane.doneJob_ended hj hr).1]
  exact hto.trans (Lane.releaseJob_setpointKept haxis)

/-- Every lane of the job is known to have written its tag before this tick (R222). -/
def Lane.centreReady (x : Lane) : Prop :=
  x.job.written ∧ x.job.writtenAt < x.tick.count ∧ ((x.jobPeers 1).isEmpty ∨ x.job.toldAt.any (· < x.tick.count)) ∧
    (x.jobPeers 1).all fun p => p.2.part && decide (p.2.partAt < x.tick.count)

theorem Lane.centreShift_waits {x : Lane} (h : ¬ x.centreReady) : x.centreShift = x := by
  unfold Lane.centreShift
  split
  · exact if_neg fun ⟨_, _, _, hw, ht, hp, ha⟩ => h ⟨hw, ht, hp, ha⟩
  · rfl

theorem Lane.centreShift_eq {x : Lane} {n : AxisId} {c : Int} (hr : x.job.run = some 1) (ha : x.job.axis = n.val) (hs : (x.jobSt 1).state = 1)
    (hp : x.job.cf.phase = 6) (hc : x.job.cf.c = some c) (hready : x.centreReady) : x.centreShift = ((x.shiftOrigin n c).clearUncert n).doneJob 1 := by
  obtain ⟨hw, ht, hpeers, hall⟩ := hready
  unfold Lane.centreShift
  rw [Lane.jobAxis_of ha, hc]
  exact if_pos ⟨hr, hs, hp, hw, ht, hpeers, hall⟩

/-- The origin of an axis shifted by the own C, its set-point by that of the lane that commands it (R222, R204). -/
theorem Lane.shiftOrigin_shifts (x : Lane) (n : AxisId) (c : Int) :
    (((x.shiftOrigin n c).prof.get n).origin = (x.prof.get n).origin + c * 65536 ∧ ((x.shiftOrigin n c).sup.get n).b = (x.sup.get n).b - fx (x.holderC n c) ∧
      ((x.shiftOrigin n c).sup.get n).d = (x.sup.get n).d - fx (x.holderC n c)) ∧
    ∀ m, m ≠ n → (x.shiftOrigin n c).prof.get m = x.prof.get m ∧ (x.shiftOrigin n c).sup.get m = x.sup.get m := by
  refine ⟨⟨?_, ?_, ?_⟩, fun m hm => ⟨Tab.get_modify_ne _ _ hm, Tab.get_modify_ne _ _ hm⟩⟩
  · exact congrArg Profile.origin (Tab.get_modify_self x.prof n _)
  · exact congrArg SupPart.b (Tab.get_modify_self x.sup n _)
  · exact congrArg SupPart.d (Tab.get_modify_self x.sup n _)

theorem Lane.doneJob_fbk (x : Lane) (j : Nat) : (x.doneJob j).fbk = x.fbk := by
  unfold Lane.doneJob
  dsimp only
  split
  · rw [Lane.releaseJob_keeps, Lane.jobTo_frame]
    rfl
  · rw [Lane.jobTo_frame]
    rfl

/-- Settles O58: JOB.RESTART, the restart after a yield, tag writes, and the origin shift that ends CENTRE_FIND. -/
theorem restartsAndTagWritesComplete : Obligations.RestartsAndTagWritesComplete := by
  unfold Obligations.RestartsAndTagWritesComplete
  rintro s l x rfl
  refine ⟨fun h hadm => ⟨fun hs hv => ?_, fun hs hv => ?_, fun hs => ?_, fun v hv => ?_⟩, fun hs hr => ⟨fun hc => ⟨fun hf hg => ?_, fun hj hb hf hw => ?_⟩, fun hc => ?_⟩,
    fun j w ws hr hw => ⟨?_, fun h1 h9 hb => ?_⟩, ?_⟩
  · refine ⟨_, exec_jobRestart s h 1, State.onSvc_served rfl hadm fun z hz => ?_⟩
    rw [Lane.restartServed_left (by rw [hz.service]; omega), Lane.leaveAndRestart_operate (by rw [hz.start, hs]), Lane.leaving, hz.held]
  · exact ⟨_, exec_jobRestart s h 1, State.onSvc_served rfl hadm fun z hz => Lane.restartServed_refused ⟨by rw [hz.start, hs], by rwa [hz.service]⟩⟩
  · refine ⟨_, exec_jobRestart s h 1, State.onSvc_served rfl hadm fun z hz => ?_⟩
    have hz' : z.start.state ≠ .operate := by rwa [hz.start]
    rw [Lane.restartServed_left fun h => hz' h.1, Lane.leaveAndRestart_outside hz']
  · exact ⟨_, byteOf (Config.unnamedCause 4), exec_jobRestart s h v, State.onSvc_served rfl hadm fun z _ => if_pos hv⟩
  · have hstep : (s.lane l).restartStep = (s.lane l).reset .laneRestart := by
      unfold Lane.restartStep
      rw [if_neg (by simp [hf]), if_neg (by simp [hg])]
    exact ⟨_, State.next_lane ((Lane.restartAfterYield_step hs hr hc).trans hstep), Lane.reset_restarted _ _⟩
  · have hstep : (s.lane l).restartStep = (s.lane l).fwRestart := if_pos ⟨hf, hj, hb⟩
    obtain ⟨hrec, hrestarted⟩ := Lane.fwRestart_restarted hw
    refine ⟨(s.lane l).fwRestart, State.next_lane ((Lane.restartAfterYield_step hs hr hc).trans hstep), ?_⟩
    rw [hrec]
    exact ⟨rfl, rfl, hrestarted⟩
  · exact State.next_lane (Lane.restartAfterYield_waits hc)
  · refine ⟨(s.lane l).tagWriteDone true, rfl, ?_, fun tag ht _ _ => ?_⟩
    · rw [Lane.tagWriteDone_good hr hw, Lane.keepCal_keeps]
    · have htag : ({ s.lane l with gat := { (s.lane l).gat with idPower := !ws.isEmpty } } : Lane).tagOfOwner w.owner = some tag := ht
      rw [Lane.tagWriteDone_good hr hw, Lane.keepCal_eq htag]
      exact ⟨Lane.withTag_tagOfOwner htag rfl, mem_copyKept _ _⟩
  · refine ⟨(s.lane l).tagWriteDone false, rfl, ?_⟩
    rw [Lane.tagWriteDone_bad hr hw hb]
    have hrun : ({ s.lane l with gat := { (s.lane l).gat with idPower := false } } : Lane).job.run = some j := hr
    obtain ⟨hst, -, hnone, hwrites⟩ := (Lane.failJob_ended (by omega) hrun 7).2
    obtain ⟨hgat, hcals, hrep⟩ := Lane.failJob_leaves (by omega) hrun 7
    exact ⟨hst, hnone, hwrites, hgat, hcals, hrep⟩
  · intro n c hr ha hs hp hc
    refine ⟨fun hw ht hpeers hall => ?_, fun hno => State.next_lane (Lane.centreShift_waits (x := s.lane l) ?_)⟩
    · have hready : (s.lane l).centreReady := by
        refine ⟨hw, ht, hpeers.imp (fun h => by rw [h]; rfl) (fun ⟨k, hk, hlt⟩ => by simp [hk, hlt]), List.all_eq_true.mpr fun p hp => ?_⟩
        simpa using hall p hp
      refine ⟨(s.lane l).centreShift, rfl, ?_⟩
      rw [Lane.centreShift_eq hr ha hs hp hc hready]
      have hrun : (((s.lane l).shiftOrigin n c).clearUncert n).job.run = some 1 := hr
      obtain ⟨⟨ho, hb, hd⟩, hother⟩ := (s.lane l).shiftOrigin_shifts n c
      obtain ⟨⟨ho', hb', hd'⟩, hother'⟩ := Lane.doneJob_setpointKept (by decide) hrun ha
      obtain ⟨hst, -, hnone, -⟩ := (Lane.doneJob_ended (by decide) hrun).2
      refine ⟨ho'.trans ho, hb'.trans hb, hd'.trans hd, hst, hnone, Lane.doneJob_reports (by decide) hrun, fun i hm hi hown => ?_, fun m hm => ?_⟩
      · rw [Lane.doneJob_fbk]
        unfold Lane.clearUncert
        dsimp only
        rw [Tab.get_mapFin]
        exact congrArg Chan.uncert (if_pos ⟨hm, hi, hown⟩)
      · exact ⟨(hother' m hm).1.trans (hother m hm).1, (hother' m hm).2.trans (hother m hm).2⟩
    · rintro ⟨hw, ht, hpeers, hall⟩
      rcases hno with h | h | ⟨p, hp, h | h⟩
      · simp [h] at hw
      · omega
      · have := List.all_eq_true.mp hall p hp
        simp [h] at this
      · rcases hpeers with he | he
        · rw [List.isEmpty_iff.mp he] at hp
          exact absurd hp List.not_mem_nil
        · simp [h] at he

end Sys2Proof.Machine

/-! FW_LOAD and REGATHER: staging, the check of the package, the switches lane by lane and back (R536 to R545). -/

namespace Sys2Proof.Machine

/-! ## Writes of JOB[7].BLOCK (R536) -/

/-- What a write of JOB[7].BLOCK does to a lane that admits it. -/
def Lane.blockServed (x : Lane) (h : SvcHdr) (offset : Nat) (data : List Byte) : Served :=
  if data.isEmpty ∨ 1773 < data.length then (x, 6, [])
  else if h.target = 3 ∧ x.staging ∧ x.cfg.jobSource = 0 ∧ (offset = 0 ∨ offset = x.job.fw.next) ∧ offset + data.length ≤ slotSize then
    (x.stage offset data, 0, [])
  else refused x 21

theorem exec_fwBlockWrite (s : State) (h : SvcHdr) (offset : Nat) (data : List Byte) :
    exec (.fwBlockWrite h offset data) s = .next (s.onSvc h fun x => x.serve h 2 true true fun z => z.blockServed h offset data) := rfl

theorem Lane.blockServed_eq {x : Lane} {h : SvcHdr} {offset : Nat} {data : List Byte} (hne : data ≠ []) (hlen : data.length ≤ 1773) :
    x.blockServed h offset data =
      if h.target = 3 ∧ x.staging ∧ x.cfg.jobSource = 0 ∧ (offset = 0 ∨ offset = x.job.fw.next) ∧ offset + data.length ≤ slotSize then
        (x.stage offset data, 0, []) else refused x 21 := if_neg (by simpa [hne] using hlen)

/-! ## The signature of the staged package (R537) -/

theorem Lane.stagedCheck_eq {x : Lane} (hr : x.job.run = some 7) (hb : (x.jobSt 7).busy) (hc : x.job.fw.complete) (hp : x.job.fw.passed = false) :
    x.stagedCheck =
      if packageValid x.nvm.bootKey (x.slotMem x.otherSlot) then
        (x.putSlotRec { x.slotRec with
          staged := packageRelease (x.slotMem x.otherSlot), stagedProto := packageLevel (x.slotMem x.otherSlot) }).modFw fun f => { f with passed := true }
      else x.failJob 7 14 := if_neg (by simp [hr, hb, hc, hp])

/-! ## The switch of a lane (R539, R540) -/

/-- The lane may begin its switch: FW_LOAD RUNNING, every lane's check passed, no switch begun or made. -/
def Lane.fwReady (x : Lane) : Prop :=
  x.job.run = some 7 ∧ (x.jobSt 7).state = 1 ∧ x.allPassed ∧ x.job.fw.switching = false ∧ x.job.fw.switched = false ∧ x.job.fw.stand = false

/-- The lane of FW_LOAD that leaves to switch. -/
def Lane.fwLeaving (x : Lane) : Lane := (x.modFw fun f => { f with switching := true }).leaving

theorem Lane.fwLaneSwitch_leaves {x : Lane} (h : x.fwReady) (hs : x.start.state = .operate) (hv : x.service = 3) (hl : x.legsOnAll)
    (ho : (x.fwOrder.find? fun z => !x.fwSwitched z) = some x.id) : x.fwLaneSwitch = x.fwLeaving := by
  obtain ⟨hr, hst, hp, hsw, hsd, hstand⟩ := h
  unfold Lane.fwLaneSwitch
  rw [if_neg (by simp [hr, hst, hp, hsw, hsd, hstand]), if_neg (by simp [hs]), if_pos ⟨hs, hv, hl, ho⟩]
  exact Lane.leaveAndRestart_operate hs

theorem Lane.fwLaneSwitch_unsealed {x : Lane} (h : x.fwReady) (hs : x.start.state = .unsealed) : x.fwLaneSwitch = x.fwRestart := by
  obtain ⟨hr, hst, hp, hsw, hsd, hstand⟩ := h
  unfold Lane.fwLaneSwitch
  rw [if_neg (by simp [hr, hst, hp, hsw, hsd, hstand]), if_pos hs]

theorem Lane.fwLaneSwitch_waits {x : Lane} (h : x.allPassed = false) : x.fwLaneSwitch = x := if_pos (by simp [h])

theorem Lane.standstillSwitch_eq {x : Lane} {b : Nat} (hr : x.job.run = some 7) (hst : (x.jobSt 7).state = 1) (hs : x.start.state = .operate)
    (hb : x.job.fw.standAt = some b) (ht : b ≤ x.tick.count + 1) : x.standstillSwitch = x.fwRestart := by
  unfold Lane.standstillSwitch
  rw [hb]
  exact if_pos ⟨hr, hst, hs, ht⟩

theorem Lane.standstillSwitch_waits {x : Lane} {b : Nat} (hb : x.job.fw.standAt = some b) (ht : x.tick.count + 1 < b) : x.standstillSwitch = x := by
  unfold Lane.standstillSwitch
  rw [hb]
  exact if_neg fun h => by omega

/-! ## A switch given up (R539, R541) -/

/-- The old slot recorded with its report, before the job fails. -/
def Lane.backNoted (x : Lane) (o : Nat) : Lane :=
  (x.raiseJob .job010 7 (x.release % 65536)).putSlotRec { x.slotRec with slot := o, oldSlot := none }

theorem Lane.fwBack_eq {x : Lane} {o : Nat} (h : x.slotRec.oldSlot = some o) (cause : Nat) :
    x.fwBack cause = ((x.backNoted o).failJob 7 cause).leaveAndRestart := by
  unfold Lane.fwBack
  rw [h]
  rfl

theorem Lane.failNoted_slotRec (x : Lane) (cause : Nat) : (x.failNoted 7 cause).slotRec = { x.slotRec with oldSlot := none } :=
  NvItem.read_write _ _ _

theorem Lane.leaveAndRestart_keeps (x : Lane) : x.leaveAndRestart = { x with lease := x.leaveAndRestart.lease, start := x.leaveAndRestart.start } := by
  unfold Lane.leaveAndRestart
  split <;> rfl

theorem Lane.fwBack_back {x : Lane} {o : Nat} (hr : x.job.run = some 7) (h : x.slotRec.oldSlot = some o) (cause : Nat) :
    let y := x.fwBack cause
    y.slotRec.slot = o ∧ y.slotRec.oldSlot = none ∧ y.jobSt 7 = { x.jobSt 7 with state := 7, cause := cause } ∧ y.job.run = none ∧
      (∃ r ∈ y.col.raised, r.ev = .job010) ∧ (x.start.state = .operate → y.start.restart) ∧ (x.start.state ≠ .operate → y.start.restartNow) := by
  intro y
  have hrun : (x.backNoted o).job.run = some 7 := hr
  obtain ⟨hfail, hst, -, hnone, -⟩ := Lane.failJob_ended (by decide) hrun cause
  obtain ⟨r, hmem, hev, -⟩ := x.raiseJob_reports .job010 7 (x.release % 65536)
  have hreach := Lane.failJob_jobReach (x.backNoted o) 7 cause
  have hstart : ((x.backNoted o).failJob 7 cause).start = x.start := hreach.start
  have hrec : ((x.backNoted o).failJob 7 cause).slotRec = { x.slotRec with slot := o, oldSlot := none } := by
    have hnoted : ((x.backNoted o).failNoted 7 cause).slotRec = { x.slotRec with slot := o, oldSlot := none } := by
      rw [Lane.failNoted_slotRec]
      exact congrArg (fun r : SlotRec => { r with oldSlot := none }) (NvItem.read_write _ _ _)
    rw [hfail, Lane.releaseJob_keeps, Lane.jobTo_frame]
    exact hnoted
  have hy : y = ((x.backNoted o).failJob 7 cause).leaveAndRestart := Lane.fwBack_eq h cause
  have hstate : ((x.backNoted o).failJob 7 cause).start.state = x.start.state := by rw [hstart]
  refine ⟨?_, ?_, ?_, ?_, ⟨r, ?_, hev⟩, fun ho => ?_, fun ho => ?_⟩
  · rw [hy, Lane.leaveAndRestart_keeps]
    exact congrArg SlotRec.slot hrec
  · rw [hy, Lane.leaveAndRestart_keeps]
    exact congrArg SlotRec.oldSlot hrec
  · rw [hy, Lane.leaveAndRestart_keeps]
    exact hst
  · rw [hy, Lane.leaveAndRestart_keeps]
    exact hnone
  · rw [hy, Lane.leaveAndRestart_keeps]
    exact hreach.2 r hmem
  · rw [hy, Lane.leaveAndRestart_operate (hstate.trans ho)]
    rfl
  · rw [hy, Lane.leaveAndRestart_outside fun he => ho (hstate.symm.trans he)]

theorem Lane.fwJoinTimeout_eq {x : Lane} {o : Nat} (hr : x.job.run = some 7) (hb : (x.jobSt 7).busy) (ho : x.slotRec.oldSlot = some o)
    (hs : x.job.fw.switched = false) (hbt : x.start.booted) (ht : x.slotRec.joinMax ≤ x.start.ticks) : x.fwJoinTimeout = x.fwBack 16 :=
  if_pos ⟨hr, hb, by rw [ho]; rfl, by rw [hs]; rfl, hbt, ht⟩

theorem Lane.fwJoinTimeout_waits {x : Lane} (ht : x.start.ticks < x.slotRec.joinMax) : x.fwJoinTimeout = x := if_neg fun h => by omega

theorem Lane.fwSwitchTimeout_eq {x : Lane} {k : Nat} (hr : x.job.run = some 7) (hb : (x.jobSt 7).busy) (hs : x.job.fw.stand)
    (hk : x.job.fw.sinceFirst = some k) (ht : 24000000 ≤ k) : x.fwSwitchTimeout = x.fwBack 17 := if_pos ⟨hr, hb, hs, by rw [hk]; exact ht⟩

theorem Lane.fwSwitchTimeout_waits {x : Lane} (hs : x.job.fw.stand = false) : x.fwSwitchTimeout = x := if_neg fun h => by simp [hs] at h

/-! ## REGATHER (R543, R545) -/

/-- The lane of REGATHER that leaves to switch. -/
def Lane.rgLeaving (x : Lane) : Lane := (x.modRg fun r => { r with switching := true }).leaving

section
variable {x : Lane} (hr : x.job.run = some 8) (hs : x.job.rg.switching = false) (hst : x.start.state = .operate) (hv : x.service = 3)
include hr hs hst hv

theorem Lane.regatherSwitch_eq :
    x.regatherSwitch =
      match x.job.rg.back with
      | none => if (x.jobSt 8).state = 1 ∧ (x.rgOrder.find? fun z => !x.rgSwitched z) = some x.id then x.rgLeaving else x
      | some _ => if (x.rgOrder.reverse.find? x.rgSwitched) = some x.id then x.rgLeaving else x := by
  have hgo : (x.modRg fun r => { r with switching := true }).leaveAndRestart = x.rgLeaving := Lane.leaveAndRestart_operate hst
  unfold Lane.regatherSwitch
  dsimp only
  rw [if_neg (by simp [hr, hs, hst, hv]), hgo] <;> rfl

theorem Lane.regatherSwitch_forth (hb : x.job.rg.back = none) (hj : (x.jobSt 8).state = 1)
    (ho : (x.rgOrder.find? fun z => !x.rgSwitched z) = some x.id) : x.regatherSwitch = x.rgLeaving := by
  rw [Lane.regatherSwitch_eq hr hs hst hv, hb]
  exact if_pos ⟨hj, ho⟩

theorem Lane.regatherSwitch_back {c : Nat} (hb : x.job.rg.back = some c) (ho : (x.rgOrder.reverse.find? x.rgSwitched) = some x.id) :
    x.regatherSwitch = x.rgLeaving := by
  rw [Lane.regatherSwitch_eq hr hs hst hv, hb]
  exact if_pos ho

end

theorem Lane.regatherSwitch_waits {x : Lane} (h : x.service ≠ 3) : x.regatherSwitch = x := if_pos (.inr (.inr (.inr h)))

theorem Lane.regatherTimeout_eq {x : Lane} (hr : x.job.run = some 8) (hb : (x.jobSt 8).busy) (ht : 24000000 ≤ x.job.rg.ticks)
    (hback : x.job.rg.back = none) : x.regatherTimeout = (x.modRg fun r => { r with back := some 17 }).jobTo 8 5 17 :=
  if_pos ⟨hr, hb, ht, by rw [hback]; rfl⟩

theorem Lane.regatherTimeout_waits {x : Lane} (ht : x.job.rg.ticks < 24000000) : x.regatherTimeout = x := if_neg fun h => by omega

/-- Settles O60: staging, the check, the switches of FW_LOAD and REGATHER and their ways back. -/
theorem packagesAndImagesSwitchLaneByLane : Obligations.PackagesAndImagesSwitchLaneByLane := by
  unfold Obligations.PackagesAndImagesSwitchLaneByLane
  rintro s l x rfl
  refine ⟨?_, ?_, ?_, ?_, ?_, ?_⟩
  · intro h data hadm ht hst hsrc hne hlen
    refine ⟨fun hfit hnext => ?_, fun offset h0 hn => ?_⟩
    · have hserved : s.Served (s.onSvc h fun x => x.serve h 2 true true fun z => z.blockServed h (s.lane l).job.fw.next data) h l 2 0 []
          fun z => z.stage (s.lane l).job.fw.next data := by
        refine State.onSvc_served rfl hadm fun z hz => ?_
        rw [Lane.blockServed_eq hne hlen]
        exact if_pos ⟨ht, by rw [hz]; exact hst, by rw [hz]; exact hsrc, .inr (by rw [hz]), hfit⟩
      refine ⟨_, exec_fwBlockWrite s h _ data, ⟨_, hserved⟩, ?_⟩
      obtain ⟨z, hz, hy⟩ := hserved.lane
      generalize (State.onSvc s h _).lanes.get l = y at hy ⊢
      obtain ⟨hread, hrun, -⟩ := z.stage_staged (s.lane l).job.fw.next data
      obtain ⟨hnext', -, hpassed⟩ := z.stage_fw (s.lane l).job.fw.next data
      have hslot : z.start.slot = (s.lane l).start.slot := by rw [hz]
      have hmem (k : Nat) : y.slotMem k = (z.stage (s.lane l).job.fw.next data).slotMem k := by
        rw [hy]
        rfl
      rw [hslot] at hread hrun
      refine ⟨?_, ?_, ?_, ?_⟩
      · rw [hmem]
        exact hread
      · rw [hmem, hrun, hz]
        rfl
      · rw [hy]
        exact hnext'
      · rw [hy]
        exact hpassed
    · refine ⟨_, exec_fwBlockWrite s h offset data, State.onSvc_served rfl hadm fun z hz => ?_⟩
      have hno : z.job.fw.next = (s.lane l).job.fw.next := by rw [hz]
      rw [Lane.blockServed_eq hne hlen, hno]
      exact if_neg fun hall => hall.2.2.2.1.elim h0 hn
  · intro hr hb hc hp
    refine ⟨fun hvalid ok => ⟨(s.lane l).stagedCheck, rfl, ?_⟩, fun hbad ok => ⟨(s.lane l).stagedCheck, rfl, ?_⟩⟩
    · rw [Lane.stagedCheck_eq hr hb hc hp, if_pos hvalid]
      exact ⟨rfl, NvItem.read_write _ _ _, rfl⟩
    · rw [Lane.stagedCheck_eq hr hb hc hp, if_neg (by simp [hbad])]
      obtain ⟨hst, -, hnone, -⟩ := (Lane.failJob_ended (by decide) hr 14).2
      exact ⟨hst, hnone⟩
  · intro hr hst hsw hsd hstand
    refine ⟨fun hp hs hv hl ho => State.next_lane (Lane.fwLaneSwitch_leaves ⟨hr, hst, hp, hsw, hsd, hstand⟩ hs hv hl ho), fun hp hs => ?_,
      fun hp => State.next_lane (Lane.fwLaneSwitch_waits hp)⟩
    exact ⟨(s.lane l).fwRestart, State.next_lane (Lane.fwLaneSwitch_unsealed ⟨hr, hst, hp, hsw, hsd, hstand⟩ hs), Lane.fwRestart_restarted hsd⟩
  · intro b hr hst hs hsd hb
    refine ⟨fun ht => ⟨(s.lane l).fwRestart, State.next_lane (Lane.standstillSwitch_eq hr hst hs hb ht), ?_⟩,
      fun ht => State.next_lane (Lane.standstillSwitch_waits hb ht)⟩
    obtain ⟨hrec, hrestarted⟩ := Lane.fwRestart_restarted hsd
    rw [hrec]
    exact ⟨rfl, rfl, hrestarted⟩
  · intro o hr hb ho
    refine ⟨fun hsd hbt ht => ⟨(s.lane l).fwBack 16, State.next_lane (Lane.fwJoinTimeout_eq hr hb ho hsd hbt ht), Lane.fwBack_back hr ho 16⟩,
      fun ht => State.next_lane (Lane.fwJoinTimeout_waits ht),
      fun k hs hk ht => ⟨(s.lane l).fwBack 17, State.next_lane (Lane.fwSwitchTimeout_eq hr hb hs hk ht), Lane.fwBack_back hr ho 17⟩,
      fun hs => State.next_lane (Lane.fwSwitchTimeout_waits hs)⟩
  · intro hr
    refine ⟨fun hs hb hst hv hj ho => State.next_lane (Lane.regatherSwitch_forth hr hs hst hv hb hj ho),
      fun c hs hb hst hv ho => State.next_lane (Lane.regatherSwitch_back hr hs hst hv hb ho), fun hv => State.next_lane (Lane.regatherSwitch_waits hv),
      fun hb ht hback => ⟨(s.lane l).regatherTimeout, rfl, ?_⟩, fun ht => State.next_lane (Lane.regatherTimeout_waits ht)⟩
    rw [Lane.regatherTimeout_eq hr hb ht hback]
    refine ⟨?_, ?_, ?_⟩
    · rw [Lane.jobTo_frame]
      rfl
    · exact (Lane.jobTo_moved _ (by decide) 5 17).1
    · rw [Lane.jobTo_frame]
      rfl

end Sys2Proof.Machine

/-! The measuring jobs: END_LEARN, PEDAL_LEARN, VALVE_CHAR, BRIDGE_TEST and ROTATE_TEST (R530 to R534). -/

namespace Sys2Proof.Machine

/-! ## END_LEARN (R530) -/

/-- The reported position at which an end is recorded. -/
def Lane.endPosition (x : Lane) (n : AxisId) : Int := roundDiv (x.measured n) 65536

/-- The lane with the end of the second stage recorded. -/
def Lane.secondEnd (x : Lane) (n : AxisId) : Lane :=
  { x with job := { x.job with el := { x.job.el with pos := x.endPosition n, stage := 3, asked := false, zero := 0 } } }

section
variable {x : Lane} {n : AxisId} (ha : x.job.axis = n.val)
include ha

theorem Lane.endStop_waits (hz : x.job.el.zero < 400) : x.endStop = x := by
  unfold Lane.endStop
  rw [Lane.jobAxis_of ha]
  exact if_pos (.inr (.inr hz))

variable (hr : x.job.run = some 2) (hs : (x.jobSt 2).state = 1) (hz : 400 ≤ x.job.el.zero)
include hr hs hz

theorem Lane.endStop_eq :
    x.endStop =
      match x.job.el.stage with
      | 1 => x.modEl fun e => { e with neg := x.endPosition n, stage := 2, asked := false, zero := 0 }
      | 2 => if x.job.el.neg < -(x.cfg.steerAngleMax : Int) ∧ (x.cfg.steerAngleMax : Int) < x.endPosition n then x.secondEnd n else (x.secondEnd n).failJob 2 19
      | _ => x := by
  unfold Lane.endStop
  rw [Lane.jobAxis_of ha]
  dsimp only
  rw [if_neg (by simp [hr, hs]; omega)] <;> rfl

theorem Lane.endStop_first (h1 : x.job.el.stage = 1) :
    x.endStop = { x with job := { x.job with el := { x.job.el with neg := x.endPosition n, stage := 2, asked := false, zero := 0 } } } := by
  rw [Lane.endStop_eq ha hr hs hz, h1]
  rfl

theorem Lane.endStop_second (h2 : x.job.el.stage = 2) :
    x.endStop = if x.job.el.neg < -(x.cfg.steerAngleMax : Int) ∧ (x.cfg.steerAngleMax : Int) < x.endPosition n then x.secondEnd n
      else (x.secondEnd n).failJob 2 19 := by
  rw [Lane.endStop_eq ha hr hs hz, h2]
  rfl

end

/-! ## Tag writes begin (R106, R222) -/

theorem Lane.beginWrites_all {x : Lane} {ws : List (Option TagWrite)} (us : List TagWrite) (h : ws = us.map some) :
    x.beginWrites ws = { x with job := { x.job with writes := us, written := false }, gat := { x.gat with idPower := true } } := by
  subst h
  unfold Lane.beginWrites
  have kept : (us.map some).filterMap (fun w => w) = us := List.filterMap_map.trans List.filterMap_some
  rw [if_pos (by simp), kept]

theorem Lane.beginWrites_none {x : Lane} {j : Nat} {ws : List (Option TagWrite)} (hr : x.job.run = some j) (h : none ∈ ws) :
    x.beginWrites ws = x.failJob j 7 := by
  unfold Lane.beginWrites
  rw [if_neg (by simpa using h), hr]

/-! ## PEDAL_LEARN (R531) -/

/-- The lane writes what PEDAL_LEARN has found. -/
def Lane.pedalWriting (x : Lane) : Lane := { x with job := { x.job with pl := { x.job.pl with writing := true } } }

section
variable {x : Lane} {a1 b1 a2 b2 : Q}

theorem Lane.pedalEnd_waits (ht : x.job.pl.ticks < x.cfg.jobPedalTime) : x.pedalEnd = x := if_pos (.inr (.inr (.inr ht)))

variable (hr : x.job.run = some 3) (hs : (x.jobSt 3).state = 1) (hw : x.job.pl.writing = false) (h1 : x.job.pl.r1 = some (a1, b1))
  (h2 : x.job.pl.r2 = some (a2, b2)) (ht : x.cfg.jobPedalTime ≤ x.job.pl.ticks)
include hr hs hw h1 h2 ht

theorem Lane.pedalEnd_eq :
    x.pedalEnd = if b1 - a1 < 65536 ∨ b2 - a2 < 65536 then x.failJob 3 19
      else x.pedalWriting.beginWrites [x.tagWrite 3 (.inr 1) [(104, i32Bytes a1), (108, i32Bytes b1)],
        x.tagWrite 3 (.inr 2) [(104, i32Bytes a2), (108, i32Bytes b2)]] := by
  unfold Lane.pedalEnd
  dsimp only
  rw [if_neg (by simp [hr, hs, hw]; omega)]
  change (if _ then _ else x.pedalWriting.beginWrites _) = _
  rw [h1, h2]
  simp only [Bool.or_eq_true, decide_eq_true_eq]
  rfl

end

/-! ## VALVE_CHAR (R532) -/

/-- A last pressure above 1 bar that the next does not exceed breaks the ascent. -/
theorem pressuresAscend_break (ps : List Q) {a b : Q} (ha : 65536 < a) (hb : b ≤ a) : pressuresAscend (ps ++ [a, b]) = false := by
  induction ps with
  | nil => simpa [pressuresAscend] using ⟨ha, hb⟩
  | cons p ps ih =>
    cases ps with
    | nil => simpa [pressuresAscend] using fun _ => ⟨ha, hb⟩
    | cons q qs => simp [pressuresAscend] at ih ⊢; exact fun _ => ih

/-- The point VALVE_CHAR records: the pressure and the coil current of the step. -/
def Lane.recordedPoint (x : Lane) (n : AxisId) : Q × Q := (x.pressure n.val, (x.valveJob n).getD 0)

/-- The fields of the record of VALVE_CHAR behind its count. -/
def pointFields (pts : List (Q × Q)) : List (Nat × List Byte) :=
  (List.range pts.length).map fun i => (106 + 8 * i, i32Bytes (pts.getD i (0, 0)).1 ++ i32Bytes (pts.getD i (0, 0)).2)

section
variable {x : Lane} {n : AxisId} (ha : x.job.axis = n.val)
include ha

theorem Lane.valveStep_waits (ht : x.job.vc.ticks < x.cfg.jobValveSettle) : x.valveStep = x := by
  unfold Lane.valveStep
  rw [Lane.jobAxis_of ha]
  exact if_pos (.inr (.inr (.inr (.inr ht))))

variable (hr : x.job.run = some 4) (hs : (x.jobSt 4).state = 1) (hd : x.job.vc.done = false) (hc : x.commands n)
include hr hs hd hc

/-- The lane that drives VALVE_CHAR knows its demand. -/
theorem Lane.valveJob_driving : x.valveJob n = some (x.recordedPoint n).2 := by
  have hst : (x.job.st.getD 4 {}).state = 1 := hs
  have hsome : (x.valveJob n).isSome := by
    unfold Lane.valveJob
    rw [if_pos ⟨hr, ha⟩]
    dsimp only
    rw [if_pos hc, if_pos ⟨hst, by simp [hd]⟩]
    rfl
  obtain ⟨v, hv⟩ := Option.isSome_iff_exists.mp hsome
  unfold Lane.recordedPoint
  rw [hv]
  rfl

variable (ht : x.cfg.jobValveSettle ≤ x.job.vc.ticks)
include ht

theorem Lane.valveStep_eq :
    x.valveStep =
      if x.job.vc.k + 1 < x.cfg.jobValvePoints then
        { x with job := { x.job with vc := { x.job.vc with k := x.job.vc.k + 1, ticks := 0, pts := x.job.vc.pts ++ [x.recordedPoint n] } } }
      else if !pressuresAscend ((x.job.vc.pts ++ [x.recordedPoint n]).map (·.1)) then x.failJob 4 19
      else
        ({ x with job := { x.job with vc := { x.job.vc with pts := x.job.vc.pts ++ [x.recordedPoint n], done := true } } } : Lane).beginWrites
          [x.tagWrite 4 (.inl (n.val, 0))
            ((104, [byteOf (x.job.vc.pts ++ [x.recordedPoint n]).length]) :: pointFields (x.job.vc.pts ++ [x.recordedPoint n]))] := by
  unfold Lane.valveStep
  rw [Lane.jobAxis_of ha]
  dsimp only
  rw [if_neg (by simp [hr, hs, hd, hc]; omega)]
  rfl

end

/-! ## BRIDGE_TEST (R533) -/

/-- The offset BRIDGE_TEST finds: the negated sensed angle with offset 0. -/
def Lane.bridgeOffset (x : Lane) (n : AxisId) : Nat := toField 16 ((x.cfg.axisCommOffset n.val : Int) - (x.sensorAngle n).1)

/-- The lane with that offset found. -/
def Lane.bridgeAligned (x : Lane) (n : AxisId) : Lane :=
  { x with job := { x.job with bt := { x.job.bt with stage := 3, offset := x.bridgeOffset n } } }

/-- The record BRIDGE_TEST writes. -/
def Lane.bridgeWrite (x : Lane) (n : AxisId) : Option TagWrite :=
  x.tagWrite 5 (.inl (n.val, 0)) [(104, beBytes 2 (x.bridgeOffset n)), (106, [byteOf x.job.bt.mask])]

section
variable {x : Lane} {n : AxisId} (ha : x.job.axis = n.val)
include ha

theorem Lane.bridgeEnd_waits (ht : x.job.bt.ticks < 4000) : x.bridgeEnd = x := by
  unfold Lane.bridgeEnd
  rw [Lane.jobAxis_of ha]
  exact if_pos (.inr (.inr (.inr ht)))

theorem Lane.bridgeEnd_eq (hr : x.job.run = some 5) (hs : (x.jobSt 5).state = 1) (hb : x.job.bt.stage = 2) (ht : 4000 ≤ x.job.bt.ticks) :
    x.bridgeEnd = (x.bridgeAligned n).beginWrites [x.bridgeWrite n] := by
  unfold Lane.bridgeEnd
  rw [Lane.jobAxis_of ha]
  exact if_neg (by simp [hr, hs, hb]; omega)

end

/-! ## ROTATE_TEST (R534) -/

theorem Lane.rotateHoldEnd_eq {x : Lane} (hr : x.job.run = some 6) (hs : (x.jobSt 6).state = 1) (hd : x.job.rt.due = false) (hh : 40000 ≤ x.job.rt.held) :
    x.rotateHoldEnd =
      if x.job.rt.moves < 3 then x.modRt fun r => { r with due := true }
      else if x.job.rt.seen ≠ x.job.rt.orig then x.failJob 6 19
      else if (x.job.rt.axes.drop 1).isEmpty then x.doneJob 6 else x.modRt fun _ => { axes := x.job.rt.axes.drop 1, due := true } :=
  if_neg (by simp [hr, hs, hd]; omega)

/-- Settles O59: each measuring job at the end of its step. -/
theorem measuringJobsTakeTheirSteps : Obligations.MeasuringJobsTakeTheirSteps := by
  unfold Obligations.MeasuringJobsTakeTheirSteps
  rintro s l x n rfl ha
  refine ⟨?_, fun hz => State.next_lane (Lane.endStop_waits ha hz), ?_, ?_, ?_, ?_⟩
  · intro hr hs hz
    refine ⟨fun h1 => State.next_lane (Lane.endStop_first ha hr hs hz h1), fun h2 hneg hpos => ?_, fun h2 hbad => ⟨(s.lane l).endStop, rfl, ?_⟩⟩
    · exact State.next_lane ((Lane.endStop_second ha hr hs hz h2).trans (if_pos ⟨hneg, hpos⟩))
    · rw [Lane.endStop_second ha hr hs hz h2, if_neg fun h => hbad.elim (fun hn => by omega) fun hp => absurd h.2 (Int.not_lt.mpr hp)]
      have hrun : ((s.lane l).secondEnd n).job.run = some 2 := hr
      obtain ⟨hst, -, hnone, -⟩ := (Lane.failJob_ended (by decide) hrun 19).2
      exact ⟨hst, hnone⟩
  · intro a1 b1 a2 b2 hr hs hw h1 h2
    have hrun : (s.lane l).pedalWriting.job.run = some 3 := hr
    refine ⟨fun ht hspan1 hspan2 => ?_, fun ht hshort => ⟨(s.lane l).pedalEnd, rfl, ?_⟩, fun ht => State.next_lane (Lane.pedalEnd_waits ht)⟩
    · have heq := (Lane.pedalEnd_eq hr hs hw h1 h2 ht).trans (if_neg (not_or.mpr ⟨Int.not_lt.mpr hspan1, Int.not_lt.mpr hspan2⟩))
      refine ⟨fun u v hu hv => State.next_lane (heq.trans (Lane.beginWrites_all [u, v] (by rw [hu, hv]; rfl))), fun hno => ⟨(s.lane l).pedalEnd, rfl, ?_⟩⟩
      rw [heq, Lane.beginWrites_none hrun (by simpa [eq_comm] using hno)]
      obtain ⟨hst, -, hnone, -⟩ := (Lane.failJob_ended (by decide) hrun 7).2
      exact ⟨hst, hnone⟩
    · rw [Lane.pedalEnd_eq hr hs hw h1 h2 ht, if_pos hshort]
      obtain ⟨hst, -, hnone, -⟩ := (Lane.failJob_ended (by decide) hr 19).2
      exact ⟨hst, hnone⟩
  · intro hr hs hd hc
    refine ⟨fun ht hk => ?_, fun ht hk hne hall => ⟨(s.lane l).valveStep, rfl, ?_⟩, fun pts ht hk hpts hasc w fields hw hf => ?_,
      fun ht => State.next_lane (Lane.valveStep_waits ha ht)⟩
    · exact ⟨_, (s.lane l).recordedPoint n, State.next_lane ((Lane.valveStep_eq ha hr hs hd hc ht).trans (if_pos hk)), rfl,
        Lane.valveJob_driving ha hr hs hd hc, rfl⟩
    · have hbreak : pressuresAscend (((s.lane l).job.vc.pts ++ [(s.lane l).recordedPoint n]).map (·.1)) = false := by
        obtain ⟨hlow, habove⟩ := hall _ (List.getLast_mem hne)
        rw [← List.dropLast_concat_getLast hne, List.map_append, List.map_append, List.append_assoc]
        exact pressuresAscend_break _ habove hlow
      rw [Lane.valveStep_eq ha hr hs hd hc ht, if_neg (by omega), hbreak, Bool.not_false, if_pos rfl]
      obtain ⟨hst, -, hnone, -⟩ := (Lane.failJob_ended (by decide) hr 19).2
      exact ⟨hst, hnone⟩
    · have hpts' : pts = (s.lane l).job.vc.pts ++ [(s.lane l).recordedPoint n] := hpts
      have hwrite : (s.lane l).tagWrite 4 (.inl (n.val, 0)) ((104, [byteOf pts.length]) :: pointFields pts) = some w := by
        rw [hf] at hw
        exact hw
      clear hpts hf hw
      subst hpts'
      refine State.next_lane ((Lane.valveStep_eq ha hr hs hd hc ht).trans ((if_neg (by omega)).trans ((if_neg ?_).trans ?_)))
      · rw [hasc]
        decide
      · exact Lane.beginWrites_all [w] (by rw [hwrite]; rfl)
  · intro hr hs hb
    refine ⟨fun ht => ?_, fun ht => State.next_lane (Lane.bridgeEnd_waits ha ht)⟩
    have heq := Lane.bridgeEnd_eq ha hr hs hb ht
    refine ⟨fun u hu => State.next_lane (heq.trans (Lane.beginWrites_all [u] (by rw [show (s.lane l).bridgeWrite n = some u from hu]; rfl))),
      fun hno => ⟨(s.lane l).bridgeEnd, rfl, ?_⟩⟩
    have hrun : ((s.lane l).bridgeAligned n).job.run = some 5 := hr
    have hnone : (s.lane l).bridgeWrite n = none := hno
    rw [heq, hnone, Lane.beginWrites_none hrun (List.mem_singleton.mpr rfl)]
    obtain ⟨hst, -, hnone, -⟩ := (Lane.failJob_ended (by decide) hrun 7).2
    exact ⟨hst, hnone⟩
  · intro hr hs hd hh
    have heq := Lane.rotateHoldEnd_eq hr hs hd hh
    refine ⟨fun hm => State.next_lane (heq.trans (if_pos hm)), fun hm hseen => ⟨(s.lane l).rotateHoldEnd, rfl, ?_⟩, fun i m rest hm hseen hax => ?_,
      fun i hm hseen hax => ⟨(s.lane l).rotateHoldEnd, rfl, ?_⟩⟩
    · rw [heq, if_neg (by omega), if_pos hseen]
      obtain ⟨hst, -, hnone, -⟩ := (Lane.failJob_ended (by decide) hr 19).2
      exact ⟨hst, hnone⟩
    · rw [if_neg (by omega), if_neg (Classical.not_not.mpr hseen), hax] at heq
      exact State.next_lane heq
    · rw [heq, if_neg (by omega), if_neg (Classical.not_not.mpr hseen), hax, if_pos (by rfl)]
      obtain ⟨hst, -, hnone, -⟩ := (Lane.doneJob_ended (by decide) hr).2
      exact ⟨hst, hnone⟩

end Sys2Proof.Machine

/-! A read of JOB[9].DATA in the tick in which JOB[9] resumes (R26, R526, R548). -/

namespace Sys2Proof.Machine

/-- Lane A in OPERATE with WORKSHOP on an ISOBUS controller, its JOB[9] RESUMING, step 2 of the tick still to be done. -/
def resumingLane : Lane := {
  id := .a, gat := { cfg := [(0x41000001, [1])] }, due := some {}, start := { state := .operate, workshop := true }
  job := { st := (Tab.fill 10 {}).set 9 { state := 4 } } }

/-- A node whose lane A is that lane; the ring of its commons begins at byte 32, behind CURSOR 0. -/
def resumingState : State := { State.reset with
  lanes := State.reset.lanes.set .a resumingLane, commons := { present := true, base := 32 } }

/-- A request of address 5 to lane A of the node on controller 0. -/
def exportRequest : SvcHdr := { src := 5, dst := 254, target := 0 }

theorem resumingLane_admits : (resumingState.lane .a).Admits exportRequest false false :=
  ⟨by decide +kernel, by decide +kernel, by decide +kernel, by decide +kernel, by decide +kernel, fun h => absurd h (by decide),
    fun h => absurd h (by decide)⟩

/-- Step 2 takes JOB[9] to RUNNING before the read is served. -/
theorem resumingLane_running : ((resumingState.lane .a).jobSt 9).state = 1 := by decide +kernel

theorem resumingLane_commonsUp : (resumingState.lane .a).col.commonsUp := by decide +kernel

/-- The read finds CURSOR on overwritten data and moves it. -/
theorem resumingLane_moves : (resumingState.commons.export_ (resumingState.lane .a)).map (fun e => e.2.2) = some true := by decide +kernel

/-- The commons is told of moved cursors by the lanes as they stood before step 2, when JOB[9] was RESUMING. -/
theorem readExport_unmoved : (resumingState.readExport exportRequest).commons.moved = false := by decide +kernel

/-- Refutes O52: a read of JOB[9].DATA in the tick in which step 2 takes JOB[9] from RESUMING to RUNNING moves CURSOR, and the commons is not told. -/
theorem not_objectsAreReadAndWritten : ¬ Obligations.ObjectsAreReadAndWritten := by
  unfold Obligations.ObjectsAreReadAndWritten
  intro hall
  obtain ⟨-, -, -, -, -, hread⟩ := hall resumingState .a _ exportRequest rfl
  obtain ⟨hexport, -⟩ := hread resumingLane_admits
  obtain ⟨⟨data, next, moved⟩, hsome, hmoved⟩ := Option.map_eq_some_iff.mp resumingLane_moves
  obtain ⟨-, t, z, hexec, -, -, -, htold, -⟩ := hexport data next moved resumingLane_running rfl resumingLane_commonsUp hsome
  have ht : t = resumingState.readExport exportRequest := (Host.Outcome.next.inj hexec).symm
  have htrue := htold hmoved
  rw [ht, readExport_unmoved] at htrue
  exact absurd htrue (by decide)

end Sys2Proof.Machine

/-! Received CAN messages and transport packets (R379, R383, R501, R502, R509). -/

namespace Sys2Proof.Machine

/-! ## What a heard frame leaves (R503) -/

/-- A lane that has noted a frame of its node. -/
def Lane.Heard (x z : Lane) : Prop := z = { x with can := { x.can with heard := z.can.heard } }

theorem Lane.heardFrom_heard (x : Lane) (c : CanId) (src : Nat) : x.Heard (x.heardFrom c src) := by
  unfold Lane.heardFrom
  split <;> rfl

section
variable {x z : Lane} (h : x.Heard z)
include h

theorem Lane.Heard.canCtl (c : CanId) : z.canCtl c = x.canCtl c := by
  rw [h]
  rfl

theorem Lane.Heard.isobus (c : CanId) : z.isobus c = x.isobus c := by
  rw [h]
  rfl

theorem Lane.Heard.talks (c : CanId) : z.talks c = x.talks c := by
  rw [h]
  rfl

theorem Lane.Heard.ownName (c : CanId) : z.ownName c = x.ownName c := by
  rw [h]
  rfl

end

/-- A lane whose controllers, and the note of a heard frame, may have changed. -/
def Lane.CtlReach (x z : Lane) : Prop := z = { x with can := { x.can with heard := z.can.heard, ctl := z.can.ctl } }

theorem Lane.Heard.ctlReach {x z : Lane} (h : x.Heard z) : x.CtlReach z := by
  unfold Lane.CtlReach
  rw [h]

theorem Lane.CtlReach.trans {x y z : Lane} (h : x.CtlReach y) (h' : y.CtlReach z) : x.CtlReach z := by
  unfold Lane.CtlReach at *
  rw [h', h]

theorem Lane.modCan_ctlReach (x : Lane) (c : CanId) (f : CanCtl → CanCtl) : x.CtlReach (x.modCan c f) := rfl

theorem Lane.canSend_ctlReach (x : Lane) (c : CanId) (dst : Nat) (m : CanMsg) : x.CtlReach (x.canSend c dst m) := rfl

theorem Lane.canSend_sent (x : Lane) (c : CanId) (dst : Nat) (m : CanMsg) :
    (x.canSend c dst m).canCtl c = { x.canCtl c with sent := (x.canCtl c).sent ++ [{ src := (x.canCtl c).addr, dst := dst, msg := m }] } :=
  Lane.modCan_self _ _ _

/-- A message that every lane on the bus takes. -/
theorem State.onCan_lane {s : State} {c : CanId} {l : LaneId} (f : Lane → Lane) (hb : (s.lane l).onBus c) :
    (s.onCan c f).lanes.get l = f (s.lane l) ∧ s.SameOutside (s.onCan c f) := by
  refine ⟨?_, rfl, rfl, rfl⟩
  rw [State.onCan_get]
  exact if_pos hb

/-! ## Guidance, speed and negative acknowledgement (R379, R383, R509) -/

theorem Lane.guidance_eq {x : Lane} {c : CanId} (hi : x.isobus c) (src dst : Nat) (g : GuidanceCmd) :
    x.guidance c src dst g = { x with
      can := { x.can with heard := (x.guidance c src dst g).can.heard }
      chas := if dst = (x.canCtl c).addr ∧ g.status = 1 ∧ g.raw ≤ 0xFAFF
        then { x.chas with guide := some (g.kappa, x.tick.count), guideOut := false } else x.chas } := by
  have hz := x.heardFrom_heard c src
  unfold Lane.guidance
  generalize x.heardFrom c src = z at hz ⊢
  dsimp only
  rw [hz.canCtl, hz.isobus, hi]
  by_cases hd : dst = (x.canCtl c).addr ∧ g.status = 1 ∧ g.raw ≤ 0xFAFF
  · rw [if_pos ⟨rfl, hd⟩, if_pos hd, hz]
  · rw [if_neg fun h => hd h.2, if_neg hd, hz]

theorem Lane.groundSpeed_eq {x : Lane} {c : CanId} (hi : x.isobus c) (src : Nat) (v : Q) :
    x.groundSpeed c src v = { x with
      chas := { x.chas with can := some (v, x.tick.count) }, can := { x.can with heard := (x.groundSpeed c src v).can.heard } } := by
  have hz := x.heardFrom_heard c src
  unfold Lane.groundSpeed
  generalize x.heardFrom c src = z at hz ⊢
  dsimp only
  rw [hz.isobus, hi, if_pos rfl, hz]

theorem Lane.refuseClear_eq {x : Lane} {c : CanId} (ht : x.talks c) (src : Nat) {pgn : Nat} (hp : pgn = 0xFECC ∨ pgn = 0xFED3) :
    x.refuseClear c src pgn = (x.heardFrom c src).canSend c src (.nack pgn) := by
  unfold Lane.refuseClear
  exact if_pos ⟨by rw [(x.heardFrom_heard c src).talks, ht], hp⟩

/-! ## Address claims (R502) -/

theorem getNode_putNode (k v : Nat) (es : List (Nat × Nat)) : getNode k (putNode k v es) = some v := by simp [getNode, putNode]

/-- The lane that remembers the NAME claimed on an address. -/
def Lane.named (x : Lane) (c : CanId) (src name : Nat) : Lane :=
  (x.modCan c fun k => { k with names := putNode src name (k.names.filter fun e => e.2 != name) }).heardFrom c src

/-- The voice defends its address. -/
def Lane.defends (z : Lane) (c : CanId) (src own : Nat) : Lane :=
  z.modCan c fun k => { k with queue := k.queue ++ [{ src := src, dst := 255, msg := .claim own }] }

/-- The voice gives way: to the lowest free address, or into silence. -/
def Lane.givesWay (z : Lane) (c : CanId) (own : Nat) : Lane :=
  match (z.canCtl c).freeAddr with
  | some a =>
    z.modCan c fun k => { k with addr := a, waitTo := z.tick.count + 1 + 10000, queue := k.queue ++ [{ src := a, dst := 255, msg := .claim own }] }
  | none =>
    (z.modCan c fun k => { k with
      addr := 254, mute := true, queue := k.queue ++ [{ src := 254, dst := 255, msg := .cannotClaim own }] }).raise .net003 .none c.val

theorem Lane.addressClaimed_own {x : Lane} {c : CanId} (hi : x.isobus c) (src : Nat) : x.addressClaimed c src (x.ownName c) = x.heardFrom c src := by
  unfold Lane.addressClaimed
  rw [if_neg (by simp [hi])]
  exact if_pos rfl

theorem Lane.addressClaimed_eq {x : Lane} {c : CanId} (hi : x.isobus c) (hs : x.can.session = none) (src : Nat) {name : Nat} (hn : name ≠ x.ownName c) :
    x.addressClaimed c src name =
      if ((x.named c src name).canCtl c).addr ≠ src ∨ !(x.named c src name).can.voice ∨ src = 254 then x.named c src name
      else if x.ownName c < name then (x.named c src name).defends c src (x.ownName c)
      else (x.named c src name).givesWay c (x.ownName c) := by
  unfold Lane.addressClaimed
  rw [if_neg (by simp [hi])]
  dsimp only
  rw [if_neg hn, show (x.modCan c _).can.session = none from hs]
  rfl

/-- What the note of a NAME changes: the names of that controller. -/
theorem Lane.named_keeps (x : Lane) (c : CanId) (src name : Nat) :
    x.CtlReach (x.named c src name) ∧ (∀ d, d ≠ c → (x.named c src name).canCtl d = x.canCtl d) ∧
      (x.named c src name).canCtl c = { x.canCtl c with names := ((x.named c src name).canCtl c).names } ∧
      getNode src ((x.named c src name).canCtl c).names = some name := by
  have hz := (x.modCan c fun k => { k with names := putNode src name (k.names.filter fun e => e.2 != name) }).heardFrom_heard c src
  unfold Lane.named
  generalize Lane.heardFrom _ c src = z at hz ⊢
  have hctl (d : CanId) := hz.canCtl d
  refine ⟨(Lane.modCan_ctlReach _ _ _).trans hz.ctlReach, fun d hd => (hctl d).trans (Lane.modCan_ne _ _ hd), ?_, ?_⟩
  · rw [hctl, Lane.modCan_self]
  · rw [hctl, Lane.modCan_self]
    exact getNode_putNode _ _ _

/-- A claim of another NAME on an address, as the lane has taken it. -/
theorem Lane.addressClaimed_taken {x : Lane} {c : CanId} (hi : x.isobus c) (hs : x.can.session = none) (src : Nat) {name : Nat} (hn : name ≠ x.ownName c) :
    let y := x.addressClaimed c src name
    getNode src (y.canCtl c).names = some name ∧ (∀ d, d ≠ c → y.canCtl d = x.canCtl d) ∧
      ((x.canCtl c).addr ≠ src ∨ x.can.voice = false ∨ src = 254 →
        y.canCtl c = { x.canCtl c with names := (y.canCtl c).names } ∧ y = { x with can := { x.can with heard := y.can.heard, ctl := y.can.ctl } }) ∧
      ((x.canCtl c).addr = src → x.can.voice → src ≠ 254 →
        (x.ownName c < name → (y.canCtl c).addr = src ∧
          (y.canCtl c).queue = (x.canCtl c).queue ++ [{ src := src, dst := 255, msg := .claim (x.ownName c) }]) ∧
        (name < x.ownName c → ∀ a, (y.canCtl c).freeAddr = some a → (y.canCtl c).addr = a ∧
          (y.canCtl c).queue = (x.canCtl c).queue ++ [{ src := a, dst := 255, msg := .claim (x.ownName c) }]) ∧
        (name < x.ownName c → (y.canCtl c).freeAddr = none → (y.canCtl c).addr = 254 ∧ (y.canCtl c).mute = true ∧
          y.Raised .net003 (ctxOf .none c.val))) := by
  intro y
  have hy : y = x.addressClaimed c src name := rfl
  rw [Lane.addressClaimed_eq hi hs src hn] at hy
  obtain ⟨hreach, hother, hctl, hname⟩ := x.named_keeps c src name
  generalize x.named c src name = z at hy hreach hother hctl hname
  have haddr : (z.canCtl c).addr = (x.canCtl c).addr := by rw [hctl]
  have hqueue : (z.canCtl c).queue = (x.canCtl c).queue := by rw [hctl]
  have hvoice : z.can.voice = x.can.voice := by rw [hreach]
  rw [haddr, hvoice] at hy
  by_cases hquiet : (x.canCtl c).addr ≠ src ∨ x.can.voice = false ∨ src = 254
  · rw [if_pos (by simpa using hquiet)] at hy
    rw [hy]
    refine ⟨hname, hother, fun _ => ⟨hctl, hreach⟩, fun ha hv h254 => ?_⟩
    exact absurd hquiet (by simp [ha, hv, h254])
  · rw [if_neg (by simpa using hquiet)] at hy
    by_cases hlt : x.ownName c < name
    · rw [if_pos hlt] at hy
      have hyc : y.canCtl c = { z.canCtl c with queue := (z.canCtl c).queue ++ [{ src := src, dst := 255, msg := .claim (x.ownName c) }] } := by
        rw [hy]
        exact Lane.modCan_self _ _ _
      refine ⟨by rw [hyc]; exact hname, fun d hd => ?_, fun h => absurd h hquiet, fun ha hv h254 => ⟨fun _ => ?_, fun h => by omega, fun h => by omega⟩⟩
      · rw [hy]
        exact (Lane.modCan_ne _ _ hd).trans (hother d hd)
      · rw [hyc]
        exact ⟨haddr.trans ha, by rw [← hqueue]⟩
    · rw [if_neg hlt] at hy
      unfold Lane.givesWay at hy
      cases hfree : (z.canCtl c).freeAddr with
      | some a =>
        rw [hfree] at hy
        have hyc : y.canCtl c = { z.canCtl c with
            addr := a, waitTo := z.tick.count + 1 + 10000, queue := (z.canCtl c).queue ++ [{ src := a, dst := 255, msg := .claim (x.ownName c) }] } := by
          rw [hy]
          exact Lane.modCan_self _ _ _
        have hyfree : (y.canCtl c).freeAddr = some a := by
          rw [hyc]
          exact hfree
        refine ⟨by rw [hyc]; exact hname, fun d hd => ?_, fun h => absurd h hquiet, fun ha hv h254 => ⟨fun h => absurd h hlt, fun _ b hb => ?_, fun _ hb => ?_⟩⟩
        · rw [hy]
          exact (Lane.modCan_ne _ _ hd).trans (hother d hd)
        · obtain rfl : a = b := Option.some.inj (hyfree.symm.trans hb)
          rw [hyc]
          exact ⟨rfl, by rw [← hqueue]⟩
        · exact absurd (hyfree.symm.trans hb) (by simp)
      | none =>
        rw [hfree] at hy
        have hyc : y.canCtl c = { z.canCtl c with
            addr := 254, mute := true, queue := (z.canCtl c).queue ++ [{ src := 254, dst := 255, msg := .cannotClaim (x.ownName c) }] } := by
          rw [hy]
          exact Lane.modCan_self _ _ _
        have hyfree : (y.canCtl c).freeAddr = none := by
          rw [hyc]
          exact hfree
        refine ⟨by rw [hyc]; exact hname, fun d hd => ?_, fun h => absurd h hquiet, fun ha hv h254 => ⟨fun h => absurd h hlt, fun _ b hb => ?_, fun _ _ => ?_⟩⟩
        · rw [hy]
          exact (Lane.modCan_ne _ _ hd).trans (hother d hd)
        · exact absurd (hyfree.symm.trans hb) (by simp)
        · refine ⟨by rw [hyc], by rw [hyc], ?_⟩
          rw [hy]
          exact Lane.raise_raised _ _ _ _

/-! ## Transport connections (R501) -/

theorem leNat_pair (a b : Byte) : leNat [a, b] = a.toNat + 256 * b.toNat := by simp [leNat]

/-- A controller changed from what it holds. -/
theorem Lane.modCan_congr {x : Lane} {c : CanId} {f g : CanCtl → CanCtl} (h : f (x.canCtl c) = g (x.canCtl c)) : x.modCan c f = x.modCan c g := by
  unfold Lane.modCan Tab.modify
  rw [show x.can.ctl.get c = x.canCtl c from rfl, h]

/-- A connection announced to all is taken. -/
theorem Lane.tpConnect_announced {z : Lane} {c : CanId} (hin : (z.canCtl c).inConns = []) (src : Nat) (size packets : Byte) :
    z.tpConnect c src 255 [32, size, 0, packets, 255, 0xCA, 0xFE, 0] =
      z.modCan c fun k =>
        { k with inConns := [{ src := src, bam := true, pgn := 0xFECA, size := size.toNat, packets := packets.toNat }] } := by
  have hsize : leNat (slice [32, size, 0, packets, 255, 0xCA, 0xFE, 0] 1 2) = size.toNat := by
    show leNat [size, 0] = _
    rw [leNat_pair]
    rfl
  have hlt := size.isLt
  unfold Lane.tpConnect
  dsimp only [List.getD_cons_zero]
  rw [hsize]
  refine (if_neg (by omega)).trans (Lane.modCan_congr ?_)
  rw [hin]
  rfl

/-- Connections are no part of what lets a lane talk. -/
theorem Lane.talks_inConns {z : Lane} {c : CanId} (ht : z.talks c) (g : CanCtl → List InConn) :
    (z.modCan c fun k => { k with inConns := g k }).talks c := by
  unfold Lane.talks Lane.speaks at ht ⊢
  rw [Lane.modCan_self]
  exact ht

/-- A lane asked for a connection, and its controller free of any. -/
theorem Lane.tpConnect_asked {z : Lane} {c : CanId} (hin : (z.canCtl c).inConns = []) (ht : z.talks c) (src : Nat) (low high packets : Byte) :
    z.tpConnect c src (z.canCtl c).addr [16, low, high, packets, 255, 0, 0xEF, 0] =
      if 1785 < low.toNat + 256 * high.toNat then z.canSend c src (.tpCm [255, 2, 255, 255, 255, 0, 0xEF, 0])
      else (z.modCan c fun k => { k with
        inConns := [{ src := src, bam := false, pgn := 0xEF00, size := low.toNat + 256 * high.toNat, packets := packets.toNat }] }).canSend c src (.tpCm [17, packets, 1, 255, 255, 0, 0xEF, 0]) := by
  have hsize : leNat (slice [16, low, high, packets, 255, 0, 0xEF, 0] 1 2) = low.toNat + 256 * high.toNat := leNat_pair low high
  unfold Lane.tpConnect
  dsimp only [List.getD_cons_zero]
  rw [hsize, hin]
  refine (if_neg (by simp)).trans ((if_neg (by simp)).trans ?_)
  by_cases hbig : 1785 < low.toNat + 256 * high.toNat
  · rw [if_pos hbig, if_pos hbig, if_pos ht]
    rfl
  · rw [if_neg hbig, if_neg hbig]
    refine (if_pos (Lane.talks_inConns ht _)).trans (congrArg (fun y : Lane => y.canSend c src _) (Lane.modCan_congr ?_))
    rw [hin]
    rfl

/-- A packet announced to all, on a controller with that one connection. -/
theorem Lane.tpData_announced {z : Lane} {c : CanId} {i : InConn} {src : Nat} (hs : i.src = src) (hb : i.bam = true)
    (hin : (z.canCtl c).inConns = [i]) (d : List Byte) :
    z.tpData c src 255 d =
      if (d.getD 0 0).toNat ≠ i.got + 1 then z.modCan c fun k => { k with inConns := [] }
      else if i.got + 1 < i.packets then
        z.modCan c fun k => { k with inConns := [{ i with got := i.got + 1, data := i.data ++ slice d 1 7 }] }
      else z.modCan c fun k => { k with
        inConns := [], delivered := k.delivered ++ [{ src := src, pgn := i.pgn, data := (i.data ++ slice d 1 7).take i.size }] } := by
  have hfind : [i].find? (fun j => j.src == src && j.bam == true) = some i := List.find?_cons_of_pos (by simp [hs, hb])
  have hothers : [i].filter (fun j => !(j.src == src && j.bam == true)) = [] := by simp [hs, hb]
  unfold Lane.tpData
  refine (if_neg (by simp)).trans ?_
  dsimp only
  rw [hin, show ((255 : Nat) == 255) = true from rfl, hfind, hothers]
  dsimp only
  by_cases hseq : (d.getD 0 0).toNat ≠ i.got + 1
  · rw [if_pos hseq, if_pos hseq, if_pos rfl]
  · rw [if_neg hseq, if_neg hseq]
    by_cases hmore : i.got + 1 < i.packets
    · rw [if_pos hmore, if_pos hmore]
    · rw [if_neg hmore, if_neg hmore]
      exact if_neg (by simp)

theorem Lane.transport_isobus {x : Lane} {c : CanId} (hi : x.isobus c) (src dst : Nat) (isData : Bool) (d : List Byte) :
    x.transport c src dst isData d = if isData then (x.heardFrom c src).tpData c src dst d else (x.heardFrom c src).tpConnect c src dst d := by
  unfold Lane.transport
  dsimp only
  rw [(x.heardFrom_heard c src).isobus, hi]
  rfl

/-- Where no message has been completed, no service message waits for its answer. -/
theorem Lane.strayAll_none {x : Lane} {c : CanId} {n : Nat} (h : (x.canCtl c).delivered.length = n) (src dst : Nat) : x.strayAll c src dst n = x := by
  unfold Lane.strayAll
  rw [List.drop_of_length_le (Nat.le_of_eq h)]
  split <;> rfl

/-- A transport frame on a lane that hears it, where it completes no message for this node alone. -/
theorem State.transport_lane {s : State} {l : LaneId} {x y : Lane} {c : CanId} {src dst : Nat} {isData : Bool} {d : List Byte}
    (hl : s.lane l = x) (hb : x.onBus c) (hy : x.transport c src dst isData d = y)
    (hd : dst = 255 ∨ (y.canCtl c).delivered.length = (x.canCtl c).delivered.length) :
    ∃ t, exec (.transportProtocolFrame c src dst isData d) s = .next t ∧ t.lanes.get l = y := by
  refine ⟨_, rfl, ?_⟩
  rw [(State.onCan_lane _ (by rw [hl]; exact hb)).1, hl, hy]
  cases hd with
  | inl h => exact if_pos h
  | inr h => exact Lane.strayAll_none h _ _

section
variable {s : State} {l : LaneId} {x : Lane} {c : CanId} {src : Nat} (hl : s.lane l = x) (hb : x.onBus c) (hi : x.isobus c)
include hl hb hi

/-- A transport frame to all whose effect is on the controller alone. -/
theorem State.transport_toAll {isData : Bool} {d : List Byte} {f : CanCtl → CanCtl}
    (h : ∀ z, x.Heard z → (if isData then z.tpData c src 255 d else z.tpConnect c src 255 d) = z.modCan c f) :
    ∃ t y, exec (.transportProtocolFrame c src 255 isData d) s = .next t ∧ t.lanes.get l = y ∧ y.canCtl c = f (x.canCtl c) ∧ x.CtlReach y := by
  have hz := x.heardFrom_heard c src
  obtain ⟨t, ht, hy⟩ := State.transport_lane hl hb ((Lane.transport_isobus hi src 255 isData d).trans (h _ hz)) (.inl rfl)
  refine ⟨t, _, ht, hy, ?_, hz.ctlReach.trans (Lane.modCan_ctlReach _ _ _)⟩
  rw [Lane.modCan_self, hz.canCtl]

/-- A lane asked for a connection it can hold takes it and clears the first packet to send. -/
theorem State.transport_asked (hin : (x.canCtl c).inConns = []) (ht : x.talks c) {low high packets : Byte}
    (hsize : low.toNat + 256 * high.toNat ≤ 1785) :
    ∃ t y, exec (.transportProtocolFrame c src (x.canCtl c).addr false [16, low, high, packets, 255, 0, 0xEF, 0]) s = .next t ∧
      t.lanes.get l = y ∧ x.CtlReach y ∧ (x.canCtl c).SentOn (y.canCtl c) src [.tpCm [17, packets, 1, 255, 255, 0, 0xEF, 0]] ∧
      (y.canCtl c).inConns = [{ src := src, bam := false, pgn := 0xEF00, size := low.toNat + 256 * high.toNat, packets := packets.toNat }] := by
  have hz := x.heardFrom_heard c src
  have hy := Lane.tpConnect_asked (by rw [hz.canCtl, hin]) (by rw [hz.talks, ht]) src low high packets
  rw [hz.canCtl, if_neg (by omega)] at hy
  have hctl := (Lane.canSend_sent ((x.heardFrom c src).modCan c fun k => { k with
        inConns := [{ src := src, bam := false, pgn := 0xEF00, size := low.toNat + 256 * high.toNat, packets := packets.toNat }] })
        c src (.tpCm [17, packets, 1, 255, 255, 0, 0xEF, 0])).trans (by rw [Lane.modCan_self, hz.canCtl])
  obtain ⟨t, ht', hl'⟩ := State.transport_lane hl hb ((Lane.transport_isobus hi src _ false _).trans ((if_neg Bool.false_ne_true).trans hy)) (.inr (by rw [hctl]))
  exact ⟨t, _, ht', hl', hz.ctlReach.trans ((Lane.modCan_ctlReach _ _ _).trans (Lane.canSend_ctlReach _ _ _ _)), by rw [hctl]; rfl, by rw [hctl]⟩

/-- A lane asked for a connection of more bytes than it can hold refuses it. -/
theorem State.transport_refused (hin : (x.canCtl c).inConns = []) (ht : x.talks c) {low high packets : Byte}
    (hsize : 1785 < low.toNat + 256 * high.toNat) :
    ∃ t y, exec (.transportProtocolFrame c src (x.canCtl c).addr false [16, low, high, packets, 255, 0, 0xEF, 0]) s = .next t ∧
      t.lanes.get l = y ∧ x.CtlReach y ∧ (x.canCtl c).SentOn (y.canCtl c) src [.tpCm [255, 2, 255, 255, 255, 0, 0xEF, 0]] ∧
      (y.canCtl c).inConns = [] := by
  have hz := x.heardFrom_heard c src
  have hy := Lane.tpConnect_asked (by rw [hz.canCtl, hin]) (by rw [hz.talks, ht]) src low high packets
  rw [hz.canCtl, if_pos hsize] at hy
  have hctl := (Lane.canSend_sent (x.heardFrom c src) c src (.tpCm [255, 2, 255, 255, 255, 0, 0xEF, 0])).trans (by rw [hz.canCtl])
  obtain ⟨t, ht', hl'⟩ := State.transport_lane hl hb ((Lane.transport_isobus hi src _ false _).trans ((if_neg Bool.false_ne_true).trans hy)) (.inr (by rw [hctl]))
  exact ⟨t, _, ht', hl', hz.ctlReach.trans (Lane.canSend_ctlReach _ _ _ _), by rw [hctl]; rfl, by rw [hctl]; exact hin⟩

end

/-- Settles O50: each message goes through the note of a heard frame; a transport frame changes its controller's connections. -/
theorem canMessagesAndPacketsAreTaken : Obligations.CanMessagesAndPacketsAreTaken := by
  unfold Obligations.CanMessagesAndPacketsAreTaken
  refine ⟨?_, ?_⟩
  · rintro s l x c src hl hb hi
    have hb' : (s.lane l).onBus c := by
      rw [hl]
      exact hb
    refine ⟨fun dst g => ?_, fun v => ?_, fun name hn hs => ?_, ?_, fun pgn hp ht => ?_⟩
    · obtain ⟨hget, hout⟩ := State.onCan_lane (fun x => x.guidance c src dst g) hb'
      exact ⟨_, _, rfl, hget, hout, by rw [hl]; exact Lane.guidance_eq hi src dst g⟩
    · obtain ⟨hget, hout⟩ := State.onCan_lane (fun x => x.groundSpeed c src v) hb'
      exact ⟨_, _, rfl, hget, hout, by rw [hl]; exact Lane.groundSpeed_eq hi src v⟩
    · obtain ⟨hget, hout⟩ := State.onCan_lane (fun x => x.addressClaimed c src name) hb'
      exact ⟨_, _, rfl, hget, hout, by rw [hl]; exact Lane.addressClaimed_taken hi hs src hn⟩
    · obtain ⟨hget, hout⟩ := State.onCan_lane (fun z => z.addressClaimed c src (x.ownName c)) hb'
      exact ⟨_, _, rfl, hget, by rw [hl, Lane.addressClaimed_own hi]; exact x.heardFrom_heard c src⟩
    · obtain ⟨hget, hout⟩ := State.onCan_lane (fun x => x.refuseClear c src pgn) hb'
      have hz := x.heardFrom_heard c src
      refine ⟨_, _, rfl, hget, hout, ?_, ?_⟩
      · rw [hl, Lane.refuseClear_eq ht src hp, Lane.canSend_sent, hz.canCtl]
        rfl
      · rw [hl, Lane.refuseClear_eq ht src hp]
        exact hz.ctlReach.trans (Lane.canSend_ctlReach _ _ _ _)
  · rintro s l x c src hl hb hi -
    refine ⟨fun size packets hin => ?_, fun low high packets hin ht => ?_, fun i d hsrc hbam hin => ⟨fun hseq hmore => ?_, fun hseq hlast => ?_, fun hseq => ?_⟩⟩
    · obtain ⟨t, y, ht, hy, hctl, hreach⟩ := State.transport_toAll (isData := false) hl hb hi
        fun z hz => (if_neg Bool.false_ne_true).trans (Lane.tpConnect_announced (by rw [hz.canCtl, hin]) src size packets)
      exact ⟨t, y, ht, hy, by rw [hctl], hreach⟩
    · by_cases hsize : low.toNat + 256 * high.toNat ≤ 1785
      · obtain ⟨t, y, ht', hy, hreach, hsent⟩ := State.transport_asked (packets := packets) hl hb hi hin ht hsize
        exact ⟨t, y, ht', hy, hreach, fun _ => hsent, fun h => absurd hsize (Nat.not_le.2 h)⟩
      · obtain ⟨t, y, ht', hy, hreach, hsent⟩ := State.transport_refused (packets := packets) hl hb hi hin ht (Nat.lt_of_not_le hsize)
        exact ⟨t, y, ht', hy, hreach, fun h => absurd h hsize, fun _ => hsent⟩
    · obtain ⟨t, y, ht, hy, hctl, hreach⟩ := State.transport_toAll (isData := true) (d := d) hl hb hi fun z hz =>
        (if_pos rfl).trans <| (Lane.tpData_announced hsrc hbam (by rw [hz.canCtl, hin]) d).trans ((if_neg (Classical.not_not.2 hseq)).trans (if_pos hmore))
      exact ⟨t, y, ht, hy, by rw [hctl], hreach⟩
    · obtain ⟨t, y, ht, hy, hctl, -⟩ := State.transport_toAll (isData := true) (d := d) hl hb hi fun z hz =>
        (if_pos rfl).trans <| (Lane.tpData_announced hsrc hbam (by rw [hz.canCtl, hin]) d).trans ((if_neg (Classical.not_not.2 hseq)).trans (if_neg (by omega)))
      exact ⟨t, y, ht, hy, by rw [hctl], by rw [hctl]⟩
    · obtain ⟨t, y, ht, hy, hctl, -⟩ := State.transport_toAll (isData := true) (d := d) hl hb hi fun z hz =>
        (if_pos rfl).trans <| (Lane.tpData_announced hsrc hbam (by rw [hz.canCtl, hin]) d).trans (if_pos hseq)
      exact ⟨t, y, ht, hy, by rw [hctl], by rw [hctl]⟩

end Sys2Proof.Machine

/-! What the voice sends when it falls due and answers to requests (R501, R502, R506, R508). -/

namespace Sys2Proof.Machine

/-- A controller that has sent messages to an address in this tick. -/
def CanCtl.sending (k : CanCtl) (dst : Nat) (ms : List CanMsg) : CanCtl :=
  { k with sent := k.sent ++ ms.map fun m => { src := k.addr, dst := dst, msg := m } }

theorem CanCtl.sending_nil (k : CanCtl) (dst : Nat) : k.sending dst [] = k := by
  unfold CanCtl.sending
  rw [List.map_nil, List.append_nil]

theorem CanCtl.sending_cons (k : CanCtl) (dst : Nat) (m : CanMsg) (ms : List CanMsg) :
    (k.sending dst [m]).sending dst ms = k.sending dst (m :: ms) := by
  simp [CanCtl.sending]

theorem Lane.modCan_modCan (x : Lane) (c : CanId) (f g : CanCtl → CanCtl) :
    (x.modCan c f).modCan c g = x.modCan c fun _ => g (f (x.canCtl c)) := by
  have hctl : (x.can.ctl.modify c f).modify c g = x.can.ctl.modify c fun _ => g (f (x.canCtl c)) := Tab.ext_get fun d => by
    by_cases hd : d = c
    · rw [hd, Tab.get_modify_self, Tab.get_modify_self, Tab.get_modify_self]
      rfl
    · rw [Tab.get_modify_ne _ _ hd, Tab.get_modify_ne _ _ hd, Tab.get_modify_ne _ _ hd]
  unfold Lane.modCan
  rw [← hctl]

theorem Lane.modCan_keeping (x : Lane) (c : CanId) : (x.modCan c fun _ => x.canCtl c) = x := by
  have hctl : (x.can.ctl.modify c fun _ => x.canCtl c) = x.can.ctl := Tab.ext_get fun d => by
    by_cases hd : d = c
    · rw [hd, Tab.get_modify_self]
      rfl
    · rw [Tab.get_modify_ne _ _ hd]
  unfold Lane.modCan
  rw [hctl]

theorem Lane.canSend_eq (x : Lane) (c : CanId) (dst : Nat) (m : CanMsg) :
    x.canSend c dst m = x.modCan c fun _ => (x.canCtl c).sending dst [m] :=
  Lane.modCan_congr rfl

/-- Messages sent one after the other. -/
theorem Lane.foldl_canSend (c : CanId) (dst : Nat) (ms : List CanMsg) (x : Lane) :
    ms.foldl (fun l m => l.canSend c dst m) x = x.modCan c fun _ => (x.canCtl c).sending dst ms := by
  induction ms generalizing x with
  | nil => rw [List.foldl_nil, CanCtl.sending_nil, Lane.modCan_keeping]
  | cons m ms ih =>
    rw [List.foldl_cons, ih, Lane.canSend_eq, Lane.modCan_modCan, Lane.modCan_self, CanCtl.sending_cons]

theorem Lane.canSendAll_eq (x : Lane) (c : CanId) (m : CanMsg) :
    x.canSendAll c m = x.modCan c fun _ => (x.canCtl c).sending 255 m.frames := by
  unfold Lane.canSendAll CanMsg.frames
  dsimp only
  split
  · exact Lane.canSend_eq _ _ _ _
  · exact Lane.foldl_canSend _ _ _ _

/-! ## What falls due -/

section
variable {x : Lane} {c : CanId}

theorem Lane.sendGmi_eq (ht : x.talks c) (hdue : (x.canCtl c).gmiNext ≤ x.tick.count) :
    x.sendGmi c = x.modCan c fun _ => { (x.canCtl c).sending 255 [x.gmiMsg] with gmiNext := x.tick.count + 4000 } := by
  unfold Lane.sendGmi
  rw [if_pos ⟨ht, hdue⟩, Lane.canSend_eq, Lane.modCan_modCan]

theorem Lane.sendGmi_waits (h : x.talks c = false ∨ x.tick.count < (x.canCtl c).gmiNext) : x.sendGmi c = x :=
  if_neg fun ⟨ht, hdue⟩ => h.elim (fun hf => Bool.false_ne_true (hf.symm.trans ht)) (Nat.not_lt.2 hdue)

theorem Lane.sendSpeed_eq (ht : x.talks c) (hr : x.cfg.laneImageRole = 0) (hdue : (x.canCtl c).speedNext ≤ x.tick.count) :
    x.sendSpeed c = x.modCan c fun _ =>
      { (x.canCtl c).sending 255 [.wheelSpeed (x.chas.speed.map fun v => absI v) (distanceMm x.can.distance)] with speedNext := x.tick.count + 4000 } := by
  unfold Lane.sendSpeed
  rw [if_pos ⟨ht, hr, hdue⟩, Lane.canSend_eq, Lane.modCan_modCan]

theorem Lane.sendSpeed_waits (h : x.talks c = false ∨ x.tick.count < (x.canCtl c).speedNext) : x.sendSpeed c = x :=
  if_neg fun ⟨ht, _, hdue⟩ => h.elim (fun hf => Bool.false_ne_true (hf.symm.trans ht)) (Nat.not_lt.2 hdue)

theorem Lane.sendDm1_eq (ht : x.talks c) (hdue : (x.canCtl c).dm1Next ≤ x.tick.count) :
    x.sendDm1 c = x.modCan c fun _ => { (x.canCtl c).sending 255 x.dm1Msg.frames with dm1Next := x.tick.count + 40000 } := by
  unfold Lane.sendDm1
  rw [if_pos ⟨ht, hdue⟩, Lane.canSendAll_eq, Lane.modCan_modCan]

theorem Lane.sendDm1_waits (h : x.talks c = false ∨ x.tick.count < (x.canCtl c).dm1Next) : x.sendDm1 c = x :=
  if_neg fun ⟨ht, hdue⟩ => h.elim (fun hf => Bool.false_ne_true (hf.symm.trans ht)) (Nat.not_lt.2 hdue)

/-! ## Requests -/

theorem Lane.talks_speaks (ht : x.talks c) : x.speaks c ∧ x.isobus c ∧ (x.canCtl c).mute = false := by
  unfold Lane.talks at ht
  simp only [Bool.and_eq_true, Bool.not_eq_true'] at ht
  obtain ⟨⟨⟨⟨hs, hi⟩, hm⟩, -⟩, -⟩ := ht
  exact ⟨hs, hi, hm⟩

/-- A message of 8 bytes or less goes out in one frame. -/
theorem Lane.canSendAll_single {m : CanMsg} (h : (m.bytes 255).length ≤ 8) : x.canSendAll c m = x.canSend c 255 m := if_pos h

theorem Lane.gmiMsg_short (x : Lane) : (x.gmiMsg.bytes 255).length ≤ 8 := by
  simp [Lane.gmiMsg, CanMsg.bytes, leBytes_length]

theorem Lane.claim_short (x : Lane) (c : CanId) : ((CanMsg.claim (x.ownName c)).bytes 255).length ≤ 8 := Nat.le_of_eq (leBytes_length _ _)

/-- The messages a Request asks for, by PGN (Table 19.3). -/
def Lane.answers (x : Lane) (c : CanId) : List (Nat × CanMsg) :=
  [(0xFECA, x.dm1Msg), (0xFECB, x.dm2Msg), (0xFEDA, .software x.release Config.stepping),
    (0xFDC5, .ecuIdent Config.ordering Config.serial), (0xAC00, x.gmiMsg), (0xEE00, .claim (x.ownName c))]

theorem Lane.Heard.answers {z : Lane} (h : x.Heard z) : z.answers c = x.answers c := by
  rw [h]
  rfl

/-- What a talking lane that has noted the frame answers to a Request. -/
theorem Lane.canRequest_eq (ht : x.talks c) {src dst : Nat} (hd : dst = 255 ∨ dst = (x.canCtl c).addr) {q : Nat × CanMsg} (hq : q ∈ x.answers c) :
    x.canRequest c src dst q.1 = (x.heardFrom c src).canSendAll c q.2 := by
  have hz := x.heardFrom_heard c src
  rw [← hz.canCtl] at hd
  rw [← hz.talks] at ht
  rw [← hz.answers] at hq
  unfold Lane.canRequest
  generalize x.heardFrom c src = z at *
  obtain ⟨hs, hi, hm⟩ := Lane.talks_speaks ht
  refine (if_neg fun h => hd.elim h.1 h.2).trans ?_
  simp only [Lane.answers, List.mem_cons, List.not_mem_nil, or_false] at hq
  rcases hq with rfl | rfl | rfl | rfl | rfl | rfl
  · simp [ht]
  · simp [ht]
  · simp [ht]
  · simp [ht]
  · simp [ht, Lane.canSendAll_single (z.gmiMsg_short)]
  · simp [hs, hi, hm, Lane.canSendAll_single (z.claim_short c)]

end

/-- Settles O51: every message goes out through `canSend`, in one frame or in packets. -/
theorem theVoiceSendsAndAnswers : Obligations.TheVoiceSendsAndAnswers := by
  unfold Obligations.TheVoiceSendsAndAnswers
  rintro s l x c rfl
  refine ⟨fun ht => ⟨fun hdue => ?_, fun hr hdue => ?_, fun hdue => ?_, fun hb src dst hd q hq => ?_⟩, fun hf => ⟨?_, ?_, ?_⟩, fun h => ?_, fun h => ?_, fun h => ?_⟩
  · exact ⟨{ ((s.lane l).canCtl c).sending 255 [(s.lane l).gmiMsg] with gmiNext := (s.lane l).tick.count + 4000 }, rfl, State.next_lane (Lane.sendGmi_eq ht hdue), rfl⟩
  · exact ⟨{ ((s.lane l).canCtl c).sending 255 [.wheelSpeed ((s.lane l).chas.speed.map fun v => absI v) (distanceMm (s.lane l).can.distance)] with speedNext := (s.lane l).tick.count + 4000 }, rfl, State.next_lane (Lane.sendSpeed_eq ht hr hdue), rfl⟩
  · exact ⟨{ ((s.lane l).canCtl c).sending 255 (s.lane l).dm1Msg.frames with dm1Next := (s.lane l).tick.count + 40000 }, rfl, State.next_lane (Lane.sendDm1_eq ht hdue), rfl⟩
  · obtain ⟨hget, hout⟩ := State.onCan_lane (c := c) (fun y => y.canRequest c src dst q.1) hb
    have hz := (s.lane l).heardFrom_heard c src
    refine ⟨_, _, rfl, hget, hout, ?_⟩
    rw [Lane.canRequest_eq ht hd hq, Lane.canSendAll_eq, Lane.modCan_self, hz.canCtl]
    exact ⟨rfl, hz.ctlReach.trans (Lane.modCan_ctlReach _ _ _)⟩
  · exact State.next_lane (Lane.sendGmi_waits (.inl hf))
  · exact State.next_lane (Lane.sendSpeed_waits (.inl hf))
  · exact State.next_lane (Lane.sendDm1_waits (.inl hf))
  · exact State.next_lane (Lane.sendGmi_waits (.inr h))
  · exact State.next_lane (Lane.sendSpeed_waits (.inr h))
  · exact State.next_lane (Lane.sendDm1_waits (.inr h))

end Sys2Proof.Machine

/-! How feedback channels take edges, standstill and SSI frames (R169, R170, R173, R186, R191 to R193). -/

namespace Sys2Proof.Machine

/-! ## A channel whose lines stand (R170) -/

theorem Line.due_stands {teff : Nat} {x : Line} (h : x.raw = x.lvl) : x.due teff = none := if_pos h

/-- A line that samples the level it holds accepts nothing and is no fast edge. -/
theorem Line.sample_stands {x : Line} (h : x.raw = x.lvl) (teff clk : Nat) :
    ∃ pin, x.sample teff false x.lvl clk = ({ x with pin := pin }, false, false) := by
  refine ⟨x.lvl, ?_⟩
  have hx : ({ x with pin := x.lvl, raw := x.lvl != false } : Line) = { x with pin := x.lvl } := by
    rw [Bool.bne_false, ← h]
  unfold Line.sample
  dsimp only
  rw [hx, Bool.bne_false, if_pos rfl, h, decide_eq_false (fun hne => hne rfl), ite_self]

/-- A line changes after TEFF: its filter accepts the new level. -/
theorem Line.sample_accepts {x : Line} {teff clk : Nat} (hlast : ∀ t, x.last = some t → t + teff ≤ clk) :
    x.sample teff false (!x.lvl) clk = ({ x with pin := !x.lvl, raw := !x.lvl, lvl := !x.lvl, last := some clk }, false, true) := by
  unfold Line.sample Line.accept
  refine (if_neg ?_).trans ((if_neg (by simp)).trans (by simp))
  cases hl : x.last with
  | none => exact Bool.false_ne_true
  | some t => exact fun h => absurd (of_decide_eq_true h) (Nat.not_lt.2 (hlast t hl))

/-- A line changes within TEFF of its last change: a fast edge. -/
theorem Line.sample_fast {x : Line} {teff clk t : Nat} (h : x.raw = x.lvl) (hlast : x.last = some t) (hearly : clk < t + teff) :
    x.sample teff false (!x.lvl) clk = ({ x with pin := !x.lvl, raw := !x.lvl }, true, false) := by
  unfold Line.sample
  rw [hlast]
  dsimp only
  rw [if_pos (decide_eq_true hearly), Bool.bne_false, h, decide_eq_true (by simp)]

/-- A channel whose three lines stand. -/
def Chan.Stands (ch : Chan) : Prop := ch.la.raw = ch.la.lvl ∧ ch.lb.raw = ch.lb.lvl ∧ ch.lz.raw = ch.lz.lvl

theorem Chan.settle_stands {ch : Chan} (h : ch.Stands) (g : IncCfg) (upto : Nat) : ch.settle g upto 4 = (ch, []) := by
  obtain ⟨ha, hb, hz⟩ := h
  unfold Chan.settle
  rw [Line.due_stands ha, Line.due_stands hb, Line.due_stands hz] <;> rfl

/-- The direction of a quadrature change of line A. -/
theorem quadStep_lineA (a b : Bool) : quadStep a b (!a) b = if a = b then 1 else -1 := by cases a <;> cases b <;> rfl

/-- An accepted change of line A on a quadrature channel is decoded as one count. -/
theorem Chan.decode_lineA {g : IncCfg} (hg : g.mode = 1) (hi : g.invert = 0) {ch : Chan} {a b z : Bool} (hseen : ch.seen = (!a, b, z)) (clk : Nat) :
    Chan.decode g (a, b, z) ch clk = (ch.move clk (if a = b then 1 else -1), []) := by
  have hne : (if a = b then (1 : Int) else -1) ≠ 0 := by split <;> decide
  have hrev : (if Nat.testBit 0 3 = true then (-1 : Int) else 1) = 1 := rfl
  unfold Chan.decode
  rw [hseen, hg, hi]
  dsimp only
  rw [if_neg (by simp), quadStep_lineA, if_neg hne, hrev, Int.one_mul] <;> rfl

theorem Chan.took_lineA {g : IncCfg} (hg : g.mode = 1) (hi : g.invert = 0) {ch : Chan} {a b z : Bool} (hseen : ch.seen = (!a, b, z)) (clk : Nat) :
    ∃ c, ch.took g (a, b, z) 1 clk = (c, []) ∧ c.pos = wrap32 (ch.pos + if a = b then 1 else -1) ∧ c.la = ch.la ∧
      c.accepted = ch.accepted + 1 ∧ c.still = false := by
  have hdecode := Chan.decode_lineA hg hi (ch := { ch with accepted := ch.accepted + 1, edgeNow := true, still := false }) hseen clk
  unfold Chan.took
  rw [hdecode]
  exact ⟨_, rfl, rfl, rfl, rfl, rfl⟩

section
variable {g : IncCfg} {ch : Chan} {clk : Nat} (hg : g.mode = 1) (hi : g.invert = 0) (h : ch.Stands)
include hi h

/-- A change of line A within TEFF of its last one is counted, and nothing else. -/
theorem Chan.edge_fast {t : Nat} (hlast : ch.la.last = some t) (hearly : clk < t + g.teff) :
    ∃ c, ch.edge g clk (!ch.la.lvl) ch.lb.lvl ch.lz.lvl = (c, []) ∧
      c.pos = ch.pos ∧ c.fastNow = ch.fastNow + 1 ∧ c.accepted = ch.accepted ∧ c.la.lvl = ch.la.lvl := by
  have ⟨ha, hb, hz⟩ := h
  obtain ⟨pb, hsb⟩ := Line.sample_stands hb g.teff clk
  obtain ⟨pz, hsz⟩ := Line.sample_stands hz g.teff clk
  unfold Chan.edge
  rw [Chan.settle_stands h, hi]
  dsimp only
  rw [Nat.zero_testBit 0, Nat.zero_testBit 1, Nat.zero_testBit 2, Line.sample_fast ha hlast hearly, hsb, hsz]
  exact ⟨_, rfl, rfl, rfl, rfl, rfl⟩

include hg

/-- A change of line A after TEFF moves the position by one count. -/
theorem Chan.edge_moves (hlast : ∀ t, ch.la.last = some t → t + g.teff ≤ clk) :
    ∃ c, ch.edge g clk (!ch.la.lvl) ch.lb.lvl ch.lz.lvl = (c, []) ∧
      c.pos = wrap32 (ch.pos + if ch.la.lvl = ch.lb.lvl then 1 else -1) ∧ c.la.lvl = !ch.la.lvl ∧ c.la.last = some clk ∧
      c.accepted = ch.accepted + 1 ∧ c.still = false := by
  have ⟨ha, hb, hz⟩ := h
  obtain ⟨pb, hsb⟩ := Line.sample_stands hb g.teff clk
  obtain ⟨pz, hsz⟩ := Line.sample_stands hz g.teff clk
  unfold Chan.edge
  rw [Chan.settle_stands h, hi]
  dsimp only
  rw [Nat.zero_testBit 0, Nat.zero_testBit 1, Nat.zero_testBit 2, Line.sample_accepts hlast, hsb, hsz]
  obtain ⟨c, hc, hpos, hla, hacc, hstill⟩ := Chan.took_lineA hg hi
    (ch := { ch with la := { pin := !ch.la.lvl, raw := !ch.la.lvl, lvl := !ch.la.lvl, last := some clk }, lb := { ch.lb with pin := pb }
                     lz := { ch.lz with pin := pz }, fastNow := ch.fastNow + b2n false + b2n false + b2n false })
    (a := ch.la.lvl) (b := ch.lb.lvl) (z := ch.lz.lvl) rfl clk
  refine ⟨c, ?_, hpos, by rw [hla], by rw [hla], hacc, hstill⟩
  exact congrArg (fun r : Chan × List (Ev × Int) => (r.1, ([] : List (Ev × Int)) ++ r.2)) hc

end

/-! ## Edges on a lane (R170) -/

theorem Lane.setChan_self (x : Lane) (c : ChanId) : x.setChan c (x.fbk.get c) = x := by
  have hset : x.fbk.set c (x.fbk.get c) = x.fbk := Tab.ext_get fun j => by
    rw [Tab.get_set]
    split
    next h => rw [h]
    next => rfl
  unfold Lane.setChan
  rw [hset]

theorem Lane.settleDir_quad {x : Lane} {c : ChanId} (hm : x.cfg.feedbackMode c.val = 1) (upto : Nat) : x.settleDir c upto = x :=
  if_neg fun h => absurd (hm.symm.trans h.1) (by decide)

theorem Lane.settleChan_stands {x : Lane} {c : ChanId} (h : (x.fbk.get c).Stands) (upto : Nat) : x.settleChan c upto = x := by
  have ⟨ha, _, _⟩ := h
  unfold Lane.settleChan
  rw [Line.due_stands ha]
  dsimp only
  rw [Chan.settle_stands h]
  exact x.setChan_self c

/-- A sample of a standing quadrature channel that raises no event changes that channel alone. -/
theorem Lane.sampleEdge_quad {x : Lane} {c : ChanId} (hm : x.cfg.feedbackMode c.val = 1) (h : (x.fbk.get c).Stands) {clk : Nat} {a b z : Bool} {ch : Chan}
    (hedge : (x.fbk.get c).edge (incCfg x c) clk a b z = (ch, [])) : x.sampleEdge c clk a b z = x.setChan c ch := by
  unfold Lane.sampleEdge
  rw [Lane.settleChan_stands h, Lane.settleDir_quad hm]
  dsimp only
  rw [hedge]
  rfl

theorem Lane.setChan_get (x : Lane) (c : ChanId) (ch : Chan) : (x.setChan c ch).fbk.get c = ch := Tab.get_set_self _ _ _

theorem Lane.setChan_get_ne (x : Lane) {c j : ChanId} (ch : Chan) (h : j ≠ c) : (x.setChan c ch).fbk.get j = x.fbk.get j := Tab.get_set_ne _ _ h

/-- What an edge of line A does on a standing quadrature channel. -/
theorem Lane.feedbackEdge_lineA {x : Lane} {c : Fin 4} {k : ChanId} (hk : k = ⟨c.val, by omega⟩) (hop : x.start.state = .operate) (hm : x.cfg.feedbackMode c.val = 1)
    (hi : x.cfg.feedbackInvert c.val = 0) (h : (x.fbk.get k).Stands) (at_ : Nat) :
    ∃ ch, x.feedbackEdge c at_ (!(x.fbk.get k).la.lvl) (x.fbk.get k).lb.lvl (x.fbk.get k).lz.lvl = { x with now := at_ }.setChan k ch ∧
      ((∀ t, (x.fbk.get k).la.last = some t → t + max (x.cfg.feedbackTmin c.val) 20 ≤ x.clk + at_) →
        ch.pos = wrap32 ((x.fbk.get k).pos + if (x.fbk.get k).la.lvl = (x.fbk.get k).lb.lvl then 1 else -1) ∧
        ch.la.lvl = !(x.fbk.get k).la.lvl ∧ ch.la.last = some (x.clk + at_) ∧ ch.accepted = (x.fbk.get k).accepted + 1 ∧ ch.still = false) ∧
      (∀ t, (x.fbk.get k).la.last = some t → x.clk + at_ < t + max (x.cfg.feedbackTmin c.val) 20 →
        ch.pos = (x.fbk.get k).pos ∧ ch.fastNow = (x.fbk.get k).fastNow + 1 ∧ ch.accepted = (x.fbk.get k).accepted ∧ ch.la.lvl = (x.fbk.get k).la.lvl) := by
  have hsamples : ¬ (x.cfg.feedbackMode c.val = 0 ∨ !pathState x.start.state) := by
    rw [hm, hop]
    decide
  have hlane : ∀ {ch}, (x.fbk.get k).edge (incCfg x k) (x.clk + at_) (!(x.fbk.get k).la.lvl) (x.fbk.get k).lb.lvl (x.fbk.get k).lz.lvl = (ch, []) →
      x.feedbackEdge c at_ (!(x.fbk.get k).la.lvl) (x.fbk.get k).lb.lvl (x.fbk.get k).lz.lvl = { x with now := at_ }.setChan k ch := by
    intro ch hch
    subst hk
    exact (if_neg hsamples).trans (Lane.sampleEdge_quad (x := { x with now := at_ }) (c := ⟨c.val, by omega⟩) hm h hch)
  have hmode : (incCfg x k).mode = 1 := by
    subst hk
    exact hm
  have hinv : (incCfg x k).invert = 0 := by
    subst hk
    exact hi
  have hteff : (incCfg x k).teff = max (x.cfg.feedbackTmin c.val) 20 := by
    subst hk
    rfl
  rw [← hteff]
  by_cases hlast : ∀ t, (x.fbk.get k).la.last = some t → t + (incCfg x k).teff ≤ x.clk + at_
  · obtain ⟨ch, hch, hmoves⟩ := Chan.edge_moves hmode hinv h hlast
    exact ⟨ch, hlane hch, fun _ => hmoves, fun t ht hlt => absurd (hlast t ht) (Nat.not_le.2 hlt)⟩
  · obtain ⟨t, ht, hlt⟩ : ∃ t, (x.fbk.get k).la.last = some t ∧ x.clk + at_ < t + (incCfg x k).teff := by simpa using hlast
    obtain ⟨ch, hch, hfast⟩ := Chan.edge_fast hinv h ht hlt
    exact ⟨ch, hlane hch, fun hall => absurd hall hlast, fun _ _ _ => hfast⟩

/-! ## Standstill (R186) -/

theorem Lane.feedbackStandstill_eq {x : Lane} {c : Fin 4} (hm : x.cfg.feedbackMode c.val ≠ 0)
    (hq : (x.fbk.get ⟨c.val, by omega⟩).quiet (x.cfg.feedbackSpeedStill c.val)) :
    x.feedbackStandstill c = x.setChan ⟨c.val, by omega⟩ ((x.fbk.get ⟨c.val, by omega⟩).stand (x.cfg.feedbackMode c.val == 3)) :=
  if_pos ⟨hm, hq⟩

theorem Chan.quiet_of {ch : Chan} {still : Nat} (h : ch.accepted = 0 ∨ still ≤ ch.quietRun ∧ ch.edgeNow = false) : ch.quiet still := by
  unfold Chan.quiet
  obtain hacc | ⟨hrun, hedge⟩ := h
  · simp [hacc]
  · simp [hrun, hedge]

/-! ## SSI frames (R191 to R193) -/

/-- Events of a channel are added to those raised in the tick. -/
theorem Lane.raiseFbks_adds (x : Lane) (c : Nat) (es : List (Ev × Int)) :
    ∃ rs, x.raiseFbks c es = { x with col := { x.col with raised := x.col.raised ++ rs } } := by
  refine foldl_keeps (fun y => ∃ rs, y = { x with col := { x.col with raised := x.col.raised ++ rs } }) _ ?_ es x ⟨[], by rw [List.append_nil]⟩
  rintro _ e ⟨rs, rfl⟩
  exact ⟨_, by rw [← List.append_assoc]; rfl⟩

theorem Lane.raiseFbks_keeps (x : Lane) (c : Nat) (es : List (Ev × Int)) :
    x.raiseFbks c es = { x with col := { x.col with raised := (x.raiseFbks c es).col.raised } } := by
  obtain ⟨rs, h⟩ := x.raiseFbks_adds c es
  rw [h]

/-- The first of several events of a channel has been raised. -/
theorem Lane.raiseFbks_first (x : Lane) (c : Nat) (ev : Ev) (v : Int) (es : List (Ev × Int)) :
    (x.raiseFbks c ((ev, v) :: es)).Raised ev (ctxOf (.channel c) v) := by
  obtain ⟨rs, h⟩ := (x.raiseFbk c ev v).raiseFbks_adds c es
  have hcons : x.raiseFbks c ((ev, v) :: es) = (x.raiseFbk c ev v).raiseFbks c es := rfl
  rw [hcons, h]
  exact ⟨_, List.mem_append_left _ (List.mem_append_right _ (List.mem_singleton.2 rfl)), rfl, rfl⟩

theorem Lane.ssiFrame_none {x : Lane} {c : Fin 2} (h : (x.fbk.get ⟨6 + c.val, by omega⟩).ssiStart = none) (hi lo : Bool) (raw : Nat) :
    x.ssiFrame c hi lo raw = x := by
  unfold Lane.ssiFrame
  dsimp only
  rw [h]
  exact ite_self _

/-- A frame that was started, on a lane that samples the channel. -/
theorem Lane.ssiFrame_some {x : Lane} {c : Fin 2} (hop : x.start.state = .operate) (hm : x.cfg.feedbackMode (6 + c.val) ≠ 0) {t : Nat × Nat}
    (h : (x.fbk.get ⟨6 + c.val, by omega⟩).ssiStart = some t) {hi lo : Bool} {raw : Nat} {ch : Chan} {es : List (Ev × Int)}
    (hssi : (x.fbk.get ⟨6 + c.val, by omega⟩).ssi (x.cfg.feedbackSsiBits (6 + c.val)) (x.cfg.feedbackSsiCode (6 + c.val)) (x.cfg.feedbackSsiJump (6 + c.val)) t
      hi lo raw = (ch, es)) :
    x.ssiFrame c hi lo raw = (x.setChan ⟨6 + c.val, by omega⟩ ch).raiseFbks (6 + c.val) es := by
  have hsamples : ¬ (x.cfg.feedbackMode (6 + c.val) = 0 ∨ !pathState x.start.state) := by
    rw [hop]
    exact fun hor => hor.elim hm (by decide)
  unfold Lane.ssiFrame
  refine (if_neg hsamples).trans ?_
  rw [h]
  dsimp only
  rw [hssi]

/-- A well-formed frame on a channel without a position gives the position. -/
theorem Chan.ssi_accepts {ch : Chan} (h : ch.ssiHave = false) {bits raw : Nat} (hraw : raw < 2 ^ bits) (jump : Nat) (t : Nat × Nat) :
    ∃ c, ch.ssi bits 0 jump t true true raw = (c, []) ∧ c.pos = raw ∧ c.stale = false ∧ c.ssiFails = 0 ∧ c.ssiStart = none := by
  unfold Chan.ssi ssiJudge
  dsimp only
  rw [h, Nat.mod_eq_of_lt hraw]
  exact ⟨_, rfl, rfl, rfl, rfl, rfl⟩

/-- A frame whose start level is wrong leaves the position and counts. -/
theorem Chan.ssi_rejects (ch : Chan) (bits code jump : Nat) (t : Nat × Nat) (lo : Bool) (raw : Nat) :
    ∃ c es, ch.ssi bits code jump t false lo raw = (c, (Ev.fbk011, 1) :: es) ∧ c.pos = ch.pos ∧ c.stale = true ∧ c.ssiFails = ch.ssiFails + 1 :=
  ⟨_, _, rfl, rfl, rfl, rfl⟩

/-- Settles O27: a channel is changed by what its filter or its frame gives, and no other. -/
theorem feedbackChannelsTakeTheirInputs : Obligations.FeedbackChannelsTakeTheirInputs := by
  unfold Obligations.FeedbackChannelsTakeTheirInputs
  refine ⟨?_, ?_⟩
  · rintro s l x c at_ rfl hop k hm hi ha hb hz
    obtain ⟨ch, hch, hmoves, hfast⟩ := Lane.feedbackEdge_lineA (k := k) rfl hop hm hi ⟨ha, hb, hz⟩ at_
    refine ⟨_, State.next_lane hch, fun j hj => Lane.setChan_get_ne _ _ hj, rfl, ?_⟩
    rw [Lane.setChan_get]
    exact ⟨hmoves, hfast⟩
  · rintro s l x rfl
    refine ⟨?_, ?_⟩
    · intro c k hm hq
      refine ⟨_, State.next_lane (Lane.feedbackStandstill_eq hm (Chan.quiet_of hq)), ?_⟩
      rw [Lane.setChan_get]
      exact ⟨rfl, rfl, rfl, fun j hj => Lane.setChan_get_ne _ _ hj, rfl⟩
    · rintro w rfl
      refine ⟨fun c hi lo raw hnone => State.next_lane (Lane.ssiFrame_none hnone hi lo raw), ?_⟩
      intro c raw k hop hm hcode hraw hstart
      obtain ⟨t, ht⟩ := Option.isSome_iff_exists.1 hstart
      refine ⟨fun hhave => ?_, ?_⟩
      · obtain ⟨ch, hch, hpos, hstale, hfails, hnone⟩ := Chan.ssi_accepts hhave hraw ((s.early l).cfg.feedbackSsiJump k.val) t
        rw [← hcode] at hch
        refine ⟨(s.early l).setChan k ch, State.next_lane (Lane.ssiFrame_some hop hm ht hch), ?_⟩
        rw [Lane.setChan_get]
        exact ⟨hpos, hstale, hfails, hnone, fun j hj => Lane.setChan_get_ne _ _ hj, rfl⟩
      · obtain ⟨ch, es, hch, hpos, hstale, hfails⟩ := Chan.ssi_rejects ((s.early l).fbk.get k) ((s.early l).cfg.feedbackSsiBits k.val)
          ((s.early l).cfg.feedbackSsiCode k.val) ((s.early l).cfg.feedbackSsiJump k.val) t true raw
        refine ⟨((s.early l).setChan k ch).raiseFbks k.val ((Ev.fbk011, 1) :: es), State.next_lane (Lane.ssiFrame_some hop hm ht hch), ?_⟩
        have hget : (((s.early l).setChan k ch).raiseFbks k.val ((Ev.fbk011, 1) :: es)).fbk.get k = ch := by
          rw [Lane.raiseFbks_keeps]
          exact Lane.setChan_get _ _ _
        rw [hget]
        exact ⟨hpos, hstale, hfails, Lane.raiseFbks_first _ _ _ _ _, by rw [Lane.raiseFbks_keeps]; rfl⟩

end Sys2Proof.Machine

/-! ALIGN, ARMED and the entry into OPERATE (R67 to R72). -/

namespace Sys2Proof.Machine

/-! ## What the loops of a tick leave as it is -/

/-- Clock, timer, start-up, leases and stores of a lane: no loop changes them. -/
def Lane.spine (x : Lane) : Nat × TickPart × StartPart × LeasePart × Nvm := (x.clk, x.tick, x.start, x.lease, x.nvm)

/-- What every step of a fold leaves, the fold leaves. -/
theorem foldl_leaves {α β γ : Type} (p : β → γ) {f : β → α → β} (h : ∀ b a, p (f b a) = p b) (xs : List α) (b : β) : p (xs.foldl f b) = p b :=
  foldl_keeps (fun y => p y = p b) f (fun y a hy => (h y a).trans hy) xs b rfl

section
variable (x : Lane)

/-! ### The chassis (chapter 14) -/

@[simp] theorem Lane.formSpeed_spine : x.formSpeed.spine = x.spine := rfl
@[simp] theorem Lane.canSpeed_spine : x.canSpeed.spine = x.spine := rfl

@[simp] theorem Lane.stopStands_spine : x.stopStands.spine = x.spine := by
  unfold Lane.stopStands
  split
  · rfl
  · refine (foldl_leaves Lane.spine (fun y n => ?_) _ _).trans rfl
    split <;> rfl

@[simp] theorem Lane.stopStandstill_spine : x.stopStandstill.spine = x.spine := by
  unfold Lane.stopStandstill
  split
  · split
    · exact x.stopStands_spine
    · rfl
  · rfl

@[simp] theorem Lane.countOverride_spine : x.countOverride.spine = x.spine := by
  unfold Lane.countOverride
  dsimp only
  (repeat' split) <;> rfl

@[simp] theorem Lane.vov1_spine : x.vov1.spine = x.spine := by
  unfold Lane.vov1
  extract_lets c high low y any
  have hy : y.spine = x.spine := by
    refine foldl_leaves Lane.spine (fun z n => ?_) _ _
    dsimp only
    split
    · rfl
    · split
      · rfl
      · split <;> rfl
  clear_value y any
  split
  · exact hy
  · split
    · exact hy
    · exact hy

@[simp] theorem Lane.parkStep_spine : x.parkStep.spine = x.spine := by
  unfold Lane.parkStep
  dsimp only
  split <;> rfl

@[simp] theorem Lane.brakeDemands_spine : x.brakeDemands.spine = x.spine := by
  unfold Lane.brakeDemands
  extract_lets c pedal p1 p2 joint pL pR stopD D pA sL sR side
  have hside : ∀ n left cap q (y : Lane), (side n left cap q y).1.spine = y.spine := by
    intro n left cap q y
    dsimp only [side]
    (repeat' split) <;> rfl
  clear_value side
  split
  next y capL hy =>
  split
  next z capR hz =>
  extract_lets
  split
  have hy' := hside c.brakeValveLeft true x.chas.capL sL x
  have hz' := hside c.brakeValveRight false y.chas.capR sR y
  rw [hy] at hy'
  rw [hz] at hz'
  exact hz'.trans hy'

@[simp] theorem Lane.chassisTick_spine : x.chassisTick.spine = x.spine := by
  unfold Lane.chassisTick
  rw [Lane.brakeDemands_spine, Lane.parkStep_spine, Lane.vov1_spine]
  refine Eq.trans (b := x.formSpeed.canSpeed.stopStandstill.countOverride.spine) rfl ?_
  rw [Lane.countOverride_spine, Lane.stopStandstill_spine, Lane.canSpeed_spine, Lane.formSpeed_spine]

/-! ### Set-points of the steering axes (chapters 8 and 10) -/

@[simp] theorem Lane.applyReq_spine (n : AxisId) (r : ProfReq) : (x.applyReq n r).spine = x.spine := rfl

@[simp] theorem Lane.acceptReq_spine (n : AxisId) (r : ProfReq) (o : ReqBy) : (x.acceptReq n r o).spine = x.spine := by
  unfold Lane.acceptReq
  split
  · split
    · rfl
    · exact x.applyReq_spine n _
  · exact x.applyReq_spine n _

@[simp] theorem Lane.applyReqs_spine (n : AxisId) : (x.applyReqs n).spine = x.spine := by
  unfold Lane.applyReqs
  refine (foldl_leaves Lane.spine (fun y r => ?_) _ _).trans rfl
  extract_lets z res w
  have hz : z.spine = y.spine := by
    dsimp only [z]
    split <;> rfl
  have hw : w.spine = z.spine := by
    dsimp only [w]
    split
    · exact z.acceptReq_spine n _ _
    · rfl
  exact hw.trans hz

@[simp] theorem Lane.takeMode_spine (n : AxisId) (h : Shadow) : (x.takeMode n h).spine = x.spine := by
  unfold Lane.takeMode
  dsimp only
  split <;> rfl

@[simp] theorem Lane.adoptMode_spine (n : AxisId) : (x.adoptMode n).spine = x.spine := by
  unfold Lane.adoptMode
  split
  · exact x.takeMode_spine n _
  · rfl

@[simp] theorem Lane.adoptProfile_spine (n : AxisId) : (x.adoptProfile n).spine = x.spine := by
  unfold Lane.adoptProfile
  dsimp only
  (repeat' split) <;> rfl

@[simp] theorem Lane.takeOver_spine (n : AxisId) : (x.takeOver n).spine = x.spine := by
  unfold Lane.takeOver
  dsimp only
  split
  · split
    · split
      · exact x.takeMode_spine n _
      · rfl
    · rfl
  · rfl

@[simp] theorem Lane.enterMode_spine (n : AxisId) (r : ModeReq) : (x.enterMode n r).spine = x.spine := by
  unfold Lane.enterMode
  dsimp only
  (repeat' split) <;> rfl

@[simp] theorem Lane.applyModes_spine (n : AxisId) : (x.applyModes n).spine = x.spine := by
  unfold Lane.applyModes
  refine foldl_leaves (fun y : Lane × Bool => y.1.spine) (fun y r => ?_) _ _
  dsimp only
  split
  · rfl
  · split
    · rfl
    · exact y.1.enterMode_spine n r

@[simp] theorem Lane.stepProfile_spine (n : AxisId) : (x.stepProfile n).spine = x.spine := by
  unfold Lane.stepProfile
  extract_lets c i p p1 X p2 p3 holder
  split
  next p4 ev _ =>
  extract_lets p5 y z lag w
  have hz : z.spine = x.spine := by
    dsimp only [z]
    split
    · split <;> rfl
    · rfl
  have hw : w.spine = z.spine := by
    dsimp only [w]
    split <;> rfl
  clear_value z w
  split
  · split
    · exact hw.trans hz
    · split
      · exact hz
      · exact hz
  · exact hz

@[simp] theorem Lane.refuseAll_spine (n : AxisId) : (x.refuseAll n).spine = x.spine := rfl

@[simp] theorem Lane.steerPoint_spine (n : AxisId) : (x.steerPoint n).spine = x.spine := by
  unfold Lane.steerPoint
  extract_lets c i own y z src w p band r
  have hy : y.spine = x.spine := by
    dsimp only [y]
    split
    · split
      · exact x.refuseAll_spine n
      · rw [Lane.applyModes_spine, Lane.applyReqs_spine, Lane.takeOver_spine]
    · rw [Lane.adoptMode_spine, Lane.adoptProfile_spine]
  clear_value y
  split
  · exact (Lane.stepProfile_spine _ n).trans hy
  · split
    next v opr heq =>
    have hv : v.spine = y.spine := by
      rw [show v = (v, opr).1 from rfl, ← heq]
      split <;> rfl
    extract_lets u
    have hu : u.spine = v.spine := by
      dsimp only [u]
      split <;> rfl
    exact (hu.trans hv).trans hy

@[simp] theorem Lane.steerAny_spine (n : AxisId) : (x.steerAny n).spine = x.spine := by
  unfold Lane.steerAny
  split
  · exact x.steerPoint_spine n
  · rfl

/-! ### The chain of an axis (R235) -/

@[simp] theorem Lane.outputBlend_spine (n : AxisId) (q : Q) : (x.outputBlend n q).spine = x.spine := by
  unfold Lane.outputBlend
  dsimp only
  (repeat' split) <;> rfl

@[simp] theorem Lane.driveStage_spine (n : AxisId) : (x.driveStage n).spine = x.spine := by
  obtain ⟨h, -⟩ := x.driveStage_driveReach n
  rw [h]
  rfl

@[simp] theorem Lane.valveDemand_spine (n : AxisId) : (x.valveDemand n).spine = x.spine := by
  unfold Lane.valveDemand
  extract_lets c i imax pref ff y
  have hy : y.spine = x.spine := rfl
  clear_value y
  split
  · exact hy
  · split
    · exact hy
    · split <;> exact hy

@[simp] theorem Lane.valveLoop_spine (n : AxisId) : (x.valveLoop n).spine = x.spine := by
  unfold Lane.valveLoop
  extract_lets c i P p imax y o z
  have hz : z.spine = x.spine := x.outputBlend_spine n _
  clear_value z
  split <;> exact hz

@[simp] theorem Lane.chopperDuty_spine (n : AxisId) : (x.chopperDuty n).spine = x.spine :=
  (Lane.outputBlend_spine _ n _).trans rfl

@[simp] theorem Lane.velocityLoop_spine (n : AxisId) (lo hi : Q) : (x.velocityLoop n lo hi).spine = x.spine := by
  unfold Lane.velocityLoop
  dsimp only
  split <;> rfl

@[simp] theorem Lane.positionLoop_spine (n : AxisId) : (x.positionLoop n).spine = x.spine := by
  unfold Lane.positionLoop
  dsimp only
  split <;> rfl

@[simp] theorem Lane.speedLoop_spine (n : AxisId) (lo hi : Q) : (x.speedLoop n lo hi).spine = x.spine := by
  unfold Lane.speedLoop
  dsimp only
  (repeat' split) <;> rfl

@[simp] theorem Lane.torqueLoop_spine (n : AxisId) (lo hi : Q) : (x.torqueLoop n lo hi).spine = x.spine := rfl

@[simp] theorem Lane.motorChain_spine (n : AxisId) : (x.motorChain n).spine = x.spine := by
  unfold Lane.motorChain
  extract_lets c i
  split
  next lim src _ =>
  extract_lets rl
  split
  next lo hi _ =>
  extract_lets y _ z
  have hy : y.spine = x.spine := by
    dsimp only [y]
    split
    · rw [Lane.velocityLoop_spine, Lane.positionLoop_spine]
    · exact x.torqueLoop_spine n lo hi
    · exact x.speedLoop_spine n lo hi
  have hz : z.spine = y.spine := rfl
  exact (z.driveStage_spine n).trans (hz.trans hy)

@[simp] theorem Lane.axisStage_spine (n : AxisId) : (x.axisStage n).spine = x.spine := by
  unfold Lane.axisStage
  split
  · rfl
  · extract_lets y z
    have hz : z.spine = x.spine := by
      dsimp only [z]
      split <;> rfl
    clear_value z
    split
    · exact (z.motorChain_spine n).trans hz
    · exact (z.motorChain_spine n).trans hz
    · exact (z.motorChain_spine n).trans hz
    · exact ((Lane.valveLoop_spine _ n).trans (z.valveDemand_spine n)).trans hz
    · exact (z.chopperDuty_spine n).trans hz
    · exact hz

@[simp] theorem Lane.axisChain_spine (n : AxisId) : (x.axisChain n).spine = x.spine := by
  unfold Lane.axisChain
  dsimp only
  split
  · exact (Lane.axisStage_spine _ n).trans rfl
  · exact (Lane.axisStage_spine _ n).trans rfl

@[simp] theorem Lane.outFlags_spine (n : AxisId) : (x.outFlags n).spine = x.spine := rfl

@[simp] theorem Lane.crossTick_spine (n : AxisId) : (x.crossTick n).spine = x.spine := by
  unfold Lane.crossTick
  dsimp only
  split <;> rfl

@[simp] theorem Lane.engineTick_spine : x.engineTick.spine = x.spine := rfl

/-- The loops of a tick leave clock, timer, start-up, leases and stores as they are. -/
theorem Lane.runLoops_spine : x.runLoops.spine = x.spine := by
  unfold Lane.runLoops
  rw [Lane.engineTick_spine, foldl_leaves Lane.spine (fun y n => by rw [Lane.crossTick_spine, Lane.outFlags_spine, Lane.axisChain_spine]),
    foldl_leaves Lane.spine (fun y n => y.steerAny_spine n), Lane.chassisTick_spine]

end

/-! ## ALIGN (R67, R68) -/

section
variable {x : Lane}

theorem Lane.alignExit_eq (hs : x.start.state = .align) (hr : x.alignReady) :
    x.alignExit = { x with
      start := { x.start with state := .armed, inState := 0, ready := false, readyPrev := false }
      leg := x.leg.mapFin fun _ k => { k with iso := false, uv := false } } := if_pos ⟨hs, hr⟩

theorem Lane.alignExit_waits (hr : x.alignReady = false) : x.alignExit = x := if_neg fun h => by simp [hr] at h

theorem Lane.alignTimeout_eq (hs : x.start.state = .align) (ht : 4800 ≤ x.start.inState) (hn : x.start.tim008 = false) :
    x.alignTimeout = { x.raise .tim008 .none x.waitCode with start := { x.start with tim008 := true } } := if_pos ⟨hs, ht, by rw [hn]; rfl⟩

theorem Lane.discoveryTimeout_eq (hs : x.start.state = .align) (ht : 2000 ≤ x.start.inState) :
    x.discoveryTimeout = { x with start := { x.start with discovered := true } } := if_pos ⟨hs, ht⟩

end

/-! ## The end of pre-charge (R69) -/

/-- An axis that a failed bootstrap has made ABSENT. -/
def Lane.failedAxis (x : Lane) (n : AxisId) : Prop := (x.ax n).absentFault ∧ (x.ax n).role = .absent

/-- Bootstraps may have failed: events are added, axes become ABSENT, nothing else happens. -/
def Lane.Charged (x y : Lane) : Prop :=
  y = { x with col := y.col, lease := y.lease } ∧ (∀ r ∈ x.col.raised, r ∈ y.col.raised) ∧ ∀ n, x.failedAxis n → y.failedAxis n

theorem Lane.Charged.refl (x : Lane) : x.Charged x := ⟨rfl, fun _ h => h, fun _ h => h⟩

theorem Lane.Charged.trans {x y z : Lane} (h : x.Charged y) (h' : y.Charged z) : x.Charged z := by
  obtain ⟨hy, hr, hf⟩ := h
  obtain ⟨hz, hr', hf'⟩ := h'
  exact ⟨by rw [hz, hy], fun r hm => hr' r (hr r hm), fun n hn => hf' n (hf n hn)⟩

/-- The bootstrap of a leg fails its check: it was pulsed and its voltage lies below GATE.BOOT_UV. -/
def Lane.bootFails (x : Lane) (mv : List Nat) (c : Cfg) (i : LegId) : Bool :=
  c.refreshes i.val && (match x.cfg.axisOfLeg x.id i.val with | some n => !(x.ax n).absent | none => false) &&
    decide (((mv.getD i.val 0 : Nat) : Int) * 65536 < c.legGateBootUv i.val * 1000)

/-- The check of one bootstrap. -/
def Lane.chargeCheck (x : Lane) (mv : List Nat) (y : Lane) (i : LegId) : Lane :=
  if x.bootFails mv y.cfg i then
    match (y.raise .pwr003 (.leg i.val) (mv.getD i.val 0)).cfg.axisOfLeg (y.raise .pwr003 (.leg i.val) (mv.getD i.val 0)).id i.val with
    | some n => (y.raise .pwr003 (.leg i.val) (mv.getD i.val 0)).modAx n fun a => { a with absentFault := true, role := .absent }
    | none => y.raise .pwr003 (.leg i.val) (mv.getD i.val 0)
  else y

/-- The lane is READY. -/
def Lane.setReady (x : Lane) : Lane := { x with start := { x.start with ready := true } }

theorem Lane.prechargeEnd_eq {x : Lane} (hs : x.start.state = .armed) (hr : x.start.ready = false) (ht : x.cfg.lanePrechargeTime ≤ x.start.inState) (mv : List Nat) :
    x.prechargeEnd mv = (allLegs.foldl (x.chargeCheck mv) x).setReady := by
  have hready : !x.start.ready := by rw [hr]; rfl
  unfold Lane.prechargeEnd
  rw [if_pos ⟨hs, hready, ht⟩]
  extract_lets pulsed y
  have hy : y = allLegs.foldl (x.chargeCheck mv) x := congrArg (fun f => allLegs.foldl f x) (funext fun z => funext fun i => rfl)
  exact congrArg Lane.setReady hy

theorem Lane.raise_charged (x : Lane) (ev : Ev) (sub : Subject) (v : Int) : x.Charged (x.raise ev sub v) :=
  ⟨rfl, fun _ h => List.mem_append_left _ h, fun _ h => h⟩

theorem Lane.modAx_failed (x : Lane) (n : AxisId) : (x.modAx n fun a => { a with absentFault := true, role := .absent }).failedAxis n := by
  unfold Lane.failedAxis
  rw [Lane.modAx_ax_self]
  exact ⟨rfl, rfl⟩

theorem Lane.modAx_charged (x : Lane) (n : AxisId) : x.Charged (x.modAx n fun a => { a with absentFault := true, role := .absent }) := by
  refine ⟨rfl, fun _ h => h, fun m hm => ?_⟩
  by_cases h : m = n
  · rw [h]
    exact x.modAx_failed n
  · unfold Lane.failedAxis at hm ⊢
    rwa [Lane.modAx_ax_ne _ _ h]

theorem Lane.setReady_charged {x y : Lane} (h : x.Charged y) :
    y.setReady.start = { x.start with ready := true } ∧ y.setReady = { x with start := y.setReady.start, col := y.setReady.col, lease := y.setReady.lease } := by
  obtain ⟨hy, -, -⟩ := h
  unfold Lane.setReady
  constructor
  · rw [hy]
  · rw [hy]

theorem Lane.chargeCheck_charged (x : Lane) (mv : List Nat) (y : Lane) (i : LegId) : y.Charged (x.chargeCheck mv y i) := by
  unfold Lane.chargeCheck
  split
  · split
    · exact (y.raise_charged _ _ _).trans (Lane.modAx_charged _ _)
    · exact y.raise_charged _ _ _
  · exact .refl y

theorem Lane.foldl_chargeCheck_charged (x : Lane) (mv : List Nat) (is : List LegId) (y : Lane) : y.Charged (is.foldl (x.chargeCheck mv) y) :=
  foldl_keeps y.Charged _ (fun z i hz => hz.trans (x.chargeCheck_charged mv z i)) is y (.refl y)

/-- A failed bootstrap is reported and makes its axis ABSENT. -/
theorem Lane.chargeCheck_fails {x y : Lane} {mv : List Nat} {i : LegId} (hy : x.Charged y) (hf : x.bootFails mv x.cfg i) {n : AxisId}
    (hn : x.cfg.axisOfLeg x.id i.val = some n) :
    (x.chargeCheck mv y i).Raised .pwr003 (ctxOf (.leg i.val) (mv.getD i.val 0)) ∧ (x.chargeCheck mv y i).failedAxis n := by
  obtain ⟨hy, -, -⟩ := hy
  have hcfg : y.cfg = x.cfg := by rw [hy]; rfl
  have hid : y.id = x.id := by rw [hy]
  unfold Lane.chargeCheck
  rw [Lane.raise_cfg, Lane.raise_id, hcfg, hid, if_pos hf, hn]
  exact ⟨Lane.raise_raised _ _ _ _, Lane.modAx_failed _ n⟩

/-- Of all legs each failed bootstrap is reported. -/
theorem Lane.foldl_chargeCheck_fails {x : Lane} {mv : List Nat} {i : LegId} (hf : x.bootFails mv x.cfg i) {n : AxisId} (hn : x.cfg.axisOfLeg x.id i.val = some n) :
    (allLegs.foldl (x.chargeCheck mv) x).Raised .pwr003 (ctxOf (.leg i.val) (mv.getD i.val 0)) ∧ (allLegs.foldl (x.chargeCheck mv) x).failedAxis n := by
  obtain ⟨before, after, hsplit⟩ := List.append_of_mem (List.mem_finRange i)
  rw [show allLegs = before ++ i :: after from hsplit, List.foldl_append, List.foldl_cons]
  obtain ⟨⟨r, hr, hev, hctx⟩, hax⟩ := Lane.chargeCheck_fails (x.foldl_chargeCheck_charged mv before x) hf hn
  obtain ⟨-, hraised, hfailed⟩ := x.foldl_chargeCheck_charged mv after (x.chargeCheck mv (before.foldl (x.chargeCheck mv) x) i)
  exact ⟨⟨r, hraised r hr, hev, hctx⟩, hfailed n hax⟩

theorem Lane.prechargeEnd_charged {x : Lane} (hs : x.start.state = .armed) (hr : x.start.ready = false) (ht : x.cfg.lanePrechargeTime ≤ x.start.inState)
    (mv : List Nat) :
    ∃ y, x.prechargeEnd mv = y ∧ y.start = { x.start with ready := true } ∧ y = { x with start := y.start, col := y.col, lease := y.lease } ∧
      ∀ (i : Fin 16) (n : AxisId), x.cfg.refreshes i.val → x.cfg.axisOfLeg x.id i.val = some n → (x.ax n).absent = false →
        ((mv.getD i.val 0 : Nat) : Int) * 65536 < x.cfg.legGateBootUv i.val * 1000 →
        y.Raised .pwr003 (ctxOf (.leg i.val) (mv.getD i.val 0)) ∧ (y.ax n).absentFault ∧ (y.ax n).role = .absent := by
  have hcharged := x.foldl_chargeCheck_charged mv allLegs x
  have hfails : ∀ i n, x.bootFails mv x.cfg i → x.cfg.axisOfLeg x.id i.val = some n → _ := fun i n hf hn => Lane.foldl_chargeCheck_fails (n := n) hf hn
  rw [Lane.prechargeEnd_eq hs hr ht]
  generalize allLegs.foldl (x.chargeCheck mv) x = z at hcharged hfails
  obtain ⟨hstart, heq⟩ := Lane.setReady_charged hcharged
  refine ⟨z.setReady, rfl, hstart, heq, fun i n href hn habs hv => hfails i n ?_ hn⟩
  unfold Lane.bootFails
  rw [href, hn, decide_eq_true hv]
  dsimp only
  rw [habs]
  rfl

/-! ## Entry of OPERATE (R70 to R72, R561) -/

@[simp] theorem Lane.jobEntry_spine (x : Lane) : x.jobEntry.spine = x.spine := by
  unfold Lane.jobEntry
  (repeat' split) <;> rfl

section
variable {x : Lane}

theorem Lane.operateEntry_waits (hp : x.partners = (false, false)) : x.operateEntry = x := by
  unfold Lane.operateEntry
  rw [hp]
  exact if_pos (.inr (.inr (by decide)))

theorem Lane.enterOperate_waits (hp : x.partners = (false, false)) (probes : List Int) : x.enterOperate probes = x := by
  unfold Lane.enterOperate
  dsimp only
  rw [Lane.operateEntry_waits hp]
  exact if_neg fun ⟨h, h'⟩ => h h'

/-- The lease of an axis as the lane enters OPERATE. -/
def Lane.entryLease (x : Lane) (n : AxisId) : AxisLease :=
  if x.cfg.hasAxis n.val && !(x.ax n).absent then
    { x.ax n with
      role := .standby, counter := 0, fresh := x.partners.2, heldBy := if x.partners.2 then x.lateHolder n else none
      epoch := if x.partners.2 then x.lateEpoch n else (x.ax n).epoch, lastRenew := x.tick.count, heldSince := x.tick.count }
  else { x.ax n with role := .absent }

/-- What a lane is as it has entered OPERATE. -/
def Lane.Entered (x y : Lane) : Prop :=
  y.start.state = .operate ∧ y.start.inState = 0 ∧ y.start.time = x.start.ticks ∧ y.start.entry = (if x.partners.2 then 2 else 1) ∧
    y.tick = x.tick ∧ y.nvm = x.nvm ∧ ∀ n, y.ax n = x.entryLease n

theorem Lane.operateEntry_entered (hs : x.start.state = .armed) (hr : x.start.readyPrev) (hp : x.partners.1 || x.partners.2) :
    ∃ y, x.operateEntry = y ∧ x.Entered y := by
  obtain ⟨ready, running, hpp⟩ : ∃ ready running, x.partners = (ready, running) := ⟨_, _, rfl⟩
  rw [hpp] at hp
  have hgo : ¬ (x.start.state ≠ .armed ∨ !x.start.readyPrev ∨ !(ready || running)) := by
    rw [hs, hr, hp]
    decide
  unfold Lane.operateEntry
  rw [hpp]
  refine ⟨_, if_neg hgo, ?_⟩
  extract_lets node phase went stop src3 src2 src1 src0 started leased shown y
  have hax : ∀ n, leased.ax n = x.entryLease n := by
    intro n
    refine (Tab.get_mapFin _ _ _).trans ?_
    unfold Lane.entryLease
    rw [hpp]
    cases running <;> rfl
  have hentry : (if node then 1 else 2) = if x.partners.2 then 2 else 1 := by
    rw [hpp]
    cases running <;> rfl
  have hy : x.Entered y := ⟨rfl, rfl, rfl, hentry, rfl, rfl, hax⟩
  clear_value y
  split
  · exact hy
  · exact hy

/-- What the loops and the jobs do at the entry of OPERATE leaves the entry as it is. -/
theorem Lane.Entered.kept {y z : Lane} (h : x.Entered y) (hst : z.start = { y.start with drvinh := z.start.drvinh }) (ht : z.tick = y.tick) (hn : z.nvm = y.nvm)
    (hax : ∀ n, z.ax n = y.ax n) : x.Entered z := by
  obtain ⟨h1, h2, h3, h4, h5, h6, h7⟩ := h
  rw [Lane.Entered, hst, ht, hn]
  exact ⟨h1, h2, h3, h4, h5, h6, fun n => (hax n).trans (h7 n)⟩

theorem Lane.enterOperate_entered (hs : x.start.state = .armed) (hr : x.start.readyPrev) (hp : x.partners.1 || x.partners.2) (probes : List Int) :
    x.Entered (x.enterOperate probes) := by
  obtain ⟨y, hy, hentered⟩ := Lane.operateEntry_entered hs hr hp
  have hstate : y.start.state = .operate := hentered.1
  unfold Lane.enterOperate
  rw [hy]
  extract_lets was entered src1 src0 z
  rw [if_pos ⟨by rw [show was = .armed from hs]; decide, hstate⟩]
  have hz : z.spine = ({ y with lease := { y.lease with marver := { y.lease.marver with learnt := Tab.ofFn fun i => probes.getD i.val 0 } } } : Lane).spine :=
    Lane.jobEntry_spine _
  clear_value z
  have hw : ∀ w : Lane, w.spine = z.spine → x.Entered w.driveInhibit := by
    intro w hw
    obtain ⟨-, htick, hstart, hlease, hnvm⟩ : w.clk = y.clk ∧ w.tick = y.tick ∧ w.start = y.start ∧
        w.lease = { y.lease with marver := { y.lease.marver with learnt := Tab.ofFn fun i => probes.getD i.val 0 } } ∧ w.nvm = y.nvm := by
      simpa [Lane.spine] using hw.trans hz
    refine hentered.kept ?_ htick hnvm fun n => (congrArg (fun q : LeasePart => q.ax.get n) hlease).trans rfl
    rw [← hstart]
    rfl
  split
  · exact hw z rfl
  · exact hw z.runLoops z.runLoops_spine

end

/-- Settles O17: each state is left as its conditions say; the loops run at the entry of OPERATE leave what the entry has set. -/
theorem alignArmedAndOperateFollowTheirConditions : Obligations.AlignArmedAndOperateFollowTheirConditions := by
  unfold Obligations.AlignArmedAndOperateFollowTheirConditions
  refine ⟨?_, ?_⟩
  · rintro s l x rfl
    refine ⟨?_, fun hs ht hn => State.next_lane (Lane.alignTimeout_eq hs ht hn), fun hs ht => State.next_lane (Lane.discoveryTimeout_eq hs ht), ?_⟩
    · rintro w rfl hs
      refine ⟨fun hr => ⟨_, State.next_lane (Lane.alignExit_eq hs hr), rfl, fun i => Tab.get_mapFin _ _ _, rfl⟩,
        fun hr => State.next_lane (Lane.alignExit_waits hr)⟩
    · intro mv hs hr ht
      obtain ⟨y, hy, hstart, heq, hfails⟩ := Lane.prechargeEnd_charged hs hr ht mv
      exact ⟨y, State.next_lane hy, hstart, heq, hfails⟩
  · rintro s l x probes rfl hs hr
    refine ⟨fun hp => State.next_lane (Lane.enterOperate_waits hp probes), fun hp => ?_⟩
    obtain ⟨hstate, hin, htime, hentry, htick, hnvm, hax⟩ := Lane.enterOperate_entered hs hr hp probes
    refine ⟨(s.early l).enterOperate probes, rfl, hstate, hin, htime, hentry, htick, hnvm, fun n hn habs => ?_, fun n hor => ?_⟩
    · rw [hax, Lane.entryLease, hn, habs]
      exact ⟨rfl, rfl, fun hlate => by rw [hlate]; rfl⟩
    · rw [hax, Lane.entryLease, if_neg]
      obtain hn | habs := hor
      · simp [hn]
      · simp [habs]

end Sys2Proof.Machine

/-! The timer of a tick: its count, its clock and its next correction (R32, R33, R37). -/

namespace Sys2Proof.Machine

/-! ## What leaves clock, timer and start-up as they are -/

/-- Clock, timer and start-up of a lane. -/
def Lane.core (x : Lane) : Nat × TickPart × StartPart := (x.clk, x.tick, x.start)

section
variable (x : Lane)

@[simp] theorem Lane.modComm_core (n : AxisId) (f : CommPart → CommPart) : (x.modComm n f).core = x.core := rfl

/-! ### Publication and the caravan (R121, R485) -/

theorem Lane.noteFollower_core (n : AxisId) : (x.noteFollower n).core = x.core := by
  unfold Lane.noteFollower
  dsimp only
  split <;> rfl

theorem Lane.publish_core : x.publish.core = x.core := by
  unfold Lane.publish
  split
  · rfl
  · split
    · rfl
    · extract_lets y z
      have hy : y.core = x.core := by
        dsimp only [y]
        split <;> rfl
      exact (foldl_leaves Lane.core (fun y n => y.noteFollower_core n) _ _).trans hy

theorem Lane.fabSend_core (cls dst : Nat) (bs : List Byte) : (x.fabSend cls dst bs).core = x.core := by
  rw [Lane.fabSend_eq]
  rfl

theorem Lane.setMissing_core (k m : Nat) : (x.setMissing k m).core = x.core := by
  unfold Lane.setMissing
  dsimp only
  refine (foldl_leaves Lane.core (fun y n => ?_) _ _).trans rfl
  split <;> rfl

theorem Lane.sendPrepare_core (k : Nat) : (x.sendPrepare k).core = x.core := by
  unfold Lane.sendPrepare
  split
  · rfl
  · dsimp only
    exact (Lane.fabSend_core _ _ _ _).trans rfl

theorem Lane.carWork_core : x.carWork.core = x.core := by
  unfold Lane.carWork
  split
  · rfl
  · extract_lets y z
    have hy : y.core = x.core := by
      refine foldl_leaves Lane.core (fun w k => ?_) _ _
      split
      · exact w.setMissing_core k _
      · rfl
    have hz : z.core = y.core := foldl_leaves Lane.core (f := fun (w : Lane) k => w.modClass k _) (fun w k => rfl) _ _
    clear_value y z
    split
    · split
      · exact (z.sendPrepare_core 1).trans (hz.trans hy)
      · exact (z.sendPrepare_core 2).trans (hz.trans hy)
    · exact (z.sendPrepare_core 1).trans (hz.trans hy)
    · exact (z.sendPrepare_core 2).trans (hz.trans hy)
    · exact hz.trans hy

theorem Lane.carSend_core : x.carSend.core = x.core := Lane.carWork_core _

theorem Lane.publishAll_core : x.publishAll.core = x.core := by
  unfold Lane.publishAll
  split
  · rfl
  · exact (Lane.carSend_core _).trans x.publish_core

/-! ### The decisions on the axes (R122 to R132) -/

theorem Lane.load_core (n : AxisId) (e : Half) : (x.load n e).core = x.core := by
  unfold Lane.load
  split <;> rfl

theorem Lane.heldByNow_core (n : AxisId) (z : LaneId) : (x.heldByNow n z).core = x.core := by
  unfold Lane.heldByNow
  dsimp only
  split <;> rfl

theorem Lane.countWithheld_core (n : AxisId) : (x.countWithheld n).core = x.core := by
  unfold Lane.countWithheld
  split <;> rfl

theorem Lane.observe_core (n : AxisId) : (x.observe n).core = x.core := by
  refine foldl_leaves Lane.core (fun y z => ?_) _ _
  dsimp only
  split <;> rfl

theorem Lane.standDown_core (n : AxisId) (z : LaneId) (e : Half) : (x.standDown n z e).core = x.core := by
  have h := x.heldByNow_core n z
  unfold Lane.standDown
  dsimp only
  split
  · exact h
  · split <;> exact h

theorem Lane.leaseDecide_core (n : AxisId) : (x.leaseDecide n).core = x.core := by
  unfold Lane.leaseDecide
  dsimp only
  split
  · split
    · rfl
    · split
      · exact x.load_core n _
      · rfl
  · exact keeps_ite (fun y : Lane => y.core = x.core) (x.load_core n _) rfl
  · exact keeps_ite (fun y : Lane => y.core = x.core) (x.load_core n _) rfl
  · rfl
  · split
    · rfl
    · split
      · exact (Lane.load_core _ n _).trans (x.heldByNow_core n _)
      · split <;> rfl

theorem Lane.stepAxis_core (n : AxisId) : (x.stepAxis n).core = x.core := by
  unfold Lane.stepAxis
  extract_lets gap orphan pick marked counted start begun observed renewed other decided stood
  have hcounted : counted.core = x.core := Lane.countWithheld_core _ n
  have hbegun : begun.core = counted.core := by
    dsimp only [begun]
    split <;> rfl
  have hobserved : observed.core = begun.core := begun.observe_core n
  have hrenewed : renewed.core = observed.core := by
    dsimp only [renewed]
    split <;> rfl
  have hdecided : decided.core = renewed.core := by
    dsimp only [decided]
    split
    · exact renewed.leaseDecide_core n
    · rfl
  have hstood : stood.core = decided.core := by
    dsimp only [stood]
    clear_value decided other
    split
    · split
      · rfl
      · exact decided.standDown_core n _ _
    · rfl
  exact hstood.trans (hdecided.trans (hrenewed.trans (hobserved.trans (hbegun.trans hcounted))))

theorem Lane.returnCheck_core (n : AxisId) : (x.returnCheck n).core = x.core := by
  unfold Lane.returnCheck
  dsimp only
  (repeat' split) <;> rfl

theorem Lane.endorse_core : x.endorse.core = x.core := by
  unfold Lane.endorse
  (repeat' split) <;> rfl

theorem Lane.leaseStep_core : x.leaseStep.core = x.core := by
  unfold Lane.leaseStep
  extract_lets published given src noted e src' started decided
  have hpublished : published.core = x.core := (Lane.endorse_core _).trans x.publish_core
  have hstarted : started.core = noted.core := by
    dsimp only [started]
    split <;> rfl
  have hdecided : decided.core = started.core :=
    (foldl_leaves Lane.core (fun y n => y.returnCheck_core n) _ _).trans (foldl_leaves Lane.core (fun y n => y.stepAxis_core n) _ _)
  clear_value decided
  exact hdecided.trans (hstarted.trans hpublished)

theorem Lane.noteOutputs_core : x.noteOutputs.core = x.core := by
  unfold Lane.noteOutputs
  refine foldl_leaves Lane.core (fun y n => ?_) _ _
  dsimp only
  split
  · rfl
  · split <;> rfl

theorem Lane.noteHandover_core (before : Lane) : (Lane.noteHandover before x).core = x.core := by
  unfold Lane.noteHandover
  refine foldl_leaves Lane.core (fun y n => ?_) _ _
  dsimp only
  (repeat' split) <;> rfl

theorem Lane.unsealedLoad_core : x.unsealedLoad.core = x.core := by
  unfold Lane.unsealedLoad
  split
  · split <;> rfl
  · rfl

theorem Lane.leaseClose_core : x.leaseClose.core = x.core := by
  unfold Lane.leaseClose
  extract_lets b y
  have hb : b.core = x.core := Lane.noteOutputs_core _
  have hy : y.core = b.core := (Lane.noteHandover_core _ b).trans b.leaseStep_core
  exact (y.unsealedLoad_core).trans (hy.trans hb)

theorem Lane.passRequests_core : x.passRequests.core = x.core := by
  unfold Lane.passRequests
  refine foldl_leaves Lane.core (fun y n => ?_) _ _
  dsimp only
  split
  · rfl
  · split <;> rfl

/-! ### The marver (R142) -/

/-- The event of a failed test changes nothing but the events. -/
theorem Lane.marverTest_core {g i : Nat} {m : MarverIn} {ev : Lane → Lane} (h : x.marverTest g i m = some ev) (y : Lane) : (ev y).core = y.core := by
  have hone : ∀ {f : Lane → Lane}, some f = some ev → (∀ z, (f z).core = z.core) → (ev y).core = y.core := by
    intro f he hf
    obtain rfl := Option.some.inj he
    exact hf y
  have hnone : ∀ {p : Prop}, (none : Option (Lane → Lane)) = some ev → p := fun he => nomatch he
  unfold Lane.marverTest at h
  split at h
  · dsimp only at h
    split at h
    · exact hone h fun _ => rfl
    · exact hnone h
  · split at h
    · exact hone h fun _ => rfl
    · exact hnone h
  · split at h
    · exact hone h fun _ => rfl
    · exact hnone h
  · split at h
    · exact hnone h
    · exact hone h fun _ => rfl
  · split at h
    · exact hone h fun _ => rfl
    · exact hnone h
  · split at h
    · exact hone h fun _ => rfl
    · exact hnone h
  · split at h
    · exact hnone h
    · exact hone h fun _ => rfl
  · split at h
    · split at h
      · exact hone h fun _ => rfl
      · exact hnone h
    · split at h
      · split at h
        · exact hone h fun _ => rfl
        · exact hnone h
      · exact hnone h
  · exact hnone h

theorem Lane.marverSlice_core (i : MarverIn) : (x.marverSlice i).core = x.core := by
  unfold Lane.marverSlice
  extract_lets put m
  split
  · rfl
  · extract_lets m1 m2
    split
    · rfl
    next ev hev =>
      split
      · exact Lane.marverTest_core x hev x
      · rfl

theorem Lane.marverTick_core (i : Option MarverIn) : (x.marverTick i).core = x.core := by
  unfold Lane.marverTick
  split
  · rfl
  · dsimp only
    split
    · exact Lane.marverSlice_core _ _
    · rfl

end

/-! ## What leaves the timer of the tick as it is -/

/-- The clock, the counts and corrections of the timer, and the flags that restart or halt a lane. -/
def Lane.timer (x : Lane) : Nat × Nat × Int × Int × Int × Bool × Bool × Bool :=
  (x.clk, x.tick.count, x.tick.corr, x.tick.corrNext, x.tick.step, x.start.restartNow, x.start.wdReset, x.start.halted)

/-- What `Lane.timer` reads of clock, timer and start-up. -/
def timerOf (c : Nat × TickPart × StartPart) : Nat × Nat × Int × Int × Int × Bool × Bool × Bool :=
  (c.1, c.2.1.count, c.2.1.corr, c.2.1.corrNext, c.2.1.step, c.2.2.restartNow, c.2.2.wdReset, c.2.2.halted)

theorem Lane.timer_of_core {x y : Lane} (h : y.core = x.core) : y.timer = x.timer := congrArg timerOf h

theorem Lane.CloseReach.timer {x y : Lane} (h : x.CloseReach y) : y.timer = x.timer := by
  obtain ⟨hy, -⟩ := h
  rw [hy]
  rfl

section
variable (x : Lane)

theorem Lane.switchTrips_core (n : AxisId) (neg : Bool) : (x.switchTrips n neg).core = x.core := by
  unfold Lane.switchTrips
  split <;> rfl

theorem Lane.chatterClose_core (n : AxisId) (neg : Bool) : (x.chatterClose n neg).core = x.core := by
  unfold Lane.chatterClose
  extract_lets sw seen set noted
  have hnoted : noted.core = x.core := by
    dsimp only [noted, set]
    split <;> rfl
  clear_value noted
  split
  · split
    · exact hnoted
    · exact (noted.switchTrips_core n neg).trans hnoted
  · rfl

theorem Lane.suspendJob_core (j cause : Nat) (drop : Bool) : (x.suspendJob j cause drop).core = x.core := by
  unfold Lane.suspendJob
  extract_lets y
  have hy : y.core = x.core := by
    dsimp only [y]
    rw [Lane.jobTo_frame]
    rfl
  clear_value y
  have hdrop : y.dropJob.core = y.core := by
    unfold Lane.dropJob
    split <;> rfl
  have hstop : y.stopJob.core = y.core := by
    obtain ⟨h, -⟩ := y.stopJob_jobReach
    rw [h]
    rfl
  split
  · split
    · exact hdrop.trans hy
    · exact hstop.trans hy
  · exact hy

theorem Lane.jobChatter_core : x.jobChatter.core = x.core := by
  unfold Lane.jobChatter
  split
  · dsimp only
    split
    · exact x.suspendJob_core _ _ _
    · rfl
  · rfl

theorem Lane.judgeSensors_core : x.judgeSensors.core = x.core := by
  refine foldl_leaves Lane.core (fun y i => ?_) _ _
  dsimp only
  split
  · split <;> rfl
  · rfl

theorem Lane.judgeSubs_core : x.judgeSubs.core = x.core := by
  refine foldl_leaves Lane.core (fun y i => ?_) _ _
  dsimp only
  split
  · split <;> rfl
  · rfl

theorem Lane.stopClose_core : x.stopClose.core = x.core := by
  unfold Lane.stopClose
  split
  · rfl
  · dsimp only
    split
    · split <;> rfl
    · rfl

theorem Lane.noteFired_core : x.noteFired.core = x.core := rfl

theorem Lane.ignitionClose_core : x.ignitionClose.core = x.core := by
  unfold Lane.ignitionClose
  dsimp only
  (repeat' split) <;> rfl

theorem Lane.voiceLoss_core : x.voiceLoss.core = x.core := by
  unfold Lane.voiceLoss
  dsimp only
  (repeat' split) <;> rfl

theorem Lane.closeVoice_core : x.closeVoice.core = x.core := Lane.voiceLoss_core _

theorem Lane.imageGuard_core : x.imageGuard.core = x.core := by
  unfold Lane.imageGuard
  (repeat' split) <;> rfl

theorem Lane.unsealedClose_timer : x.unsealedClose.timer = x.timer := by
  unfold Lane.unsealedClose
  extract_lets src y
  have hy : y.timer = x.timer := rfl
  clear_value y
  split
  · dsimp only
    split
    · exact (Lane.timer_of_core (y.suspendJob_core _ _ _)).trans hy
    · exact hy
  · exact hy

theorem Lane.phaseCheck_core : x.phaseCheck.core = x.core := by
  unfold Lane.phaseCheck
  dsimp only
  split <;> rfl

theorem Lane.enterStopped_timer : x.enterStopped.timer = x.timer := by
  unfold Lane.enterStopped
  split <;> rfl

theorem Lane.modLegs_core (n : AxisId) (f : Nat → Leg → Leg) : (x.modLegs n f).core = x.core := by
  rw [Lane.modLegs_eq]
  rfl

theorem Lane.writeShadow_core (n : AxisId) (ratios : List Nat) (forced : Nat) : (x.writeShadow n ratios forced).core = x.core := by
  unfold Lane.writeShadow
  dsimp only
  split
  · rfl
  · exact (Lane.modLegs_core _ _ _).trans rfl

theorem Lane.noteLate_core (i : Nat) : (x.noteLate i).core = x.core := by
  unfold Lane.noteLate
  extract_lets due
  exact keeps_ite (fun y : Lane => y.core = x.core) rfl rfl

theorem Lane.dutyWrite_core (late : Bool) (n : AxisId) : (x.dutyWrite late n).core = x.core := by
  unfold Lane.dutyWrite
  extract_lets w0 w y none_ z
  have hy : y.core = x.core := by
    dsimp only [y]
    split
    · exact Eq.trans (b := (x.writeShadow n _ _).core) rfl (x.writeShadow_core n _ _)
    · rfl
  have hz : z.core = y.core := rfl
  clear_value y z none_
  split
  · exact hz.trans hy
  · split
    · split
      · exact hz.trans hy
      · refine (foldl_leaves Lane.core (fun v i => ?_) _ _).trans (hz.trans hy)
        split
        · exact (Lane.noteLate_core _ i).trans rfl
        · rfl
    · exact (z.writeShadow_core n _ _).trans (hz.trans hy)

end

/-! ## The end of the tick (R37) -/

theorem clampI_mem {lo hi : Int} (h : lo ≤ hi) (v : Int) : lo ≤ clampI lo hi v ∧ clampI lo hi v ≤ hi := by
  unfold clampI
  split
  · exact ⟨Int.le_refl _, h⟩
  · split
    · exact ⟨h, Int.le_refl _⟩
    · omega

/-- The timer has run a whole tick and its next correction is bounded. -/
def Lane.Paced (x z : Lane) : Prop :=
  z.clk = x.clk ∧ z.tick.count = x.tick.count ∧ z.tick.corr = x.tick.corr ∧ (-40 ≤ z.tick.corrNext ∧ z.tick.corrNext ≤ 40) ∧ z.tick.step = 0 ∧
    z.start.restartNow = false ∧ z.start.wdReset = false ∧ z.start.halted = false

theorem Lane.Paced.of_timer {x y z : Lane} (h : x.Paced y) (hz : z.timer = y.timer) : x.Paced z := by
  simp only [Lane.timer, Prod.mk.injEq] at hz
  obtain ⟨h1, h2, h3, h4, h5, h6, h7, h8⟩ := hz
  unfold Lane.Paced
  rwa [h1, h2, h3, h4, h5, h6, h7, h8]

/-- A lane that lets its timer run, in ARMED or OPERATE. -/
def Lane.Ticking (x : Lane) : Prop :=
  (x.start.state = .armed ∨ x.start.state = .operate) ∧ x.start.halted = false ∧ x.start.restartNow = false ∧ x.start.wdReset = false

theorem Lane.Ticking.of_start {x y : Lane} (h : x.Ticking) (hs : y.start = x.start) : y.Ticking := by
  unfold Lane.Ticking
  rwa [hs]

/-- ARMED and OPERATE set the next correction within its bounds, and take no step (R37, R40). -/
theorem Lane.closeSync_paced {x : Lane} (h : x.Ticking) : x.Paced x.closeSync := by
  obtain ⟨hs, hh, hr, hw⟩ := h
  unfold Lane.closeSync
  rcases hs with hs | hs
  · rw [hs]
    exact ⟨rfl, rfl, rfl, clampI_mem (by decide) _, rfl, hr, hw, hh⟩
  · rw [hs]
    exact ⟨rfl, rfl, rfl, clampI_mem (by decide) _, rfl, hr, hw, hh⟩

theorem Lane.alignTick_outside {x : Lane} (h : x.start.state ≠ .align) : x.alignTick = x := if_pos h

theorem Lane.Ticking.pathState {x : Lane} (h : x.Ticking) : pathState x.start.state = true := by
  obtain ⟨hs | hs, -⟩ := h <;> rw [hs] <;> rfl

theorem Lane.Ticking.of_core {x y : Lane} (h : x.Ticking) (hc : y.core = x.core) : y.Ticking :=
  h.of_start (congrArg (fun c : Nat × TickPart × StartPart => c.2.2) hc)

theorem Lane.Paced.of_core {x y z : Lane} (h : y.Paced z) (hc : y.core = x.core) : x.Paced z := by
  simp only [Lane.core, Prod.mk.injEq] at hc
  obtain ⟨hclk, htick, -⟩ := hc
  unfold Lane.Paced at h ⊢
  rwa [← hclk, ← htick]

/-- The judgements of step 5 set the next correction. -/
theorem Lane.judgeClose_paced {x : Lane} (h : x.Ticking) (i : TickIn) : x.Paced (x.judgeClose i) := by
  unfold Lane.judgeClose
  extract_lets noted marvered synced fed chattered sensed stopped ported
  have hmarvered : marvered.core = x.core := by
    have hcore : (noted.marverTick i.marver).core = x.core := noted.marverTick_core i.marver
    have hne : (noted.marverTick i.marver).start.state ≠ .align := by
      obtain ⟨hs | hs, -⟩ := h.of_core hcore <;> rw [hs] <;> decide
    dsimp only [marvered]
    split
    · rw [Lane.alignTick_outside hne]
      exact hcore
    · rfl
  have hsynced : x.Paced synced := (Lane.closeSync_paced (h.of_core hmarvered)).of_core hmarvered
  have hfed : fed.timer = synced.timer := by
    dsimp only [fed]
    split
    · exact (synced.feedbackClose_closeReach.trans (Lane.stepClose_closeReach _ _)).timer
    · rfl
  have hchattered : chattered.timer = fed.timer := by
    dsimp only [chattered]
    split
    · refine Lane.timer_of_core ((Lane.jobChatter_core _).trans (foldl_leaves Lane.core (fun y n => ?_) _ _))
      rw [Lane.chatterClose_core, Lane.chatterClose_core]
    · rfl
  have hsensed : sensed.timer = chattered.timer := Lane.timer_of_core ((Lane.judgeSubs_core _).trans chattered.judgeSensors_core)
  have hstopped : stopped.timer = sensed.timer := Lane.timer_of_core ((Lane.stopClose_core _).trans sensed.noteFired_core)
  have hported : ported.timer = stopped.timer := (stopped.closePorts_closeReach.trans (Lane.chooseMaster_closeReach _)).timer
  refine hsynced.of_timer (Eq.trans ?_ (hported.trans (hstopped.trans (hsensed.trans (hchattered.trans hfed)))))
  clear_value ported
  calc ported.ignitionClose.closeVoice.imageGuard.unsealedClose.phaseCheck.timer
    _ = ported.ignitionClose.closeVoice.imageGuard.unsealedClose.timer := Lane.timer_of_core (Lane.phaseCheck_core _)
    _ = ported.ignitionClose.closeVoice.imageGuard.timer := Lane.unsealedClose_timer _
    _ = ported.timer := Lane.timer_of_core (by rw [Lane.imageGuard_core, Lane.closeVoice_core, Lane.ignitionClose_core])

theorem Lane.formSafe_core (x : Lane) : x.formSafe.core = x.core := rfl

theorem Lane.stillClose_timer (x : Lane) : x.stillClose.timer = x.timer := rfl

/-- A lane in ARMED or OPERATE ends its tick with its next correction bounded. -/
theorem Lane.finishTick_paced {y x : Lane} (i : TickIn) (hy : y.settle = x) (h : x.Ticking) : x.Paced (y.finishTick i) := by
  have ⟨hs, hh, _, _⟩ := h
  unfold Lane.finishTick
  rw [hy]
  extract_lets l src3 boot halted passed collected formed stopped src2 src1 loaded written
  have hpassed : passed.core = x.core := by
    dsimp only [passed]
    rw [Lane.passRequests_core, Lane.leaseClose_core, Lane.publishAll_core]
  have hcollected : x.Paced collected :=
    ((Lane.judgeClose_paced (h.of_core hpassed) i).of_core hpassed).of_timer (Lane.collectorClose_closeReach _ i).timer
  have hstopped : x.Paced stopped := by
    refine hcollected.of_timer ?_
    dsimp only [stopped, formed]
    rw [Lane.enterStopped_timer, Lane.stillClose_timer, Lane.timer_of_core (Lane.formSafe_core _)]
  have hloaded : x.Paced loaded := by
    obtain ⟨h1, h2, h3, h4, h5⟩ := hstopped
    refine ⟨h1, h2, h3, ?_, h5⟩
    dsimp only [loaded]
    split
    · exact h4
    · decide
  have hwritten : x.Paced written := hloaded.of_timer (Lane.timer_of_core (foldl_leaves Lane.core (fun z n => z.dutyWrite_core _ n) _ _))
  have hgo : ¬ l.start.halted = true := by
    rw [show l.start.halted = false from hh]
    decide
  have hstays : ¬ written.start.restartNow = true := by
    obtain ⟨-, -, -, -, -, hr, -⟩ := hwritten
    rw [hr]
    decide
  have hstate : l.start.state = .armed ∨ l.start.state = .operate := hs
  clear_value l written boot halted
  rcases hstate with hstate | hstate
  · rw [hstate]
    dsimp only
    rw [if_neg hgo, if_neg hstays]
    exact hwritten
  · rw [hstate]
    dsimp only
    rw [if_neg hgo, if_neg hstays]
    exact hwritten

/-! ## The boundary and the next tick (R32, R33) -/

/-- The clock, the count and the correction of the tick. -/
def Lane.beat (x : Lane) : Nat × Nat × Int := (x.clk, x.tick.count, x.tick.corr)

/-- The clock, the count and the correction that the next tick begins with. -/
def Lane.nextBeat (x : Lane) : Nat × Nat × Int := (x.clk + x.tickLen, x.tick.count + 1, x.tick.corrNext)

theorem Lane.boundaryTick_beat (x : Lane) : x.boundaryTick.beat = x.nextBeat := rfl

theorem Lane.nextBeat_of_core {x y : Lane} (h : y.core = x.core) : y.nextBeat = x.nextBeat := by
  simp only [Lane.core, Prod.mk.injEq] at h
  obtain ⟨hclk, htick, -⟩ := h
  rw [Lane.nextBeat, Lane.tickLen, hclk, htick]
  rfl

theorem Lane.FabricOnly.beat {x y : Lane} (h : x.FabricOnly y) : y.beat = x.beat := by
  unfold Lane.FabricOnly at h
  rw [h]
  rfl

theorem Lane.LeasesOnly.beat {x y : Lane} (h : x.LeasesOnly y) : y.beat = x.beat := by
  unfold Lane.LeasesOnly at h
  rw [h]
  rfl

theorem Lane.GatesOnly.core {x y : Lane} (h : x.GatesOnly y) : y.core = x.core := by
  unfold Lane.GatesOnly at h
  rw [h]
  rfl

theorem Lane.SampleReach.beat {x y : Lane} (h : x.SampleReach y) : y.beat = x.beat := by
  unfold Lane.SampleReach at h
  rw [h]
  rfl

theorem Lane.beat_of_core {x y : Lane} (h : y.core = x.core) : y.beat = x.beat :=
  congrArg (fun c : Nat × TickPart × StartPart => (c.1, c.2.1.count, c.2.1.corr)) h

theorem Lane.shiftInbox_core (x : Lane) : x.shiftInbox.core = x.core := rfl

/-- The blocks of a boundary leave the beat that the timer has moved on. -/
theorem Lane.boundaryBlocks_beat (x : Lane) (i : TickIn) : (x.boundaryBlocks i).beat = x.nextBeat := by
  unfold Lane.boundaryBlocks
  extract_lets y z
  have hy : y.core = x.core := by
    refine foldl_leaves Lane.core (fun w n => ?_) _ _
    exact w.modComm_core n _
  clear_value y
  have hz : z.beat = x.nextBeat := by
    dsimp only [z]
    rw [(Lane.boundaryLease_leasesOnly _).beat, Lane.boundaryTick_beat]
    exact Lane.nextBeat_of_core ((y.pwmBoundary x.tickLen).shiftInbox_core.trans ((y.pwmBoundary_gatesOnly _).core.trans hy))
  clear_value z
  exact (Lane.fabBoundary_fabricOnly _ _).beat.trans hz

theorem Lane.boundaryCounts_beat (x y : Lane) : (y.boundaryCounts x).beat = y.beat := rfl

/-- Every boundary of a lane that is not halted moves the beat on. -/
theorem Lane.boundary_beat {x : Lane} (i : TickIn) (hh : x.start.halted = false) : (x.boundary i).beat = x.nextBeat := by
  cases hlive : x.live
  · rw [Lane.boundary_idle i hlive]
    exact x.shiftInbox.boundaryTick_beat
  · rw [Lane.boundary_live i hlive hh, Lane.boundaryCounts_beat, Lane.boundaryBlocks_beat]

section
variable (x : Lane)

theorem Lane.chopperCheck_core (e : ElecIn) : (x.chopperCheck e).core = x.core := by
  unfold Lane.chopperCheck
  dsimp only
  split
  · rfl
  · split <;> rfl

theorem Lane.coilSamples_core (e : ElecIn) (n : AxisId) : (x.coilSamples e n).core = x.core := by
  unfold Lane.coilSamples
  split <;> rfl

theorem Lane.sampleSensors_core : x.sampleSensors.core = x.core :=
  foldl_leaves Lane.core (f := fun (y : Lane) i => y.modSensor i _) (fun _ _ => rfl) _ _

theorem Lane.subTick_core : x.subTick.core = x.core := by
  refine foldl_leaves Lane.core (fun y j => ?_) _ _
  split <;> rfl

theorem Lane.sampleSwitches_core (n : AxisId) : (x.sampleSwitches n).core = x.core := by
  unfold Lane.sampleSwitches
  extract_lets c i one
  have hone : ∀ y ch neg, (one y ch neg).core = y.core := by
    intro y ch neg
    dsimp only [one]
    split
    · rfl
    · split <;> rfl
  clear_value one
  split
  · rfl
  · rw [hone, hone]

theorem Lane.countDisagree_core (n : AxisId) : (x.countDisagree n).core = x.core := by
  unfold Lane.countDisagree
  (repeat' split) <;> rfl

/-- What a lane samples in step 1 leaves the beat as it is. -/
theorem Lane.sample_beat (i : TickIn) : (x.sample i).beat = x.beat := by
  unfold Lane.sample
  extract_lets checked coils latched sensed
  have hcoils : coils.core = x.core :=
    (foldl_leaves Lane.core (fun y n => y.coilSamples_core _ n) _ _).trans (Lane.chopperCheck_core _ _)
  have hlatched : latched.beat = coils.beat := ((coils.latchFeedback_sampleReach _).trans (Lane.stepTick_sampleReach _)).beat
  have hsensed : sensed.core = latched.core := (Lane.subTick_core _).trans latched.sampleSensors_core
  have hswitches : (allAxes.foldl (fun y n => (y.sampleSwitches n).countDisagree n) sensed).core = sensed.core :=
    foldl_leaves Lane.core (fun y n => by rw [Lane.countDisagree_core, Lane.sampleSwitches_core]) _ _
  exact (Lane.beat_of_core hswitches).trans ((Lane.beat_of_core hsensed).trans (hlatched.trans (Lane.beat_of_core hcoils)))

theorem Lane.counts_beat : x.counts_.beat = x.beat := rfl

end

/-- The tick that begins has the clock, the count and the correction that its boundary has given. -/
theorem Lane.beginTick_beat {x : Lane} (i : TickIn) (hh : x.start.halted = false) (hw : x.start.wdReset = false) : (x.beginTick i).beat = x.nextBeat := by
  have hpins : (((x.boundary i).samplePins i).watchdogReset) = (x.boundary i).samplePins i := by
    refine Lane.watchdogReset_none ?_
    obtain ⟨-, hkept⟩ := x.boundary_departing i hh
    exact hkept.trans hw
  have hbegin : ((x.boundary i).samplePins i).beat = x.nextBeat := Lane.boundary_beat i hh
  unfold Lane.beginTick
  rw [hpins]
  extract_lets l supplied
  have hl : l.beat = x.nextBeat := hbegin
  have hsupplied : supplied.beat = x.nextBeat := ((Lane.counts_beat _).trans (l.supplyTick_sampleReach _).beat).trans hl
  have hhalted : ((l.supplyTick i.sup).sampleHalted i).beat = x.nextBeat :=
    (((l.supplyTick_sampleReach _).trans (Lane.sampleHalted_sampleReach _ i)).beat).trans hl
  clear_value l supplied
  split
  · exact hl
  · exact hl
  · exact hl
  · exact hl
  · split
    · exact hhalted
    · refine Eq.trans (b := (if pathState supplied.start.state then supplied.sample i else supplied).beat) rfl ?_
      split
      · exact (supplied.sample_beat i).trans hsupplied
      · exact hsupplied

/-- Settles O19: the close of the tick sets a bounded correction and no step, and the boundary moves the timer on. -/
theorem tickAdvancesTheTimer : Obligations.TickAdvancesTheTimer := by
  unfold Obligations.TickAdvancesTheTimer
  intro s l x i hx hs hh hr hw
  obtain ⟨c, hc⟩ := s.tickLane_get_self l i
  obtain ⟨hclk, hcount, hcorr, ⟨hlow, hhigh⟩, hstep, -, hwd, hhalt⟩ := Lane.finishTick_paced i hx ⟨hs, hh, hr, hw⟩
  have hbeat := Lane.beginTick_beat i hhalt hwd
  have hnote : ((s.tickLane l i).lanes.get l).beat = (((s.lanes.get l).finishTick i).beginTick i).beat := by
    rw [hc, Lane.wearNote_eq]
    rfl
  obtain ⟨hclk', hcount', hcorr'⟩ : ((s.tickLane l i).lanes.get l).clk = x.clk + (10000 + x.tick.corr).toNat ∧
      ((s.tickLane l i).lanes.get l).tick.count = x.tick.count + 1 ∧
      ((s.tickLane l i).lanes.get l).tick.corr = ((s.lanes.get l).finishTick i).tick.corrNext := by
    simpa [Lane.beat, Lane.nextBeat, Lane.tickLen, hclk, hcount, hcorr, hstep] using hnote.trans hbeat
  exact ⟨_, rfl, hcount', hclk', by rw [hcorr']; exact hlow, by rw [hcorr']; exact hhigh, s.tickLane_pending l i⟩

end Sys2Proof.Machine
